-- ==== Sys2Proof/Word.lean ====
section
/-!
DEFINITION. The word types of the G96 model and the plain records that commands and events carry.
The Walong header, the command layouts and the register space are words of the manual (R1, R2, R445); numeric
operands of commands are natural numbers whose width `Sys2Proof/WellFormed.lean` bounds, because the manual
compares, adds and divides them and never lets them wrap. Measured quantities (a converted temperature, a detector
sample, a Q factor) are operands of the events in which the hardware measures them.
-/
namespace Sys2Proof

/-- One byte. -/
abbrev Byte := BitVec 8

/-- One configuration register (R445). -/
abbrev Word := BitVec 32

/-- Where a packet came from, or goes to: a reply goes back to the source MAC address, IP address, UDP port and
traffic class of the request it answers (R49), from the own address that the request was sent to (R52, log entry 107). -/
structure NetAddr where
  v6 : Bool := false
  ip : Nat := 0
  mac : Nat := 0
  port : Nat := 0
  tclass : Nat := 0
  own : Nat := 0
  deriving DecidableEq, Repr, Inhabited

/-- The part of the Walong header (R54) that belongs to one request: lane, sequence, host tag, whether the expert
form was sent (bit 15 of OPCODE), and the source it came from. -/
structure ReqHdr where
  lane : Nat := 0
  seq : Nat := 0
  tag : Nat := 0
  expert : Bool := false
  src : NetAddr := {}
  deriving DecidableEq, Repr, Inhabited

/-- The expert-only fields of SET_NET, offsets 8 to 51 (R82). -/
structure SetNetX where
  gw4 : Nat
  ip6 : Nat
  pfx6 : Nat
  vlanEn : Nat
  vid : Nat
  pcp : Nat
  rsv : Nat
  gw6 : Nat
  deriving DecidableEq, Repr

/-- SESSION_OPEN, the basic fields (R92). -/
structure SessOpenB where
  session : Nat
  layers : Nat
  kvHeads : Nat
  headDim : Nat
  kvBase : Nat
  kvBytes : Nat
  seed : Nat
  deriving DecidableEq, Repr

/-- The expert-only fields of STEP_RUN (R94). -/
structure StepRunX where
  stallMs : Nat
  gateMs : Nat
  priority : Nat
  commitMode : Nat
  deriving DecidableEq, Repr

/-- REGION_SET, the basic fields (R328). -/
structure RegionB where
  tier : Nat
  entry : Nat
  cls : Nat
  enable : Nat
  rsv : Nat
  base : Nat
  size : Nat
  deriving DecidableEq, Repr

/-- The expert-only fields of POWER_STATE (R392). -/
structure PowerX where
  wakeAfterS : Nat
  saveBase : Nat
  saveDest : Nat
  saveBytes : Nat
  deriving DecidableEq, Repr

/-- ECC_FLIP_ARM, all fields (R338). -/
structure FlipB where
  tier : Nat
  entry : Nat
  pattern : Nat
  checkMask : Nat
  rsv : Nat
  symbolMask : Nat
  deriving DecidableEq, Repr

/-- What a converter of the Lantern reports for one channel or input: a value in 1/256 °C, or an open or short
input (R37, R380, R381). -/
inductive Conv where
  | value (q88 : Int)
  | opened
  | shorted
  deriving DecidableEq, Repr

/-- What the margin test measures of one Furrow (R117 to R119): for each column position 0 to 67 the lowest Q of its
16 detectors over both bays, in Q8.8 rounded down; whether all 256 modulators of the feed path lock; whether the bay
switch swaps both ways. -/
structure FurrowMeas where
  colQ : List Nat := []
  modLock : Bool := true
  switchOk : Bool := true
  deriving DecidableEq, Repr

/-- What the margin test measures of one comb source (R117): wavelength lock within 50 ms, and monitored comb power
in 1/256 dBm. -/
structure SourceMeas where
  locked : Bool := true
  power : Int := 0
  deriving DecidableEq, Repr

/-- One fitted detector of a Winnow run: offset, reciprocal and guard of the decision rule (R161), or none where the
fit is rejected. The figures of merit that decide a rejection are measured (R373). -/
structure DetFit where
  det : Nat
  ofs : Int
  rcp : Nat
  guard : Nat
  deriving DecidableEq, Repr

/-- One failing unit that a SIEVE_RUN march finds (R413, R414): instance, background and element of the first failing
read, the word's byte offset in the unit (its device address for TARGET 5 and 6), and the unit's signature. -/
structure UnitFail where
  unit : Nat
  bg : Nat
  element : Nat
  addr : Nat
  sig : Nat
  deriving DecidableEq, Repr

/-- What the hardware measures while a long command runs. A completion event carries it, because the manual gives the
rule that turns these readings into results and leaves the readings to physics. -/
structure Env where
  furrows : List FurrowMeas := []
  sources : List SourceMeas := []
  photTemp : Int := 0
  fits : List (Nat × List DetFit) := []
  burnFailAt : Option Nat := none
  burnWarnAt : Option Nat := none
  unitFails : List UnitFail := []
  deriving DecidableEq, Repr

/-- The statistics of one count level of one detector (R370): level, n, S, and the histogram by code. -/
structure LevelStat where
  k : Nat
  n : Nat
  sum : Nat
  hist : List (Nat × Nat)
  deriving DecidableEq, Repr

/-- Which temperature sensor an event is about (R381, R382). -/
inductive SensorId where
  | diode (n : Nat)
  | vane (n : Nat)
  deriving DecidableEq, Repr

/-- Which address a duplicate-address check is about; the order is that of the DUP bits of WALONG.STATUS (R50). -/
inductive AddrKind where
  | ipv6ll
  | ipv4ll
  | ipv6
  | ipv4
  deriving DecidableEq, Repr

/-- One detector sample of a row chunk that differs from the code its true count gives (R160, R161): symbol index
within the row chunk, column position, plane, segment, the 8-bit code, and the UNDER and OVER marks. -/
structure SampleDev where
  sym : Nat
  pos : Nat
  plane : Nat
  seg : Nat
  code : Nat
  under : Bool := false
  beyond : Bool := false
  deriving DecidableEq, Repr

/-- A replay that falls due (R166): the Furrow whose first waiting row chunk it is, and the Furrows whose bay swap for it
brings no light (R174, case 2). -/
structure ReplayEv where
  furrow : Nat
  dark : List Nat := []
  deriving DecidableEq, Repr

/-- A row chunk that arrives (R180, R188): the leader slot of its stream, and by how much the block sequences of the
exponent and the zero-point stream run ahead of that of the codes, modulo 2^16: 0 for a stream in step, anything else for a
fault mid-stream (R189). -/
structure ArrivalEv where
  leader : Nat
  expOff : Nat := 0
  zpOff : Nat := 0
  deriving DecidableEq, Repr

/-- Data that returns for a read tag (R204, R205): the tag, and whether it belongs to a read that has timed out. -/
structure TagEv where
  tag : Nat
  late : Bool := false
  deriving DecidableEq, Repr

/-- The readings latched for one Vane sample (R342 to R344): measurements that arrived by 6.0 µs, the supply magnitude
in Q16.16 V, and the share of busy vector-unit cycles across the Mills in units of 1/65,536. -/
structure VaneInput where
  meas : List (Nat × Int) := []
  supply : Int := 3145728
  millAct : Nat := 0
  deriving DecidableEq, Repr

/-- VANE_LOOP_SET, the expert-only fields from offset 8 (R350). -/
structure LoopX where
  write : Nat
  cfg : Nat
  lockN : Nat
  relockN : Nat
  sensor : Nat
  actuator : Nat
  coef : List Int
  shifts : List Nat
  rsv : Nat
  outMin : Nat
  outMax : Nat
  vmax : Nat
  amax : Nat
  jmax : Nat
  lockTol : Nat
  deriving DecidableEq, Repr

/-- SIEVE_RUN, the basic fields (R410). -/
structure SieveB where
  target : Nat
  rsv1 : Nat
  first : Nat
  count : Nat
  rsv2 : Nat
  base : Nat
  size : Nat
  deriving DecidableEq, Repr

end Sys2Proof
end

