-- ==== Sys2Proof/Syntax.lean ====
section
/-!
DEFINITION. The commands and events of the G96 block: one constructor per row of spec/opcode_table.json, in the
table's order. A host command carries its request header and its layout's fields as numbers; the expert-only fields
are an `Option`, because the basic request stops before them (R75). LENGTH and COUNT fields that only repeat the size
of the data they precede are not operands: `Sys2Proof/Machine/Operands.lean` writes and checks them (R67, check 1).
An event carries what the manual leaves to physics or to the moment: a reading, a conflict, the part it happens in.
-/
namespace Sys2Proof

/-- The rows of the table of operations and events. -/
inductive Instr where
  -- admin and configuration commands (04)
  | identify (h : ReqHdr)
  | ping (h : ReqHdr) (data : List Byte)
  | setNet (h : ReqHdr) (addr prefixLen rsv : Nat) (x : Option SetNetX)
  | hostWatchdog (h : ReqHdr) (periodMs : Nat) (x : Option (Nat × Nat))
  | cfgRead (h : ReqHdr) (addr count rsv : Nat)
  | cfgWrite (h : ReqHdr) (addr rsv : Nat) (values : List Nat)
  | cfgWriteMasked (h : ReqHdr) (addr mask value : Nat)
  -- what one register access does (00, 07, 09, 10, 12, 14, 18, 20, 21)
  | registerWrite (addr value : Nat)
  | rcCounterRead (addr : Nat)
  | loReadCopiesHi (addr : Nat)
  | softReset
  | furrowCountClear (f : Nat)
  | reaperCountClear
  | tallyCountClear (t : Nat)
  | gleanerCountClear (g : Nat)
  | ceLogClear (ctl : Nat)
  | ueLogClear (ctl : Nat)
  | sieveLogClear
  | alertLatchClear
  | sessLenWrite (value : Nat)
  | splitTakesEffect
  -- memory commands (04, 14)
  | memWrite (h : ReqHdr) (addr rsv : Nat) (data : List Byte)
  | memRead (h : ReqHdr) (addr length rsv : Nat)
  | memFill (h : ReqHdr) (addr length : Nat) (pattern : List Byte)
  | memCopy (h : ReqHdr) (src dst length : Nat)
  | regionSet (h : ReqHdr) (b : RegionB) (x : Option (Nat × Nat))
  -- programs, sessions, steps and lanes (04, 13)
  | programLoad (h : ReqHdr) (addr slots rsv : Nat)
  | programCheck (h : ReqHdr) (addr : Nat)
  | sessionOpen (h : ReqHdr) (b : SessOpenB) (x : Option (Nat × Nat × Nat))
  | sessionClose (h : ReqHdr) (session rsv : Nat)
  | stepRun (h : ReqHdr) (program table batch rsv : Nat) (x : Option StepRunX)
  | taskCancel (h : ReqHdr) (lane rsv seq : Nat)
  | laneResume (h : ReqHdr)
  | sessionCommit (h : ReqHdr) (session count : Nat)
  | sessionRollback (h : ReqHdr) (session rsv : Nat)
  | taskStatus (h : ReqHdr) (lane rsv seq : Nat)
  -- engines, loops, sources, power, self-test (05, 14 to 18)
  | engineStart (h : ReqHdr) (x : Option (Nat × Nat × Nat))
  | engineStop (h : ReqHdr)
  | marginTest (h : ReqHdr) (x : Option (Nat × Nat × Nat))
  | winnowRun (h : ReqHdr) (mask rsv : Nat) (x : Option (Nat × Nat))
  | vaneLoopSet (h : ReqHdr) (slot rsv : Nat) (target : Int) (x : Option LoopX)
  | vaneBankSwap (h : ReqHdr)
  | sourceSpare (h : ReqHdr) (source spare rsv : Nat)
  | powerState (h : ReqHdr) (target rsv : Nat) (x : Option PowerX)
  | thermalRead (h : ReqHdr)
  | sieveRun (h : ReqHdr) (b : SieveB) (x : Option (Nat × Nat × Nat))
  | sievePeriodic (h : ReqHdr) (enable rsv : Nat) (x : Option (Nat × Nat × Nat × Nat))
  | eccFlipArm (h : ReqHdr) (b : FlipB)
  -- security and diagnostics (19, 20)
  | fwLoadBegin (h : ReqHdr) (totalLen rsv : Nat)
  | fwLoadData (h : ReqHdr) (offset : Nat) (data : List Byte)
  | fwLoadEnd (h : ReqHdr)
  | attest (h : ReqHdr) (nonce : List Byte)
  | certRead (h : ReqHdr)
  | ledgerRead (h : ReqHdr) (first count rsv : Nat)
  | ledgerClear (h : ReqHdr) (upTo : Nat)
  | countersRead (h : ReqHdr) (set clear rsv : Nat)
  | eventsRead (h : ReqHdr) (first count rsv : Nat)
  -- the Ethernet port and the Walong endpoint (03)
  | ethernetFrameReceive (frame : List Byte)
  | pauseFrameReceive
  | arpRequestReceive (target senderIp senderMac : Nat)
  | ndSolicitationReceive (target senderIp senderMac : Nat)
  | icmpEchoRequest (src : NetAddr) (dst ident seq : Nat) (data : List Byte)
  | walongPacketReceive (src : NetAddr) (payload : List Byte)
  | commandStart (lane : Nat)
  | ackDelayExpiry (lane seq : Nat)
  | setNetApply
  | arpProbeTimer (conflict : Bool)
  | dadComplete (which : AddrKind) (conflict : Bool)
  | addressResolutionRetry
  | eventPacketSend
  | linkUp
  | linkDown
  -- supply, pins, reset and device state (02, 05, 17)
  | startConditionConfirmed
  | crystalStable
  | bootEntry
  | supplyHold (magnitude : Nat)
  | supplyRestore
  | supplyFault (magnitude : Nat)
  | powerLoss (magnitude : Nat)
  | lanternOff
  | resetNAsserted
  | resetNReleased
  | hwShutdown
  | hwsdNReleased
  | fwWatchdog
  | hostWatchdogExpiry
  -- running steps (07 to 13)
  | recordDispatch (lane : Nat)
  | bayLoad (lane rec : Nat)
  | bayLoadComplete (furrow : Nat)
  | stream (lane rec : Nat)
  | passStart (furrow : Nat) (light : Bool)
  | rowChunkDecision (furrow : Nat) (devs : List SampleDev)
  | rowChunkReplay (furrow : ReplayEv)
  | rowChunkArrival (lane rec : Nat) (leader : ArrivalEv)
  | mcastCredit (lane rec leader : Nat)
  | mcastTimeout (lane rec leader : Nat)
  | stallTimeout (furrow cause : Nat)
  | taskAbort (lane : Nat)
  | teardownComplete (lane : Nat)
  | windrowHop (lane rec : Nat)
  | epilogue (lane rec : Nat)
  | clipDecision (lane rec : Nat)
  | millOp (lane rec : Nat)
  | glean (lane rec : Nat)
  | copy (lane rec : Nat)
  | route (lane rec : Nat)
  | dep (lane rec : Nat)
  | depTimeout (lane : Nat)
  | gateOpen (lane : Nat)
  | gateTimeout (lane : Nat)
  | endRecord (lane : Nat)
  | readTagReturn (tag : TagEv)
  | tagTimeout (tag : Nat)
  -- memories (14, 18)
  | mergeFlushTimer (ctl word : Nat)
  | patrolScrub (ctl word : Nat)
  | refreshBandUpdate (ctl : Nat) (dram : Option Nat)
  | granarySlice (failAt : Option Nat)
  | externalSlice (ctl : Nat) (failAt : Option Nat)
  -- loops, sources and calibration (15, 16)
  | vaneSample (inp : VaneInput)
  | sourceFadeCheck (powers : List (Nat × Int))
  | spareReady (n : Nat)
  | prewarmTimeout (n : Nat)
  | winnowRunDue (f : Nat)
  | winnowCollectionEnd (f : Nat) (pattern : List (Nat × List LevelStat))
  | winnowFitSlice
  | winnowRunComplete (f : Nat)
  | interpSetWrite (f : Nat)
  -- temperature and power states (02, 05, 17)
  | tempConversion (conv therm : List Conv)
  | sensorBroken (which : SensorId) (cause : Nat)
  | thermistorBroken (n cause : Nat)
  | throttleLevelStep
  | thermalShutdown (ch : Nat)
  | internalHwsdAssert
  | autoRestart
  | autoIdle
  | wakeTimer
  | wake
  | wakeComplete (failed : List Nat)
  | heatLimitTimeout
  -- the Ledger, completions and caches (03, 04, 20)
  | ledgerWrite
  | commandCompletion (lane : Nat) (env : Env)
  | powerEntryComplete
  | ledgerWriteComplete
  | resolutionCacheAgeing (ip : Nat)
  deriving DecidableEq, Repr

end Sys2Proof
end

