-- ==== Sys2Proof/Decode.lean ====
section
/-!
DEFINITION. Commands spelled as words of the table's bits. No row of the table of operations gives bits: a host command
travels as the bytes of its layout, which `requestBytes` writes and `parseRequest` reads (Sys2Proof/Machine/Operands.lean).
-/
namespace Sys2Proof

/-- The command that a word spells: none, since no row of the table has an encoding. -/
def decodeTableWord (_nbits _w : Nat) : Option Instr := none

end Sys2Proof
end

