-- ==== Sys2Proof/Config.lean ====
section
/-!
DEFINITION. What one module fixes and the manual leaves open: fused identity values (R420), the firmware's own tables,
and the free values. Every constant is opaque: nothing in Lean can see its value, so a theorem holds for each.
-/
namespace Sys2Proof.Config

/-- A value the manual leaves open: the n-th one taken in a run (log entry 3). -/
opaque freeNat : Nat → Nat

/-- Which candidate SAMPLE picks where no running sum reaches the share, by the logits, TEMP, TOP_P, TOP_K, the session
seed and the position (R264, R265; log entry 14). -/
opaque sampleOpen : List Nat → Nat → Nat → Nat → Nat → Nat → Nat

/-- The fused module serial number (R420). -/
opaque serial : BitVec 64
/-- The fused MAC address (R420). -/
opaque mac : BitVec 48
/-- Silicon revision of the electronic die (R80). -/
opaque siliconRev : BitVec 16
/-- Boot ROM version (R80). -/
opaque romVersion : BitVec 16
/-- SHA-384 of the boot ROM (R428). -/
opaque romHash : BitVec 384
/-- The identity key: a scalar that never leaves the Hasp (R420). -/
opaque identityKey : BitVec 384
/-- The four fused KEY_HASH slots; zero is an unprogrammed slot (R420). -/
opaque keyHash : Nat → BitVec 384
/-- The device certificate and the intermediate certificate, DER bytes (R427). -/
opaque cert : Nat → List Byte
/-- The firmware's loop table: the entries ENGINE_START loads, by slot (R113, step 1; R340). -/
opaque loopTableField : Nat → Nat → Int
/-- The warm bias TARGET firmware gives a source's bias loop in bands P1 and P2 (R385). -/
opaque warmBias : Nat → Int
/-- The TARGET that places a spare's comb lines on those of the source it replaces (R356, item 2). -/
opaque spareTarget : Nat → Nat → Int
/-- How far the supply monitor's reading lies from the monitored rail at a Lantern tick of a boot, in 1/256 V; R26 and
R454 bound it. -/
opaque supplyError : Nat → Nat → Int
/-- The power in W that the module draws at a Lantern tick of a boot; R14 and R455 bound it. -/
opaque loadAt : Nat → Nat → Nat
/-- The current in mA that charges the bulk at a Lantern tick of a boot; the inrush limit of R24 bounds it. -/
opaque inrushAt : Nat → Nat → Nat

end Sys2Proof.Config
end

