-- ==== Sys2Proof/Machine/Record.lean ====
section
/-!
DEFINITION. The records of a program (R292 to R301) and the stream descriptors they name (R197), as data: one
constructor per KIND, fields under the manual's names.
-/
namespace Sys2Proof.Machine

/-- A condition (R295): COND and COND_REC. -/
structure Cond where
  cond : Nat
  rc : Nat
  deriving DecidableEq, Repr

/-- BAY_LOAD (R296). -/
structure BayLoadR where
  slotMask : Nat
  u : Nat
  part : Nat
  kchunk : Nat
  kchunkStep : Nat
  colStep : Nat
  col0 : Nat
  cond : Cond
  src : Nat
  colStride : Nat
  zp : Nat
  deriving DecidableEq, Repr

/-- STREAM (R297). -/
structure StreamR where
  slot : Nat
  part : Nat
  acc : Nat
  join : Nat
  chainMask : Nat
  descCount : Nat
  cond : Cond
  tile : Nat
  desc : Nat
  sums : Nat
  sumsStride : Nat
  deriving DecidableEq, Repr

/-- EPILOGUE (R298). -/
structure EpilogueR where
  slotMask : Nat
  act : Nat
  outFmt : Nat
  sOut : Int
  flags : Nat
  clipLimit : Nat
  rows : Nat
  columns : Nat
  sums : Nat
  inScale : Nat
  tithe : Nat
  rs : Nat
  bias : Nat
  out : Nat
  outStride : Nat
  outScale : Nat
  outWide : Nat
  outWideStride : Nat
  outcome : Nat
  stats : Nat
  deriving DecidableEq, Repr

/-- MILL_OP (R254, R299). -/
structure MillOpR where
  op : Nat
  inFmt : Nat
  outFmt : Nat
  flags : Nat
  cond : Cond
  layer : Nat
  items : Nat
  n : Nat
  mills : Nat
  param0 : Nat
  param1 : Nat
  arg0 : Nat
  arg1 : Nat
  src : Nat
  srcStride : Nat
  src2 : Nat
  src2Stride : Nat
  inScale : Nat
  inZp : Nat
  out : Nat
  outStride : Nat
  outScale : Nat
  outZp : Nat
  aux0 : Nat
  aux1 : Nat
  deriving DecidableEq, Repr

/-- GLEAN (R288, R300). -/
structure GleanR where
  mode : Nat
  layer : Nat
  kvHeads : Nat
  qPerKv : Nat
  headDim : Nat
  flags : Nat
  qIn : Nat
  qStride : Nat
  kIn : Nat
  vIn : Nat
  kvStride : Nat
  out : Nat
  outStride : Nat
  scale : Nat
  ropeBase : Nat
  window : Nat
  deriving DecidableEq, Repr

/-- DEP (R301). -/
structure DepR where
  predict : Bool
  after : Nat
  guard : Nat
  list : Nat
  deriving DecidableEq, Repr

/-- COPY (R301). -/
structure CopyR where
  descCount : Nat
  cond : Cond
  desc : Nat
  deriving DecidableEq, Repr

/-- One record of a program (R293). -/
inductive PRec where
  | bayLoad (r : BayLoadR)
  | stream (r : StreamR)
  | epilogue (r : EpilogueR)
  | millOp (r : MillOpR)
  | glean (r : GleanR)
  | gate (hold : Bool)
  | dep (r : DepR)
  | copy (r : CopyR)
  | route (groups : List Nat)
  | fin (tokens : Nat)
  deriving DecidableEq, Repr

/-- A stream descriptor (R197). -/
structure Desc where
  kind : Nat
  target : Nat
  format : Nat
  indexWidth : Nat
  base : Nat
  dest : Nat
  runBytes : Nat
  runs : Nat
  runStride : Nat
  indexStride : Nat
  indexAddr : Nat
  indexLimit : Nat
  indexMax : Nat
  deriving DecidableEq, Repr

end Sys2Proof.Machine
end

