-- ==== Sys2Proof/Machine/State.lean ====
section
/-!
DEFINITION. The state of the G96: every register, buffer, table, counter, mode and pin that the manual names, as
plain data, with `State.reset` the device just after it has entered BOOT from power-up.
Registers live in one sparse register file (`State.regs`), read through the register table of
`Sys2Proof/Machine/RegTable.lean`; what a register only shows of another piece of state is computed where it is read.
-/
namespace Sys2Proof.Machine

/-- Why the model stops. No command or event of the table raises it: the manual gives every row an effect. -/
inductive Fault where
  /-- A supply or pin level beyond the absolute maximum ratings, where no behaviour is stated (R40). No row of the
  table carries such a level, so nothing raises this. Safe: a stop never makes a false claim provable. -/
  | ratingsExceeded
  deriving DecidableEq, Repr

/-- Why the model has no meaning for a command. -/
inductive Refusal where
  /-- Raised by `exec` for a row whose meaning is not written. Safe. -/
  | notModelled (mnemonic : String)
  deriving DecidableEq, Repr

/-- The device states of R107. -/
inductive DState where
  | off | lantern | boot | config | ready | run | idle | doze | night | fault | shutdown
  deriving DecidableEq, Repr

/-- How SHUTDOWN was entered: it decides what leaves it (R28, R33, R388). -/
inductive ShutCause where
  | hwsd | thermal | supply
  deriving DecidableEq, Repr

/-- The failure payload of R70 with the status it goes with (R78). -/
structure Failure where
  status : Nat
  field : Nat := 0xFFFF
  block : Nat := 0xFFFF
  inst : Nat := 0xFFFF
  cause : Nat := 0
  detail : Nat := 0
  deriving DecidableEq, Repr

/-- One Walong packet the device sends (R54). -/
structure WPacket where
  dst : NetAddr
  flags : Nat
  lane : Nat
  seq : Nat
  ack : Nat
  opcode : Nat
  status : Nat
  tag : Nat
  payload : List Byte
  deriving DecidableEq, Repr

/-- What the device puts on the wire: Walong packets and the address protocols of R45 to R52. -/
inductive OutKind where
  | walong (p : WPacket)
  | arpReply (ip senderIp senderMac : Nat)
  | arpRequest (ip own : Nat)
  | arpProbe (ip : Nat)
  | gratuitousArp (ip : Nat)
  | neighbourSolicit (ip own : Nat)
  | neighbourAdvert (ip dstIp dstMac : Nat)
  | dadProbe (ip : Nat)
  | mldReport (groups : List Nat)
  | echoReply (dst : NetAddr) (src ident seq : Nat) (data : List Byte)
  deriving DecidableEq, Repr

/-- One frame sent, with the 802.1Q tag (VID, PCP) it carries (R45). -/
structure OutFrame where
  vlan : Option (Nat × Nat)
  kind : OutKind
  deriving DecidableEq, Repr

/-- A reply as the lane keeps it (R61): header of its request, opcode, status and reply data, with the record in
dispatch, the Gates passed and the replays of a STEP_RUN, which TASK_STATUS still reports (R101). -/
structure Reply where
  hdr : ReqHdr
  opcode : Nat
  status : Nat
  payload : List Byte
  counts : Nat × Nat × Nat := (0, 0, 0)
  deriving DecidableEq, Repr

/-- A request accepted into its lane and not yet started (R58), with the failure that an intake check from order 10
onwards already gave it (R57). -/
structure Req where
  hdr : ReqHdr
  opcode : Nat
  payload : List Byte
  early : Option Failure
  deriving DecidableEq, Repr

/-- What a started command still waits for. -/
inductive JobKind where
  /-- Its work is done; COMMAND_COMPLETION sends this reply (R105). -/
  | finish (status : Nat) (payload : List Byte)
  /-- Its work is done and it ends with this failure. -/
  | fail (f : Failure)
  /-- A command marked W waits for the wake (R72, R391). -/
  | waitWake
  /-- ENGINE_START: Q_MIN, MIN_FURROWS, HEAT_LIMIT_S (R113). -/
  | engineStart (qMin minFurrows heatS : Nat)
  /-- MARGIN_TEST: Q_MIN, REASSIGN, MIN_FURROWS (R125). -/
  | marginTest (qMin reassign minFurrows : Nat)
  /-- SIEVE_RUN: target, first unit, count, base, size, algorithm, backgrounds (R410). -/
  | sieveRun (target first count base size alg bgs : Nat)
  /-- FW_LOAD_END under way (R424). -/
  | fwLoadEnd
  /-- A running STEP_RUN; its step is in `State.steps` under this lane (R94). -/
  | step
  /-- TASK_CANCEL waits for its target to stop (R96). -/
  | cancelWait (lane seq : Nat)
  /-- WINNOW_RUN with WAIT 1: the Furrows named (R377). -/
  | winnowWait (mask : Nat)
  /-- POWER_STATE waits until its target state is reached: TARGET, WAKE_AFTER_S and the save range (R392). -/
  | powerEntry (target wakeAfterS saveBase saveDest saveBytes : Nat)
  /-- VANE_BANK_SWAP waits for the sample that applies it (R351). -/
  | bankSwap
  /-- SOURCE_SPARE waits for a ready spare (R360). -/
  | sourceSpare (source : Nat)
  deriving DecidableEq, Repr

/-- A started command whose reply has not left. -/
structure Job where
  hdr : ReqHdr
  opcode : Nat
  cmd : Instr
  kind : JobKind
  deriving DecidableEq, Repr

/-- One lane of the Walong endpoint (R58 to R64, R71): E, B, the hold with the sequence of the aborted command, the
accepted requests in order, the running command, the retained replies, and the moments of the last rate-limited
ACK_ONLY packets (R60). -/
structure Lane where
  e : Nat := 0
  b : Nat := 0
  held : Option Nat := none
  queue : List Req := []
  job : Option Job := none
  replies : List Reply := []
  ackSent : Option Nat := none
  dupSent : List (Nat × Nat) := []
  deriving DecidableEq, Repr

/-- A record of R433 as raised; LEDGER_SEQ is given when its Ledger write begins. -/
structure Record where
  kind : Nat
  status : Nat := 0
  block : Nat := 0xFFFF
  inst : Nat := 0xFFFF
  flags : Nat := 0
  clockKind : Nat := 0
  eventSeq : Nat := 0xFFFFFFFF
  ledgerSeq : Nat := 0xFFFFFFFF
  boot : Nat := 0
  uptime : Nat := 0
  clock : Nat := 0
  detail : Nat := 0
  lane : Nat := 0xFF
  seq : Nat := 0
  progRec : Nat := 0xFFFFFFFF
  deriving DecidableEq, Repr

/-- One stored Ledger record; a write cut short holds the 64 bytes that were stored, which fail their CRC, and whether
LEDGER.INVALID has counted it (R438). -/
structure LedgerEntry where
  record : Record
  torn : Option (List Byte) := none
  counted : Bool := false
  deriving DecidableEq, Repr

/-- A pin or reset action that waits for the Ledger write under way (R33, R438). -/
inductive PinAction where
  /-- RESET_N low; whether this is its first confirmed level (R30). -/
  | resetLow (first : Bool)
  /-- HWSD_N low; whether this is its first confirmed level (R34). -/
  | hwsdLow (first : Bool)
  | thermalHwsd | softReset | fwWatchdog
  deriving DecidableEq, Repr

/-- The non-volatile Ledger and the records on their way to it (R437, R438). -/
structure Ledger where
  nextSeq : Nat := 0
  entries : List LedgerEntry := []
  wrapped : Bool := false
  bootCount : Nat := 1
  waiting : List Record := []
  writing : Option Record := none
  deferred : List PinAction := []
  /-- Records of one kind in one whole second of uptime: (kind, second, count) (R438). -/
  perSecond : List (Nat × Nat × Nat) := []
  deriving DecidableEq, Repr

/-- The event ring and the events not yet sent (R435, R65). -/
structure Events where
  next : Nat := 0
  ring : List Record := []
  unsent : List Record := []
  deriving DecidableEq, Repr

/-- Address resolution for the event destination (R49): the address asked for, the retries made, and the number of the
event that waits for it. -/
structure Resolution where
  ip : Nat
  tries : Nat
  event : Nat
  deriving DecidableEq, Repr

/-- The Ethernet port (R42 to R53): link, outgoing frames (the model's own log of what was sent), the SET_NETs answered and
not yet in effect, oldest first, each with its lane and its register writes, cache, probes, addresses that have passed
detection or are under it, echo limiter (second, count). -/
structure Net where
  link : Bool := false
  sent : List OutFrame := []
  pendingNet : List (Nat × List (Nat × Nat)) := []
  cache : List (Nat × Nat) := []
  resolution : Option Resolution := none
  arpProbes : Option Nat := none
  ll4Ok : Bool := false
  ll6Ok : Bool := false
  dadLl : Bool := false
  dad6 : Bool := false
  ip6Ok : Bool := false
  ip4Ok : Bool := false
  echoSecond : Nat := 0
  echoCount : Nat := 0
  deriving DecidableEq, Repr

/-- The counters that run freely (R456): Lantern ticks since the Lantern started, electronic cycles and symbol clocks
since the entry to BOOT, and Vane samples. -/
structure Clocks where
  tick : Nat := 0
  cyc : Nat := 0
  sym : Nat := 0
  samples : Nat := 0
  deriving DecidableEq, Repr

/-- What a stored 64-byte word of the Loft or the Silo differs by from the code word last written (R325): XOR of data
bytes and of check bytes, and the mark of a word whose check bytes report it as uncorrectable at every read (R328,
R393). -/
structure WordErr where
  word : Nat
  data : List (Nat × Byte) := []
  check : List (Nat × Byte) := []
  poison : Bool := false
  deriving DecidableEq, Repr

/-- One entry of a region table (R327): base and size in stripes, class, enable. -/
structure Region where
  base : Nat := 0
  size : Nat := 0
  cls : Nat := 0
  en : Bool := false
  deriving DecidableEq, Repr

/-- What created a merge-buffer entry: it is flushed when that command or step ends (R330). -/
inductive Owner where
  | lane (l : Nat)
  | commit
  deriving DecidableEq, Repr

/-- One merge-buffer entry (R330): controller, word address, the bytes written so far by offset, owner. -/
structure MergeEntry where
  ctl : Nat
  word : Nat
  bytes : List (Nat × Byte)
  owner : Owner
  deriving DecidableEq, Repr

/-- An armed flip of one tier (R338). -/
structure Flip where
  entry : Nat
  pattern : Nat
  checkMask : Nat
  symbolMask : Nat
  deriving DecidableEq, Repr

/-- The memories (14): bytes of the three tiers (zero where unlisted, R111), stored errors, Granary bytes with bad
parity (R326), region tables of the Loft and the Silo, merge buffers, armed flips, controllers whose flip fired, next
scrub word per controller (R336). -/
structure Memory where
  cells : List (Nat × Byte) := []
  errs : List WordErr := []
  badParity : List Nat := []
  loftRegions : List Region := []
  siloRegions : List Region := []
  merge : List MergeEntry := []
  flipLoft : Option Flip := none
  flipSilo : Option Flip := none
  flipFired : List Nat := []
  scrubNext : List (Nat × Nat) := []
  trained : Bool := false
  /-- Controllers whose log has overflowed since it was last cleared (R335). -/
  ceOverflowed : List Nat := []
  /-- Flushes whose read was uncorrectable, by owner and word, until that owner ends (R332). -/
  flushFails : List (Owner × Nat) := []
  deriving DecidableEq, Repr

/-- One temperature channel or thermistor input of the Lantern (R380, R381, R37): last conversions, newest first;
broken with its cause; alert armed. -/
structure Channel where
  conv : List Conv := []
  broken : Option Nat := none
  alerted : Bool := false
  deriving DecidableEq, Repr

/-- A power entry under way, and how it began (R392, R103, R398). -/
structure PowerEntry where
  target : DState
  deriving DecidableEq, Repr

/-- A wake under way (R394): the state it returns to and the state it leaves. -/
structure Wake where
  target : DState
  src : DState
  deriving DecidableEq, Repr

/-- The Lantern and the power states (17): pins' confirmed levels (none: not yet confirmed, R30), shutdown cause,
channels, thermistors, hot bands, photonic band, throttle level, thermal shutdown times in ms (R388), the state slept
from, entry and wake under way, wake timer, DOZE due once no step runs (R103), NIGHT save range, supply flags. -/
structure Lantern where
  resetN : Option Bool := some true
  hwsdN : Option Bool := some true
  internalHwsd : Bool := false
  shutCause : Option ShutCause := none
  supplyOk : Bool := true
  railsUp : Bool := true
  /-- The input magnitude in 1/256 V: the environment's, known to the model from the supply events (R24, log entry 19). -/
  input : Nat := 12288
  /-- The voltage of the bulk in nV (R24, R454). -/
  bulk : Nat := 48000000000
  /-- The supply monitor has sampled since the entry to BOOT: SUPPLY_V then shows what it reads (R26, R402). -/
  sampled : Bool := false
  diodes : List Channel := List.replicate 32 {}
  therms : List Channel := List.replicate 8 {}
  vaneBroken : List Nat := []
  hot : List Nat := []
  pBand : Nat := 0
  throttle : Nat := 0
  critical : Option (Nat × Nat) := none
  shutTimes : List Nat := []
  restartBlocked : Bool := false
  sleptFrom : DState := .ready
  entry : Option PowerEntry := none
  waking : Option Wake := none
  wakeAt : Option Nat := none
  dozeDue : Bool := false
  save : Option (Nat × Nat × Nat) := none
  hold : Option Nat := none
  warn : Bool := false
  latch : Bool := false
  /-- A SOFT_RESET has been written and waits for its reply to leave (R106). -/
  softDue : Bool := false
  /-- The tick of the last confirmed reset level (R399). -/
  lossAt : Option Nat := none
  /-- The failure that FAULT was entered with (R71). -/
  fault : Option Failure := none
  deriving DecidableEq, Repr

/-- The host watchdog (R102 to R104): period, and the uptime tick of the last restart while armed. -/
structure Watchdog where
  period : Nat := 0
  action : Nat := 0
  armedAt : Option Nat := none
  deriving DecidableEq, Repr

/-- The image under assembly (R423): total length, bytes written by offset. -/
structure Load where
  total : Nat
  bytes : List (Nat × Byte)
  deriving DecidableEq, Repr

/-- The Hasp (19): fuses that change in service (R420), the load in progress, the running image with its
measurement (R426). -/
structure Hasp where
  svnBits : List Bool := List.replicate 64 false
  revoked : List Bool := List.replicate 4 false
  load : Option Load := none
  running : Bool := false
  fwVersion : Nat := 0
  fwSvn : Nat := 0
  keySlot : Nat := 0
  measurement : List Byte := List.replicate 48 0
  reportSeq : Nat := 0
  deriving DecidableEq, Repr

/-- The entry of one loop slot in one coefficient bank (R350). -/
structure LoopEntry where
  target : Int := 0
  kind : Nat := 0
  enable : Bool := false
  lockWatch : Bool := false
  ffSupply : Bool := false
  ffAccel : Bool := false
  actSrc : Nat := 0
  lockN : Nat := 0
  relockN : Nat := 0
  sensor : Nat := 0
  actuator : Nat := 0
  coef : List Int := []
  shifts : List Nat := []
  outMin : Int := 0
  outMax : Int := 0
  vmax : Int := 0
  amax : Int := 0
  jmax : Int := 0
  lockTol : Int := 0
  deriving DecidableEq, Repr

/-- The running state of one loop slot (R343 to R352). -/
structure LoopState where
  sp : Int := 0
  v : Int := 0
  a : Int := 0
  i : Int := 0
  yPrev : Int := 0
  u : Int := 0
  act : Int := 0
  init : Bool := true
  winner : Bool := false
  sat : Bool := false
  miss : Bool := false
  lost : Bool := true
  missRun : Nat := 0
  overRun : Nat := 0
  inRun : Nat := 0
  deriving DecidableEq, Repr

/-- The Vane (15): the two coefficient banks and the slot states by slot number (an unlisted slot is disabled), the
output each actuator applies, the supply magnitude latched last, the active bank, a pending swap, the heat throttle,
entries that take effect at the next sample (R350), and whether the photonic die has reached 96 °C ± 0.5 °C since the
heaters were last switched on (R113, R394); the readings of the photonic die's zone sensors in the last sample (R382). -/
structure Vane where
  bankA : List (Nat × LoopEntry) := []
  bankB : List (Nat × LoopEntry) := []
  bankBActive : Bool := false
  swapPending : Bool := false
  slots : List (Nat × LoopState) := []
  drives : List (Nat × Int) := []
  supply : Int := 0
  duty : Nat := 16
  throttled : Bool := false
  calmSamples : Nat := 0
  pendingWrites : List (Nat × LoopEntry) := []
  warm : Bool := false
  zones : List (Nat × Int) := []
  deriving DecidableEq, Repr

/-- One comb source (15): role (0 active, 1 spare, 2 failed, 3 not assigned), Furrow lit, fade state, last averaged
power, fade, calibrated power, comb lock, pre-warm flags, and the powers of the last milliseconds, newest first (R355). -/
structure Source where
  role : Nat := 3
  furrow : Nat := 0xF
  fade : Nat := 0
  power : Int := 0
  fadeDb : Int := 0
  cal : Int := 0
  locked : Bool := false
  ready : Bool := false
  warming : Bool := false
  powers : List Int := []
  deriving DecidableEq, Repr

/-- A wanted exchange of a source (R356 to R360): source out, spare in (once chosen), reason code of
SOURCES.LAST_EXCHANGE, forced after SOURCE_FADE, asked for by this lane. -/
structure Exchange where
  out : Nat
  into : Option Nat
  reason : Nat
  forced : Bool
  lane : Option Nat
  deriving DecidableEq, Repr

/-- One entry of a Furrow's point table (R364): fit temperature and the parameters of each detector. -/
structure PointEntry where
  tau : Int
  fits : List DetFit
  deriving DecidableEq, Repr

/-- A Winnow run in progress (R370 to R375): start temperature, fit temperature once collection has ended, statistics
per detector, slices fitted, fitted detectors, rejected detectors; when the run came due (R375), and the set that was current
at the end of collection, with which the fits are compared (R373). -/
structure WinnowRun where
  startTemp : Int
  fitTemp : Option Int
  live : Bool
  stats : List (Nat × List LevelStat)
  slice : Nat
  fits : List DetFit
  rejected : List Nat
  dueAt : Nat := 0
  now : List DetFit := []
  deriving DecidableEq, Repr

/-- The Winnow's state of one Furrow: point table by entry, the set current in the quantiser and the one waiting for the
next bay swap (R162, R368), temperatures at the last run and at the last interpolation, due mark with its tick,
run in progress, outcome of the last run for WINNOW_RUN with WAIT 1. -/
structure WinnowF where
  points : List (Nat × PointEntry) := []
  current : List DetFit := []
  pending : Option (List DetFit) := none
  tLast : Option Int := none
  tInterp : Option Int := none
  due : Bool := false
  dueAt : Nat := 0
  run : Option WinnowRun := none
  outcome : Nat := 0
  deriving DecidableEq, Repr

/-- The Sieve (18): the bank map where it departs from identity, failed physical banks, periodic enables and settings,
next page per controller (R417), the last slice's signatures. -/
structure Sieve where
  map : List (Nat × Nat) := []
  failed : List Nat := []
  enable : Nat := 0
  granaryMs : Nat := 10
  extUs : Nat := 100
  alg : Nat := 0
  next : Nat := 0
  pages : List (Nat × Nat) := []
  sig : Nat := 0
  expect : Nat := 0
  noSpare : Bool := false
  deriving DecidableEq, Repr

/-! ### Programs, sessions and steps -/

/-- One entry of the table of registered programs (R302, R305): address, slots, whether it is checked, and the ranges a
write to which returns it to unchecked. The list of entries runs from the one registered longest ago. -/
structure Program where
  addr : Nat
  slots : Nat
  checked : Bool := false
  ranges : List (Nat × Nat) := []
  deriving DecidableEq, Repr

/-- Held entries of a session (R286): stage address and slots. -/
structure Held where
  stage : Nat
  slots : Nat
  deriving DecidableEq, Repr

/-- An open session (R92, R306): shape, cache range, seed, K/V format and rounding, committed length N, held entries. -/
structure Session where
  layers : Nat
  kvHeads : Nat
  headDim : Nat
  kvBase : Nat
  kvBytes : Nat
  seed : Nat
  k8 : Bool
  stoch : Bool
  n : Nat := 0
  held : Option Held := none
  deriving DecidableEq, Repr

/-- A tile in a bay (R155): the step (by its order of start) and the BAY_LOAD that loaded it, its columns' tile codes (R267), the logical column its check
column repeats, and its age among the loads of its Furrow. -/
structure Tile where
  step : Nat
  record : Nat
  part : Nat
  codes : List (List Nat)
  check : Nat
  age : Nat
  deriving DecidableEq, Repr

/-- A bay load in progress (R156): into Bay B or Bay A, with the time in ns that it takes, fixed when it begins (R384). -/
structure BayFill where
  intoB : Bool
  tile : Tile
  ns : Nat := 1000
  deriving DecidableEq, Repr

/-- A pass on one Furrow (R159 to R163): its STREAM record, its member's slot, its tile's BAY_LOAD with the columns U of
that tile, the address of the member's sum array (R227), its CHAIN_MASK (0 without a join), whether it has started, row
chunks that have entered its feed row's buffer (R192), sent and confirmed of `total`, and the decision set it is tagged with
(R162). -/
structure Pass where
  lane : Nat
  record : Nat
  slot : Nat
  tile : Nat
  u : Nat
  base : Nat
  mask : Nat
  total : Nat
  started : Bool := false
  fed : Nat := 0
  sent : Nat := 0
  confirmed : Nat := 0
  fits : List DetFit := []
  deriving DecidableEq, Repr

/-- A row chunk sent to a Furrow and not yet confirmed (R163 to R168): its pass, its row, what was sent, its exponent
byte, replays counted so far, whether a check mismatch has occurred, and whether the replay it waits for is one of
R167. -/
structure Chunk where
  lane : Nat
  record : Nat
  row : Nat
  fmt : Nat
  sent : List Int
  exps : Nat
  tries : Nat := 0
  mismatched : Bool := false
  lockRedo : Bool := false
  deriving DecidableEq, Repr

/-- One Furrow (07): role (0 active, 1 spare, 2 failed, 3 not assigned) and slot, bays, lit bay, load in progress, passes
in order, row chunks sent and undecided, row chunks to replay, BAY_LOADs counted by ROT (R158), symbols sent since the
last tick and the class code of the last of them (R176), symbols classed BUSY, SWAP or REPLAY since the last Vane sample
(R345), the stall timer in symbol clocks and the class of the last symbol it counted (R173), whether no pass of the present
step has begun yet, whether a loop of R167 has lost its lock, aborts caused in a row (R174), and since which tick it has
withheld multicast credit (R194). -/
structure Furrow where
  role : Nat := 3
  slot : Nat := 0
  bayA : Option Tile := none
  bayB : Option Tile := none
  litB : Bool := false
  fill : Option BayFill := none
  passes : List Pass := []
  sent : List Chunk := []
  replays : List Chunk := []
  rot : Nat := 0
  loads : Nat := 0
  symbols : Nat := 0
  sending : Nat := 8
  work : Nat := 0
  stall : Nat := 0
  cause : Nat := 0
  fresh : Bool := true
  unlocked : Bool := false
  badSteps : Nat := 0
  withheld : Option Nat := none
  deriving DecidableEq, Repr

/-- One batch column of a running step (R307, R308): session, index within it, stage address, token position. -/
structure Column where
  session : Nat
  j : Nat
  stage : Nat
  pos : Nat
  deriving DecidableEq, Repr

/-- A dispatched record that is not complete (R311, R312): the record, whether its engine has started it, the slots or
descriptors not begun and those not finished, and for an EPILOGUE the clipped count and the clip limit once converted. -/
structure Live where
  idx : Nat
  op : PRec
  started : Bool := false
  todo : List Nat := []
  left : List Nat := []
  clipped : Option (Nat × Nat) := none
  deriving DecidableEq, Repr

/-- A 256-byte piece that the Reaper reads or holds (R203, R204, R208): descriptor, position of its first byte in that
stream, address, bytes used, the tag it occupies while in flight, whether it is speculative, its data once returned, its mark
(R216, R218). -/
structure Piece where
  desc : Nat
  pos : Nat
  addr : Nat
  used : Nat
  tag : Option Nat := none
  spec : Bool := false
  data : List Byte := []
  fault : Option Failure := none
  deriving DecidableEq, Repr

/-- The Reaper's work for one record (R198 to R215): its descriptors, whether its index lists have been read, for each
descriptor the element bases of its stream (none is a zero-filled entry), reads not issued, pieces issued and still held, row
chunks that have left the look-ahead buffer for the feed rows, and bytes already written. A piece of an index list has the
descriptor number of `listDesc`. While `predicted` holds a prediction its entries are those of the list, with their index
values. -/
structure Fetch where
  record : Nat
  descs : List Desc
  entries : List (List (Option Nat)) := []
  todo : List Piece := []
  pieces : List Piece := []
  delivered : Nat := 0
  ready : Bool := true
  predicted : Option (List (List Nat)) := none
  written : List (Nat × Nat) := []
  fault : Option Failure := none
  deriving DecidableEq, Repr

/-- A row of a join (R231): its CHAIN_MASK, member slot, row, the member's own sums and the sums that reached it. -/
structure JoinRow where
  mask : Nat
  slot : Nat
  row : Nat
  own : Option (List Int)
  inc : Option (List Int)
  deriving DecidableEq, Repr

/-- Contributions of one row that wait in a Tally's staging for an earlier pass (R225): STREAM record, slot, Furrow, row
and one contribution per column. -/
structure WaitRow where
  record : Nat
  slot : Nat
  furrow : Nat
  row : Nat
  vals : List Int
  deriving DecidableEq, Repr

/-- A reply entry and commit count from DRAFT_COMPARE (R266): session and tokens produced. -/
structure DraftEntry where
  session : Nat
  tokens : List Nat
  deriving DecidableEq, Repr

/-- A step (R306 to R320): lane, order of start, program, columns, limits and modes, the next record to dispatch and
the one in dispatch, the records live, the Reaper's position and work, the route (R182), clip decisions, draft entries, waiting and joining rows,
BAY_LOADs per slot latest first (R317), reloads due at a resume, gates passed, replays, whether nothing has been dispatched
since the start or since the last Gate opened (R12), the tick of that moment (R386), the tick before which the Gate in wait
does not open, once all before it is complete (R187, R386), whether the step was preempted, the failure that ends it with its
record, and whether its teardown runs. -/
structure Step where
  lane : Nat
  order : Nat
  program : Nat
  slots : Nat
  cols : List Column
  stallMs : Nat
  gateMs : Nat
  priority : Nat
  commitMode : Nat
  next : Nat := 0
  cur : Nat := 0
  live : List Live := []
  ahead : Nat := 0
  stopAt : Option Nat := none
  fetches : List Fetch := []
  route : List Nat := [0, 1, 2, 3, 4, 5, 6, 7]
  clips : List (Nat × Bool) := []
  drafts : List DraftEntry := []
  waits : List WaitRow := []
  joins : List JoinRow := []
  loads : List (Nat × Nat) := []
  restore : List (Nat × Nat) := []
  staged : List (Nat × Nat) := []
  touched : List (Nat × Nat) := []
  gates : Nat := 0
  replays : Nat := 0
  rest : Bool := true
  since : Nat := 0
  gateAt : Option Nat := none
  preempted : Bool := false
  failure : Option (Failure × Nat) := none
  /-- The clock of the failing block when the failure was detected, after its kind (R443). -/
  failedAt : Nat × Nat := (4, 0)
  teardown : Bool := false
  deriving DecidableEq, Repr

/-- A speculative read in flight that no entry claimed: its tag, the step it was made for (by its order of start), and its
address. Its data is dropped when it returns (R214). -/
structure Dropped where
  tag : Nat
  order : Nat
  addr : Nat
  deriving DecidableEq, Repr

/-- What the Reaper and the Reeve keep across steps: tags reclaimed whose data may still return (R205), reads whose data
is dropped when it returns (R214), the shares in force for the Silo and the Loft (R206, R207), the lane of the holding
step (R316), the count of steps started, and the tick at which the slow switches have settled (R186, R187). -/
structure Reaper where
  reclaimed : List Nat := []
  dropping : List Dropped := []
  shares : List Nat := [32, 5, 3, 28, 10, 2]
  holder : Option Nat := none
  starts : Nat := 0
  switchAt : Nat := 0
  deriving DecidableEq, Repr

/-- What the registers of the blocks that are powered down in DOZE and NIGHT show, as it stood when they stopped, and the
values written to them since, oldest first, which take effect when they start again (R74): device state, hot bands,
sessions, loop states. -/
structure Asleep where
  dev : DState
  hot : List Nat
  sessions : List (Nat × Session)
  slots : List (Nat × LoopState)
  writes : List (Nat × Nat) := []
  deriving DecidableEq, Repr

/-- The whole state of the device. -/
structure State where
  /-- The commands that wait, first in, first out. -/
  pending : List Instr
  dev : DState
  /-- ENGINE_START has completed and no ENGINE_STOP has followed (GLOBAL.STATUS.ENGINE). -/
  engine : Bool
  degraded : Bool
  clocks : Clocks
  /-- The register file: registers that differ from their after-power-up value, by address, ascending. -/
  regs : List (Nat × Word)
  /-- The 48-bit counters that are not clocks, by the address of their _LO register, ascending (R172). -/
  ctrs : List (Nat × Nat)
  lanes : List Lane
  net : Net
  events : Events
  ledger : Ledger
  memory : Memory
  lantern : Lantern
  watchdog : Watchdog
  hasp : Hasp
  vane : Vane
  sources : List Source
  exchanges : List Exchange
  winnow : List WinnowF
  sieve : Sieve
  furrows : List Furrow
  /-- The registered programs, longest registered first. -/
  programs : List Program
  /-- The open sessions by number, ascending. -/
  sessions : List (Nat × Session)
  steps : List Step
  reaper : Reaper
  /-- Set while blocks are powered down (R74, R390). -/
  down : Option Asleep
  /-- The model's own counter of free values taken (no register of the device). -/
  free : Nat
  deriving DecidableEq, Repr

/-- The Loft's region table after power-up (R327): entry 0 covers the tier with class TEND. -/
def loftRegions0 : List Region := ⟨0, 0x800000, 1, true⟩ :: List.replicate 15 {}

/-- The Silo's region table after power-up (R327): entry 0 covers the tier with class KEEP. -/
def siloRegions0 : List Region := ⟨0, 0xC00000, 0, true⟩ :: List.replicate 15 {}

/-- The device just after it has entered BOOT at its first power-up: every register at its after-power-up value (R5),
every lane with E = B = 0 (R109), the port down until LINK_UP (R53), both pins confirmed high (R30). -/
def State.reset : State where
  pending := []
  dev := .boot
  engine := false
  degraded := false
  clocks := {}
  regs := []
  ctrs := []
  lanes := List.replicate 16 {}
  net := {}
  events := {}
  ledger := {}
  memory := { loftRegions := loftRegions0, siloRegions := siloRegions0 }
  lantern := {}
  watchdog := {}
  hasp := {}
  vane := {}
  sources := List.replicate 20 {}
  exchanges := []
  winnow := List.replicate 10 {}
  sieve := {}
  furrows := List.replicate 10 {}
  programs := []
  sessions := []
  steps := []
  reaper := {}
  down := none
  free := 0

end Sys2Proof.Machine
end

