-- ==== Sys2Proof/Machine/RegTable.lean ====
section
/-!
DEFINITION. The register index (R445, R453): the blocks of the configuration space, and every register of every block
with its fields, access codes (R7), after-power-up values (R5), legal values (R84) and whether it is fixed while a
task runs (R76). A field that the manual calls reserved is left out: it reads as 0 and ignores writes (R4).
-/
namespace Sys2Proof.Machine

/-- The access codes of R7. -/
inductive Acc where
  | ro | rw | w1c | wo | rc
  deriving DecidableEq, Repr

/-- The legal values of one RW field: any, an unsigned range, or a range of the field read as two's complement. -/
inductive Legal where
  | any
  | rng (lo hi : Nat)
  | srng (lo hi : Int)
  deriving DecidableEq, Repr

/-- One field: lowest bit, width, access, after-power-up value, legal values. -/
structure Fld where
  lo : Nat
  w : Nat
  acc : Acc
  rst : Nat
  legal : Legal
  deriving DecidableEq, Repr

/-- One register, or an array of `cnt` registers `stride` bytes apart. -/
structure RegDef where
  name : String
  off : Nat
  cnt : Nat
  stride : Nat
  fixed : Bool
  flds : List Fld
  deriving DecidableEq, Repr

/-- The blocks of R445. -/
inductive Blk where
  | global | walong | reaper | thresher | furrow | tally | windrow | mill | gleaner | memctl | vane | sources | winnow
  | lantern | sieve | hasp | ledger
  deriving DecidableEq, Repr

/-- One row of the block table of R445. -/
structure BlockDef where
  blk : Blk
  base : Nat
  count : Nat
  stride : Nat
  span : Nat
  type : Nat
  regs : List RegDef
  deriving DecidableEq, Repr

/-- The GLOBAL registers (R106, R126, R329, R453): every field with its access code, after-power-up value and legal values. -/
def regsGlobal : List RegDef := [
  ⟨"CTL", 0x004, 1, 0, false, [⟨0, 1, .wo, 0, .any⟩]⟩,
  ⟨"STATUS", 0x008, 1, 0, false, [⟨0, 4, .ro, 2, .any⟩, ⟨4, 1, .ro, 0, .any⟩, ⟨5, 1, .ro, 0, .any⟩]⟩,
  ⟨"LANE_HELD", 0x010, 1, 0, false, [⟨0, 16, .ro, 0, .any⟩]⟩,
  ⟨"WATCHDOG", 0x014, 1, 0, false, [⟨0, 20, .ro, 0, .any⟩, ⟨24, 1, .rw, 0, .any⟩, ⟨31, 1, .ro, 0, .any⟩]⟩,
  ⟨"WATCHDOG_LEFT", 0x018, 1, 0, false, [⟨0, 20, .ro, 0, .any⟩]⟩,
  ⟨"STEP_DEF", 0x020, 1, 0, false, [⟨0, 8, .rw, 20, .rng 1 255⟩, ⟨8, 8, .rw, 50, .rng 1 255⟩, ⟨16, 2, .rw, 1, .any⟩, ⟨18, 1, .rw, 0, .any⟩]⟩,
  ⟨"SESSION_DEF", 0x024, 1, 0, false, [⟨0, 1, .rw, 0, .any⟩, ⟨1, 1, .rw, 0, .any⟩]⟩,
  ⟨"ENGINE_DEF", 0x028, 1, 0, false, [⟨0, 16, .rw, 0x700, .rng 1536 3840⟩, ⟨16, 4, .rw, 1, .rng 1 8⟩, ⟨20, 1, .rw, 0, .any⟩, ⟨24, 8, .rw, 25, .rng 5 40⟩]⟩,
  ⟨"MEM_DEF", 0x02C, 1, 0, false, [⟨0, 1, .rw, 0, .any⟩]⟩]

/-- The WALONG registers (03, WALONG registers, R453): every field with its access code, after-power-up value and legal values. -/
def regsWalong : List RegDef := [
  ⟨"CTL", 0x004, 1, 0, false, [⟨0, 1, .rw, 1, .any⟩, ⟨1, 1, .rw, 1, .any⟩]⟩,
  ⟨"STATUS", 0x008, 1, 0, false, [⟨0, 1, .ro, 0, .any⟩, ⟨1, 1, .ro, 0, .any⟩, ⟨2, 1, .ro, 0, .any⟩, ⟨3, 1, .ro, 0, .any⟩, ⟨4, 1, .ro, 0, .any⟩]⟩,
  ⟨"MAC_HI", 0x010, 1, 0, false, [⟨0, 16, .ro, 0, .any⟩]⟩,
  ⟨"MAC_LO", 0x014, 1, 0, false, [⟨0, 32, .ro, 0, .any⟩]⟩,
  ⟨"VLAN", 0x018, 1, 0, false, [⟨0, 12, .rw, 0, .any⟩, ⟨12, 3, .rw, 0, .any⟩, ⟨16, 1, .rw, 0, .any⟩]⟩,
  ⟨"IPV4_ADDR", 0x01C, 1, 0, false, [⟨0, 32, .rw, 0, .any⟩]⟩,
  ⟨"IPV4_PREFIX", 0x020, 1, 0, false, [⟨0, 8, .rw, 0, .any⟩, ⟨8, 1, .rw, 0, .any⟩]⟩,
  ⟨"IPV4_GW", 0x024, 1, 0, false, [⟨0, 32, .rw, 0, .any⟩]⟩,
  ⟨"IPV6_ADDR_0–3", 0x030, 4, 4, false, [⟨0, 32, .rw, 0, .any⟩]⟩,
  ⟨"IPV6_PREFIX", 0x040, 1, 0, false, [⟨0, 8, .rw, 0, .any⟩, ⟨8, 1, .rw, 0, .any⟩]⟩,
  ⟨"IPV6_GW_0–3", 0x050, 4, 4, false, [⟨0, 32, .rw, 0, .any⟩]⟩,
  ⟨"EVENT_DEST", 0x060, 1, 0, false, [⟨0, 16, .rw, 0, .any⟩, ⟨16, 1, .rw, 0, .any⟩, ⟨17, 1, .rw, 0, .any⟩]⟩,
  ⟨"EVENT_IP_0–3", 0x064, 4, 4, false, [⟨0, 32, .rw, 0, .any⟩]⟩,
  ⟨"EVENT_GAP", 0x074, 1, 0, false, [⟨0, 16, .rw, 10, .any⟩]⟩,
  ⟨"ACK_DELAY", 0x078, 1, 0, false, [⟨0, 16, .rw, 100, .rng 1 65535⟩]⟩,
  ⟨"LANE_NEXT_n", 0x080, 16, 4, false, [⟨0, 32, .ro, 0, .any⟩]⟩,
  ⟨"LANE_ACKED_n", 0x0C0, 16, 4, false, [⟨0, 32, .ro, 0, .any⟩]⟩,
  ⟨"RX_FCS_ERR", 0x100, 1, 0, false, [⟨0, 32, .rc, 0, .any⟩]⟩,
  ⟨"RX_FILTERED", 0x104, 1, 0, false, [⟨0, 32, .rc, 0, .any⟩]⟩,
  ⟨"RX_BAD_HEADER", 0x108, 1, 0, false, [⟨0, 32, .rc, 0, .any⟩]⟩,
  ⟨"RX_CRC_ERR", 0x10C, 1, 0, false, [⟨0, 32, .rc, 0, .any⟩]⟩,
  ⟨"RX_DUPLICATE", 0x110, 1, 0, false, [⟨0, 32, .rc, 0, .any⟩]⟩,
  ⟨"RX_OUT_OF_ORDER", 0x114, 1, 0, false, [⟨0, 32, .rc, 0, .any⟩]⟩,
  ⟨"RX_WINDOW", 0x118, 1, 0, false, [⟨0, 32, .rc, 0, .any⟩]⟩,
  ⟨"RX_STALE", 0x11C, 1, 0, false, [⟨0, 32, .rc, 0, .any⟩]⟩,
  ⟨"RX_BAD_ACK", 0x120, 1, 0, false, [⟨0, 32, .rc, 0, .any⟩]⟩,
  ⟨"RX_PAUSE", 0x124, 1, 0, false, [⟨0, 32, .rc, 0, .any⟩]⟩,
  ⟨"TX_EVENT_DROP", 0x128, 1, 0, false, [⟨0, 32, .rc, 0, .any⟩]⟩]

/-- The REAPER registers (R222, R453): every field with its access code, after-power-up value and legal values. -/
def regsReaper : List RegDef := [
  ⟨"CTL", 0x004, 1, 0, true, [⟨0, 1, .rw, 1, .any⟩, ⟨1, 1, .rw, 1, .any⟩]⟩,
  ⟨"STATUS", 0x008, 1, 0, false, [⟨0, 1, .ro, 0, .any⟩, ⟨1, 1, .ro, 0, .any⟩, ⟨2, 1, .ro, 0, .any⟩, ⟨3, 1, .ro, 0, .any⟩]⟩,
  ⟨"SPLIT", 0x010, 1, 0, false, [⟨0, 2, .rw, 0, .any⟩, ⟨2, 2, .rw, 0, .any⟩]⟩,
  ⟨"SPLIT_SILO", 0x014, 1, 0, false, [⟨0, 6, .rw, 32, .rng 1 63⟩, ⟨8, 6, .rw, 5, .rng 1 63⟩, ⟨16, 6, .rw, 3, .rng 1 63⟩]⟩,
  ⟨"SPLIT_LOFT", 0x018, 1, 0, false, [⟨0, 6, .rw, 28, .rng 1 63⟩, ⟨8, 6, .rw, 10, .rng 1 63⟩, ⟨16, 6, .rw, 2, .rng 1 63⟩]⟩,
  ⟨"TAG_TIMEOUT", 0x01C, 1, 0, true, [⟨0, 8, .rw, 20, .rng 2 50⟩]⟩,
  ⟨"AHEAD_LIMIT", 0x020, 1, 0, true, [⟨0, 6, .rw, 56, .rng 4 60⟩]⟩,
  ⟨"SPEC", 0x024, 1, 0, true, [⟨0, 5, .rw, 16, .rng 1 16⟩, ⟨16, 14, .rw, 0x2000, .rng 256 12288⟩]⟩,
  ⟨"TAGS", 0x028, 1, 0, false, [⟨0, 14, .ro, 0, .any⟩, ⟨16, 14, .rc, 0, .any⟩]⟩,
  ⟨"BUFFER_USED", 0x02C, 1, 0, false, [⟨0, 17, .ro, 0, .any⟩]⟩,
  ⟨"LAST_FAULT_LO", 0x030, 1, 0, false, [⟨0, 32, .ro, 0, .any⟩]⟩,
  ⟨"LAST_FAULT_HI", 0x034, 1, 0, false, [⟨0, 16, .ro, 0, .any⟩]⟩,
  ⟨"LAST_FAULT_INFO", 0x038, 1, 0, false, [⟨0, 2, .ro, 0, .any⟩, ⟨2, 1, .ro, 0, .any⟩, ⟨3, 1, .ro, 0, .any⟩]⟩,
  ⟨"CLOCK_LO", 0x040, 1, 0, false, [⟨0, 32, .ro, 0, .any⟩]⟩,
  ⟨"CLOCK_HI", 0x044, 1, 0, false, [⟨0, 16, .ro, 0, .any⟩]⟩,
  ⟨"BYTES_LO", 0x048, 1, 0, false, [⟨0, 32, .ro, 0, .any⟩]⟩,
  ⟨"BYTES_HI", 0x04C, 1, 0, false, [⟨0, 16, .ro, 0, .any⟩]⟩,
  ⟨"CHANNEL_BYTES_LO", 0x050, 1, 0, false, [⟨0, 32, .ro, 0, .any⟩]⟩,
  ⟨"CHANNEL_BYTES_HI", 0x054, 1, 0, false, [⟨0, 16, .ro, 0, .any⟩]⟩,
  ⟨"COUNT_CTL", 0x058, 1, 0, false, [⟨0, 1, .wo, 0, .any⟩]⟩,
  ⟨"SUB256", 0x060, 1, 0, false, [⟨0, 32, .rc, 0, .any⟩]⟩,
  ⟨"SPEC_ISSUED", 0x064, 1, 0, false, [⟨0, 32, .rc, 0, .any⟩]⟩,
  ⟨"SPEC_HITS", 0x068, 1, 0, false, [⟨0, 32, .rc, 0, .any⟩]⟩,
  ⟨"SPEC_DISCARDS", 0x06C, 1, 0, false, [⟨0, 32, .rc, 0, .any⟩]⟩,
  ⟨"INDEX_OOR", 0x070, 1, 0, false, [⟨0, 32, .rc, 0, .any⟩]⟩,
  ⟨"INDEX_TRUNC", 0x074, 1, 0, false, [⟨0, 32, .rc, 0, .any⟩]⟩,
  ⟨"TAG_TIMEOUTS", 0x078, 1, 0, false, [⟨0, 32, .rc, 0, .any⟩]⟩,
  ⟨"LATE_RETURNS", 0x07C, 1, 0, false, [⟨0, 32, .rc, 0, .any⟩]⟩,
  ⟨"DEP_WAITS", 0x080, 1, 0, false, [⟨0, 32, .rc, 0, .any⟩]⟩,
  ⟨"CANCEL_DROPS", 0x084, 1, 0, false, [⟨0, 32, .rc, 0, .any⟩]⟩]

/-- The THRESHER registers (R196, R453): every field with its access code, after-power-up value and legal values. -/
def regsThresher : List RegDef := [
  ⟨"CTL", 0x004, 1, 0, true, [⟨0, 6, .rw, 32, .rng 4 32⟩]⟩,
  ⟨"STATUS", 0x008, 1, 0, false, [⟨0, 1, .ro, 0, .any⟩, ⟨1, 1, .ro, 0, .any⟩, ⟨2, 4, .ro, 0, .any⟩]⟩,
  ⟨"ROUTE", 0x010, 1, 0, false, [⟨0, 3, .ro, 0, .any⟩, ⟨3, 3, .ro, 1, .any⟩, ⟨6, 3, .ro, 2, .any⟩, ⟨9, 3, .ro, 3, .any⟩, ⟨12, 3, .ro, 4, .any⟩, ⟨15, 3, .ro, 5, .any⟩, ⟨18, 3, .ro, 6, .any⟩, ⟨21, 3, .ro, 7, .any⟩]⟩,
  ⟨"MCAST_LIMIT", 0x014, 1, 0, false, [⟨0, 16, .rw, 200, .rng 10 60000⟩]⟩,
  ⟨"FURROW_MAP", 0x018, 1, 0, false, [⟨0, 4, .ro, 15, .any⟩, ⟨4, 4, .ro, 15, .any⟩, ⟨8, 4, .ro, 15, .any⟩, ⟨12, 4, .ro, 15, .any⟩, ⟨16, 4, .ro, 15, .any⟩, ⟨20, 4, .ro, 15, .any⟩, ⟨24, 4, .ro, 15, .any⟩, ⟨28, 4, .ro, 15, .any⟩]⟩,
  ⟨"LAST_SETTLE", 0x01C, 1, 0, false, [⟨0, 16, .ro, 0, .any⟩]⟩,
  ⟨"LAST_SKEW", 0x020, 1, 0, false, [⟨0, 16, .ro, 0, .any⟩, ⟨16, 16, .ro, 0, .any⟩]⟩,
  ⟨"SKEW_INFO", 0x024, 1, 0, false, [⟨0, 3, .ro, 0, .any⟩, ⟨3, 1, .ro, 0, .any⟩]⟩,
  ⟨"MCAST_SLOW", 0x028, 1, 0, false, [⟨0, 4, .ro, 15, .any⟩]⟩,
  ⟨"ESCAPES", 0x030, 1, 0, false, [⟨0, 32, .rc, 0, .any⟩]⟩,
  ⟨"CHUNKS_SENT", 0x034, 1, 0, false, [⟨0, 32, .rc, 0, .any⟩]⟩,
  ⟨"SKEW_EVENTS", 0x038, 1, 0, false, [⟨0, 32, .rc, 0, .any⟩]⟩,
  ⟨"ROUTE_CHANGES", 0x03C, 1, 0, false, [⟨0, 32, .rc, 0, .any⟩]⟩,
  ⟨"MCAST_TIMEOUTS", 0x040, 1, 0, false, [⟨0, 32, .rc, 0, .any⟩]⟩]

/-- The FURROW registers (R176, R453): every field with its access code, after-power-up value and legal values. -/
def regsFurrow : List RegDef := [
  ⟨"CTL", 0x004, 1, 0, true, [⟨0, 1, .rw, 0, .any⟩, ⟨1, 1, .rw, 0, .any⟩, ⟨8, 6, .rw, 0, .any⟩]⟩,
  ⟨"STATUS", 0x008, 1, 0, false, [⟨0, 2, .ro, 3, .any⟩, ⟨2, 3, .ro, 0, .any⟩, ⟨5, 1, .ro, 0, .any⟩, ⟨6, 1, .ro, 0, .any⟩, ⟨7, 1, .ro, 0, .any⟩, ⟨8, 1, .ro, 0, .any⟩, ⟨9, 1, .ro, 0, .any⟩, ⟨10, 1, .ro, 0, .any⟩, ⟨11, 1, .ro, 0, .any⟩, ⟨12, 4, .ro, 15, .any⟩]⟩,
  ⟨"MIN_Q", 0x010, 1, 0, false, [⟨0, 16, .ro, 0, .any⟩]⟩,
  ⟨"COLMAP", 0x014, 1, 0, false, [⟨0, 8, .ro, 255, .any⟩, ⟨8, 8, .ro, 255, .any⟩, ⟨16, 8, .ro, 255, .any⟩, ⟨24, 2, .ro, 0, .any⟩]⟩,
  ⟨"SOURCES", 0x018, 1, 0, false, [⟨0, 5, .ro, 31, .any⟩, ⟨8, 5, .ro, 31, .any⟩]⟩,
  ⟨"CHECK", 0x01C, 1, 0, false, [⟨0, 6, .ro, 0, .any⟩, ⟨8, 24, .ro, 0, .any⟩]⟩,
  ⟨"LOAD_NS", 0x020, 1, 0, false, [⟨0, 12, .ro, 0, .any⟩]⟩,
  ⟨"COUNT_CTL", 0x024, 1, 0, false, [⟨0, 1, .wo, 0, .any⟩]⟩,
  ⟨"STALL_n_LO", 0x030, 8, 8, false, [⟨0, 32, .ro, 0, .any⟩]⟩,
  ⟨"STALL_n_HI", 0x034, 8, 8, false, [⟨0, 16, .ro, 0, .any⟩]⟩,
  ⟨"BUSY_LO", 0x070, 1, 0, false, [⟨0, 32, .ro, 0, .any⟩]⟩,
  ⟨"BUSY_HI", 0x074, 1, 0, false, [⟨0, 16, .ro, 0, .any⟩]⟩,
  ⟨"SWAP_LO", 0x078, 1, 0, false, [⟨0, 32, .ro, 0, .any⟩]⟩,
  ⟨"SWAP_HI", 0x07C, 1, 0, false, [⟨0, 16, .ro, 0, .any⟩]⟩,
  ⟨"CLOCK_LO", 0x080, 1, 0, false, [⟨0, 32, .ro, 0, .any⟩]⟩,
  ⟨"CLOCK_HI", 0x084, 1, 0, false, [⟨0, 16, .ro, 0, .any⟩]⟩,
  ⟨"AMBIG_CHUNKS", 0x090, 1, 0, false, [⟨0, 32, .rc, 0, .any⟩]⟩,
  ⟨"REPLAY_CHUNKS", 0x094, 1, 0, false, [⟨0, 32, .rc, 0, .any⟩]⟩,
  ⟨"MISMATCHES", 0x098, 1, 0, false, [⟨0, 32, .rc, 0, .any⟩]⟩,
  ⟨"LOCK_REPLAYS", 0x09C, 1, 0, false, [⟨0, 32, .rc, 0, .any⟩]⟩,
  ⟨"PASSES", 0x0A0, 1, 0, false, [⟨0, 32, .rc, 0, .any⟩]⟩,
  ⟨"LAST_MISMATCH", 0x0A4, 1, 0, false, [⟨0, 6, .ro, 0, .any⟩, ⟨6, 3, .ro, 0, .any⟩, ⟨9, 1, .ro, 0, .any⟩]⟩,
  ⟨"ABORT_CAUSE", 0x0A8, 1, 0, false, [⟨0, 16, .ro, 0, .any⟩]⟩,
  ⟨"FAULT_CAUSE", 0x0AC, 1, 0, false, [⟨0, 3, .ro, 0, .any⟩]⟩]

/-- The TALLY registers (R246, R453): every field with its access code, after-power-up value and legal values. -/
def regsTally : List RegDef := [
  ⟨"CTL", 0x004, 1, 0, false, [⟨0, 1, .rw, 0, .any⟩]⟩,
  ⟨"STATUS", 0x008, 1, 0, false, [⟨0, 1, .ro, 0, .any⟩, ⟨1, 1, .ro, 0, .any⟩, ⟨2, 1, .ro, 0, .any⟩, ⟨3, 1, .ro, 0, .any⟩]⟩,
  ⟨"STAGING", 0x010, 1, 0, false, [⟨0, 13, .ro, 0, .any⟩, ⟨16, 13, .rc, 0, .any⟩]⟩,
  ⟨"LAST_SAT_ROW", 0x014, 1, 0, false, [⟨0, 20, .ro, 0, .any⟩]⟩,
  ⟨"LAST_SAT_RECORD", 0x018, 1, 0, false, [⟨0, 32, .ro, 0, .any⟩]⟩,
  ⟨"CLOCK_LO", 0x020, 1, 0, false, [⟨0, 32, .ro, 0, .any⟩]⟩,
  ⟨"CLOCK_HI", 0x024, 1, 0, false, [⟨0, 16, .ro, 0, .any⟩]⟩,
  ⟨"ROWS_LO", 0x028, 1, 0, false, [⟨0, 32, .ro, 0, .any⟩]⟩,
  ⟨"ROWS_HI", 0x02C, 1, 0, false, [⟨0, 16, .ro, 0, .any⟩]⟩,
  ⟨"CONVERTED_LO", 0x030, 1, 0, false, [⟨0, 32, .ro, 0, .any⟩]⟩,
  ⟨"CONVERTED_HI", 0x034, 1, 0, false, [⟨0, 16, .ro, 0, .any⟩]⟩,
  ⟨"CLIPPED", 0x038, 1, 0, false, [⟨0, 32, .rc, 0, .any⟩]⟩,
  ⟨"RERUNS", 0x03C, 1, 0, false, [⟨0, 32, .rc, 0, .any⟩]⟩,
  ⟨"SAT_EVENTS", 0x040, 1, 0, false, [⟨0, 32, .rc, 0, .any⟩]⟩,
  ⟨"EMPTY_PASSES", 0x044, 1, 0, false, [⟨0, 32, .rc, 0, .any⟩]⟩,
  ⟨"COUNT_CTL", 0x048, 1, 0, false, [⟨0, 1, .wo, 0, .any⟩]⟩]

/-- The WINDROW registers (R247, R453): every field with its access code, after-power-up value and legal values. -/
def regsWindrow : List RegDef := [
  ⟨"CTL", 0x004, 1, 0, true, [⟨0, 1, .rw, 0, .any⟩]⟩,
  ⟨"STATUS", 0x008, 1, 0, false, [⟨0, 8, .ro, 0, .any⟩]⟩,
  ⟨"CLIP", 0x010, 1, 0, false, [⟨0, 16, .rw, 16, .any⟩]⟩,
  ⟨"JOINS", 0x014, 1, 0, false, [⟨0, 32, .rc, 0, .any⟩]⟩,
  ⟨"STAT_JOINS", 0x018, 1, 0, false, [⟨0, 32, .rc, 0, .any⟩]⟩,
  ⟨"TREE_USED", 0x01C, 1, 0, false, [⟨0, 32, .rc, 0, .any⟩]⟩,
  ⟨"ROW_MISMATCH", 0x020, 1, 0, false, [⟨0, 32, .rc, 0, .any⟩]⟩,
  ⟨"LAST_MISMATCH", 0x024, 1, 0, false, [⟨0, 16, .ro, 0, .any⟩, ⟨16, 16, .ro, 0, .any⟩]⟩]

/-- The MILL registers (R269, R453): every field with its access code, after-power-up value and legal values. -/
def regsMill : List RegDef := [
  ⟨"CTL", 0x004, 1, 0, true, [⟨0, 1, .rw, 0, .any⟩, ⟨1, 1, .rw, 0, .any⟩]⟩,
  ⟨"STATUS", 0x008, 1, 0, false, [⟨0, 1, .ro, 0, .any⟩, ⟨1, 1, .ro, 0, .any⟩, ⟨2, 1, .ro, 0, .any⟩, ⟨4, 8, .ro, 0, .any⟩]⟩,
  ⟨"LAST_RECORD", 0x010, 1, 0, false, [⟨0, 32, .ro, 0, .any⟩]⟩,
  ⟨"CLOCK_LO", 0x014, 1, 0, false, [⟨0, 32, .ro, 0, .any⟩]⟩,
  ⟨"CLOCK_HI", 0x018, 1, 0, false, [⟨0, 16, .ro, 0, .any⟩]⟩,
  ⟨"ITEMS", 0x020, 1, 0, false, [⟨0, 32, .rc, 0, .any⟩]⟩,
  ⟨"CLIPPED", 0x024, 1, 0, false, [⟨0, 32, .rc, 0, .any⟩]⟩,
  ⟨"ZERO_RANGE", 0x028, 1, 0, false, [⟨0, 32, .rc, 0, .any⟩]⟩,
  ⟨"NAN_OUT", 0x02C, 1, 0, false, [⟨0, 32, .rc, 0, .any⟩]⟩,
  ⟨"TITHE_APPLIED", 0x030, 1, 0, false, [⟨0, 32, .rc, 0, .any⟩]⟩,
  ⟨"TITHE_IGNORED", 0x034, 1, 0, false, [⟨0, 32, .rc, 0, .any⟩]⟩,
  ⟨"SAMPLES", 0x038, 1, 0, false, [⟨0, 32, .rc, 0, .any⟩]⟩,
  ⟨"DRAFTS_OFFERED", 0x03C, 1, 0, false, [⟨0, 32, .rc, 0, .any⟩]⟩,
  ⟨"DRAFTS_ACCEPTED", 0x040, 1, 0, false, [⟨0, 32, .rc, 0, .any⟩]⟩,
  ⟨"DRAFT_CLAMP", 0x044, 1, 0, false, [⟨0, 32, .rc, 0, .any⟩]⟩,
  ⟨"PACKS", 0x048, 1, 0, false, [⟨0, 32, .rc, 0, .any⟩]⟩]

/-- The GLEANER registers (R291, R453): every field with its access code, after-power-up value and legal values. -/
def regsGleaner : List RegDef := [
  ⟨"CTL", 0x004, 1, 0, false, [⟨0, 1, .rw, 0, .any⟩]⟩,
  ⟨"STATUS", 0x008, 1, 0, false, [⟨0, 1, .ro, 0, .any⟩, ⟨1, 1, .ro, 0, .any⟩]⟩,
  ⟨"LAST_RECORD", 0x010, 1, 0, false, [⟨0, 32, .ro, 0, .any⟩]⟩,
  ⟨"CLOCK_LO", 0x014, 1, 0, false, [⟨0, 32, .ro, 0, .any⟩]⟩,
  ⟨"CLOCK_HI", 0x018, 1, 0, false, [⟨0, 16, .ro, 0, .any⟩]⟩,
  ⟨"LOFT_BYTES_LO", 0x020, 1, 0, false, [⟨0, 32, .ro, 0, .any⟩]⟩,
  ⟨"LOFT_BYTES_HI", 0x024, 1, 0, false, [⟨0, 16, .ro, 0, .any⟩]⟩,
  ⟨"VISITS_LO", 0x028, 1, 0, false, [⟨0, 32, .ro, 0, .any⟩]⟩,
  ⟨"VISITS_HI", 0x02C, 1, 0, false, [⟨0, 16, .ro, 0, .any⟩]⟩,
  ⟨"COUNT_CTL", 0x030, 1, 0, false, [⟨0, 1, .wo, 0, .any⟩]⟩,
  ⟨"BLOCKS_WRITTEN", 0x034, 1, 0, false, [⟨0, 32, .rc, 0, .any⟩]⟩,
  ⟨"ZERO_RANGE", 0x038, 1, 0, false, [⟨0, 32, .rc, 0, .any⟩]⟩,
  ⟨"KV_CLIPPED", 0x03C, 1, 0, false, [⟨0, 32, .rc, 0, .any⟩]⟩,
  ⟨"NAN_OUT", 0x040, 1, 0, false, [⟨0, 32, .rc, 0, .any⟩]⟩,
  ⟨"SCALE_FIXED", 0x044, 1, 0, false, [⟨0, 32, .rc, 0, .any⟩]⟩,
  ⟨"SESS_SEL", 0x060, 1, 0, false, [⟨0, 8, .rw, 0, .any⟩]⟩,
  ⟨"SESS_LEN", 0x064, 1, 0, true, [⟨0, 32, .rw, 0, .any⟩]⟩,
  ⟨"SESS_CAP", 0x068, 1, 0, false, [⟨0, 32, .ro, 0, .any⟩]⟩,
  ⟨"SESS_STATE", 0x06C, 1, 0, false, [⟨0, 1, .ro, 0, .any⟩, ⟨1, 1, .ro, 0, .any⟩, ⟨2, 1, .ro, 0, .any⟩, ⟨4, 4, .ro, 0, .any⟩]⟩,
  ⟨"COMMITTED", 0x070, 1, 0, false, [⟨0, 32, .rc, 0, .any⟩]⟩,
  ⟨"DISCARDED", 0x074, 1, 0, false, [⟨0, 32, .rc, 0, .any⟩]⟩]

/-- The MEMCTL registers (R339, R453): every field with its access code, after-power-up value and legal values. -/
def regsMemctl : List RegDef := [
  ⟨"CTL", 0x004, 1, 0, false, [⟨0, 1, .rw, 1, .any⟩, ⟨1, 1, .rw, 0, .any⟩]⟩,
  ⟨"STATUS", 0x008, 1, 0, false, [⟨0, 1, .ro, 0, .any⟩, ⟨1, 1, .ro, 0, .any⟩, ⟨2, 2, .ro, 0, .any⟩, ⟨4, 1, .ro, 0, .any⟩, ⟨5, 1, .ro, 0, .any⟩, ⟨6, 1, .ro, 0, .any⟩, ⟨7, 1, .ro, 0, .any⟩]⟩,
  ⟨"REGION_n_BASE", 0x010, 16, 16, false, [⟨0, 24, .ro, 0, .any⟩]⟩,
  ⟨"REGION_n_SIZE", 0x014, 16, 16, false, [⟨0, 25, .ro, 0, .any⟩]⟩,
  ⟨"REGION_n_CTL", 0x018, 16, 16, false, [⟨0, 1, .ro, 0, .any⟩, ⟨1, 2, .ro, 0, .any⟩]⟩,
  ⟨"CE_COUNT", 0x110, 1, 0, false, [⟨0, 32, .rc, 0, .any⟩]⟩,
  ⟨"UE_COUNT", 0x114, 1, 0, false, [⟨0, 32, .rc, 0, .any⟩]⟩,
  ⟨"SCRUB_CORRECTED", 0x118, 1, 0, false, [⟨0, 32, .rc, 0, .any⟩]⟩,
  ⟨"SCRUB_PASSES", 0x11C, 1, 0, false, [⟨0, 32, .rc, 0, .any⟩]⟩,
  ⟨"MERGE_FLUSHES", 0x120, 1, 0, false, [⟨0, 32, .rc, 0, .any⟩]⟩,
  ⟨"MERGE_RMW", 0x124, 1, 0, false, [⟨0, 32, .rc, 0, .any⟩]⟩,
  ⟨"CE_LOG_OVERFLOW", 0x128, 1, 0, false, [⟨0, 32, .rc, 0, .any⟩]⟩,
  ⟨"LOG_CLEAR", 0x12C, 1, 0, false, [⟨0, 2, .wo, 0, .any⟩]⟩,
  ⟨"CLOCK_LO", 0x130, 1, 0, false, [⟨0, 32, .ro, 0, .any⟩]⟩,
  ⟨"CLOCK_HI", 0x134, 1, 0, false, [⟨0, 16, .ro, 0, .any⟩]⟩,
  ⟨"FLIP_ADDR_LO", 0x138, 1, 0, false, [⟨0, 32, .ro, 0, .any⟩]⟩,
  ⟨"FLIP_ADDR_HI", 0x13C, 1, 0, false, [⟨0, 16, .ro, 0, .any⟩]⟩,
  ⟨"SCRUB_PERIOD_H", 0x140, 1, 0, false, [⟨0, 8, .rw, 24, .rng 1 168⟩]⟩,
  ⟨"CE_n_ADDR_LO", 0x200, 16, 16, false, [⟨0, 1, .ro, 0, .any⟩, ⟨6, 26, .ro, 0, .any⟩]⟩,
  ⟨"CE_n_ADDR_HI", 0x204, 16, 16, false, [⟨0, 16, .ro, 0, .any⟩, ⟨16, 16, .ro, 0, .any⟩]⟩,
  ⟨"CE_n_CLK_LO", 0x208, 16, 16, false, [⟨0, 32, .ro, 0, .any⟩]⟩,
  ⟨"CE_n_CLK_HI", 0x20C, 16, 16, false, [⟨0, 16, .ro, 0, .any⟩]⟩,
  ⟨"UE_n_ADDR_LO", 0x300, 4, 16, false, [⟨0, 1, .ro, 0, .any⟩, ⟨1, 3, .ro, 0, .any⟩, ⟨6, 26, .ro, 0, .any⟩]⟩,
  ⟨"UE_n_ADDR_HI", 0x304, 4, 16, false, [⟨0, 16, .ro, 0, .any⟩]⟩,
  ⟨"UE_n_CLK_LO", 0x308, 4, 16, false, [⟨0, 32, .ro, 0, .any⟩]⟩,
  ⟨"UE_n_CLK_HI", 0x30C, 4, 16, false, [⟨0, 16, .ro, 0, .any⟩]⟩]

/-- The VANE registers (R362, R453): every field with its access code, after-power-up value and legal values. -/
def regsVane : List RegDef := [
  ⟨"CTL", 0x004, 1, 0, false, [⟨0, 1, .rw, 1, .any⟩, ⟨1, 1, .rw, 0, .any⟩, ⟨8, 4, .rw, 5, .rng 1 15⟩, ⟨12, 4, .rw, 4, .any⟩]⟩,
  ⟨"STATUS", 0x008, 1, 0, false, [⟨0, 1, .ro, 0, .any⟩, ⟨1, 1, .ro, 0, .any⟩, ⟨2, 1, .ro, 0, .any⟩, ⟨3, 1, .ro, 0, .any⟩, ⟨4, 1, .ro, 0, .any⟩]⟩,
  ⟨"SLOTS_USED", 0x010, 1, 0, false, [⟨0, 13, .ro, 0, .any⟩]⟩,
  ⟨"LOOP_SEL", 0x014, 1, 0, false, [⟨0, 12, .rw, 0, .any⟩, ⟨16, 1, .rw, 0, .any⟩]⟩,
  ⟨"SET_DEF", 0x018, 1, 0, false, [⟨0, 2, .rw, 0, .rng 0 2⟩]⟩,
  ⟨"THROTTLE", 0x01C, 1, 0, false, [⟨0, 4, .rw, 4, .rng 1 15⟩, ⟨4, 4, .rw, 2, .rng 1 15⟩, ⟨8, 5, .ro, 16, .any⟩]⟩,
  ⟨"W_CFG", 0x020, 1, 0, false, [⟨0, 2, .ro, 0, .any⟩, ⟨2, 1, .ro, 0, .any⟩, ⟨3, 1, .ro, 0, .any⟩, ⟨4, 1, .ro, 0, .any⟩, ⟨5, 1, .ro, 0, .any⟩, ⟨6, 2, .ro, 0, .any⟩, ⟨8, 8, .ro, 0, .any⟩, ⟨16, 8, .ro, 0, .any⟩]⟩,
  ⟨"W_MAP", 0x024, 1, 0, false, [⟨0, 12, .ro, 0, .any⟩, ⟨16, 12, .ro, 0, .any⟩]⟩,
  ⟨"W_K_k", 0x028, 6, 4, false, [⟨0, 32, .ro, 0, .any⟩]⟩,
  ⟨"W_SHIFT_A", 0x040, 1, 0, false, [⟨0, 5, .ro, 0, .any⟩, ⟨8, 5, .ro, 0, .any⟩, ⟨16, 5, .ro, 0, .any⟩]⟩,
  ⟨"W_SHIFT_B", 0x044, 1, 0, false, [⟨0, 5, .ro, 0, .any⟩, ⟨8, 5, .ro, 0, .any⟩, ⟨16, 5, .ro, 0, .any⟩]⟩,
  ⟨"W_OUT_MIN", 0x048, 1, 0, false, [⟨0, 32, .ro, 0, .any⟩]⟩,
  ⟨"W_OUT_MAX", 0x04C, 1, 0, false, [⟨0, 32, .ro, 0, .any⟩]⟩,
  ⟨"W_VMAX", 0x050, 1, 0, false, [⟨0, 32, .ro, 0, .any⟩]⟩,
  ⟨"W_AMAX", 0x054, 1, 0, false, [⟨0, 32, .ro, 0, .any⟩]⟩,
  ⟨"W_JMAX", 0x058, 1, 0, false, [⟨0, 32, .ro, 0, .any⟩]⟩,
  ⟨"W_LOCK_TOL", 0x05C, 1, 0, false, [⟨0, 32, .ro, 0, .any⟩]⟩,
  ⟨"W_TARGET", 0x060, 1, 0, false, [⟨0, 32, .ro, 0, .any⟩]⟩,
  ⟨"S_SP", 0x070, 1, 0, false, [⟨0, 32, .ro, 0, .any⟩]⟩,
  ⟨"S_Y", 0x074, 1, 0, false, [⟨0, 32, .ro, 0, .any⟩]⟩,
  ⟨"S_U", 0x078, 1, 0, false, [⟨0, 32, .ro, 0, .any⟩]⟩,
  ⟨"S_I", 0x07C, 1, 0, false, [⟨0, 32, .ro, 0, .any⟩]⟩,
  ⟨"S_V", 0x080, 1, 0, false, [⟨0, 32, .ro, 0, .any⟩]⟩,
  ⟨"S_A", 0x084, 1, 0, false, [⟨0, 32, .ro, 0, .any⟩]⟩,
  ⟨"S_FLAGS", 0x088, 1, 0, false, [⟨0, 1, .ro, 0, .any⟩, ⟨1, 1, .ro, 0, .any⟩, ⟨2, 1, .ro, 0, .any⟩, ⟨3, 1, .ro, 0, .any⟩, ⟨4, 1, .ro, 0, .any⟩, ⟨5, 1, .ro, 0, .any⟩]⟩,
  ⟨"SAMPLES_LO", 0x090, 1, 0, false, [⟨0, 32, .ro, 0, .any⟩]⟩,
  ⟨"SAMPLES_HI", 0x094, 1, 0, false, [⟨0, 16, .ro, 0, .any⟩]⟩,
  ⟨"MISSES", 0x098, 1, 0, false, [⟨0, 32, .rc, 0, .any⟩]⟩,
  ⟨"LOCK_LOSSES", 0x09C, 1, 0, false, [⟨0, 32, .rc, 0, .any⟩]⟩,
  ⟨"RELOCKS", 0x0A0, 1, 0, false, [⟨0, 32, .rc, 0, .any⟩]⟩,
  ⟨"SWAPS", 0x0A4, 1, 0, false, [⟨0, 32, .rc, 0, .any⟩]⟩,
  ⟨"THROTTLES", 0x0A8, 1, 0, false, [⟨0, 32, .rc, 0, .any⟩]⟩,
  ⟨"LAST_LOST", 0x0AC, 1, 0, false, [⟨0, 12, .ro, 0, .any⟩]⟩,
  ⟨"SUPPLY_FF", 0x0B0, 1, 0, false, [⟨0, 32, .ro, 0, .any⟩]⟩]

/-- The SOURCES registers (R363, R453): every field with its access code, after-power-up value and legal values. -/
def regsSources : List RegDef := [
  ⟨"CTL", 0x004, 1, 0, false, [⟨0, 1, .rw, 1, .any⟩, ⟨1, 1, .rw, 0, .any⟩]⟩,
  ⟨"STATUS", 0x008, 1, 0, false, [⟨0, 3, .ro, 0, .any⟩, ⟨3, 1, .ro, 0, .any⟩, ⟨4, 1, .ro, 0, .any⟩, ⟨5, 1, .ro, 0, .any⟩, ⟨6, 1, .ro, 0, .any⟩]⟩,
  ⟨"MIN_POWER", 0x010, 1, 0, false, [⟨0, 16, .rw, 0xa00, .srng (-5120) (5120)⟩]⟩,
  ⟨"FADE", 0x014, 1, 0, false, [⟨0, 16, .rw, 0xfe80, .srng (-2048) (-128)⟩, ⟨16, 16, .rw, 0xfd00, .srng (-2048) (-128)⟩]⟩,
  ⟨"FILTER_MS", 0x018, 1, 0, false, [⟨0, 10, .rw, 10, .rng 1 1000⟩]⟩,
  ⟨"LAST_EXCHANGE", 0x01C, 1, 0, false, [⟨0, 5, .ro, 31, .any⟩, ⟨8, 5, .ro, 31, .any⟩, ⟨16, 3, .ro, 0, .any⟩]⟩,
  ⟨"EXCHANGES", 0x020, 1, 0, false, [⟨0, 32, .rc, 0, .any⟩]⟩,
  ⟨"FORCED", 0x024, 1, 0, false, [⟨0, 32, .rc, 0, .any⟩]⟩,
  ⟨"WARNINGS", 0x028, 1, 0, false, [⟨0, 32, .rc, 0, .any⟩]⟩,
  ⟨"CRITICALS", 0x02C, 1, 0, false, [⟨0, 32, .rc, 0, .any⟩]⟩,
  ⟨"PREWARM_FAILS", 0x030, 1, 0, false, [⟨0, 32, .rc, 0, .any⟩]⟩,
  ⟨"SRC_s_STATE", 0x100, 20, 16, false, [⟨0, 2, .ro, 3, .any⟩, ⟨4, 4, .ro, 15, .any⟩, ⟨8, 2, .ro, 0, .any⟩, ⟨10, 1, .ro, 0, .any⟩, ⟨11, 1, .ro, 0, .any⟩, ⟨12, 1, .ro, 0, .any⟩]⟩,
  ⟨"SRC_s_POWER", 0x104, 20, 16, false, [⟨0, 16, .ro, 0, .any⟩]⟩,
  ⟨"SRC_s_CAL", 0x108, 20, 16, false, [⟨0, 16, .ro, 0, .any⟩]⟩,
  ⟨"SRC_s_FADE", 0x10C, 20, 16, false, [⟨0, 16, .ro, 0, .any⟩]⟩]

/-- The WINNOW registers (R378, R453): every field with its access code, after-power-up value and legal values. -/
def regsWinnow : List RegDef := [
  ⟨"CTL", 0x004, 1, 0, false, [⟨0, 1, .rw, 1, .any⟩, ⟨1, 1, .rw, 0, .any⟩]⟩,
  ⟨"STATUS", 0x008, 1, 0, false, [⟨0, 10, .ro, 0, .any⟩, ⟨10, 1, .ro, 0, .any⟩]⟩,
  ⟨"TRIGGER", 0x010, 1, 0, false, [⟨0, 16, .rw, 0x200, .rng 64 4096⟩]⟩,
  ⟨"INTERP_STEP", 0x014, 1, 0, false, [⟨0, 16, .rw, 128, .rng 16 1024⟩]⟩,
  ⟨"LIMITS", 0x018, 1, 0, false, [⟨0, 4, .rw, 4, .rng 2 15⟩, ⟨8, 8, .rw, 64, .rng 1 255⟩, ⟨16, 8, .rw, 8, .rng 0 64⟩, ⟨24, 8, .rw, 96, .rng 16 127⟩]⟩,
  ⟨"DEV", 0x01C, 1, 0, false, [⟨0, 16, .rw, 0x200, .rng 1 8192⟩, ⟨16, 8, .rw, 8, .rng 1 64⟩, ⟨24, 8, .rw, 32, .rng 1 128⟩]⟩,
  ⟨"COLLECT", 0x020, 1, 0, false, [⟨0, 14, .rw, 100, .rng 1 10000⟩]⟩,
  ⟨"REJECT_LIMIT", 0x024, 1, 0, false, [⟨0, 11, .rw, 64, .rng 0 1088⟩]⟩,
  ⟨"RUN_DEF", 0x028, 1, 0, false, [⟨0, 1, .rw, 0, .any⟩]⟩,
  ⟨"POINT_k", 0x030, 8, 4, false, [⟨0, 16, .rw, 0x5600, .any⟩]⟩,
  ⟨"ABANDONED", 0x050, 1, 0, false, [⟨0, 32, .rc, 0, .any⟩]⟩,
  ⟨"DET_SEL", 0x060, 1, 0, false, [⟨0, 11, .rw, 0, .rng 0 1087⟩, ⟨12, 4, .rw, 0, .rng 0 9⟩, ⟨16, 4, .rw, 8, .rng 0 9⟩]⟩,
  ⟨"DET_OFS", 0x064, 1, 0, false, [⟨0, 16, .ro, 0, .any⟩]⟩,
  ⟨"DET_RCP", 0x068, 1, 0, false, [⟨0, 16, .ro, 0, .any⟩]⟩,
  ⟨"DET_GUARD", 0x06C, 1, 0, false, [⟨0, 8, .ro, 0, .any⟩]⟩,
  ⟨"APPLIED", 0x070, 1, 0, false, [⟨0, 32, .rc, 0, .any⟩]⟩,
  ⟨"DISCARDED", 0x074, 1, 0, false, [⟨0, 32, .rc, 0, .any⟩]⟩,
  ⟨"DET_REJECTS", 0x078, 1, 0, false, [⟨0, 32, .rc, 0, .any⟩]⟩,
  ⟨"SETS_WRITTEN", 0x07C, 1, 0, false, [⟨0, 32, .rc, 0, .any⟩]⟩,
  ⟨"F_f_STATE", 0x100, 10, 16, false, [⟨0, 8, .ro, 0, .any⟩, ⟨8, 1, .ro, 0, .any⟩, ⟨9, 1, .ro, 0, .any⟩]⟩,
  ⟨"F_f_RUNS", 0x104, 10, 16, false, [⟨0, 32, .rc, 0, .any⟩]⟩,
  ⟨"F_f_LAST_RUN_MS", 0x108, 10, 16, false, [⟨0, 32, .ro, 0, .any⟩]⟩,
  ⟨"F_f_LAST", 0x10C, 10, 16, false, [⟨0, 16, .ro, 0, .any⟩, ⟨16, 11, .ro, 0, .any⟩]⟩]

/-- The LANTERN registers (R402, R453): every field with its access code, after-power-up value and legal values. -/
def regsLantern : List RegDef := [
  ⟨"CTL", 0x004, 1, 0, false, [⟨0, 1, .rw, 1, .any⟩, ⟨1, 1, .rw, 0, .any⟩, ⟨2, 1, .rw, 1, .any⟩]⟩,
  ⟨"STATUS", 0x008, 1, 0, false, [⟨0, 1, .ro, 0, .any⟩, ⟨1, 1, .ro, 0, .any⟩, ⟨2, 3, .ro, 0, .any⟩, ⟨5, 2, .ro, 0, .any⟩, ⟨7, 1, .ro, 0, .any⟩, ⟨8, 1, .ro, 0, .any⟩, ⟨9, 1, .ro, 0, .any⟩]⟩,
  ⟨"THERM_EN", 0x010, 1, 0, false, [⟨0, 8, .rw, 0, .any⟩]⟩,
  ⟨"THERM_LIMITS", 0x014, 1, 0, false, [⟨0, 8, .rw, 100, .rng 80 100⟩, ⟨8, 8, .rw, 115, .rng 100 115⟩, ⟨16, 8, .rw, 85, .rng 40 95⟩, ⟨24, 8, .rw, 10, .rng 5 30⟩]⟩,
  ⟨"HOT", 0x018, 1, 0, false, [⟨0, 8, .rw, 90, .rng 70 100⟩, ⟨8, 8, .rw, 98, .rng 97 110⟩, ⟨16, 8, .rw, 104, .rng 0 112⟩]⟩,
  ⟨"THERM_ALERT_n", 0x020, 8, 4, false, [⟨0, 16, .rw, 0x7fff, .any⟩]⟩,
  ⟨"DIODE_n", 0x040, 32, 4, false, [⟨0, 16, .ro, 0, .any⟩, ⟨16, 1, .ro, 0, .any⟩, ⟨17, 2, .ro, 0, .any⟩]⟩,
  ⟨"THERM_n", 0x0C0, 8, 4, false, [⟨0, 16, .ro, 0, .any⟩, ⟨16, 1, .ro, 0, .any⟩, ⟨17, 2, .ro, 0, .any⟩]⟩,
  ⟨"IDLE_DELAY", 0x0E0, 1, 0, false, [⟨0, 16, .rw, 0x3e8, .rng 10 65535⟩]⟩,
  ⟨"POWER_DEF", 0x0E4, 1, 0, false, [⟨0, 17, .rw, 0, .rng 0 86400⟩]⟩,
  ⟨"NIGHT_SAVE_BASE", 0x0E8, 1, 0, false, [⟨0, 32, .rw, 0, .any⟩]⟩,
  ⟨"NIGHT_SAVE_BYTES", 0x0EC, 1, 0, false, [⟨0, 32, .rw, 0x28000000, .any⟩]⟩,
  ⟨"NIGHT_DEST_LO", 0x0F0, 1, 0, false, [⟨0, 32, .rw, 0xd8000000, .any⟩]⟩,
  ⟨"NIGHT_DEST_HI", 0x0F4, 1, 0, false, [⟨0, 16, .rw, 127, .any⟩]⟩,
  ⟨"SUPPLY_V", 0x0F8, 1, 0, false, [⟨0, 16, .ro, 0, .any⟩]⟩,
  ⟨"UPTIME_LO", 0x100, 1, 0, false, [⟨0, 32, .ro, 0, .any⟩]⟩,
  ⟨"UPTIME_HI", 0x104, 1, 0, false, [⟨0, 16, .ro, 0, .any⟩]⟩,
  ⟨"SUPPLY_HOLDS", 0x110, 1, 0, false, [⟨0, 32, .rc, 0, .any⟩]⟩,
  ⟨"SUPPLY_FAULTS", 0x114, 1, 0, false, [⟨0, 32, .rc, 0, .any⟩]⟩,
  ⟨"HOLD_MS", 0x118, 1, 0, false, [⟨0, 32, .rc, 0, .any⟩]⟩,
  ⟨"THROTTLE_MS", 0x11C, 1, 0, false, [⟨0, 32, .rc, 0, .any⟩]⟩,
  ⟨"THERMAL_SHUTDOWNS", 0x120, 1, 0, false, [⟨0, 32, .rc, 0, .any⟩]⟩,
  ⟨"BROKEN_EVENTS", 0x124, 1, 0, false, [⟨0, 32, .rc, 0, .any⟩]⟩,
  ⟨"WAKES", 0x128, 1, 0, false, [⟨0, 32, .rc, 0, .any⟩]⟩,
  ⟨"WARNS_NO_HOLD", 0x12C, 1, 0, false, [⟨0, 32, .rc, 0, .any⟩]⟩]

/-- The SIEVE registers (R419, R453): every field with its access code, after-power-up value and legal values. -/
def regsSieve : List RegDef := [
  ⟨"CTL", 0x004, 1, 0, false, [⟨0, 1, .rw, 0, .any⟩]⟩,
  ⟨"STATUS", 0x008, 1, 0, false, [⟨0, 1, .ro, 0, .any⟩, ⟨1, 3, .ro, 0, .any⟩, ⟨4, 1, .ro, 0, .any⟩, ⟨5, 1, .ro, 0, .any⟩]⟩,
  ⟨"RUN_DEF", 0x010, 1, 0, false, [⟨0, 1, .rw, 0, .any⟩, ⟨1, 1, .rw, 0, .any⟩, ⟨8, 7, .rw, 1, .rng 1 127⟩]⟩,
  ⟨"PERIOD", 0x014, 1, 0, false, [⟨0, 16, .rw, 10, .rng 1 60000⟩, ⟨16, 16, .rw, 100, .rng 10 65535⟩]⟩,
  ⟨"BANK_SEL", 0x018, 1, 0, false, [⟨0, 11, .rw, 0, .any⟩]⟩,
  ⟨"BANK_MAP", 0x01C, 1, 0, false, [⟨0, 12, .ro, 0, .any⟩]⟩,
  ⟨"SPARES", 0x020, 1, 0, false, [⟨0, 6, .ro, 32, .any⟩, ⟨16, 12, .ro, 0, .any⟩]⟩,
  ⟨"GRANARY_NEXT", 0x024, 1, 0, false, [⟨0, 11, .ro, 0, .any⟩]⟩,
  ⟨"SIG_LO", 0x028, 1, 0, false, [⟨0, 32, .ro, 0, .any⟩]⟩,
  ⟨"SIG_HI", 0x02C, 1, 0, false, [⟨0, 32, .ro, 0, .any⟩]⟩,
  ⟨"EXPECT_LO", 0x030, 1, 0, false, [⟨0, 32, .ro, 0, .any⟩]⟩,
  ⟨"EXPECT_HI", 0x034, 1, 0, false, [⟨0, 32, .ro, 0, .any⟩]⟩,
  ⟨"CLOCK_LO", 0x038, 1, 0, false, [⟨0, 32, .ro, 0, .any⟩]⟩,
  ⟨"CLOCK_HI", 0x03C, 1, 0, false, [⟨0, 16, .ro, 0, .any⟩]⟩,
  ⟨"SLICES", 0x040, 1, 0, false, [⟨0, 32, .rc, 0, .any⟩]⟩,
  ⟨"SLICE_FAILS", 0x044, 1, 0, false, [⟨0, 32, .rc, 0, .any⟩]⟩,
  ⟨"EXT_PAGES", 0x048, 1, 0, false, [⟨0, 32, .rc, 0, .any⟩]⟩,
  ⟨"EXT_FAILS", 0x04C, 1, 0, false, [⟨0, 32, .rc, 0, .any⟩]⟩,
  ⟨"RUNS", 0x050, 1, 0, false, [⟨0, 32, .rc, 0, .any⟩]⟩,
  ⟨"UNIT_FAILS", 0x054, 1, 0, false, [⟨0, 32, .rc, 0, .any⟩]⟩,
  ⟨"REPAIRS", 0x058, 1, 0, false, [⟨0, 32, .rc, 0, .any⟩]⟩,
  ⟨"LOG_CLEAR", 0x05C, 1, 0, false, [⟨0, 1, .wo, 0, .any⟩]⟩,
  ⟨"FAULT_n_ADDR", 0x100, 8, 16, false, [⟨0, 32, .ro, 0, .any⟩]⟩,
  ⟨"FAULT_n_INFO", 0x104, 8, 16, false, [⟨0, 16, .ro, 0, .any⟩, ⟨16, 3, .ro, 0, .any⟩, ⟨20, 12, .ro, 0, .any⟩]⟩,
  ⟨"FAULT_n_CLK_LO", 0x108, 8, 16, false, [⟨0, 32, .ro, 0, .any⟩]⟩,
  ⟨"FAULT_n_CLK_HI", 0x10C, 8, 16, false, [⟨0, 16, .ro, 0, .any⟩]⟩]

/-- The HASP registers (R430, R453): every field with its access code, after-power-up value and legal values. -/
def regsHasp : List RegDef := [
  ⟨"CTL", 0x004, 1, 0, false, [⟨0, 1, .rw, 0, .any⟩]⟩,
  ⟨"STATUS", 0x008, 1, 0, false, [⟨0, 2, .ro, 0, .any⟩, ⟨2, 1, .ro, 0, .any⟩, ⟨3, 1, .ro, 0, .any⟩, ⟨4, 1, .ro, 0, .any⟩, ⟨5, 1, .ro, 0, .any⟩, ⟨6, 1, .ro, 0, .any⟩]⟩,
  ⟨"FUSED_SVN", 0x010, 1, 0, false, [⟨0, 7, .ro, 0, .any⟩]⟩,
  ⟨"KEY_STATE", 0x014, 1, 0, false, [⟨0, 4, .ro, 0, .any⟩, ⟨4, 4, .ro, 0, .any⟩]⟩,
  ⟨"FW_SLOT", 0x018, 1, 0, false, [⟨0, 2, .ro, 0, .any⟩]⟩,
  ⟨"FW_VERSION", 0x01C, 1, 0, false, [⟨0, 32, .ro, 0, .any⟩]⟩,
  ⟨"FW_SVN", 0x020, 1, 0, false, [⟨0, 7, .ro, 0, .any⟩]⟩,
  ⟨"LOAD_TOTAL", 0x024, 1, 0, false, [⟨0, 25, .ro, 0, .any⟩]⟩,
  ⟨"LOAD_WRITTEN", 0x028, 1, 0, false, [⟨0, 25, .ro, 0, .any⟩]⟩,
  ⟨"LAST_FAIL", 0x02C, 1, 0, false, [⟨0, 16, .ro, 0, .any⟩]⟩,
  ⟨"FW_MEAS_n", 0x030, 12, 4, false, [⟨0, 32, .ro, 0, .any⟩]⟩,
  ⟨"SERIAL_HI", 0x060, 1, 0, false, [⟨0, 32, .ro, 0, .any⟩]⟩,
  ⟨"SERIAL_LO", 0x064, 1, 0, false, [⟨0, 32, .ro, 0, .any⟩]⟩,
  ⟨"VERIFY_FAILS", 0x070, 1, 0, false, [⟨0, 32, .rc, 0, .any⟩]⟩,
  ⟨"ATTESTS", 0x074, 1, 0, false, [⟨0, 32, .rc, 0, .any⟩]⟩,
  ⟨"BURNS", 0x078, 1, 0, false, [⟨0, 32, .rc, 0, .any⟩]⟩,
  ⟨"REPORT_SEQ", 0x07C, 1, 0, false, [⟨0, 32, .ro, 0, .any⟩]⟩]

/-- The LEDGER registers (R444, R453): every field with its access code, after-power-up value and legal values. -/
def regsLedger : List RegDef := [
  ⟨"CTL", 0x004, 1, 0, false, [⟨0, 1, .rw, 0, .any⟩]⟩,
  ⟨"STATUS", 0x008, 1, 0, false, [⟨0, 1, .ro, 0, .any⟩, ⟨1, 1, .ro, 0, .any⟩, ⟨2, 1, .ro, 0, .any⟩]⟩,
  ⟨"NEXT_SEQ", 0x010, 1, 0, false, [⟨0, 32, .ro, 0, .any⟩]⟩,
  ⟨"OLDEST_SEQ", 0x014, 1, 0, false, [⟨0, 32, .ro, 0, .any⟩]⟩,
  ⟨"BOOT_COUNT", 0x018, 1, 0, false, [⟨0, 32, .ro, 0, .any⟩]⟩,
  ⟨"ALERT_CAUSE", 0x01C, 1, 0, false, [⟨0, 1, .ro, 0, .any⟩, ⟨1, 1, .ro, 0, .any⟩, ⟨2, 1, .w1c, 0, .any⟩, ⟨3, 1, .ro, 0, .any⟩, ⟨4, 1, .ro, 0, .any⟩]⟩,
  ⟨"ALERT_MASK", 0x020, 1, 0, false, [⟨0, 5, .rw, 31, .any⟩, ⟨8, 3, .rw, 3, .rng 1 4⟩]⟩,
  ⟨"EVENT_NEXT", 0x024, 1, 0, false, [⟨0, 32, .ro, 0, .any⟩]⟩,
  ⟨"EVENT_OLDEST", 0x028, 1, 0, false, [⟨0, 32, .ro, 0, .any⟩]⟩,
  ⟨"SUPPRESSED", 0x02C, 1, 0, false, [⟨0, 32, .rc, 0, .any⟩]⟩,
  ⟨"INVALID", 0x030, 1, 0, false, [⟨0, 32, .rc, 0, .any⟩]⟩,
  ⟨"WRITES", 0x034, 1, 0, false, [⟨0, 32, .rc, 0, .any⟩]⟩]

/-- The blocks of the configuration space, with base, instances, stride, span and TYPE code (R445). -/
def blockTable : List BlockDef := [
  ⟨.global, 0x00000000, 1, 0x10000, 0x10000, 1, regsGlobal⟩,
  ⟨.walong, 0x00010000, 1, 0x10000, 0x10000, 2, regsWalong⟩,
  ⟨.reaper, 0x00020000, 1, 0x10000, 0x10000, 3, regsReaper⟩,
  ⟨.thresher, 0x00030000, 1, 0x10000, 0x10000, 4, regsThresher⟩,
  ⟨.furrow, 0x00100000, 10, 0x10000, 0x10000, 5, regsFurrow⟩,
  ⟨.tally, 0x00200000, 10, 0x1000, 0x1000, 6, regsTally⟩,
  ⟨.windrow, 0x0020F000, 1, 0x1000, 0x1000, 7, regsWindrow⟩,
  ⟨.mill, 0x00300000, 64, 0x1000, 0x1000, 8, regsMill⟩,
  ⟨.gleaner, 0x00400000, 8, 0x1000, 0x1000, 9, regsGleaner⟩,
  ⟨.memctl, 0x00500000, 40, 0x1000, 0x1000, 10, regsMemctl⟩,
  ⟨.vane, 0x00600000, 1, 0x10000, 0x10000, 11, regsVane⟩,
  ⟨.sources, 0x00610000, 1, 0x10000, 0x10000, 12, regsSources⟩,
  ⟨.winnow, 0x00700000, 1, 0x10000, 0x10000, 13, regsWinnow⟩,
  ⟨.lantern, 0x00800000, 1, 0x10000, 0x10000, 14, regsLantern⟩,
  ⟨.sieve, 0x00900000, 1, 0x10000, 0x10000, 15, regsSieve⟩,
  ⟨.hasp, 0x00A00000, 1, 0x10000, 0x10000, 16, regsHasp⟩,
  ⟨.ledger, 0x00B00000, 1, 0x10000, 0x10000, 17, regsLedger⟩]

/-- Where an address lies: the block row, the instance, and the offset in its span (R445). -/
structure Place where
  b : BlockDef
  inst : Nat
  off : Nat
  deriving DecidableEq, Repr

/-- The place of an address in one block row. -/
def BlockDef.place (b : BlockDef) (a : Nat) : Option Place :=
  if a < b.base then none
  else
    let i := (a - b.base) / b.stride
    let o := (a - b.base) % b.stride
    if i < b.count ∧ o < b.span then some ⟨b, i, o⟩ else none

/-- The span that holds an address, if any (R445, R448). -/
def placeOf (a : Nat) : Option Place := blockTable.findSome? (fun b => b.place a)

/-- The place of an offset in one register row: the index in the array. -/
def RegDef.index (r : RegDef) (o : Nat) : Option Nat :=
  if o < r.off then none
  else if r.cnt ≤ 1 then (if o = r.off then some 0 else none)
  else if (o - r.off) % r.stride = 0 ∧ (o - r.off) / r.stride < r.cnt then some ((o - r.off) / r.stride) else none

/-- The session registers exist in GLEANER instance 0 only (R291, R449). -/
def Place.absent (p : Place) : Bool := p.b.blk = .gleaner && p.inst ≠ 0 && (0x60 ≤ p.off && p.off ≤ 0x6C)

/-- The register at an address, with its place and array index; none for ID, unused offsets and no span. -/
def regAt (a : Nat) : Option (Place × RegDef × Nat) :=
  (placeOf a).bind fun p =>
    if p.absent then none else p.b.regs.findSome? fun r => (r.index p.off).map fun i => (p, r, i)

/-- The after-power-up word that a register's fields spell (R5). -/
def RegDef.resetWord (r : RegDef) : Nat := r.flds.foldl (fun n f => n + f.rst * 2 ^ f.lo) 0

/-- The after-power-up value of the register at an address: fields of the table; POINT_k rises by 0x0400 (R378); an
unused offset reads as 0 (R449). -/
def resetWord (a : Nat) : Nat :=
  match regAt a with
  | none => 0
  | some (p, r, i) => if p.b.blk = .winnow ∧ r.name = "POINT_k" then r.resetWord + i * 0x400 else r.resetWord

/-- The bit that freezes a block's counters, where its CTL has one (R447). -/
def Blk.freezeBit : Blk → Option Nat
  | .tally => some 0
  | .mill => some 1
  | .gleaner => some 0
  | .memctl => some 1
  | .vane => some 1
  | .sources => some 1
  | .winnow => some 1
  | .lantern => some 1
  | .sieve => some 0
  | .hasp => some 0
  | .ledger => some 0
  | _ => none

/-- The BLOCK code of a failure payload: bits 31:16 of the block's configuration base (R70). -/
def Blk.code : Blk → Nat
  | .global => 0x0000
  | .walong => 0x0001
  | .reaper => 0x0002
  | .thresher => 0x0003
  | .furrow => 0x0010
  | .tally => 0x0020
  | .windrow => 0x0020
  | .mill => 0x0030
  | .gleaner => 0x0040
  | .memctl => 0x0050
  | .vane => 0x0060
  | .sources => 0x0061
  | .winnow => 0x0070
  | .lantern => 0x0080
  | .sieve => 0x0090
  | .hasp => 0x00A0
  | .ledger => 0x00B0

/-- Addresses of registers, block by block (R445). -/
def aGlobal (o : Nat) : Nat := o
def aWalong (o : Nat) : Nat := 0x10000 + o
def aReaper (o : Nat) : Nat := 0x20000 + o
def aThresher (o : Nat) : Nat := 0x30000 + o
def aFurrow (f o : Nat) : Nat := 0x100000 + f * 0x10000 + o
def aTally (t o : Nat) : Nat := 0x200000 + t * 0x1000 + o
def aWindrow (o : Nat) : Nat := 0x20F000 + o
def aMill (m o : Nat) : Nat := 0x300000 + m * 0x1000 + o
def aGleaner (g o : Nat) : Nat := 0x400000 + g * 0x1000 + o
def aMemctl (c o : Nat) : Nat := 0x500000 + c * 0x1000 + o
def aVane (o : Nat) : Nat := 0x600000 + o
def aSources (o : Nat) : Nat := 0x610000 + o
def aWinnow (o : Nat) : Nat := 0x700000 + o
def aLantern (o : Nat) : Nat := 0x800000 + o
def aSieve (o : Nat) : Nat := 0x900000 + o
def aHasp (o : Nat) : Nat := 0xA00000 + o
def aLedger (o : Nat) : Nat := 0xB00000 + o

end Sys2Proof.Machine
end

