-- ==== Sys2Proof/Machine/Flags.lean ====
section
/-!
DEFINITION. The flags of a reply: status codes (R78), the opcodes and the device states that accept them (R72), and the
field checks of R67 as values: each check names its field's offset and the failure it gives.
-/
namespace Sys2Proof.Machine

def stOk : Nat := 0x0000
def stNothing : Nat := 0x0001
def stDegraded : Nat := 0x0002
def stBadOpcode : Nat := 0x1001
def stBadLength : Nat := 0x1002
def stFieldRange : Nat := 0x1003
def stWrongState : Nat := 0x1004
def stLaneHeld : Nat := 0x1005
def stAddrRange : Nat := 0x1006
def stZeroShape : Nat := 0x1007
def stProgramInvalid : Nat := 0x1008
def stMemUncorrectable : Nat := 0x2001
def stMcastTimeout : Nat := 0x2002
def stStreamSkew : Nat := 0x2003
def stSourceFade : Nat := 0x2004
def stGateTimeout : Nat := 0x2005
def stCancelled : Nat := 0x2006
def stTallySaturated : Nat := 0x2007
def stAmbiguityLimit : Nat := 0x2008
def stCheckMismatch : Nat := 0x2009
def stTagTimeout : Nat := 0x200A
def stStallTimeout : Nat := 0x200B
def stSupplyFault : Nat := 0x200C
def stThermalShutdown : Nat := 0x3001
def stSensorLost : Nat := 0x3002
def stFurrowLost : Nat := 0x3003
def stSigInvalid : Nat := 0x4001
def stRollback : Nat := 0x4002
def stImageFormat : Nat := 0x4003

/-- The entries of the legality table of R72. -/
inductive Legality where
  | y | w | l | n
  deriving DecidableEq, Repr

/-- One row of R72: opcode, command, whether it has an expert form, and its legality in BOOT, CONFIG, READY, RUN, IDLE,
DOZE or NIGHT, and FAULT. -/
structure CmdRow where
  opcode : Nat
  name : String
  expert : Bool
  states : List Legality
  deriving DecidableEq, Repr

/-- The opcodes and the states that accept them (R72). -/
def cmdTable : List CmdRow := [
  ⟨0x0001, "IDENTIFY", false, [.y, .y, .y, .y, .y, .y, .y]⟩,
  ⟨0x0002, "PING", false, [.y, .y, .y, .y, .y, .y, .y]⟩,
  ⟨0x0003, "SET_NET", true, [.y, .y, .y, .y, .y, .y, .y]⟩,
  ⟨0x0004, "HOST_WATCHDOG", true, [.n, .y, .y, .y, .y, .y, .y]⟩,
  ⟨0x0101, "CFG_READ", false, [.l, .y, .y, .y, .y, .y, .y]⟩,
  ⟨0x0102, "CFG_WRITE", false, [.l, .y, .y, .y, .y, .y, .l]⟩,
  ⟨0x0103, "CFG_WRITE_MASKED", false, [.l, .y, .y, .y, .y, .y, .l]⟩,
  ⟨0x0201, "MEM_WRITE", false, [.n, .y, .y, .y, .y, .w, .n]⟩,
  ⟨0x0202, "MEM_READ", false, [.n, .y, .y, .y, .y, .w, .y]⟩,
  ⟨0x0203, "MEM_FILL", false, [.n, .y, .y, .y, .y, .w, .n]⟩,
  ⟨0x0204, "MEM_COPY", false, [.n, .y, .y, .y, .y, .w, .n]⟩,
  ⟨0x0205, "REGION_SET", true, [.n, .y, .y, .n, .y, .w, .n]⟩,
  ⟨0x0301, "PROGRAM_LOAD", false, [.n, .y, .y, .y, .y, .w, .n]⟩,
  ⟨0x0302, "PROGRAM_CHECK", false, [.n, .y, .y, .y, .y, .w, .n]⟩,
  ⟨0x0401, "SESSION_OPEN", true, [.n, .y, .y, .y, .y, .w, .n]⟩,
  ⟨0x0402, "SESSION_CLOSE", false, [.n, .y, .y, .y, .y, .w, .n]⟩,
  ⟨0x0403, "STEP_RUN", true, [.n, .n, .y, .y, .w, .w, .n]⟩,
  ⟨0x0404, "TASK_CANCEL", false, [.n, .y, .y, .y, .y, .y, .y]⟩,
  ⟨0x0405, "LANE_RESUME", false, [.n, .y, .y, .y, .y, .y, .y]⟩,
  ⟨0x0406, "SESSION_COMMIT", false, [.n, .n, .y, .y, .y, .w, .n]⟩,
  ⟨0x0407, "SESSION_ROLLBACK", false, [.n, .n, .y, .y, .y, .w, .n]⟩,
  ⟨0x0408, "TASK_STATUS", false, [.n, .y, .y, .y, .y, .y, .y]⟩,
  ⟨0x0501, "ENGINE_START", true, [.n, .y, .n, .n, .n, .n, .n]⟩,
  ⟨0x0502, "ENGINE_STOP", false, [.n, .n, .y, .n, .y, .n, .n]⟩,
  ⟨0x0503, "WINNOW_RUN", true, [.n, .n, .y, .y, .y, .n, .n]⟩,
  ⟨0x0504, "MARGIN_TEST", true, [.n, .n, .y, .n, .y, .n, .n]⟩,
  ⟨0x0505, "VANE_LOOP_SET", true, [.n, .y, .y, .y, .y, .y, .n]⟩,
  ⟨0x0506, "VANE_BANK_SWAP", false, [.n, .y, .y, .y, .y, .y, .n]⟩,
  ⟨0x0507, "SOURCE_SPARE", false, [.n, .n, .y, .y, .y, .n, .n]⟩,
  ⟨0x0601, "POWER_STATE", true, [.n, .n, .y, .n, .y, .y, .n]⟩,
  ⟨0x0602, "THERMAL_READ", false, [.y, .y, .y, .y, .y, .y, .y]⟩,
  ⟨0x0701, "SIEVE_RUN", true, [.n, .y, .y, .n, .y, .w, .n]⟩,
  ⟨0x0702, "SIEVE_PERIODIC", true, [.n, .y, .y, .y, .y, .y, .n]⟩,
  ⟨0x0703, "ECC_FLIP_ARM", false, [.n, .y, .y, .n, .y, .w, .n]⟩,
  ⟨0x0801, "FW_LOAD_BEGIN", false, [.y, .n, .n, .n, .n, .n, .n]⟩,
  ⟨0x0802, "FW_LOAD_DATA", false, [.y, .n, .n, .n, .n, .n, .n]⟩,
  ⟨0x0803, "FW_LOAD_END", false, [.y, .n, .n, .n, .n, .n, .n]⟩,
  ⟨0x0804, "ATTEST", false, [.n, .y, .y, .y, .y, .y, .y]⟩,
  ⟨0x0805, "CERT_READ", false, [.y, .y, .y, .y, .y, .y, .y]⟩,
  ⟨0x0901, "LEDGER_READ", false, [.y, .y, .y, .y, .y, .y, .y]⟩,
  ⟨0x0902, "LEDGER_CLEAR", false, [.n, .y, .y, .y, .y, .y, .y]⟩,
  ⟨0x0903, "COUNTERS_READ", false, [.n, .y, .y, .y, .y, .y, .y]⟩,
  ⟨0x0904, "EVENTS_READ", false, [.n, .y, .y, .y, .y, .y, .y]⟩]

/-- The column of R72 for a device state; OFF, LANTERN and SHUTDOWN accept nothing (R53). -/
def DState.column : DState → Option Nat
  | .boot => some 0
  | .config => some 1
  | .ready => some 2
  | .run => some 3
  | .idle => some 4
  | .doze => some 5
  | .night => some 5
  | .fault => some 6
  | .off => none
  | .lantern => none
  | .shutdown => none

/-- The legality of a command in a device state (R72). -/
def legality (opcode : Nat) (d : DState) : Legality :=
  match cmdTable.find? (fun r => r.opcode = opcode), d.column with
  | some r, some c => r.states.getD c .n
  | _, _ => .n

/-- Whether an opcode is known, and its expert form too where bit 15 is set (R57 check 11, R75). -/
def opcodeKnown (opcode : Nat) (expert : Bool) : Bool :=
  cmdTable.any (fun r => r.opcode = opcode && (!expert || r.expert))

/-- The STATE code of GLOBAL.STATUS (R106). -/
def DState.code : DState → Nat
  | .off => 0
  | .lantern => 1
  | .boot => 2
  | .config => 3
  | .ready => 4
  | .run => 5
  | .idle => 6
  | .doze => 7
  | .night => 8
  | .fault => 9
  | .shutdown => 10

/-- A check that gives nothing when it holds, else the failure (R67). -/
def need (ok : Bool) (f : Failure) : Option Failure := if ok then none else some f

/-- FIELD_RANGE at an offset, DETAIL the field's value (R78). -/
def fRange (off v : Nat) : Failure := { status := stFieldRange, field := off, detail := v }

/-- ZERO_SHAPE at an offset. -/
def fZero (off : Nat) : Failure := { status := stZeroShape, field := off }

/-- ADDR_RANGE at an offset, DETAIL the first address outside (R78). -/
def fAddr (off a : Nat) : Failure := { status := stAddrRange, field := off, detail := a }

/-- A value within its legal range. -/
def inRange (off v lo hi : Nat) : Option Failure := need (lo ≤ v && v ≤ hi) (fRange off v)

/-- A reserved field must be 0 (R4). -/
def rsvZero (off v : Nat) : Option Failure := need (v = 0) (fRange off v)

/-- A shape field: 0 gives ZERO_SHAPE, outside its range FIELD_RANGE (R79). -/
def shape (off v lo hi : Nat) : Option Failure := if v = 0 then some (fZero off) else inRange off v lo hi

/-- The first check of a list that fails decides (R67). -/
def firstFailure : List (Option Failure) → Option Failure
  | [] => none
  | some f :: _ => some f
  | none :: t => firstFailure t

end Sys2Proof.Machine
end

