-- ==== Sys2Proof/Machine/Ops.lean ====
section
/-!
DEFINITION. The named operations over the state that the commands share: keyed lists in one canonical form, byte order
(R2, R3), the register file, counters, records and their way into the event ring and the Ledger (R433 to R438), lanes
and replies (R58 to R71), free values.
-/
namespace Sys2Proof.Machine

/-! ### Keyed lists, ascending, without repeats -/

/-- The value at a key. -/
def look {β : Type} : List (Nat × β) → Nat → Option β
  | [], _ => none
  | (k', v) :: t, k => if k = k' then some v else look t k

/-- The list with the value at a key set, keys ascending. -/
def put {β : Type} : List (Nat × β) → Nat → β → List (Nat × β)
  | [], k, v => [(k, v)]
  | (k', v') :: t, k, v =>
    if k < k' then (k, v) :: (k', v') :: t
    else if k = k' then (k, v) :: t
    else (k', v') :: put t k v

/-- The list without a key. -/
def del {β : Type} : List (Nat × β) → Nat → List (Nat × β)
  | [], _ => []
  | (k', v') :: t, k => if k = k' then t else (k', v') :: del t k

/-- The list with a value set where `dflt` is what an unlisted key reads as: that value is not listed. -/
def putD {β : Type} [DecidableEq β] (dflt : β) (l : List (Nat × β)) (k : Nat) (v : β) : List (Nat × β) :=
  if v = dflt then del l k else put l k v

/-- The element of a list replaced at an index (unchanged beyond its end). -/
def setAt {β : Type} : List β → Nat → β → List β
  | [], _, _ => []
  | _ :: t, 0, v => v :: t
  | x :: t, n + 1, v => x :: setAt t n v

/-! ### Bytes -/

/-- A number as `n` bytes, most significant first (R2). -/
def be : Nat → Nat → List Byte
  | 0, _ => []
  | n + 1, v => BitVec.ofNat 8 (v / 256 ^ n) :: be n v

/-- A number as `n` bytes, least significant first (R3). -/
def le : Nat → Nat → List Byte
  | 0, _ => []
  | n + 1, v => BitVec.ofNat 8 v :: le n (v / 256)

/-- Bytes read most significant first. -/
def ofBe (l : List Byte) : Nat := l.foldl (fun n b => n * 256 + b.toNat) 0

/-- Bytes read least significant first. -/
def ofLe : List Byte → Nat
  | [] => 0
  | b :: t => b.toNat + 256 * ofLe t

/-- An n-bit pattern read as two's complement. -/
def asSigned (n v : Nat) : Int := if v % 2 ^ n < 2 ^ (n - 1) then ((v % 2 ^ n : Nat) : Int) else ((v % 2 ^ n : Nat) : Int) - (2 : Int) ^ n

/-- The n-bit two's complement pattern of an integer. -/
def ofSigned (n : Nat) (i : Int) : Nat := (i % (2 : Int) ^ n).toNat

/-- Bits hi:lo of a number, by lowest bit and width. -/
def bitsOf (v lo w : Nat) : Nat := v / 2 ^ lo % 2 ^ w

/-- Bit k of a number. -/
def bitOf (v k : Nat) : Bool := v / 2 ^ k % 2 = 1

/-- A truth value as a bit. -/
def b2n (b : Bool) : Nat := if b then 1 else 0

/-! ### The register file -/

/-- The stored word of a register: its after-power-up value until it changes (R5). -/
def State.reg (s : State) (a : Nat) : Nat := ((look s.regs a).map BitVec.toNat).getD (resetWord a)

/-- A register's stored word set. -/
def State.setReg (s : State) (a v : Nat) : State :=
  { s with regs := putD (BitVec.ofNat 32 (resetWord a)) s.regs a (BitVec.ofNat 32 v) }

/-- A field of a register. -/
def State.fld (s : State) (a lo w : Nat) : Nat := bitsOf (s.reg a) lo w

/-- A field of a register set, the other bits kept. -/
def State.setFld (s : State) (a lo w v : Nat) : State :=
  s.setReg a (s.reg a - s.fld a lo w * 2 ^ lo + v % 2 ^ w * 2 ^ lo)

/-- The counters of the block instance that holds an address are frozen (R447). -/
def State.frozen (s : State) (a : Nat) : Bool :=
  match placeOf a with
  | none => false
  | some p =>
    match p.b.blk.freezeBit with
    | none => false
    | some k => bitOf (s.reg (p.b.base + p.inst * p.b.stride + 4)) k

/-- A 32-bit counter raised, saturating at 0xFFFF_FFFF, unless its block is frozen (R447). -/
def State.bump (s : State) (a : Nat) (n : Nat := 1) : State :=
  if s.frozen a then s else s.setReg a (min (s.reg a + n) 0xFFFFFFFF)

/-- A 48-bit counter of a block, by the address of its _LO register (R172). -/
def State.ctr (s : State) (a : Nat) : Nat := (look s.ctrs a).getD 0

/-- A 48-bit counter raised, modulo 2^48. -/
def State.bump48 (s : State) (a n : Nat) : State :=
  if s.frozen a then s else { s with ctrs := putD 0 s.ctrs a ((s.ctr a + n) % 2 ^ 48) }

/-- A 48-bit counter cleared. -/
def State.clear48 (s : State) (a : Nat) : State := { s with ctrs := putD 0 s.ctrs a 0 }

/-! ### Time -/

/-- The Lantern uptime counter in milliseconds: 4,000 ticks each (R456). -/
def State.uptime (s : State) : Nat := s.clocks.tick / 4000

/-- The counter a record of a block carries, with its CLOCK_KIND (R443). -/
def State.blockClock (s : State) : Option Blk → Nat × Nat
  | some .furrow => (1, s.clocks.sym % 2 ^ 48)
  | some .reaper => (2, s.clocks.cyc % 2 ^ 48)
  | some .tally => (2, s.clocks.cyc % 2 ^ 48)
  | some .mill => (2, s.clocks.cyc % 2 ^ 48)
  | some .gleaner => (2, s.clocks.cyc % 2 ^ 48)
  | some .memctl => (2, s.clocks.cyc % 2 ^ 48)
  | some .sieve => (2, s.clocks.cyc % 2 ^ 48)
  | some .vane => (3, s.clocks.samples % 2 ^ 48)
  | some .sources => (3, s.clocks.samples % 2 ^ 48)
  | _ => (4, s.uptime % 2 ^ 48)

/-! ### Free values -/

/-- The next free value: its number is taken from the state and counted (log entry 3). -/
def State.takeFree (s : State) : Nat × State := (Config.freeNat s.free, { s with free := s.free + 1 })

/-! ### Records -/

/-- Where a record of a kind is written: event ring, Ledger, and whether it sets the alert latch (R434). FUSE_BURN sets
the latch on BURN_FAIL, which its DETAIL tells. -/
def kindPlaces (kind detail : Nat) : Bool × Bool × Bool :=
  match kind with
  | 0x0001 => (true, false, false)
  | 0x0002 => (false, true, false)
  | 0x0003 => (false, true, true)
  | 0x0004 => (false, true, false)
  | 0x0005 => (false, true, false)
  | 0x0006 => (false, true, false)
  | 0x0007 => (true, true, bitOf detail 0)
  | 0x0010 => (true, false, false)
  | 0x0011 => (true, true, true)
  | 0x0012 => (true, true, true)
  | 0x0013 => (true, false, false)
  | 0x0014 => (true, false, false)
  | 0x0020 => (true, true, false)
  | 0x0021 => (true, true, true)
  | 0x0022 => (true, false, false)
  | 0x0023 => (true, true, false)
  | 0x0024 => (true, false, false)
  | 0x0030 => (true, false, false)
  | 0x0031 => (true, false, false)
  | 0x0032 => (true, true, false)
  | 0x0033 => (true, true, false)
  | 0x0040 => (true, true, false)
  | 0x0041 => (true, false, false)
  | 0x0042 => (true, true, true)
  | 0x0043 => (false, true, true)
  | 0x0044 => (true, false, false)
  | 0x0050 => (true, false, false)
  | 0x0051 => (true, true, false)
  | 0x0052 => (true, false, false)
  | _ => (false, false, false)

/-- The kinds whose records are never suppressed (R438). -/
def neverSuppressed (kind : Nat) : Bool :=
  kind = 0x0002 || kind = 0x0003 || kind = 0x0004 || kind = 0x0005 || kind = 0x0012 || kind = 0x0042 || kind = 0x0043

/-- Records of a kind already counted in a whole second of uptime. -/
def secondCount (l : List (Nat × Nat × Nat)) (kind sec : Nat) : Nat :=
  match l.find? (fun e => e.1 = kind && e.2.1 = sec) with
  | some e => e.2.2
  | none => 0

/-- A record queued for the Ledger, unless 32 of its kind already fell in this second (R438). -/
def State.queueLedger (s : State) (r : Record) : State :=
  let sec := r.uptime / 1000
  let n := secondCount s.ledger.perSecond r.kind sec
  if n ≥ 32 ∧ ¬ neverSuppressed r.kind then s.bump (aLedger 0x2C)
  else
    { s with ledger := { s.ledger with
        waiting := s.ledger.waiting ++ [r]
        perSecond := (r.kind, sec, n + 1) :: s.ledger.perSecond.filter (fun e => !(e.1 = r.kind) && e.2.1 = sec) } }

/-- An event entered in the ring of the last 1,024 and put in line for sending (R435, R65). -/
def State.enterEvent (s : State) (r : Record) : State :=
  let ring := s.events.ring ++ [r]
  { s with events := { s.events with
      next := (s.events.next + 1) % 2 ^ 32
      ring := ring.drop (ring.length - 1024)
      unsent := s.events.unsent ++ [r] } }

/-- A record raised (R434): stamped with BOOT_COUNT, uptime and a clock with its kind (R443), entered where its kind is
written, and setting the alert latch where its kind does (R441). -/
def State.raiseAt (s : State) (r : Record) (ck : Nat × Nat) : State :=
  let pl := kindPlaces r.kind r.detail
  let r := { r with
    flags := b2n pl.1 + 2 * b2n pl.2.1 + 4 * b2n pl.2.2
    clockKind := ck.1, clock := ck.2, boot := s.ledger.bootCount, uptime := s.uptime % 2 ^ 48
    eventSeq := if pl.1 then s.events.next else 0xFFFFFFFF }
  let s := if pl.1 then s.enterEvent r else s
  let s := if pl.2.1 then s.queueLedger r else s
  if pl.2.2 then { s with lantern := { s.lantern with latch := true } } else s

/-- A record raised with its block's clock of now. -/
def State.raise (s : State) (r : Record) (blk : Option Blk := none) : State := s.raiseAt r (s.blockClock blk)

/-- The block with a counter that a failure payload names: the Windrow, which shares BLOCK 0x0020 with the Tallies, has none
(R70, R443). -/
def blkOfFailure (f : Failure) : Option Blk :=
  match f.block with
  | 0x0002 => some .reaper
  | 0x0010 => some .furrow
  | 0x0020 => if f.inst < 10 then some .tally else none
  | 0x0030 => some .mill
  | 0x0040 => some .gleaner
  | 0x0050 => some .memctl
  | 0x0060 => some .vane
  | 0x0061 => some .sources
  | 0x0090 => some .sieve
  | _ => none

/-- The clock of the block in which a failure has been detected now, with its kind (R443). -/
def State.failClock (s : State) (f : Failure) : Nat × Nat := s.blockClock (blkOfFailure f)

/-! ### ALERT_N -/

/-- The alert conditions of R441 as bits. -/
def State.alertCause (s : State) : Nat :=
  b2n (s.dev = .fault)
    + 2 * b2n (s.dev = .shutdown && (s.lantern.shutCause = some .supply || s.lantern.shutCause = some .thermal))
    + 4 * b2n s.lantern.latch
    + 8 * b2n s.lantern.warn
    + 16 * b2n (s.fld (aLedger 0x20) 8 3 ≤ s.lantern.throttle)

/-- The ALERT_N pin: none is high-impedance (OFF, R35), some true is driven low (R441). -/
def State.alertN (s : State) : Option Bool :=
  if s.dev = .off then none else some (s.alertCause &&& s.fld (aLedger 0x20) 0 5 ≠ 0)

/-! ### Sending -/

/-- The 802.1Q tag of a frame sent now (R45). -/
def State.vlanTag (s : State) : Option (Nat × Nat) :=
  if bitOf (s.reg (aWalong 0x18)) 16 then some (s.fld (aWalong 0x18) 0 12, s.fld (aWalong 0x18) 12 3) else none

/-- The Ethernet port is up: from BOOT on, except in OFF, LANTERN and SHUTDOWN (R53), and its link holds. -/
def State.portUp (s : State) : Bool :=
  s.net.link && s.dev ≠ .off && s.dev ≠ .lantern && s.dev ≠ .shutdown

/-- A frame put on the wire; nothing leaves while the port is down. -/
def State.send (s : State) (k : OutKind) : State :=
  if s.portUp then { s with net := { s.net with sent := s.net.sent ++ [⟨s.vlanTag, k⟩] } } else s

/-- The lane with a number. -/
def State.lane (s : State) (l : Nat) : Lane := s.lanes.getD l {}

/-- A lane replaced. -/
def State.setLane (s : State) (l : Nat) (x : Lane) : State := { s with lanes := setAt s.lanes l x }

/-- The opcode field of a request or reply: bit 15 is the expert form (R54). -/
def opcodeField (op : Nat) (expert : Bool) : Nat := op + (if expert then 0x8000 else 0)

/-- The data of a reply cut into fragments of at most 8,964 B (R56). -/
def chunksOf : Nat → List Byte → List (List Byte)
  | 0, _ => []
  | fuel + 1, l => if l.length ≤ 8964 then [l] else l.take 8964 :: chunksOf fuel (l.drop 8964)

/-- The packets of a reply (R56): one, or fragments that each begin with their index, MORE set in all but the last. -/
def Reply.packets (r : Reply) (e : Nat) : List WPacket :=
  let mk (flags : Nat) (p : List Byte) : WPacket :=
    ⟨r.hdr.src, flags, r.hdr.lane, r.hdr.seq, e, opcodeField r.opcode r.hdr.expert, r.status, r.hdr.tag, p⟩
  if r.payload.length ≤ 8968 then [mk 1 r.payload]
  else
    let cs := chunksOf (r.payload.length + 1) r.payload
    cs.zipIdx.map fun c => mk (if c.2 + 1 = cs.length then 1 else 9) (be 4 c.2 ++ c.1)

/-- Every packet of a reply sent, with the lane's present E as ACKNOWLEDGE (R54). -/
def State.sendReply (s : State) (r : Reply) : State :=
  (r.packets (s.lane r.hdr.lane).e).foldl (fun s p => s.send (.walong p)) s

/-- An ACK_ONLY packet (R60, R62). -/
def State.sendAckOnly (s : State) (dst : NetAddr) (lane seq tag : Nat) : State :=
  s.send (.walong ⟨dst, 2, lane, seq, (s.lane lane).e, 0, 0, tag, []⟩)

/-- Sequence arithmetic is modulo 2^32 (R57 to R61). -/
def seqDiff (a b : Nat) : Nat := (a + 2 ^ 32 - b % 2 ^ 32) % 2 ^ 32

/-- A reply leaves: it is sent once, retained unless it is already acknowledged (R61, R64), and its command is no longer
running. -/
def State.reply (s : State) (h : ReqHdr) (op status : Nat) (payload : List Byte := []) : State :=
  let r : Reply := { hdr := h, opcode := op, status := status, payload := payload }
  let s := s.sendReply r
  let ln := s.lane h.lane
  let keep := decide (seqDiff h.seq ln.b < seqDiff ln.e ln.b)
  let ln := { ln with
    replies := if keep then ln.replies ++ [r] else ln.replies
    job := match ln.job with
      | some j => if j.hdr.seq = h.seq then none else some j
      | none => none }
  s.setLane h.lane ln

/-- The failure payload (R70). -/
def Failure.bytes (f : Failure) : List Byte := be 2 f.field ++ be 2 f.block ++ be 2 f.inst ++ be 2 f.cause ++ be 8 f.detail

/-- The TASK_ABORT record of a class 0x2xxx reply, or the record of a class 0x3xxx one (R434). -/
def Failure.record (f : Failure) (kind : Nat) (h : ReqHdr) (rec : Nat := 0xFFFFFFFF) : Record :=
  { kind := kind, status := f.status, block := f.block, inst := f.inst, detail := f.detail, lane := h.lane, seq := h.seq, progRec := rec }

/-- A command ends with a failure. WRONG_STATE carries GLOBAL.STATUS.STATE as DETAIL (R78); class 0x2xxx holds the lane
and writes one TASK_ABORT event; class 0x3xxx holds the lane of a STEP_RUN (R71, R432, R434). -/
def State.failReply (s : State) (h : ReqHdr) (op : Nat) (f : Failure) (rec : Nat := 0xFFFFFFFF) : State :=
  let f := if f.status = stWrongState then { f with detail := s.dev.code } else f
  let s :=
    if f.status / 0x1000 = 2 then
      (s.setLane h.lane { s.lane h.lane with held := some h.seq }).raiseAt (f.record 0x0010 h rec) (s.failClock f)
    else if f.status / 0x1000 = 3 ∧ op = 0x0403 then s.setLane h.lane { s.lane h.lane with held := some h.seq }
    else s
  s.reply h op f.status f.bytes

/-- The command of a lane becomes its running job. -/
def State.setJob (s : State) (h : ReqHdr) (op : Nat) (cmd : Instr) (k : JobKind) : State :=
  s.setLane h.lane { s.lane h.lane with job := some ⟨h, op, cmd, k⟩ }

end Sys2Proof.Machine
end

