-- ==== Sys2Proof/Machine/Crypto.lean ====
section
/-!
DEFINITION. SHA-384 (FIPS 180-4), HMAC over it (FIPS 198-1) and ECDSA over brainpoolP384r1 (RFC 5639) with the
per-signature value of RFC 6979, as R422, R424, R428 and R429 name them. The constants are those of the standards the
manual cites; the manual does not repeat them (PRESUMED, log entry 8).
-/
namespace Sys2Proof.Machine

abbrev W64 := BitVec 64

/-- The round constants of SHA-384 (FIPS 180-4). -/
def shaK : List W64 := [
  0x428A2F98D728AE22, 0x7137449123EF65CD, 0xB5C0FBCFEC4D3B2F, 0xE9B5DBA58189DBBC,
  0x3956C25BF348B538, 0x59F111F1B605D019, 0x923F82A4AF194F9B, 0xAB1C5ED5DA6D8118,
  0xD807AA98A3030242, 0x12835B0145706FBE, 0x243185BE4EE4B28C, 0x550C7DC3D5FFB4E2,
  0x72BE5D74F27B896F, 0x80DEB1FE3B1696B1, 0x9BDC06A725C71235, 0xC19BF174CF692694,
  0xE49B69C19EF14AD2, 0xEFBE4786384F25E3, 0x0FC19DC68B8CD5B5, 0x240CA1CC77AC9C65,
  0x2DE92C6F592B0275, 0x4A7484AA6EA6E483, 0x5CB0A9DCBD41FBD4, 0x76F988DA831153B5,
  0x983E5152EE66DFAB, 0xA831C66D2DB43210, 0xB00327C898FB213F, 0xBF597FC7BEEF0EE4,
  0xC6E00BF33DA88FC2, 0xD5A79147930AA725, 0x06CA6351E003826F, 0x142929670A0E6E70,
  0x27B70A8546D22FFC, 0x2E1B21385C26C926, 0x4D2C6DFC5AC42AED, 0x53380D139D95B3DF,
  0x650A73548BAF63DE, 0x766A0ABB3C77B2A8, 0x81C2C92E47EDAEE6, 0x92722C851482353B,
  0xA2BFE8A14CF10364, 0xA81A664BBC423001, 0xC24B8B70D0F89791, 0xC76C51A30654BE30,
  0xD192E819D6EF5218, 0xD69906245565A910, 0xF40E35855771202A, 0x106AA07032BBD1B8,
  0x19A4C116B8D2D0C8, 0x1E376C085141AB53, 0x2748774CDF8EEB99, 0x34B0BCB5E19B48A8,
  0x391C0CB3C5C95A63, 0x4ED8AA4AE3418ACB, 0x5B9CCA4F7763E373, 0x682E6FF3D6B2B8A3,
  0x748F82EE5DEFB2FC, 0x78A5636F43172F60, 0x84C87814A1F0AB72, 0x8CC702081A6439EC,
  0x90BEFFFA23631E28, 0xA4506CEBDE82BDE9, 0xBEF9A3F7B2C67915, 0xC67178F2E372532B,
  0xCA273ECEEA26619C, 0xD186B8C721C0C207, 0xEADA7DD6CDE0EB1E, 0xF57D4F7FEE6ED178,
  0x06F067AA72176FBA, 0x0A637DC5A2C898A6, 0x113F9804BEF90DAE, 0x1B710B35131C471B,
  0x28DB77F523047D84, 0x32CAAB7B40C72493, 0x3C9EBE0A15C9BEBC, 0x431D67C49C100D4C,
  0x4CC5D4BECB3E42B6, 0x597F299CFC657E2A, 0x5FCB6FAB3AD6FAEC, 0x6C44198C4A475817]

/-- The initial hash value of SHA-384 (FIPS 180-4). -/
def shaH0 : List W64 := [
  0xCBBB9D5DC1059ED8, 0x629A292A367CD507, 0x9159015A3070DD17, 0x152FECD8F70E5939,
  0x67332667FFC00B31, 0x8EB44A8768581511, 0xDB0C2E0D64F98FA7, 0x47B5481DBEFA4FA4]

def shaSmall0 (x : W64) : W64 := x.rotateRight 1 ^^^ x.rotateRight 8 ^^^ (x >>> 7)
def shaSmall1 (x : W64) : W64 := x.rotateRight 19 ^^^ x.rotateRight 61 ^^^ (x >>> 6)
def shaBig0 (x : W64) : W64 := x.rotateRight 28 ^^^ x.rotateRight 34 ^^^ x.rotateRight 39
def shaBig1 (x : W64) : W64 := x.rotateRight 14 ^^^ x.rotateRight 18 ^^^ x.rotateRight 41

/-- The message schedule: the last 16 words, newest first, turned by one. -/
def shaNext (w : List W64) : W64 := shaSmall1 (w.getD 1 0) + w.getD 6 0 + shaSmall0 (w.getD 14 0) + w.getD 15 0

/-- The eight working variables a to h. -/
structure ShaVars where
  a : W64
  b : W64
  c : W64
  d : W64
  e : W64
  f : W64
  g : W64
  h : W64
  deriving DecidableEq, Repr

/-- One round with its constant and its schedule word. -/
def ShaVars.round (v : ShaVars) (k w : W64) : ShaVars :=
  let t1 := v.h + shaBig1 v.e + ((v.e &&& v.f) ^^^ (~~~ v.e &&& v.g)) + k + w
  let t2 := shaBig0 v.a + ((v.a &&& v.b) ^^^ (v.a &&& v.c) ^^^ (v.b &&& v.c))
  ⟨t1 + t2, v.a, v.b, v.c, v.d + t1, v.e, v.f, v.g⟩

/-- The rounds over the constants, with the schedule window newest first: the first 16 words are the block's. -/
def shaRounds : List W64 → List W64 → List W64 → ShaVars → ShaVars
  | [], _, _, v => v
  | k :: ks, [], win, v => let w := shaNext win; shaRounds ks [] (w :: win.take 15) (v.round k w)
  | k :: ks, w :: ws, win, v => shaRounds ks ws (w :: win) (v.round k w)

/-- One 1,024-bit block. -/
def shaBlock (h : List W64) (blk : List Byte) : List W64 :=
  let ws := (List.range 16).map fun i => BitVec.ofNat 64 (ofBe ((blk.drop (8 * i)).take 8))
  let v := shaRounds shaK ws [] ⟨h.getD 0 0, h.getD 1 0, h.getD 2 0, h.getD 3 0, h.getD 4 0, h.getD 5 0, h.getD 6 0, h.getD 7 0⟩
  List.zipWith (· + ·) h [v.a, v.b, v.c, v.d, v.e, v.f, v.g, v.h]

/-- Blocks in order. -/
def shaBlocks : Nat → List W64 → List Byte → List W64
  | 0, h, _ => h
  | n + 1, h, m => shaBlocks n (shaBlock h (m.take 128)) (m.drop 128)

/-- SHA-384 (FIPS 180-4). -/
def sha384 (m : List Byte) : List Byte :=
  let padded := m ++ [0x80] ++ List.replicate ((239 - m.length % 128) % 128) 0 ++ be 16 (8 * m.length)
  ((shaBlocks (padded.length / 128) shaH0 padded).flatMap fun w => be 8 w.toNat).take 48

/-- HMAC-SHA-384 with a key of at most one block. -/
def hmac384 (key m : List Byte) : List Byte :=
  let k := key ++ List.replicate (128 - key.length) 0
  sha384 (k.map (· ^^^ 0x5C) ++ sha384 (k.map (· ^^^ 0x36) ++ m))

/-! ### The curve brainpoolP384r1 (RFC 5639) -/

def bpP : Nat := 0x8CB91E82A3386D280F5D6F7E50E641DF152F7109ED5456B412B1DA197FB71123ACD3A729901D1A71874700133107EC53
def bpA : Nat := 0x7BC382C63D8C150C3C72080ACE05AFA0C2BEA28E4FB22787139165EFBA91F90F8AA5814A503AD4EB04A8C7DD22CE2826
def bpB : Nat := 0x4A8C7DD22CE28268B39B55416F0447C2FB77DE107DCD2A62E880EA53EEB62D57CB4390295DBC9943AB78696FA504C11
def bpGx : Nat := 0x1D1C64F068CF45FFA2A63A81B7C13F6B8847A3E77EF14FE3DB7FCAFE0CBD10E8E826E03436D646AAEF87B2E247D4AF1E
def bpGy : Nat := 0x8ABE1D7520F9C2A45CB1EB8E95CFD55262B70B29FEEC5864E19C054FF99129280E4646217791811142820341263C5315
def bpN : Nat := 0x8CB91E82A3386D280F5D6F7E50E641DF152F7109ED5456B31F166E6CAC0425A7CF3AB6AF6B7FC3103B883202E9046565

/-- A power modulo m, over `fuel` bits of the exponent. -/
def powMod (m : Nat) : Nat → Nat → Nat → Nat
  | 0, _, _ => 1
  | fuel + 1, b, e =>
    let r := powMod m fuel (b * b % m) (e / 2)
    if e % 2 = 1 then b * r % m else r

/-- The inverse modulo a prime (Fermat). -/
def invMod (m a : Nat) : Nat := powMod m 384 (a % m) (m - 2)

/-- A point of the curve, or none for the point at infinity. -/
abbrev Point := Option (Nat × Nat)

/-- The sum of two points. -/
def ptAdd : Point → Point → Point
  | none, q => q
  | p, none => p
  | some (x1, y1), some (x2, y2) =>
    if x1 = x2 ∧ (y1 + y2) % bpP = 0 then none
    else
      let l := if x1 = x2 then (3 * x1 * x1 + bpA) * invMod bpP (2 * y1) % bpP
               else (y2 + bpP - y1) * invMod bpP (x2 + bpP - x1) % bpP
      let x3 := (l * l + 2 * bpP - x1 - x2) % bpP
      some (x3, (l * (x1 + bpP - x3) + bpP - y1) % bpP)

/-- A multiple of a point, over `fuel` bits of the scalar. -/
def ptMul : Nat → Nat → Point → Point
  | 0, _, _ => none
  | fuel + 1, k, p =>
    let r := ptMul fuel (k / 2) (ptAdd p p)
    if k % 2 = 1 then ptAdd p r else r

/-- The base point. -/
def bpG : Point := some (bpGx, bpGy)

/-- A public key in SEC 1 uncompressed form that is a valid point of the curve (R422, R424). -/
def pointOf (k : List Byte) : Point :=
  let x := ofBe ((k.drop 1).take 48)
  let y := ofBe ((k.drop 49).take 48)
  if k.length = 97 ∧ ofBe (k.take 1) = 4 ∧ x < bpP ∧ y < bpP ∧ y * y % bpP = (x * x * x + bpA * x + bpB) % bpP then some (x, y)
  else none

/-- ECDSA verification of a SHA-384 digest (FIPS 186-5), r and s in 1 to n − 1 (R424, check 4). -/
def ecdsaVerify (q : Point) (digest : List Byte) (r s : Nat) : Bool :=
  if r = 0 ∨ s = 0 ∨ bpN ≤ r ∨ bpN ≤ s then false
  else
    let w := invMod bpN s
    match ptAdd (ptMul 384 (ofBe digest * w % bpN) bpG) (ptMul 384 (r * w % bpN) q) with
    | none => false
    | some (x, _) => x % bpN = r

/-- One pass of the generation loop of RFC 6979 (section 3.2, step h): the next K and V after a rejected candidate. -/
def rfc6979Step (k v : List Byte) : List Byte × List Byte :=
  let k := hmac384 k (v ++ [0x00])
  (k, hmac384 k v)

/-- Signing with candidates k in turn until r and s are non-zero; `fuel` bounds the candidates tried. -/
def ecdsaLoop (d z : Nat) : Nat → List Byte → List Byte → Nat × Nat
  | 0, _, _ => (0, 0)
  | fuel + 1, k, v =>
    let v := hmac384 k v
    let c := ofBe v
    let next := rfc6979Step k v
    if c = 0 ∨ bpN ≤ c then ecdsaLoop d z fuel next.1 next.2
    else
      match ptMul 384 c bpG with
      | none => ecdsaLoop d z fuel next.1 next.2
      | some (x, _) =>
        let r := x % bpN
        let s := invMod bpN c * (z + r * d) % bpN
        if r = 0 ∨ s = 0 then ecdsaLoop d z fuel next.1 next.2 else (r, s)

/-- ECDSA signature of a digest by a private scalar, with the per-signature value of RFC 6979 (R429). -/
def ecdsaSign (d : Nat) (digest : List Byte) : Nat × Nat :=
  let z := ofBe digest % bpN
  let x := be 48 d ++ be 48 z
  let v0 := List.replicate 48 (0x01 : Byte)
  let k1 := hmac384 (List.replicate 48 0) (v0 ++ [0x00] ++ x)
  let v1 := hmac384 k1 v0
  let k2 := hmac384 k1 (v1 ++ [0x01] ++ x)
  ecdsaLoop d z 256 k2 (hmac384 k2 v1)

end Sys2Proof.Machine
end

