-- ==== Sys2Proof/Machine/Operands.lean ====
section
/-!
DEFINITION. Every operand form of a host command: the layouts of its request, written out (`requestBytes`) and read back
(`parseRequest`), big-endian (R2), with the size check of R67 (check 1): LENGTH equals the basic or the expert form, or
the size the layout computes from its data.
-/
namespace Sys2Proof.Machine

/-- The `n`-byte big-endian field at an offset of a layout. -/
def fieldAt (p : List Byte) (off n : Nat) : Nat := ofBe ((p.drop off).take n)

/-- The signed field at an offset. -/
def sfieldAt (p : List Byte) (off n : Nat) : Int := asSigned (8 * n) (fieldAt p off n)

/-- The opcode of a host command (R72); none for an event. -/
def opcodeOf : Instr → Option Nat
  | .identify _ => some 0x0001
  | .ping _ _ => some 0x0002
  | .setNet _ _ _ _ _ => some 0x0003
  | .hostWatchdog _ _ _ => some 0x0004
  | .cfgRead _ _ _ _ => some 0x0101
  | .cfgWrite _ _ _ _ => some 0x0102
  | .cfgWriteMasked _ _ _ _ => some 0x0103
  | .memWrite _ _ _ _ => some 0x0201
  | .memRead _ _ _ _ => some 0x0202
  | .memFill _ _ _ _ => some 0x0203
  | .memCopy _ _ _ _ => some 0x0204
  | .regionSet _ _ _ => some 0x0205
  | .programLoad _ _ _ _ => some 0x0301
  | .programCheck _ _ => some 0x0302
  | .sessionOpen _ _ _ => some 0x0401
  | .sessionClose _ _ _ => some 0x0402
  | .stepRun _ _ _ _ _ _ => some 0x0403
  | .taskCancel _ _ _ _ => some 0x0404
  | .laneResume _ => some 0x0405
  | .sessionCommit _ _ _ => some 0x0406
  | .sessionRollback _ _ _ => some 0x0407
  | .taskStatus _ _ _ _ => some 0x0408
  | .engineStart _ _ => some 0x0501
  | .engineStop _ => some 0x0502
  | .winnowRun _ _ _ _ => some 0x0503
  | .marginTest _ _ => some 0x0504
  | .vaneLoopSet _ _ _ _ _ => some 0x0505
  | .vaneBankSwap _ => some 0x0506
  | .sourceSpare _ _ _ _ => some 0x0507
  | .powerState _ _ _ _ => some 0x0601
  | .thermalRead _ => some 0x0602
  | .sieveRun _ _ _ => some 0x0701
  | .sievePeriodic _ _ _ _ => some 0x0702
  | .eccFlipArm _ _ => some 0x0703
  | .fwLoadBegin _ _ _ => some 0x0801
  | .fwLoadData _ _ _ => some 0x0802
  | .fwLoadEnd _ => some 0x0803
  | .attest _ _ => some 0x0804
  | .certRead _ => some 0x0805
  | .ledgerRead _ _ _ _ => some 0x0901
  | .ledgerClear _ _ => some 0x0902
  | .countersRead _ _ _ _ => some 0x0903
  | .eventsRead _ _ _ _ => some 0x0904
  | _ => none

/-- The header of a host command; none for an event. -/
def hdrOf : Instr → Option ReqHdr
  | .identify h => some h
  | .ping h _ => some h
  | .setNet h _ _ _ _ => some h
  | .hostWatchdog h _ _ => some h
  | .cfgRead h _ _ _ => some h
  | .cfgWrite h _ _ _ => some h
  | .cfgWriteMasked h _ _ _ => some h
  | .memWrite h _ _ _ => some h
  | .memRead h _ _ _ => some h
  | .memFill h _ _ _ => some h
  | .memCopy h _ _ _ => some h
  | .regionSet h _ _ => some h
  | .programLoad h _ _ _ => some h
  | .programCheck h _ => some h
  | .sessionOpen h _ _ => some h
  | .sessionClose h _ _ => some h
  | .stepRun h _ _ _ _ _ => some h
  | .taskCancel h _ _ _ => some h
  | .laneResume h => some h
  | .sessionCommit h _ _ => some h
  | .sessionRollback h _ _ => some h
  | .taskStatus h _ _ _ => some h
  | .engineStart h _ => some h
  | .engineStop h => some h
  | .winnowRun h _ _ _ => some h
  | .marginTest h _ => some h
  | .vaneLoopSet h _ _ _ _ => some h
  | .vaneBankSwap h => some h
  | .sourceSpare h _ _ _ => some h
  | .powerState h _ _ _ => some h
  | .thermalRead h => some h
  | .sieveRun h _ _ => some h
  | .sievePeriodic h _ _ _ => some h
  | .eccFlipArm h _ => some h
  | .fwLoadBegin h _ _ => some h
  | .fwLoadData h _ _ => some h
  | .fwLoadEnd h => some h
  | .attest h _ => some h
  | .certRead h => some h
  | .ledgerRead h _ _ _ => some h
  | .ledgerClear h _ => some h
  | .countersRead h _ _ _ => some h
  | .eventsRead h _ _ _ => some h
  | _ => none

/-- The expert-only bytes of SET_NET (R82). -/
def SetNetX.bytes (x : SetNetX) : List Byte :=
  be 4 x.gw4 ++ be 16 x.ip6 ++ be 1 x.pfx6 ++ be 1 x.vlanEn ++ be 2 x.vid ++ be 1 x.pcp ++ be 3 x.rsv ++ be 16 x.gw6

/-- The expert-only bytes of VANE_LOOP_SET (R350). -/
def LoopX.bytes (x : LoopX) : List Byte :=
  be 1 x.write ++ be 1 x.cfg ++ be 1 x.lockN ++ be 1 x.relockN ++ be 2 x.sensor ++ be 2 x.actuator
    ++ x.coef.flatMap (fun c => be 4 (ofSigned 32 c)) ++ x.shifts.flatMap (fun c => be 1 c) ++ be 2 x.rsv
    ++ be 4 x.outMin ++ be 4 x.outMax ++ be 4 x.vmax ++ be 4 x.amax ++ be 4 x.jmax ++ be 4 x.lockTol

/-- The payload of a host command's request, as its layout orders it; empty for an event. -/
def requestBytes : Instr → List Byte
  | .ping _ data => data
  | .setNet _ a p r x => be 4 a ++ be 1 p ++ be 3 r ++ (x.map SetNetX.bytes).getD []
  | .hostWatchdog _ p x => be 4 p ++ (x.map fun y => be 1 y.1 ++ be 3 y.2).getD []
  | .cfgRead _ a c r => be 4 a ++ be 2 c ++ be 2 r
  | .cfgWrite _ a r vs => be 4 a ++ be 2 vs.length ++ be 2 r ++ vs.flatMap (be 4)
  | .cfgWriteMasked _ a m v => be 4 a ++ be 4 m ++ be 4 v
  | .memWrite _ a r d => be 8 a ++ be 4 d.length ++ be 4 r ++ d
  | .memRead _ a l r => be 8 a ++ be 4 l ++ be 4 r
  | .memFill _ a l p => be 8 a ++ be 8 l ++ p
  | .memCopy _ a b l => be 8 a ++ be 8 b ++ be 8 l
  | .regionSet _ b x =>
    be 1 b.tier ++ be 1 b.entry ++ be 1 b.cls ++ be 1 b.enable ++ be 4 b.rsv ++ be 8 b.base ++ be 8 b.size
      ++ (x.map fun y => be 1 y.1 ++ be 7 y.2).getD []
  | .programLoad _ a n r => be 8 a ++ be 4 n ++ be 4 r
  | .programCheck _ a => be 8 a
  | .sessionOpen _ b x =>
    be 2 b.session ++ be 2 b.layers ++ be 2 b.kvHeads ++ be 2 b.headDim ++ be 8 b.kvBase ++ be 8 b.kvBytes ++ be 8 b.seed
      ++ (x.map fun y => be 1 y.1 ++ be 1 y.2.1 ++ be 6 y.2.2).getD []
  | .sessionClose _ n r => be 2 n ++ be 2 r
  | .stepRun _ p t b r x =>
    be 8 p ++ be 8 t ++ be 2 b ++ be 2 r
      ++ (x.map fun y => be 1 y.stallMs ++ be 1 y.gateMs ++ be 1 y.priority ++ be 1 y.commitMode).getD []
  | .taskCancel _ l r q => be 1 l ++ be 3 r ++ be 4 q
  | .sessionCommit _ n c => be 2 n ++ be 2 c
  | .sessionRollback _ n r => be 2 n ++ be 2 r
  | .taskStatus _ l r q => be 1 l ++ be 3 r ++ be 4 q
  | .engineStart _ x => (x.map fun y => be 2 y.1 ++ be 1 y.2.1 ++ be 1 y.2.2).getD []
  | .marginTest _ x => (x.map fun y => be 2 y.1 ++ be 1 y.2.1 ++ be 1 y.2.2).getD []
  | .winnowRun _ m r x => be 2 m ++ be 2 r ++ (x.map fun y => be 1 y.1 ++ be 3 y.2).getD []
  | .vaneLoopSet _ n r t x => be 2 n ++ be 2 r ++ be 4 (ofSigned 32 t) ++ (x.map LoopX.bytes).getD []
  | .sourceSpare _ a b r => be 1 a ++ be 1 b ++ be 2 r
  | .powerState _ t r x =>
    be 1 t ++ be 3 r ++ (x.map fun y => be 4 y.wakeAfterS ++ be 8 y.saveBase ++ be 8 y.saveDest ++ be 4 y.saveBytes).getD []
  | .sieveRun _ b x =>
    be 1 b.target ++ be 3 b.rsv1 ++ be 4 b.first ++ be 4 b.count ++ be 4 b.rsv2 ++ be 8 b.base ++ be 8 b.size
      ++ (x.map fun y => be 1 y.1 ++ be 1 y.2.1 ++ be 6 y.2.2).getD []
  | .sievePeriodic _ e r x =>
    be 1 e ++ be 3 r ++ (x.map fun y => be 2 y.1 ++ be 2 y.2.1 ++ be 1 y.2.2.1 ++ be 3 y.2.2.2).getD []
  | .eccFlipArm _ b =>
    be 1 b.tier ++ be 1 b.entry ++ be 1 b.pattern ++ be 1 b.checkMask ++ be 4 b.rsv ++ be 8 b.symbolMask
  | .fwLoadBegin _ t r => be 4 t ++ be 4 r
  | .fwLoadData _ o d => be 4 o ++ be 4 d.length ++ d
  | .attest _ n => n
  | .ledgerRead _ f c r => be 4 f ++ be 2 c ++ be 2 r
  | .ledgerClear _ u => be 4 u
  | .countersRead _ a c r => be 1 a ++ be 1 c ++ be 2 r
  | .eventsRead _ f c r => be 4 f ++ be 2 c ++ be 2 r
  | _ => []

/-- The size a layout has: basic, or expert when bit 15 of OPCODE is set (R75). -/
def sizeIs (h : ReqHdr) (p : List Byte) (basic expert : Nat) : Bool := p.length = if h.expert then expert else basic

/-- The `n` numbers of 4 bytes each that follow an offset. -/
def wordsAt (p : List Byte) (off n : Nat) : List Nat := (List.range n).map fun i => fieldAt p (off + 4 * i) 4

/-- SET_NET, the expert-only fields (R82). -/
def setNetXOf (p : List Byte) : SetNetX :=
  ⟨fieldAt p 8 4, fieldAt p 12 16, fieldAt p 28 1, fieldAt p 29 1, fieldAt p 30 2, fieldAt p 32 1, fieldAt p 33 3, fieldAt p 36 16⟩

/-- VANE_LOOP_SET, the expert-only fields (R350). -/
def loopXOf (p : List Byte) : LoopX where
  write := fieldAt p 8 1
  cfg := fieldAt p 9 1
  lockN := fieldAt p 10 1
  relockN := fieldAt p 11 1
  sensor := fieldAt p 12 2
  actuator := fieldAt p 14 2
  coef := (wordsAt p 16 6).map (asSigned 32)
  shifts := (List.range 6).map fun i => fieldAt p (40 + i) 1
  rsv := fieldAt p 46 2
  outMin := fieldAt p 48 4
  outMax := fieldAt p 52 4
  vmax := fieldAt p 56 4
  amax := fieldAt p 60 4
  jmax := fieldAt p 64 4
  lockTol := fieldAt p 68 4

/-- A value present only in the expert form. -/
def onlyExpert {α : Type} (h : ReqHdr) (v : α) : Option α := if h.expert then some v else none

/-- A request read as its command; none where its length fits neither form nor the data (R67, check 1). -/
def parseRequest (h : ReqHdr) (op : Nat) (p : List Byte) : Option Instr :=
  let ok (basic expert : Nat) (i : Instr) : Option Instr := if sizeIs h p basic expert then some i else none
  match op with
  | 0x0001 => ok 0 0 (.identify h)
  | 0x0002 => some (.ping h p)
  | 0x0003 => ok 8 52 (.setNet h (fieldAt p 0 4) (fieldAt p 4 1) (fieldAt p 5 3) (onlyExpert h (setNetXOf p)))
  | 0x0004 => ok 4 8 (.hostWatchdog h (fieldAt p 0 4) (onlyExpert h (fieldAt p 4 1, fieldAt p 5 3)))
  | 0x0101 => ok 8 8 (.cfgRead h (fieldAt p 0 4) (fieldAt p 4 2) (fieldAt p 6 2))
  | 0x0102 =>
    if 8 ≤ p.length ∧ p.length = 8 + 4 * fieldAt p 4 2 then
      some (.cfgWrite h (fieldAt p 0 4) (fieldAt p 6 2) (wordsAt p 8 (fieldAt p 4 2)))
    else none
  | 0x0103 => ok 12 12 (.cfgWriteMasked h (fieldAt p 0 4) (fieldAt p 4 4) (fieldAt p 8 4))
  | 0x0201 =>
    if 16 ≤ p.length ∧ p.length = 16 + fieldAt p 8 4 then some (.memWrite h (fieldAt p 0 8) (fieldAt p 12 4) (p.drop 16))
    else none
  | 0x0202 => ok 16 16 (.memRead h (fieldAt p 0 8) (fieldAt p 8 4) (fieldAt p 12 4))
  | 0x0203 => ok 24 24 (.memFill h (fieldAt p 0 8) (fieldAt p 8 8) (p.drop 16))
  | 0x0204 => ok 24 24 (.memCopy h (fieldAt p 0 8) (fieldAt p 8 8) (fieldAt p 16 8))
  | 0x0205 =>
    ok 24 32 (.regionSet h
      ⟨fieldAt p 0 1, fieldAt p 1 1, fieldAt p 2 1, fieldAt p 3 1, fieldAt p 4 4, fieldAt p 8 8, fieldAt p 16 8⟩
      (onlyExpert h (fieldAt p 24 1, fieldAt p 25 7)))
  | 0x0301 => ok 16 16 (.programLoad h (fieldAt p 0 8) (fieldAt p 8 4) (fieldAt p 12 4))
  | 0x0302 => ok 8 8 (.programCheck h (fieldAt p 0 8))
  | 0x0401 =>
    ok 32 40 (.sessionOpen h
      ⟨fieldAt p 0 2, fieldAt p 2 2, fieldAt p 4 2, fieldAt p 6 2, fieldAt p 8 8, fieldAt p 16 8, fieldAt p 24 8⟩
      (onlyExpert h (fieldAt p 32 1, fieldAt p 33 1, fieldAt p 34 6)))
  | 0x0402 => ok 4 4 (.sessionClose h (fieldAt p 0 2) (fieldAt p 2 2))
  | 0x0403 =>
    ok 20 24 (.stepRun h (fieldAt p 0 8) (fieldAt p 8 8) (fieldAt p 16 2) (fieldAt p 18 2)
      (onlyExpert h ⟨fieldAt p 20 1, fieldAt p 21 1, fieldAt p 22 1, fieldAt p 23 1⟩))
  | 0x0404 => ok 8 8 (.taskCancel h (fieldAt p 0 1) (fieldAt p 1 3) (fieldAt p 4 4))
  | 0x0405 => ok 0 0 (.laneResume h)
  | 0x0406 => ok 4 4 (.sessionCommit h (fieldAt p 0 2) (fieldAt p 2 2))
  | 0x0407 => ok 4 4 (.sessionRollback h (fieldAt p 0 2) (fieldAt p 2 2))
  | 0x0408 => ok 8 8 (.taskStatus h (fieldAt p 0 1) (fieldAt p 1 3) (fieldAt p 4 4))
  | 0x0501 => ok 0 4 (.engineStart h (onlyExpert h (fieldAt p 0 2, fieldAt p 2 1, fieldAt p 3 1)))
  | 0x0502 => ok 0 0 (.engineStop h)
  | 0x0503 => ok 4 8 (.winnowRun h (fieldAt p 0 2) (fieldAt p 2 2) (onlyExpert h (fieldAt p 4 1, fieldAt p 5 3)))
  | 0x0504 => ok 0 4 (.marginTest h (onlyExpert h (fieldAt p 0 2, fieldAt p 2 1, fieldAt p 3 1)))
  | 0x0505 => ok 8 72 (.vaneLoopSet h (fieldAt p 0 2) (fieldAt p 2 2) (sfieldAt p 4 4) (onlyExpert h (loopXOf p)))
  | 0x0506 => ok 0 0 (.vaneBankSwap h)
  | 0x0507 => ok 4 4 (.sourceSpare h (fieldAt p 0 1) (fieldAt p 1 1) (fieldAt p 2 2))
  | 0x0601 =>
    ok 4 28 (.powerState h (fieldAt p 0 1) (fieldAt p 1 3)
      (onlyExpert h ⟨fieldAt p 4 4, fieldAt p 8 8, fieldAt p 16 8, fieldAt p 24 4⟩))
  | 0x0602 => ok 0 0 (.thermalRead h)
  | 0x0701 =>
    ok 32 40 (.sieveRun h
      ⟨fieldAt p 0 1, fieldAt p 1 3, fieldAt p 4 4, fieldAt p 8 4, fieldAt p 12 4, fieldAt p 16 8, fieldAt p 24 8⟩
      (onlyExpert h (fieldAt p 32 1, fieldAt p 33 1, fieldAt p 34 6)))
  | 0x0702 =>
    ok 4 12 (.sievePeriodic h (fieldAt p 0 1) (fieldAt p 1 3)
      (onlyExpert h (fieldAt p 4 2, fieldAt p 6 2, fieldAt p 8 1, fieldAt p 9 3)))
  | 0x0703 =>
    ok 16 16 (.eccFlipArm h
      ⟨fieldAt p 0 1, fieldAt p 1 1, fieldAt p 2 1, fieldAt p 3 1, fieldAt p 4 4, fieldAt p 8 8⟩)
  | 0x0801 => ok 8 8 (.fwLoadBegin h (fieldAt p 0 4) (fieldAt p 4 4))
  | 0x0802 =>
    if 8 ≤ p.length ∧ p.length = 8 + fieldAt p 4 4 then some (.fwLoadData h (fieldAt p 0 4) (p.drop 8)) else none
  | 0x0803 => ok 0 0 (.fwLoadEnd h)
  | 0x0804 => ok 32 32 (.attest h p)
  | 0x0805 => ok 0 0 (.certRead h)
  | 0x0901 => ok 8 8 (.ledgerRead h (fieldAt p 0 4) (fieldAt p 4 2) (fieldAt p 6 2))
  | 0x0902 => ok 4 4 (.ledgerClear h (fieldAt p 0 4))
  | 0x0903 => ok 4 4 (.countersRead h (fieldAt p 0 1) (fieldAt p 1 1) (fieldAt p 2 2))
  | 0x0904 => ok 8 8 (.eventsRead h (fieldAt p 0 4) (fieldAt p 4 2) (fieldAt p 6 2))
  | _ => none

end Sys2Proof.Machine
end

