-- ==== Sys2Proof/Machine/Memory.lean ====
section
/-!
DEFINITION. The memories as their users see them (14): the address map (R321 to R323), the stored form of a word and
what a read of it reports (R325, R333 to R335), Granary parity (R326), region classes (R327), whole and narrow writes
(R330 to R332), and the armed flip (R338).
-/
namespace Sys2Proof.Machine

/-- The three tiers of R321. -/
inductive Tier where
  | granary | loft | silo
  deriving DecidableEq, Repr

def Tier.base : Tier → Nat
  | .granary => 0
  | .loft => 0x004000000000
  | .silo => 0x010000000000

def Tier.size : Tier → Nat
  | .granary => 0x28000000
  | .loft => 0x004000000000
  | .silo => 0x018000000000

/-- The stripe of a tier: 32 KiB in the Loft, 128 KiB in the Silo (R323); the Granary has none. -/
def Tier.stripe : Tier → Nat
  | .granary => 1
  | .loft => 0x8000
  | .silo => 0x20000

/-- The tier an address lies in (R321). -/
def tierOf (a : Nat) : Option Tier :=
  if a < 0x28000000 then some .granary
  else if 0x004000000000 ≤ a ∧ a < 0x008000000000 then some .loft
  else if 0x010000000000 ≤ a ∧ a < 0x028000000000 then some .silo
  else none

/-- A range lies inside one tier (R322). -/
def inTier (a n : Nat) : Bool :=
  match tierOf a with
  | none => false
  | some t => a + n ≤ t.base + t.size

/-- A range lies inside a named tier. -/
def inOneTier (t : Tier) (a n : Nat) : Bool := t.base ≤ a && a + n ≤ t.base + t.size

/-- The first address of a range that lies outside its tier (R78). -/
def firstOutside (a : Nat) : Nat :=
  match tierOf a with
  | none => a
  | some t => t.base + t.size

/-- ADDR_RANGE unless the range lies inside one tier; a zero length skips the check (R79). -/
def rangeCheck (off a n : Nat) : Option Failure := if n = 0 then none else need (inTier a n) (fAddr off (firstOutside a))

/-- The controller of a Loft or Silo address (R270, R323). -/
def ctlOf (a : Nat) : Nat :=
  match tierOf a with
  | some .silo => 8 + a / 0x1000 % 32
  | _ => a / 0x1000 % 8

/-- The local address of a word in its controller's package (R270, R323). -/
def localOf (a : Nat) : Nat :=
  match tierOf a with
  | some .silo => (a - Tier.silo.base) / 0x20000 * 0x1000 + a % 0x1000
  | _ => (a - Tier.loft.base) / 0x8000 * 0x1000 + a % 0x1000

/-! ### Bytes -/

/-- The byte last written at an address; zero where nothing has been written (R111). -/
def State.byteAt (s : State) (a : Nat) : Byte := (look s.memory.cells a).getD 0

/-- `n` bytes from an address, as last written. -/
def State.bytesAt (s : State) (a n : Nat) : List Byte := (List.range n).map fun i => s.byteAt (a + i)

/-- A little-endian number in memory (R3). -/
def State.leAt (s : State) (a n : Nat) : Nat := ofLe (s.bytesAt a n)

/-- The listed bytes of a memory with one byte set. -/
def pokeCell (m : List (Nat × Byte)) (a : Nat) (b : Byte) : List (Nat × Byte) := putD 0 m a b

/-- Consecutive bytes set, lowest address first. -/
def pokeCells : List (Nat × Byte) → Nat → List Byte → List (Nat × Byte)
  | m, _, [] => m
  | m, a, b :: t => pokeCells (pokeCell m a b) (a + 1) t

/-- Consecutive bytes set in memory, without any check bits. -/
def State.poke (s : State) (a : Nat) (bs : List Byte) : State :=
  { s with memory := { s.memory with cells := pokeCells s.memory.cells a bs } }

/-- A range set to zero. -/
def State.zero (s : State) (a n : Nat) : State :=
  let m := s.memory
  { s with memory := { m with
      cells := m.cells.filter fun c => !(a ≤ c.1 && c.1 < a + n)
      errs := m.errs.filter fun e => !(a ≤ e.word && e.word < a + n)
      badParity := m.badParity.filter fun x => !(a ≤ x && x < a + n) } }

/-! ### Protection classes -/

/-- The region table of a tier (R327). -/
def State.regions (s : State) : Tier → List Region
  | .silo => s.memory.siloRegions
  | _ => s.memory.loftRegions

/-- The entry covers a stripe. -/
def Region.covers (r : Region) (stripe : Nat) : Bool := r.en && r.base ≤ stripe && stripe < r.base + r.size

/-- The entry an external word takes its class from: the highest-numbered enabled one that covers it (R327). -/
def entryOf (rs : List Region) (stripe : Nat) : Nat × Region :=
  rs.zipIdx.foldl (fun best c => if c.1.covers stripe then (c.2, c.1) else best) (0, rs.getD 0 {})

/-- The entry number and the class of an external word. -/
def State.classOf (s : State) (w : Nat) : Nat × Nat :=
  let t := (tierOf w).getD .loft
  let e := entryOf (s.regions t) ((w - t.base) / t.stripe)
  (e.1, e.2.cls)

/-! ### The stored form -/

/-- Ones in a byte. -/
def ones (b : Byte) : Nat := ((List.range 8).filter fun i => b.getLsbD i).length

/-- The stored error of a word, if any. -/
def State.errOf (s : State) (w : Nat) : Option WordErr := s.memory.errs.find? fun e => e.word = w

/-- The stored error of a word removed: the word is encoded anew. -/
def State.clearErr (s : State) (w : Nat) : State :=
  { s with memory := { s.memory with errs := s.memory.errs.filter fun e => !(e.word = w) } }

/-- The stored error of a word set; one that is empty is not listed. -/
def State.setErr (s : State) (e : WordErr) : State :=
  let rest := s.memory.errs.filter fun x => !(x.word = e.word)
  { s with memory := { s.memory with errs := if e.data = [] ∧ e.check = [] ∧ e.poison = false then rest else e :: rest } }

/-- Bytes of the stored form in error. -/
def WordErr.bytesWrong (e : WordErr) : Nat := e.data.length + e.check.length

/-- Bits in error in the k-th 8-byte group and its check byte (R325). -/
def WordErr.groupBits (e : WordErr) (k : Nat) : Nat :=
  ((List.range 8).map fun b => ones ((look e.data (8 * k + b)).getD 0)).sum + ones ((look e.check k).getD 0)

/-- The parity of data byte i disagrees: an odd number of its bits and its parity bit are in error (R325). -/
def WordErr.parityWrong (e : WordErr) (i : Nat) : Bool :=
  (ones ((look e.data i).getD 0) + b2n (((look e.check (i / 8)).getD 0).getLsbD (i % 8))) % 2 = 1

/-- What the check bits of a word report at a read. -/
inductive ReadOutcome where
  | clean | corrected | uncorrectable | asStored | beyond
  deriving DecidableEq, Repr

/-- The outcome of R325 for a word's error under its class; `beyond` is what the class does not promise. -/
def WordErr.outcome (e : WordErr) (cls : Nat) : ReadOutcome :=
  if e.poison then .uncorrectable
  else if cls = 0 then
    (if e.bytesWrong = 0 then .clean else if e.bytesWrong ≤ 4 then .corrected else .beyond)
  else if cls = 1 then
    (if (List.range 8).any fun k => e.groupBits k = 2 then .uncorrectable
     else if (List.range 8).any fun k => 3 ≤ e.groupBits k then .beyond
     else if (List.range 8).any fun k => e.groupBits k = 1 then .corrected else .clean)
  else if (List.range 64).any fun i => e.parityWrong i then .uncorrectable else .asStored

/-- The 64 data bytes as they are stored. -/
def State.storedWord (s : State) (w : Nat) : List Byte :=
  match s.errOf w with
  | none => s.bytesAt w 64
  | some e => (s.bytesAt w 64).zipIdx.map fun c => c.1 ^^^ (look e.data c.2).getD 0

/-! ### Counting and logs -/

/-- A correctable error counted and logged (R333, R335). -/
def State.logCE (s : State) (w : Nat) : State :=
  let c := ctlOf w
  let s := s.bump (aMemctl c 0x110)
  let lo (n : Nat) := aMemctl c (0x200 + 16 * n)
  let isHere (n : Nat) : Bool :=
    bitOf (s.reg (lo n)) 0 && s.reg (lo n) / 64 * 64 + bitsOf (s.reg (lo n + 4)) 0 16 * 2 ^ 32 = w
  match (List.range 16).find? isHere with
  | some n => s.setFld (lo n + 4) 16 16 (min (s.fld (lo n + 4) 16 16 + 1) 0xFFFF)
  | none =>
    match (List.range 16).find? fun n => !bitOf (s.reg (lo n)) 0 with
    | some n =>
      let s := s.setReg (lo n) (w % 2 ^ 32 + 1)
      let s := s.setReg (lo n + 4) (w / 2 ^ 32 % 2 ^ 16 + 2 ^ 16)
      let s := s.setReg (lo n + 8) (s.clocks.cyc % 2 ^ 32)
      let s := s.setReg (lo n + 12) (s.clocks.cyc / 2 ^ 32 % 2 ^ 16)
      s.raise { kind := 0x0030, block := 0x0050, inst := c, detail := w } (some .memctl)
    | none =>
      let s := s.bump (aMemctl c 0x128)
      if s.memory.ceOverflowed.contains c then s
      else
        ({ s with memory := { s.memory with ceOverflowed := c :: s.memory.ceOverflowed } }).raise
          { kind := 0x0031, block := 0x0050, inst := c, detail := w } (some .memctl)

/-- An uncorrectable error counted, recorded and logged with its SOURCE (R334, R335). -/
def State.logUE (s : State) (w src : Nat) : State :=
  let c := ctlOf w
  let s := s.bump (aMemctl c 0x114)
  let s := s.raise { kind := 0x0032, block := 0x0050, inst := c, detail := w } (some .memctl)
  let lo (n : Nat) := aMemctl c (0x300 + 16 * n)
  let isHere (n : Nat) : Bool :=
    bitOf (s.reg (lo n)) 0 && s.reg (lo n) / 64 * 64 + bitsOf (s.reg (lo n + 4)) 0 16 * 2 ^ 32 = w
  if (List.range 4).any isHere then s
  else
    match (List.range 4).find? fun n => !bitOf (s.reg (lo n)) 0 with
    | none => s
    | some n =>
      let s := s.setReg (lo n) (w % 2 ^ 32 + 2 * src + 1)
      let s := s.setReg (lo n + 4) (w / 2 ^ 32 % 2 ^ 16)
      let s := s.setReg (lo n + 8) (s.clocks.cyc % 2 ^ 32)
      s.setReg (lo n + 12) (s.clocks.cyc / 2 ^ 32 % 2 ^ 16)

/-! ### Reads -/

/-- The bytes a merge-buffer entry holds for a word, over the word's own (R330). -/
def State.overlayMerge (s : State) (w : Nat) (data : List Byte) : List Byte :=
  match s.memory.merge.find? fun m => m.word = w with
  | none => data
  | some m => data.zipIdx.map fun c => (look m.bytes c.2).getD c.1

/-- One external word read and decoded under its class: its data, or none when it is uncorrectable (R325, R333, R334).
A corrected word is written back and counted. Beyond the promise of its class one of the three outcomes of R325 is
taken by a free value, and a value possibly corrected wrongly is a free value too (log entry 4). -/
def State.readWord (s : State) (w src : Nat) : Option (List Byte) × State :=
  match s.errOf w with
  | none => (some (s.bytesAt w 64), s)
  | some e =>
    match e.outcome (s.classOf w).2 with
    | .clean => (some (s.bytesAt w 64), s)
    | .corrected => (some (s.bytesAt w 64), (s.clearErr w).logCE w)
    | .uncorrectable => (none, s.logUE w src)
    | .asStored => (some (s.storedWord w), s)
    | .beyond =>
      let t := s.takeFree
      if t.1 % 3 = 0 then (none, t.2.logUE w src)
      else if t.1 % 3 = 1 then
        let v := t.2.takeFree
        let data := le 64 v.1
        (some data, (((v.2.poke w data).clearErr w).logCE w))
      else (some (t.2.storedWord w), t.2)

/-- The pieces of a range by 64-byte word: start and length of each, ascending. -/
def wordPieces (a n : Nat) : List (Nat × Nat) :=
  if n = 0 then []
  else (List.range ((a % 64 + n + 63) / 64)).map fun i =>
    let lo := max a ((a / 64 + i) * 64)
    (lo, min (a + n) ((a / 64 + i + 1) * 64) - lo)

/-- One piece of one word read; none is an uncorrectable error or bad parity in the word (R326, R334). -/
def State.readPiece (s : State) (src : Nat) (p : Nat × Nat) : Option (List Byte) × State :=
  let w := p.1 / 64 * 64
  if tierOf p.1 = some .granary then
    (if s.memory.badParity.any fun x => p.1 ≤ x && x < p.1 + p.2 then none else some (s.bytesAt p.1 p.2), s)
  else
    let r := s.readWord w src
    (r.1.map fun d => ((r.2.overlayMerge w d).drop (p.1 % 64)).take p.2, r.2)

/-- Pieces read in ascending order up to the first word that fails: the bytes before it, and its address. -/
def State.readPieces (src : Nat) : List (Nat × Nat) → State → (List Byte × Option Nat) × State
  | [], s => (([], none), s)
  | p :: t, s =>
    match s.readPiece src p with
    | (none, s) => (([], some (p.1 / 64 * 64)), s)
    | (some d, s) =>
      let r := State.readPieces src t s
      ((d ++ r.1.1, r.1.2), r.2)

/-- A range read for a reader with a UE log SOURCE (R334): bytes up to the first failing word, and that word. -/
def State.readMem (s : State) (src a n : Nat) : (List Byte × Option Nat) × State := State.readPieces src (wordPieces a n) s

/-- The failure of an uncorrectable word: BLOCK 0x0050 and its controller, or 0xFFFF twice for the Granary (R91). -/
def ueFailure (w : Nat) : Failure :=
  if tierOf w = some .granary then { status := stMemUncorrectable, detail := w }
  else { status := stMemUncorrectable, block := 0x0050, inst := ctlOf w, detail := w }

/-! ### Writes -/

/-- The armed flip of a tier. -/
def State.flipOf (s : State) : Tier → Option Flip
  | .silo => s.memory.flipSilo
  | _ => s.memory.flipLoft

/-- The flip of a tier armed or disarmed. -/
def State.setFlip (s : State) (t : Tier) (f : Option Flip) : State :=
  match t with
  | .silo => { s with memory := { s.memory with flipSilo := f } }
  | _ => { s with memory := { s.memory with flipLoft := f } }

/-- The error an armed flip stores: PATTERN in each selected data and check byte (R338). -/
def Flip.err (f : Flip) (w : Nat) : WordErr where
  word := w
  data := ((List.range 64).filter fun i => bitOf f.symbolMask i).map fun i => (i, BitVec.ofNat 8 f.pattern)
  check := ((List.range 8).filter fun k => bitOf f.checkMask k).map fun k => (k, BitVec.ofNat 8 f.pattern)

/-- Stored bytes XORed byte by byte; a byte that comes out without an error is not listed. -/
def xorBytes (l f : List (Nat × Byte)) : List (Nat × Byte) :=
  f.foldl (fun l c => putD 0 l c.1 ((look l c.1).getD 0 ^^^ c.2)) l

/-- The stored error of a word with that of a flip laid over it: each selected byte is stored XOR PATTERN, every other byte
keeps what it is stored with (R338). -/
def WordErr.flipped (e f : WordErr) : WordErr := { e with data := xorBytes e.data f.data, check := xorBytes e.check f.check }

/-- A word just encoded and written by a command, a record or a merge flush: an armed flip of its entry corrupts it,
ends, and is shown in FLIP_FIRED and FLIP_ADDR of its controller (R338). What the word is stored with (a parity error that a
narrow BRIEF write carried over, R330) stays under the flip. -/
def State.applyFlip (s : State) (w : Nat) : State :=
  let t := (tierOf w).getD .loft
  match s.flipOf t with
  | none => s
  | some f =>
    if (s.classOf w).1 ≠ f.entry then s
    else
      let c := ctlOf w
      let s := (s.setFlip t none).setErr (((s.errOf w).getD { word := w }).flipped (f.err w))
      let s := { s with memory := { s.memory with flipFired := [c] } }
      (s.setReg (aMemctl c 0x138) (w % 2 ^ 32)).setReg (aMemctl c 0x13C) (w / 2 ^ 32)

/-- A whole external word encoded and written directly (R330). -/
def State.writeWord (s : State) (w : Nat) (data : List Byte) : State := ((s.poke w data).clearErr w).applyFlip w

/-- New bytes merged over a word's stored error: under BRIEF untouched bytes keep their stored parity (R330). -/
def WordErr.touched (e : WordErr) (offs : List Nat) : WordErr :=
  { e with
    data := e.data.filter fun c => !(offs.contains c.1)
    check := (e.check.map fun c =>
      (c.1, BitVec.ofNat 8 (((List.range 8).filter fun b => c.2.getLsbD b && !(offs.contains (8 * c.1 + b))).foldl (fun n b => n + 2 ^ b) 0))).filter
        fun c => !(c.2 = 0) }

/-- The bytes of a merge entry stored one by one. -/
def pokeSome (m : List (Nat × Byte)) (w : Nat) (bs : List (Nat × Byte)) : List (Nat × Byte) :=
  bs.foldl (fun m b => pokeCell m (w + b.1) b.2) m

/-- The offsets of an entry's bytes. -/
def offsOf (l : List (Nat × Byte)) : List Nat := l.map fun b => b.1

/-- One merge entry flushed (R330 to R332): written whole when complete, else by read-modify-write; when that read is
uncorrectable the new bytes are dropped, the error is logged, and the owner is marked. -/
def State.flushEntry (s : State) (m : MergeEntry) : State :=
  let s := { s with memory := { s.memory with merge := s.memory.merge.filter fun x => !(x.word = m.word) } }
  let s := s.bump (aMemctl m.ctl 0x120)
  if m.bytes.length = 64 then s.writeWord m.word (m.bytes.map (·.2))
  else
    let s := s.bump (aMemctl m.ctl 0x124)
    let src := if m.owner = .commit then 3 else 1
    if (s.classOf m.word).2 = 2 then
      let s := match s.errOf m.word with
        | none => s
        | some e => s.setErr (e.touched (offsOf m.bytes))
      ({ s with memory := { s.memory with cells := pokeSome s.memory.cells m.word m.bytes } }).applyFlip m.word
    else
      match s.readWord m.word src with
      | (none, s) => { s with memory := { s.memory with flushFails := s.memory.flushFails ++ [(m.owner, m.word)] } }
      | (some d, s) =>
        let s := (s.poke m.word d).clearErr m.word
        ({ s with memory := { s.memory with cells := pokeSome s.memory.cells m.word m.bytes } }).applyFlip m.word

/-- Entries flushed in order. -/
def State.flushAll (s : State) (l : List MergeEntry) : State := l.foldl (fun s m => s.flushEntry m) s

/-- Every entry that a command or step created is flushed before it ends (R330). -/
def State.flushOwner (s : State) (o : Owner) : State := s.flushAll (s.memory.merge.filter fun m => m.owner = o)

/-- Bytes put over those of an entry, by offset. -/
def mergeBytes (l : List (Nat × Byte)) (off : Nat) (bs : List Byte) : List (Nat × Byte) :=
  bs.zipIdx.foldl (fun (l : List (Nat × Byte)) (b : Byte × Nat) => put l (off + b.2) b.1) l

/-- A write enters the merge buffer of its controller: it joins the word's entry, or takes a new one, for which the oldest of
32 is flushed if needed; a complete entry is written at once (R330). -/
def State.mergeWrite (s : State) (o : Owner) (a : Nat) (bs : List Byte) : State :=
  let w := a / 64 * 64
  let c := ctlOf a
  match s.memory.merge.find? fun m => m.word = w with
  | some m =>
    let m' := { m with bytes := mergeBytes m.bytes (a % 64) bs }
    let s := { s with memory := { s.memory with merge := s.memory.merge.map fun x => if x.word = w then m' else x } }
    if m'.bytes.length = 64 then s.flushEntry m' else s
  | none =>
    let mine := s.memory.merge.filter fun m => m.ctl = c
    let s := if 32 ≤ mine.length then (match mine.head? with | some m => s.flushEntry m | none => s) else s
    { s with memory := { s.memory with merge := s.memory.merge ++ [⟨c, w, mergeBytes [] (a % 64) bs, o⟩] } }

/-- The word has an entry in its controller's merge buffer. -/
def State.hasEntry (s : State) (w : Nat) : Bool := s.memory.merge.any fun m => m.word = w

/-- One piece of one word written: Granary bytes with fresh parity (R326), a whole external word directly, a part of one
through the merge buffer (R330). A whole word that has an entry is a later write to the same word: it merges into that entry,
in the order of arrival, and completes it (log 131). -/
def State.writePiece (s : State) (o : Owner) (p : Nat × Nat) (bs : List Byte) : State :=
  if tierOf p.1 = some .granary then
    let s := s.poke p.1 bs
    { s with memory := { s.memory with badParity := s.memory.badParity.filter fun x => !(p.1 ≤ x && x < p.1 + p.2) } }
  else if p.2 = 64 && !s.hasEntry p.1 then s.writeWord p.1 bs
  else s.mergeWrite o p.1 bs

/-- Pieces written in ascending order. -/
def State.writePieces (o : Owner) (a : Nat) (bs : List Byte) : List (Nat × Nat) → State → State
  | [], s => s
  | p :: t, s => State.writePieces o a bs t (s.writePiece o p ((bs.drop (p.1 - a)).take p.2))

/-- Bytes written from an address on behalf of a command or step. -/
def State.writeMem (s : State) (o : Owner) (a : Nat) (bs : List Byte) : State :=
  State.writePieces o a bs (wordPieces a bs.length) s

/-- The lowest word whose flush failed for an owner, and the state with that owner's marks taken (R91, R332). -/
def State.takeFails (s : State) (o : Owner) : Option Nat × State :=
  let mine : List Nat := (s.memory.flushFails.filter fun (f : Owner × Nat) => f.1 = o).map fun (f : Owner × Nat) => f.2
  (mine.min?, { s with memory := { s.memory with flushFails := s.memory.flushFails.filter fun f => !(f.1 = o) } })

end Sys2Proof.Machine
end

