-- ==== Sys2Proof/Machine/Reeve.lean ====
section
/-!
DEFINITION. How the Reeve checks, starts and answers a command (04): the order of R67, the hold of a lane (R71), the
legality of R72 with the wait for a wake (W), and the queue of a lane (R58, R69).
-/
namespace Sys2Proof.Machine

/-- The commands that a held lane still serves (R67, check 2). -/
def servedWhenHeld (op : Nat) : Bool := op = 0x0405 || op = 0x0404 || op = 0x0408

/-- A command marked W (R72, R391): from IDLE it goes on at once in READY; with a supply warning in force while the
device sleeps it ends with SUPPLY_FAULT (R398); else it waits for the wake. -/
def State.wakeFirst (s : State) (h : ReqHdr) (cmd : Instr) (body : State → State) : State :=
  let op := (opcodeOf cmd).getD 0
  if s.dev = .idle ∧ s.lantern.entry = none then body { s with dev := .ready }
  else if s.lantern.warn ∧ s.dev ≠ .idle then s.failReply h op { status := stSupplyFault }
  else s.setJob h op cmd .waitWake

/-- The checks of R67 from order 3 on: the legality with the chapter's own state conditions (`pre`), the fields in
ascending offset, the named objects, and the zero length. -/
def State.serveLegal (s : State) (h : ReqHdr) (cmd : Instr) (pre fields objs : List (Option Failure)) (nothing : Bool)
    (body : State → State) : State :=
  let op := (opcodeOf cmd).getD 0
  match legality op s.dev with
  | .n => s.failReply h op { status := stWrongState }
  | lg =>
    match firstFailure (pre ++ fields ++ objs) with
    | some f => s.failReply h op f
    | none =>
      if nothing then s.reply h op stNothing
      else if lg = .w then s.wakeFirst h cmd body
      else body s

/-- A command served in the order of R67 from check 2 on: the hold of its lane, then the rest. -/
def State.serve (s : State) (h : ReqHdr) (cmd : Instr) (pre fields objs : List (Option Failure)) (nothing : Bool)
    (body : State → State) : State :=
  let op := (opcodeOf cmd).getD 0
  match (s.lane h.lane).held with
  | some q =>
    if servedWhenHeld op then s.serveLegal h cmd pre fields objs nothing body
    else s.failReply h op { status := stLaneHeld, detail := q }
  | none => s.serveLegal h cmd pre fields objs nothing body

/-- WRONG_STATE when a condition of the command's chapter does not hold. -/
def wrongUnless (ok : Bool) : Option Failure := need ok { status := stWrongState }

/-- A request taken as the next of its lane: E rises (R58, R59). -/
def State.accept (s : State) (h : ReqHdr) : State :=
  let ln := s.lane h.lane
  if h.seq = ln.e ∧ seqDiff ln.e ln.b < 256 then s.setLane h.lane { ln with e := (ln.e + 1) % 2 ^ 32 } else s

/-- A SET_NET of the lane has been answered and is not yet in effect (R52). -/
def State.netPending (s : State) (l : Nat) : Bool := s.net.pendingNet.any fun e => e.1 = l

/-- The lane has a command running or waiting, or one whose effects are not complete (R69). -/
def State.busy (s : State) (l : Nat) : Bool := (s.lane l).job.isSome || (s.lane l).queue ≠ [] || s.netPending l

/-- A request put in line behind the lane's earlier ones (R58). -/
def State.enqueue (s : State) (r : Req) : State :=
  let ln := s.lane r.hdr.lane
  s.setLane r.hdr.lane { ln with queue := ln.queue ++ [r] }

/-- A host command as a row of the table: it is accepted, and starts at once when its lane is free, else it waits its
turn (R69, log entry 5). OFF, LANTERN and SHUTDOWN take no command (R53), and there are 16 lanes (R58). -/
def State.hostCommand (s : State) (h : ReqHdr) (cmd : Instr) (start : State → State) : State :=
  if s.dev.column.isNone ∨ 16 ≤ h.lane then s
  else
    let s := s.accept h
    if s.busy h.lane then s.enqueue ⟨h, (opcodeOf cmd).getD 0, requestBytes cmd, none⟩ else start s

/-- A value an expert request carries, or the register value that stands for it in the basic form (R6). -/
def orReg {α : Type} (x : Option α) (d : α) : α := x.getD d

/-- Some command of any lane is of this kind. -/
def State.anyJob (s : State) (p : Job → Bool) : Bool := s.lanes.any fun l => match l.job with | some j => p j | none => false

/-- ENGINE_START is under way (R116). -/
def State.engineStarting (s : State) : Bool :=
  s.anyJob fun j => match j.kind with | .engineStart _ _ _ => true | _ => false

/-- MARGIN_TEST is under way (R125). -/
def State.marginTesting (s : State) : Bool :=
  s.anyJob fun j => match j.kind with | .marginTest _ _ _ => true | _ => false

/-- MARGIN_TEST or SIEVE_RUN is under way: a STEP_RUN that starts waits for its end (R125, R412). -/
def State.testing (s : State) : Bool :=
  s.anyJob fun j => match j.kind with
    | .marginTest _ _ _ => true
    | .sieveRun _ _ _ _ _ _ _ => true
    | _ => false

/-- FW_LOAD_END is under way (R423). -/
def State.fwLoading (s : State) : Bool := s.anyJob fun j => match j.kind with | .fwLoadEnd => true | _ => false

end Sys2Proof.Machine
end

