-- ==== Sys2Proof/Machine/Hasp.lean ====
section
/-!
DEFINITION. The Hasp (19): loading, verification and start of a firmware image (R422 to R426, R110, R111), fuse
programming (R425), certificates (R427) and attestation (R428, R429).
-/
namespace Sys2Proof.Machine

/-- The fused SVN: programmed bits from bit 0 up to the first unprogrammed one (R420). -/
def fusedSvn (bits : List Bool) : Nat := (bits.takeWhile id).length

/-- The slots that are programmed, as bits 3:0 (R420). -/
def slotsProgrammed : Nat := ((List.range 4).map fun k => b2n (Config.keyHash k ≠ 0) * 2 ^ k).sum

/-- Truth values as bits, the first at bit 0. -/
def boolBits (l : List Bool) : Nat := (l.zipIdx.map fun b => b2n b.1 * 2 ^ b.2).sum

/-- Load commands need a load begun, and none may start while FW_LOAD_END runs in another lane (R423, check 3). -/
def State.loadReady (s : State) : List (Option Failure) := [wrongUnless (!s.fwLoading), wrongUnless s.hasp.load.isSome]

/-- FW_LOAD_BEGIN (R423): any image under assembly is discarded and a new one begun. -/
def doFwLoadBegin (h : ReqHdr) (total rsv : Nat) (s : State) : State :=
  s.serve h (.fwLoadBegin h total rsv) [wrongUnless (!s.fwLoading)] [shape 0 total 4384 16777504, rsvZero 4 rsv] [] false
    fun s => ({ s with hasp := { s.hasp with load := some ⟨total, []⟩ } }).reply h 0x0801 stOk

/-- Bytes of an image written at an offset; the chunk that starts later stands (R423). -/
def loadBytes : List (Nat × Byte) → Nat → List Byte → List (Nat × Byte)
  | l, _, [] => l
  | l, o, b :: t => loadBytes (put l o b) (o + 1) t

/-- FW_LOAD_DATA (R423). -/
def doFwLoadData (h : ReqHdr) (off : Nat) (data : List Byte) (s : State) : State :=
  let total := (s.hasp.load.map fun l => l.total).getD 0
  s.serve h (.fwLoadData h off data) s.loadReady
    [need (off + data.length ≤ total) (fRange 0 off), inRange 4 data.length 0 8960] [] (data = []) fun s =>
    (match s.hasp.load with
     | none => s
     | some l => { s with hasp := { s.hasp with load := some ⟨l.total, loadBytes l.bytes off data⟩ } }).reply h 0x0802 stOk

/-- FW_LOAD_END starts its checks; COMMAND_COMPLETION ends it (R424, R426). -/
def doFwLoadEnd (h : ReqHdr) (s : State) : State :=
  s.serve h (.fwLoadEnd h) s.loadReady [] [] false fun s => s.setJob h 0x0803 (.fwLoadEnd h) .fwLoadEnd

/-- The header fields of an image outside R422, in ascending offset: the offset of the first (R424, check 2). -/
def headerFault (m : List Byte) (total : Nat) : Option Nat :=
  let body := fieldAt m 24 4
  let bad (off : Nat) (ok : Bool) : Option Nat := if ok then none else some off
  [bad 0 (fieldAt m 0 4 = 0x48415350), bad 4 (fieldAt m 4 2 = 1), bad 6 (fieldAt m 6 2 = 0), bad 8 (fieldAt m 8 4 = 0x47393600),
   bad 16 (fieldAt m 16 2 ≤ 64), bad 18 (fieldAt m 18 2 ≤ 3), bad 20 (fieldAt m 20 1 ≤ 3), bad 21 (fieldAt m 21 3 = 0),
   bad 24 (4096 ≤ body && body ≤ 16777216 && body % 16 = 0 && 288 + body = total),
   bad 28 (fieldAt m 28 4 % 16 = 0 && fieldAt m 28 4 < body), bad 177 (fieldAt m 177 15 = 0)].findSome? id

/-- The outcome of the six checks of R424: nothing when all pass. -/
def imageFailure (svnBits revoked : List Bool) (l : Load) : Option Failure :=
  match (List.range l.total).find? fun i => (look l.bytes i).isNone with
  | some o => some { status := stImageFormat, detail := o }
  | none =>
    let m := l.bytes.map fun b => b.2
    match headerFault m l.total with
    | some o => some { status := stImageFormat, detail := o }
    | none =>
      let slot := fieldAt m 20 1
      let key := (m.drop 80).take 97
      let q := pointOf key
      if Config.keyHash slot = 0 ∨ revoked.getD slot false ∨ ofBe (sha384 key) ≠ (Config.keyHash slot).toNat ∨ q = none then
        some { status := stSigInvalid }
      else if !ecdsaVerify q (sha384 (m.take 192)) (fieldAt m 192 48) (fieldAt m 240 48) then some { status := stSigInvalid }
      else if sha384 (m.drop 288) ≠ (m.drop 32).take 48 then some { status := stSigInvalid }
      else if fieldAt m 16 2 < fusedSvn svnBits then some { status := stRollback, detail := fusedSvn svnBits }
      else none

/-- The fuse bits an image asks for that are not programmed yet, in the order they are programmed: SVN bits ascending, then
KEY_REVOKED bits (R425). A left value is an SVN bit, a right one a slot. -/
def burnPlan (svnBits revoked : List Bool) (svn flags slot : Nat) : List (Sum Nat Nat) :=
  (if bitOf flags 0 ∧ fusedSvn svnBits < svn then
     ((List.range svn).filter fun i => !(svnBits.getD i false)).map Sum.inl else [])
    ++ (if bitOf flags 1 then ((List.range slot).filter fun k => !(revoked.getD k false)).map Sum.inr else [])

/-- One fuse bit programmed. -/
def Hasp.burn (x : Hasp) : Sum Nat Nat → Hasp
  | .inl i => { x with svnBits := setAt x.svnBits i true }
  | .inr k => { x with revoked := setAt x.revoked k true }

/-- Fuses programmed one at a time (R425): a warning in force at the start programs nothing, one confirmed before the
n-th bit stops there, a failed read-back stops after that bit, which reads unprogrammed. -/
def State.burnFuses (s : State) (plan : List (Sum Nat Nat)) (env : Env) : State :=
  if plan = [] then s
  else
    let warnAt := if s.lantern.warn then some 0 else env.burnWarnAt
    let stopW := (warnAt.map fun n => min n plan.length).getD plan.length
    let stopF := (env.burnFailAt.map fun n => min n plan.length).getD plan.length
    let skipped := decide (stopW < plan.length ∧ stopW ≤ stopF)
    let failed := decide (stopF < plan.length ∧ stopF < stopW)
    let done := plan.take (min stopW stopF)
    let s := { s with hasp := done.foldl Hasp.burn s.hasp }
    let s := if done = [] then s else s.bump (aHasp 0x78)
    let s := (s.setFld (aHasp 0x8) 4 1 (b2n failed)).setFld (aHasp 0x8) 5 1 (b2n skipped)
    if failed ∨ skipped then
      s.raise { kind := 0x0007, block := 0x00A0, inst := 0, detail := b2n failed + 2 * b2n skipped } (some .hasp)
    else s

/-- The fuses that an image under verification asks for (R425). -/
def State.loadPlan (s : State) (l : Load) : List (Sum Nat Nat) :=
  let m := l.bytes.map fun b => b.2
  burnPlan s.hasp.svnBits s.hasp.revoked (fieldAt m 16 2) (fieldAt m 18 2) (fieldAt m 20 1)

/-- A reset cuts a FW_LOAD_END short (R421, R426): of the bits that its image asks for some of the first have been
programmed, how many is a free value. -/
def State.cutBurn (s : State) : State :=
  match s.hasp.load with
  | none => s
  | some l =>
    if s.fwLoading && (imageFailure s.hasp.svnBits s.hasp.revoked l).isNone then
      let plan := s.loadPlan l
      let v := s.takeFree
      { v.2 with hasp := (plan.take (v.1 % (plan.length + 1))).foldl Hasp.burn v.2.hasp }
    else s

/-- The verified firmware starts (R111, R426): measurement and identity recorded, controllers trained, all memory zero
with valid check bits; GLOBAL and WALONG registers and lanes carry on; the device enters CONFIG. -/
def State.startFirmware (s : State) (m : List Byte) : State :=
  let mem : Memory := { s.memory with cells := [], errs := [], badParity := [], merge := [], flushFails := [], trained := true }
  { s with
    dev := .config
    memory := mem
    hasp := { s.hasp with
      load := none, running := true, fwVersion := fieldAt m 12 4, fwSvn := fieldAt m 16 2, keySlot := fieldAt m 20 1
      measurement := sha384 (m.take 192) } }

/-- FW_LOAD_END ends (R424 to R426): a failure discards the image, is recorded and leaves BOOT as it is (R110); success
programs the fuses and starts the firmware before the reply leaves. -/
def finishFwLoadEnd (h : ReqHdr) (env : Env) (s : State) : State :=
  match s.hasp.load with
  | none => s.failReply h 0x0803 { status := stWrongState }
  | some l =>
    match imageFailure s.hasp.svnBits s.hasp.revoked l with
    | some f =>
      let s := { s with hasp := { s.hasp with load := none } }
      let s := (s.bump (aHasp 0x70)).setReg (aHasp 0x2C) f.status
      (s.raise (f.record 0x0006 h) (some .hasp)).failReply h 0x0803 f
    | none =>
      let m := l.bytes.map fun b => b.2
      ((s.burnFuses (s.loadPlan l) env).startFirmware m).reply h 0x0803 stOk

/-- CERT_READ (R427): two certificates, each after its length. -/
def doCertRead (h : ReqHdr) (s : State) : State :=
  s.serve h (.certRead h) [] [] [] false fun s =>
    s.reply h 0x0805 stOk (be 2 2 ++ be 2 0 ++ be 2 (Config.cert 0).length ++ Config.cert 0
      ++ be 2 (Config.cert 1).length ++ Config.cert 1)

/-- Bytes 0 to 223 of an attestation report (R428). -/
def State.reportHead (s : State) (nonce : List Byte) : List Byte :=
  be 2 1 ++ be 2 320 ++ be 4 0x47393600 ++ be 8 Config.serial.toNat ++ be 2 Config.romVersion.toNat
    ++ be 2 Config.siliconRev.toNat ++ be 4 s.hasp.fwVersion ++ be 2 s.hasp.fwSvn ++ be 2 (fusedSvn s.hasp.svnBits)
    ++ be 1 s.hasp.keySlot ++ be 1 (boolBits s.hasp.revoked) ++ be 1 s.dev.code
    ++ be 1 (b2n s.engine + 2 * b2n s.degraded + 4 * s.fld (aHasp 0x8) 4 2)
    ++ be 8 (s.uptime % 2 ^ 48) ++ be 4 s.hasp.reportSeq ++ be 4 s.ledger.bootCount ++ be 48 Config.romHash.toNat
    ++ s.hasp.measurement ++ be 48 (Config.keyHash s.hasp.keySlot).toNat ++ nonce

/-- ATTEST (R428, R429): the report over the values at the start, signed by the identity key. -/
def doAttest (h : ReqHdr) (nonce : List Byte) (s : State) : State :=
  s.serve h (.attest h nonce) [] [] [] false fun s =>
    let r := s.reportHead nonce
    let sig := ecdsaSign Config.identityKey.toNat (sha384 r)
    (({ s with hasp := { s.hasp with reportSeq := (s.hasp.reportSeq + 1) % 2 ^ 32 } }).bump (aHasp 0x74)).reply h 0x0804 stOk
      (r ++ be 48 sig.1 ++ be 48 sig.2)

end Sys2Proof.Machine
end

