-- ==== Sys2Proof/Machine/Wire.lean ====
section
/-!
DEFINITION. What the device's frames are on the wire, byte for byte (03): the check sums of Ethernet, IP, UDP, ICMP and
Walong (R43, R46, R47, R55), the 32 header bytes of a Walong packet (R54), the UDP datagram, the IP packet and the
Ethernet frame around it (R45, R47, R49).
-/
namespace Sys2Proof.Machine

/-! ### Check sums -/

/-- One bit step of a reflected 32-bit CRC. -/
def crcBit (poly c : BitVec 32) : BitVec 32 := if c.getLsbD 0 then (c >>> 1) ^^^ poly else c >>> 1

/-- One byte of a reflected 32-bit CRC. -/
def crcByte (poly c : BitVec 32) (b : Byte) : BitVec 32 :=
  let c := c ^^^ b.setWidth 32
  crcBit poly (crcBit poly (crcBit poly (crcBit poly (crcBit poly (crcBit poly (crcBit poly (crcBit poly c)))))))

/-- A reflected CRC with all-ones start and final complement. -/
def crcRefl (poly : BitVec 32) (l : List Byte) : BitVec 32 := ~~~ (l.foldl (crcByte poly) 0xFFFFFFFF#32)

/-- CRC-32C (R55): polynomial 0x1EDC_6F41, reflected. -/
def crc32c (l : List Byte) : BitVec 32 := crcRefl 0x82F63B78#32 l

/-- The frame check sequence of Ethernet (PRESUMED, IEEE 802.3; R42, log entry 6). -/
def crc32 (l : List Byte) : BitVec 32 := crcRefl 0xEDB88320#32 l

/-- The ones' complement sum of 16-bit words, folded (IP, UDP and ICMP check sums; log entry 6). -/
def onesSum : List Byte → Nat
  | [] => 0
  | [a] => a.toNat * 256
  | a :: b :: t => a.toNat * 256 + b.toNat + onesSum t

/-- A check sum over bytes that hold it is right when the folded sum is 0xFFFF. -/
def sumOk (n : Nat) : Bool := n ≠ 0 && n % 0xFFFF = 0

/-- The check sum that makes a sum over the other bytes right (log entry 6). -/
def sumField (n : Nat) : Nat := (0xFFFF - n % 0xFFFF) % 0xFFFF

/-- The check sum of a UDP datagram: never 0, which would mean none (R47, log entry 6). -/
def udpSum (n : Nat) : Nat := if sumField n = 0 then 0xFFFF else sumField n

/-! ### Walong packets (R54, R55) -/

/-- The 32 header bytes of a packet, every multi-byte field big-endian, with a value for the CRC (R2, R54). -/
def WPacket.head (p : WPacket) (crc : Nat) : List Byte :=
  be 2 0x574C ++ be 1 1 ++ be 1 p.flags ++ be 1 p.lane ++ be 1 0 ++ be 2 p.payload.length ++ be 4 p.seq ++ be 4 p.ack
    ++ be 2 p.opcode ++ be 2 p.status ++ be 4 p.tag ++ be 4 0 ++ be 4 crc

/-- The CRC-32C of a packet: its header with the CRC bytes taken as 0, then its payload (R55). -/
def WPacket.crc (p : WPacket) : Nat := (crc32c (p.head 0 ++ p.payload)).toNat

/-- A Walong packet as bytes (R54, R55). -/
def WPacket.bytes (p : WPacket) : List Byte := p.head p.crc ++ p.payload

/-! ### Datagrams, packets and frames (R43, R45, R47, R49) -/

/-- The sum of the pseudo-header of UDP and ICMPv6: both addresses, the length and the protocol (log entry 6). -/
def pseudoSum (v6 : Bool) (src dst proto len : Nat) : Nat :=
  (if v6 then onesSum (be 16 src) + onesSum (be 16 dst) else onesSum (be 4 src) + onesSum (be 4 dst)) + proto + len

/-- A UDP datagram from port 18607 with its check sum (R47). -/
def udpBytes (peer : NetAddr) (data : List Byte) : List Byte :=
  let n := 8 + data.length
  let head (c : Nat) : List Byte := be 2 18607 ++ be 2 peer.port ++ be 2 n ++ be 2 c
  head (udpSum (pseudoSum peer.v6 peer.own peer.ip 17 n + onesSum (head 0 ++ data))) ++ data

/-- An echo reply with its check sum (R48, log entry 6). -/
def echoBytes (peer : NetAddr) (ident seq : Nat) (data : List Byte) : List Byte :=
  let head (c : Nat) : List Byte := be 1 (if peer.v6 then 129 else 0) ++ be 1 0 ++ be 2 c ++ be 2 ident ++ be 2 seq
  let pseudo := if peer.v6 then pseudoSum true peer.own peer.ip 58 (8 + data.length) else 0
  head (sumField (pseudo + onesSum (head 0 ++ data))) ++ data

/-- The IP packet around a body: IPv4 without options, DF set, TTL 64, or IPv6 with hop limit 64, and the traffic class of
the address it answers (R46, R49, the protocol table of 03). -/
def ipBytes (peer : NetAddr) (proto : Nat) (body : List Byte) : List Byte :=
  if peer.v6 then
    be 4 (6 * 2 ^ 28 + peer.tclass * 2 ^ 20) ++ be 2 body.length ++ be 1 proto ++ be 1 64 ++ be 16 peer.own ++ be 16 peer.ip ++ body
  else
    let head (c : Nat) : List Byte := be 1 0x45 ++ be 1 peer.tclass ++ be 2 (20 + body.length) ++ be 2 0 ++ be 2 0x4000 ++ be 1 64
      ++ be 1 proto ++ be 2 c ++ be 4 peer.own ++ be 4 peer.ip
    head (sumField (onesSum (head 0))) ++ body

/-- The Ethernet frame around an IP packet, padded to 64 bytes, with its tag and frame check sequence (R43, R45). -/
def frameBytes (vlan : Option (Nat × Nat)) (peer : NetAddr) (packet : List Byte) : List Byte :=
  let tag := match vlan with
    | some (vid, pcp) => be 2 0x8100 ++ be 2 (pcp * 0x2000 + vid)
    | none => []
  let b := be 6 peer.mac ++ be 6 Config.mac.toNat ++ tag ++ be 2 (if peer.v6 then 0x86DD else 0x0800) ++ packet
  let b := b ++ List.replicate (60 - b.length) 0
  b ++ le 4 (crc32 b).toNat

/-- A frame that carries a Walong packet or an echo reply, as bytes; the frames of ARP and ND, whose layout is that of their
RFCs alone (log entry 6), stay data. -/
def OutFrame.bytes (f : OutFrame) : Option (List Byte) :=
  match f.kind with
  | .walong p => some (frameBytes f.vlan p.dst (ipBytes p.dst 17 (udpBytes p.dst p.bytes)))
  | .echoReply dst src ident seq data =>
    let peer := { dst with own := src }
    some (frameBytes f.vlan peer (ipBytes peer (if peer.v6 then 58 else 1) (echoBytes peer ident seq data)))
  | _ => none

end Sys2Proof.Machine
end

