-- ==== Sys2Proof/Machine/Walong.lean ====
section
/-!
DEFINITION. The Ethernet port and the Walong endpoint (03): checks of a frame (R43 to R48), addresses (R50 to R53),
CRC-32C (R55), intake checks (R57), lane windows and acknowledgement (R58 to R64), EVENT packets (R65, R66).
-/
namespace Sys2Proof.Machine

/-! ### Addresses (R50) -/

/-- The fused MAC address as a number. -/
def ownMac : Nat := Config.mac.toNat

/-- The IPv6 link-local address: fe80::/64 with the modified EUI-64 of the MAC address. -/
def linkLocal6 : Nat :=
  let hi := (ownMac / 2 ^ 24) ^^^ 0x020000
  0xFE80 * 2 ^ 112 + hi * 2 ^ 40 + 0xFFFE * 2 ^ 24 + ownMac % 2 ^ 24

/-- The IPv4 link-local address 169.254.a.b (R50). -/
def linkLocal4 : Nat :=
  0xA9FE * 2 ^ 16 + (1 + ownMac / 256 % 256 % 254) * 256 + ownMac % 256

/-- The IPv6 address that four registers hold, bits 127:96 in the first. -/
def State.ip6At (s : State) (a : Nat) : Nat :=
  s.reg a * 2 ^ 96 + s.reg (a + 4) * 2 ^ 64 + s.reg (a + 8) * 2 ^ 32 + s.reg (a + 12)

/-- The host-set IPv4 address. -/
def State.ip4Set (s : State) : Nat := s.reg (aWalong 0x1C)

/-- The host-set IPv6 address. -/
def State.ip6Set (s : State) : Nat := s.ip6At (aWalong 0x30)

/-- The IPv4 addresses in use: the link-local one once probed, and the host-set one while enabled (R50, R51). -/
def State.own4 (s : State) : List Nat :=
  (if s.net.ll4Ok && bitOf (s.reg (aWalong 0x4)) 1 then [linkLocal4] else [])
    ++ (if bitOf (s.reg (aWalong 0x20)) 8 && !bitOf (s.reg (aWalong 0x8)) 4 && s.ip4Set ≠ 0 then [s.ip4Set] else [])

/-- The IPv6 addresses in use. -/
def State.own6 (s : State) : List Nat :=
  (if s.net.ll6Ok then [linkLocal6] else [])
    ++ (if bitOf (s.reg (aWalong 0x40)) 8 && s.net.ip6Ok && s.ip6Set ≠ 0 then [s.ip6Set] else [])

/-! ### Lanes -/

/-- An ACKNOWLEDGE value processed (R61): within B to E it frees the replies it covers and B becomes it; else it is
counted in RX_BAD_ACK. -/
def State.processAck (s : State) (l a : Nat) : State :=
  let ln := s.lane l
  if seqDiff a ln.b ≤ seqDiff ln.e ln.b then
    s.setLane l { ln with
      b := a % 2 ^ 32
      replies := ln.replies.filter fun r => !(decide (seqDiff r.hdr.seq ln.b < seqDiff a ln.b)) }
  else s.bump (aWalong 0x120)

/-- The moment allows one more rate-limited ACK_ONLY: 10 µs are 40 Lantern ticks (R60). -/
def ackAllowed (last : Option Nat) (now : Nat) : Bool :=
  match last with
  | none => true
  | some t => t + 40 ≤ now

/-- The ACK_ONLY of an out-of-order or overrun request (R60). -/
def State.windowAck (s : State) (src : NetAddr) (l : Nat) : State :=
  let ln := s.lane l
  if ackAllowed ln.ackSent s.clocks.tick then
    (s.setLane l { ln with ackSent := some s.clocks.tick }).sendAckOnly src l ln.e 0
  else s

/-- The tag of a command that is accepted and not yet answered. -/
def Lane.tagOf (ln : Lane) (seq : Nat) : Option Nat :=
  match ln.job with
  | some j => if j.hdr.seq = seq then some j.hdr.tag else (ln.queue.find? fun r => r.hdr.seq = seq).map fun r => r.hdr.tag
  | none => (ln.queue.find? fun r => r.hdr.seq = seq).map fun r => r.hdr.tag

/-- A duplicate request (R59): its complete reply is resent to the source of the duplicate, or an ACK_ONLY for the
command is sent within the limit of R60; it is never executed again. -/
def State.duplicate (s : State) (h : ReqHdr) : State :=
  let s := s.bump (aWalong 0x110)
  let ln := s.lane h.lane
  match ln.replies.find? fun r => r.hdr.seq = h.seq with
  | some r => s.sendReply { r with hdr := { r.hdr with src := h.src } }
  | none =>
    if ackAllowed (look ln.dupSent h.seq) s.clocks.tick then
      (s.setLane h.lane { ln with dupSent := put ln.dupSent h.seq s.clocks.tick }).sendAckOnly h.src h.lane h.seq
        ((ln.tagOf h.seq).getD h.tag)
    else s

/-- The failure an intake check from order 10 on gives a request that is the next of its lane (R57). -/
def intakeFailure (flags rsv5 status rsv24 op : Nat) (expert : Bool) : Option Failure :=
  firstFailure [
    need (flags / 8 = 0) (fRange (0xFFE0 + 3) flags),
    need (rsv5 = 0) (fRange (0xFFE0 + 5) rsv5),
    need (status = 0) (fRange (0xFFE0 + 18) status),
    need (rsv24 = 0) (fRange (0xFFE0 + 24) rsv24),
    need (opcodeKnown op expert) { status := stBadOpcode }]

/-- IDENTIFY's reply (R80). -/
def State.identifyBytes (s : State) : List Byte :=
  be 4 0x47393600 ++ be 2 Config.siliconRev.toNat ++ be 1 s.dev.code
    ++ be 1 (b2n s.hasp.running + 2 * b2n s.engine + 4 * b2n s.degraded)
    ++ be 8 Config.serial.toNat ++ be 4 (if s.hasp.running then s.hasp.fwVersion else 0)
    ++ be 2 (if s.hasp.running then s.hasp.fwSvn else 0) ++ be 2 Config.romVersion.toNat
    ++ be 2 ((s.lanes.zipIdx.map fun l => b2n l.1.held.isSome * 2 ^ l.2).sum) ++ be 2 0
    ++ be 8 (s.uptime % 2 ^ 48) ++ be 4 s.ledger.bootCount

/-- An unsequenced reply: it carries the lane's E and is not retained (R63). -/
def State.replyUnsequenced (s : State) (h : ReqHdr) (op status : Nat) (payload : List Byte) : State :=
  s.sendReply { hdr := h, opcode := op, status := status, payload := payload }

/-- IDENTIFY, in any lane and any state with the port up (R63, R80). -/
def doIdentify (h : ReqHdr) (s : State) : State :=
  if s.dev.column = none then s else s.replyUnsequenced h 0x0001 stOk s.identifyBytes

/-- PING: the same bytes back (R63, R81). -/
def doPing (h : ReqHdr) (data : List Byte) (s : State) : State :=
  if s.dev.column = none then s else s.replyUnsequenced h 0x0002 stOk data

/-- One UDP datagram to port 18607 (R57, R59, R61, R63). -/
def doWalongPacket (src : NetAddr) (p : List Byte) (s : State) : State :=
  if !s.portUp then s
  else if p.length < 32 ∨ 9000 < p.length then s.bump (aWalong 0x108)
  else
    let flags := fieldAt p 3 1
    let lane := fieldAt p 4 1
    let len := fieldAt p 6 2
    let seq := fieldAt p 8 4
    let ack := fieldAt p 12 4
    let opf := fieldAt p 16 2
    if fieldAt p 0 2 ≠ 0x574C ∨ fieldAt p 2 1 ≠ 1 then s.bump (aWalong 0x108)
    else if 32 + len ≠ p.length then s.bump (aWalong 0x108)
    else if (crc32c (p.take 28 ++ [0, 0, 0, 0] ++ p.drop 32)).toNat ≠ fieldAt p 28 4 then s.bump (aWalong 0x10C)
    else if 15 < lane ∨ bitOf flags 0 ∨ bitOf flags 2 then s.bump (aWalong 0x108)
    else if bitOf flags 1 then
      (if len ≠ 0 ∨ opf ≠ 0 then s.bump (aWalong 0x108) else s.processAck lane ack)
    else
      let s := s.processAck lane ack
      let h : ReqHdr := ⟨lane, seq, fieldAt p 20 4, bitOf opf 15, src⟩
      let data := p.drop 32
      if opf = 0x0001 then
        (if data = [] then doIdentify h s
         else s.replyUnsequenced h 0x0001 stBadLength (Failure.bytes { status := stBadLength, detail := len }))
      else if opf = 0x0002 then doPing h data s
      else
        let ln := s.lane lane
        let d := seqDiff seq ln.b
        let w := seqDiff ln.e ln.b
        if d < w then s.duplicate h
        else if d = w ∧ d < 256 then
          (s.setLane lane { ln with e := (ln.e + 1) % 2 ^ 32 }).enqueue
            ⟨h, opf % 0x8000, data, intakeFailure flags (fieldAt p 5 1) (fieldAt p 18 2) (fieldAt p 24 4) (opf % 0x8000) (bitOf opf 15)⟩
        else if d < 256 then (s.bump (aWalong 0x114)).windowAck src lane
        else if d < 2 ^ 31 then (s.bump (aWalong 0x118)).windowAck src lane
        else s.bump (aWalong 0x11C)

/-- ACK_DELAY has passed for a command that has not completed: a repeated ACK_ONLY, until its reply is sent or an
ACKNOWLEDGE covers it (R62, R64). -/
def doAckDelay (lane seq : Nat) (s : State) : State :=
  let ln := s.lane lane
  match ln.tagOf seq with
  | none => s
  | some tag =>
    if seqDiff seq ln.b < seqDiff ln.e ln.b then
      let src := match ln.job with
        | some j => if j.hdr.seq = seq then j.hdr.src else ((ln.queue.find? fun r => r.hdr.seq = seq).map fun r => r.hdr.src).getD {}
        | none => ((ln.queue.find? fun r => r.hdr.seq = seq).map fun r => r.hdr.src).getD {}
      s.sendAckOnly src lane seq tag
    else s

/-! ### Address protocols -/

/-- An ARP request for an own IPv4 address is answered (R45, Protocol support table of 03). -/
def doArpRequest (target senderIp senderMac : Nat) (s : State) : State :=
  if s.portUp && s.own4.contains target then s.send (.arpReply target senderIp senderMac) else s

/-- The all-nodes group and its MAC address (R43). -/
def allNodes : Nat := 0xFF02 * 2 ^ 112 + 1

/-- The MAC address of the all-nodes group. -/
def allNodesMac : Nat := 0x333300000001

/-- A neighbour solicitation for an own IPv6 address is answered (R50); one without a sender address, which another node's
duplicate detection sends, is answered to the all-nodes group (log entry 6). -/
def doNdSolicitation (target senderIp senderMac : Nat) (s : State) : State :=
  if s.portUp && s.own6.contains target then
    (if senderIp = 0 then s.send (.neighbourAdvert target allNodes allNodesMac)
     else s.send (.neighbourAdvert target senderIp senderMac))
  else s

/-- An echo request is answered while ICMP_ECHO_EN is 1, up to 1,000 in one second of uptime and 1,024 B of data (R48). -/
def doIcmpEcho (src : NetAddr) (dst ident seq : Nat) (data : List Byte) (s : State) : State :=
  let sec := s.uptime / 1000
  let n := if s.net.echoSecond = sec then s.net.echoCount else 0
  if s.portUp && bitOf (s.reg (aWalong 0x4)) 0 && data.length ≤ 1024 && n < 1000
      && (if src.v6 then s.own6 else s.own4).contains dst then
    ({ s with net := { s.net with echoSecond := sec, echoCount := n + 1 } }).send (.echoReply src dst ident seq data)
  else s

/-- A PAUSE or PFC frame is counted and discarded (R44). -/
def doPause (s : State) : State := if s.portUp then s.bump (aWalong 0x124) else s

/-- The resolution cache with one more address (R49): a full cache of 64 gives up another entry, the one of the lowest
address, which is the model's choice (log entry 108). -/
def cacheWith (cache : List (Nat × Nat)) (ip mac : Nat) : List (Nat × Nat) :=
  let c := put cache ip mac
  if c.length ≤ 64 then c
  else match c.find? fun e => e.1 ≠ ip with
    | some e => del c e.1
    | none => c

/-- The MAC address of an IP address learned for the event destination (R49). -/
def State.learn (s : State) (ip mac : Nat) : State :=
  match s.net.resolution with
  | some r =>
    if r.ip = ip then { s with net := { s.net with resolution := none, cache := cacheWith s.net.cache ip mac } } else s
  | none => s

/-- A frame or packet dropped under R43, R45 or R46. -/
def State.filtered (s : State) : State := s.bump (aWalong 0x104)

/-- The solicited-node group of an IPv6 address as a MAC address. -/
def solicitedMac (ip : Nat) : Nat := 0x3333FF000000 + ip % 2 ^ 24

/-- The solicited-node group of an IPv6 address: ff02::1:ff00:0/104 (log entry 6). -/
def solicitedGroup (ip : Nat) : Nat := 0xFF02 * 2 ^ 112 + 0x1FF * 2 ^ 24 + ip % 2 ^ 24

/-- The IPv6 addresses whose solicited-node groups the device has joined: those in use and those under duplicate address
detection (R43, R50). An address that failed it is no own address. -/
def State.joined6 (s : State) : List Nat :=
  (if s.net.ll6Ok || s.net.dadLl then [linkLocal6] else [])
    ++ (if bitOf (s.reg (aWalong 0x40)) 8 && (s.net.ip6Ok || s.net.dad6) && s.ip6Set ≠ 0 then [s.ip6Set] else [])

/-- The MAC filter of R43 for a destination address and EtherType. -/
def State.macAccepts (s : State) (dst etype : Nat) : Bool :=
  dst = ownMac || (dst = 0xFFFFFFFFFFFF && etype = 0x0806) || dst = allNodesMac
    || s.joined6.any fun a => dst = solicitedMac a

/-- A UDP datagram of an accepted packet (R46, R47). -/
def State.udpIn (s : State) (v6 : Bool) (ip mac tclass own pseudo : Nat) (u : List Byte) : State :=
  if u.length < 8 ∨ fieldAt u 2 2 ≠ 18607 then s.filtered
  else
    let sum := fieldAt u 6 2
    let ok := if sum = 0 then !v6 else sumOk (pseudo + onesSum u)
    if ok ∧ fieldAt u 4 2 = u.length then doWalongPacket ⟨v6, ip, mac, fieldAt u 0 2, tclass, own⟩ (u.drop 8) s else s

/-- An IPv4 packet (R46 to R48). -/
def State.ip4In (s : State) (mac : Nat) (p : List Byte) : State :=
  let total := fieldAt p 2 2
  let src := fieldAt p 12 4
  let dst := fieldAt p 16 4
  let body := (p.take total).drop 20
  if p.length < 20 ∨ fieldAt p 0 1 ≠ 0x45 ∨ total < 20 ∨ p.length < total then s.filtered
  else if fieldAt p 6 2 % 0x4000 ≠ 0 ∨ !sumOk (onesSum (p.take 20)) ∨ !(s.own4.contains dst) then s.filtered
  else if fieldAt p 9 1 = 17 then
    s.udpIn false src mac (fieldAt p 1 1) dst (onesSum ((p.drop 12).take 8) + 17 + body.length) body
  else if fieldAt p 9 1 = 1 ∧ 8 ≤ body.length ∧ fieldAt body 0 2 = 0x0800 ∧ sumOk (onesSum body) then
    doIcmpEcho ⟨false, src, mac, 0, fieldAt p 1 1, dst⟩ dst (fieldAt body 4 2) (fieldAt body 6 2) (body.drop 8) s
  else s.filtered

/-- An IPv6 packet (R46 to R48, R50): UDP, echo requests, neighbour solicitations and advertisements. The messages of ND may
come to a group of R43 as well as to an own address (log entry 109); every other destination is foreign (R46). -/
def State.ip6In (s : State) (mac : Nat) (p : List Byte) : State :=
  let len := fieldAt p 4 2
  let next := fieldAt p 6 1
  let src := fieldAt p 8 16
  let dst := fieldAt p 24 16
  let body := (p.drop 40).take len
  let tclass := fieldAt p 0 2 / 16 % 256
  let pseudo := onesSum ((p.drop 8).take 32) + len + next
  if p.length < 40 + len ∨ fieldAt p 0 1 / 16 ≠ 6 then s.filtered
  else if next = 17 then
    (if s.own6.contains dst then s.udpIn true src mac tclass dst pseudo body else s.filtered)
  else if next = 58 ∧ sumOk (pseudo + onesSum body) then
    (if fieldAt body 0 2 = 0x8000 ∧ s.own6.contains dst then
       doIcmpEcho ⟨true, src, mac, 0, tclass, dst⟩ dst (fieldAt body 4 2) (fieldAt body 6 2) (body.drop 8) s
     else if !(s.own6.contains dst) ∧ dst ≠ allNodes ∧ !(s.joined6.any fun a => dst = solicitedGroup a) then s.filtered
     else if fieldAt body 0 2 = 0x8700 then doNdSolicitation (fieldAt body 8 16) src mac s
     else if fieldAt body 0 2 = 0x8800 ∧ 32 ≤ body.length then s.learn (fieldAt body 8 16) (fieldAt body 26 6)
     else s.filtered)
  else s.filtered

/-- An ARP packet: a request is answered, a reply may resolve the event destination (R45, R49). -/
def State.arpIn (s : State) (p : List Byte) : State :=
  if p.length < 28 then s.filtered
  else if fieldAt p 6 2 = 1 then doArpRequest (fieldAt p 24 4) (fieldAt p 14 4) (fieldAt p 8 6) s
  else if fieldAt p 6 2 = 2 then s.learn (fieldAt p 14 4) (fieldAt p 8 6)
  else s.filtered

/-- A received frame, from the destination address to the FCS (R43 to R46): dropped and counted, or passed on to the
protocol it carries. Of the MAC control frames PAUSE (opcode 0x0001) and PFC (0x0101) are counted as such (R44, log entry 6);
any other is dropped under R43. -/
def doEthernetFrame (f : List Byte) (s : State) : State :=
  if !s.portUp then s
  else if f.length < 64 ∨ 9216 < f.length then s.filtered
  else
    let n := f.length
    let fcs := ofLe (f.drop (n - 4))
    if (crc32 (f.take (n - 4))).toNat ≠ fcs then s.bump (aWalong 0x100)
    else
      let dst := fieldAt f 0 6
      let src := fieldAt f 6 6
      let t0 := fieldAt f 12 2
      let tagged := t0 = 0x8100
      let etype := if tagged then fieldAt f 16 2 else t0
      let p := (f.take (n - 4)).drop (if tagged then 18 else 14)
      let vid := fieldAt f 14 2 % 0x1000
      let en := bitOf (s.reg (aWalong 0x18)) 16
      let vlanOk := if en then tagged && vid = s.fld (aWalong 0x18) 0 12 else !tagged || vid = 0
      if etype = 0x8808 ∧ (fieldAt p 0 2 = 0x0001 ∨ fieldAt p 0 2 = 0x0101) then doPause s
      else if !(s.macAccepts dst etype) ∨ !vlanOk then s.filtered
      else if etype = 0x0806 then s.arpIn p
      else if etype = 0x0800 then s.ip4In src p
      else if etype = 0x86DD then s.ip6In src p
      else s.filtered

/-- The ARP probes for the IPv4 link-local address begin, or the address is given up, as IPV4_LL_EN says (R50). -/
def State.probeLl4 (s : State) : State :=
  { s with net := { s.net with
      ll4Ok := false, arpProbes := if bitOf (s.reg (aWalong 0x4)) 1 then some 0 else none } }

/-- Duplicate address detection of the global IPv6 address begins, where there is one (R50, R52): its solicited-node group
is joined with an MLDv2 report, and the probe is sent (log entry 6). -/
def State.dadGlobal (s : State) : State :=
  let on := bitOf (s.reg (aWalong 0x40)) 8 && s.ip6Set ≠ 0
  let s : State := { s with net := { s.net with ip6Ok := false, dad6 := on } }
  if on then (s.send (.mldReport [solicitedGroup s.ip6Set])).send (.dadProbe s.ip6Set) else s

/-- Duplicate address detection begun for every IPv6 address, and the ARP probes for the IPv4 link-local one (R50, R53). -/
def State.startDad (s : State) : State :=
  let s : State := { s with net := { s.net with ll6Ok := false, dadLl := true } }
  (((s.send (.mldReport [solicitedGroup linkLocal6])).send (.dadProbe linkLocal6)).dadGlobal).probeLl4

/-- The addresses that a configuration write has changed are taken up (R50, log entry 110): IPV4_LL_EN begins or ends the
use of the IPv4 link-local address, and a changed IPv6 address or enable begins its detection. -/
def State.netChanged (old s : State) : State :=
  let t := if bitOf (old.reg (aWalong 0x4)) 1 ≠ bitOf (s.reg (aWalong 0x4)) 1 then s.probeLl4 else s
  if bitOf (old.reg (aWalong 0x40)) 8 ≠ bitOf (s.reg (aWalong 0x40)) 8 ∨ old.ip6Set ≠ s.ip6Set then t.dadGlobal else t

/-- One ARP probe interval of 200 ms (R50): a conflict sets IPV4_LL_DUP; else the next of three probes is sent, and after
the third interval without a conflict the address is in use (log entry 7). -/
def doArpProbe (conflict : Bool) (s : State) : State :=
  match s.net.arpProbes with
  | none => s
  | some n =>
    if conflict then
      ({ s with net := { s.net with arpProbes := none, ll4Ok := false } }).setFld (aWalong 0x8) 2 1 1
    else if n < 3 then ({ s with net := { s.net with arpProbes := some (n + 1) } }).send (.arpProbe linkLocal4)
    else ({ s with net := { s.net with arpProbes := none, ll4Ok := true } }).setFld (aWalong 0x8) 2 1 0

/-- Duplicate address detection of one address ends: it is in use, or its DUP bit is set and it is not (R50). -/
def doDadComplete (which : AddrKind) (conflict : Bool) (s : State) : State :=
  if s.dev.column = none then s
  else
    let ok := !conflict
    match which with
    | .ipv6ll => ({ s with net := { s.net with ll6Ok := ok, dadLl := false } }).setFld (aWalong 0x8) 1 1 (b2n conflict)
    | .ipv4ll =>
      ({ s with net := { s.net with ll4Ok := ok, arpProbes := none } }).setFld (aWalong 0x8) 2 1 (b2n conflict)
    | .ipv6 => ({ s with net := { s.net with ip6Ok := ok, dad6 := false } }).setFld (aWalong 0x8) 3 1 (b2n conflict)
    | .ipv4 => ({ s with net := { s.net with ip4Ok := ok } }).setFld (aWalong 0x8) 4 1 (b2n conflict)

/-- The link comes up (R53): DAD and probe are repeated and one LINK_UP record is raised. -/
def doLinkUp (s : State) : State :=
  if s.dev.column = none ∨ s.net.link then s
  else ({ s with net := { s.net with link := true } }).startDad.raise { kind := 0x0001, block := 0x0001, inst := 0 } (some .walong)

/-- The link goes down: commands continue and their replies are retained (R53). -/
def doLinkDown (s : State) : State := { s with net := { s.net with link := false } }

/-! ### SET_NET -/

/-- A non-zero IPv4 address that SET_NET accepts with a prefix length (R82): unicast, and neither the network nor the
broadcast address of its prefix. A length that is itself illegal is left to its own check. IPV4_GW, for which R82 names only
`unicast address inside the prefix`, is judged in the same way (log entry 111). -/
def ip4Legal (a p : Nat) : Bool :=
  a / 2 ^ 24 ≠ 0 && a / 2 ^ 24 ≠ 127 && a / 2 ^ 29 ≠ 7
    && (p = 0 || 31 < p || (a % 2 ^ (32 - p) ≠ 0 && a % 2 ^ (32 - p) ≠ 2 ^ (32 - p) - 1))

/-- An IPv6 address that SET_NET accepts (R82): outside ::/8, fe80::/10 and ff00::/8. -/
def ip6Legal (a : Nat) : Bool := a / 2 ^ 120 ≠ 0 && a / 2 ^ 118 ≠ 0x3FA && a / 2 ^ 120 ≠ 0xFF

/-- Two addresses share the first `p` of `w` bits. -/
def samePrefix (w a b p : Nat) : Bool := a / 2 ^ (w - p) = b / 2 ^ (w - p)

/-- The expert values of a basic SET_NET: the registers that already hold them (R82). -/
def State.setNetDefaults (s : State) : SetNetX where
  gw4 := s.reg (aWalong 0x24)
  ip6 := s.ip6Set
  pfx6 := s.fld (aWalong 0x40) 0 8
  vlanEn := s.fld (aWalong 0x18) 16 1
  vid := s.fld (aWalong 0x18) 0 12
  pcp := s.fld (aWalong 0x18) 12 3
  rsv := 0
  gw6 := s.ip6At (aWalong 0x50)

/-- The field checks of SET_NET in ascending offset (R82, R6). -/
def setNetChecks (a p r : Nat) (x : SetNetX) : List (Option Failure) := [
  need (if a = 0 then p = 0 else ip4Legal a p) (fRange 0 a),
  need (if a = 0 then p = 0 else 1 ≤ p && p ≤ 31) (fRange 4 p),
  rsvZero 5 r,
  need (x.gw4 = 0 || (a ≠ 0 && samePrefix 32 x.gw4 a p && ip4Legal x.gw4 p)) (fRange 8 x.gw4),
  need (if x.ip6 = 0 then x.pfx6 = 0 else ip6Legal x.ip6) (fRange 12 x.ip6),
  need (if x.ip6 = 0 then x.pfx6 = 0 else 1 ≤ x.pfx6 && x.pfx6 ≤ 127) (fRange 28 x.pfx6),
  need (x.vlanEn ≤ 1) (fRange 29 x.vlanEn),
  need (x.vlanEn = 0 || (1 ≤ x.vid && x.vid ≤ 4094)) (fRange 30 x.vid),
  need (x.pcp ≤ 7) (fRange 32 x.pcp),
  rsvZero 33 x.rsv,
  need (x.gw6 = 0 || x.gw6 / 2 ^ 118 = 0x3FA
        || (x.ip6 ≠ 0 && samePrefix 128 x.gw6 x.ip6 x.pfx6 && ip6Legal x.gw6)) (fRange 36 x.gw6)]

/-- The four register writes of a 128-bit value. -/
def words128 (a v : Nat) : List (Nat × Nat) :=
  [(a, v / 2 ^ 96 % 2 ^ 32), (a + 4, v / 2 ^ 64 % 2 ^ 32), (a + 8, v / 2 ^ 32 % 2 ^ 32), (a + 12, v % 2 ^ 32)]

/-- The register writes SET_NET makes (R82): each PREFIX.EN follows whether its address is present. -/
def setNetWrites (a p : Nat) (x : SetNetX) : List (Nat × Nat) :=
  [(aWalong 0x1C, a), (aWalong 0x20, p + 256 * b2n (a ≠ 0)), (aWalong 0x24, x.gw4)]
    ++ words128 (aWalong 0x30) x.ip6 ++ [(aWalong 0x40, x.pfx6 + 256 * b2n (x.ip6 ≠ 0))]
    ++ words128 (aWalong 0x50) x.gw6
    ++ [(aWalong 0x18, x.vid % 0x1000 + x.pcp * 0x1000 + x.vlanEn * 0x10000)]

/-- SET_NET (R82): the reply leaves from the old addresses; the new settings wait for SET_NET_APPLY, behind those of an
earlier SET_NET of another lane (R52). -/
def doSetNet (h : ReqHdr) (a p r : Nat) (x : Option SetNetX) (s : State) : State :=
  let y := orReg x s.setNetDefaults
  s.serve h (.setNet h a p r x) [] (setNetChecks a p r y) [] false fun s =>
    ({ s with net := { s.net with pendingNet := s.net.pendingNet ++ [(h.lane, setNetWrites a p y)] } }).reply h 0x0003 stOk

/-- The oldest SET_NET that waits takes effect once its reply has left (R52): registers written, a gratuitous ARP for a new
IPv4 address, DAD and an unsolicited advertisement for a new IPv6 address. The advertisement leaves at once, with the probe
of the detection, which is the model's choice (log entry 112). -/
def doSetNetApply (s : State) : State :=
  match s.net.pendingNet with
  | [] => s
  | (_, ws) :: rest =>
    let cleared : State := { s with net := { s.net with pendingNet := rest } }
    let t := ws.foldl (fun (s : State) w => s.setReg w.1 w.2) cleared
    let t := if t.ip4Set ≠ 0 ∧ t.ip4Set ≠ s.ip4Set then
        (t.setFld (aWalong 0x8) 4 1 0).send (.gratuitousArp t.ip4Set) else t
    if t.ip6Set = s.ip6Set then t
    else if t.ip6Set = 0 then t.dadGlobal
    else t.dadGlobal.send (.neighbourAdvert t.ip6Set allNodes allNodesMac)

/-! ### EVENT packets (R65, R66) -/

/-- A record as its 64 bytes, with the CRC-32C of the first 60 (R433). -/
def Record.bytes (r : Record) : List Byte :=
  let b := be 2 1 ++ be 2 r.kind ++ be 2 r.status ++ be 2 r.block ++ be 2 r.inst ++ be 1 r.flags ++ be 1 r.clockKind
    ++ be 4 r.eventSeq ++ be 4 r.ledgerSeq ++ be 4 r.boot ++ be 8 r.uptime ++ be 8 r.clock ++ be 8 r.detail
    ++ be 1 r.lane ++ be 3 0 ++ be 4 r.seq ++ be 4 r.progRec
  b ++ be 4 (crc32c b).toNat

/-- The address whose MAC an EVENT packet needs: the destination inside the prefix, else the gateway; none when there is
no way to it. -/
def State.eventHop (s : State) : Option Nat :=
  let dst6 := s.ip6At (aWalong 0x64)
  if bitOf (s.reg (aWalong 0x60)) 16 then
    if dst6 / 2 ^ 118 = 0x3FA || (s.ip6Set ≠ 0 && samePrefix 128 dst6 s.ip6Set (s.fld (aWalong 0x40) 0 8)) then some dst6
    else if s.ip6At (aWalong 0x50) ≠ 0 then some (s.ip6At (aWalong 0x50)) else none
  else
    let dst := s.reg (aWalong 0x70)
    if dst / 2 ^ 16 = 0xA9FE || (s.ip4Set ≠ 0 && samePrefix 32 dst s.ip4Set (s.fld (aWalong 0x20) 0 8)) then some dst
    else if s.reg (aWalong 0x24) ≠ 0 then some (s.reg (aWalong 0x24)) else none

/-- The oldest unsent event counted as dropped (R66); it stays readable in the ring. The resolution it waited for ends. -/
def State.dropEvent (s : State) : State :=
  ({ s with
    events := { s.events with unsent := s.events.unsent.drop 1 }
    net := { s.net with resolution := none } } : State).bump (aWalong 0x128)

/-- The own address that a packet to an address leaves from when it answers nothing (log entry 107): the link-local one for
a link-local destination, else the host-set one. -/
def State.ownFor (s : State) (v6 : Bool) (ip : Nat) : Nat :=
  if v6 then (if ip / 2 ^ 118 = 0x3FA ∨ s.ip6Set = 0 then linkLocal6 else s.ip6Set)
  else if ip / 2 ^ 16 = 0xA9FE ∨ s.ip4Set = 0 then linkLocal4 else s.ip4Set

/-- The oldest unsent event sent to the event destination, with traffic class 0, which is the model's choice (log entry
113). -/
def State.emitEvent (s : State) (r : Record) (mac : Nat) : State :=
  let v6 := bitOf (s.reg (aWalong 0x60)) 16
  let ip := if v6 then s.ip6At (aWalong 0x64) else s.reg (aWalong 0x70)
  let dst : NetAddr := ⟨v6, ip, mac, s.fld (aWalong 0x60) 0 16, 0, s.ownFor v6 ip⟩
  ({ s with events := { s.events with unsent := s.events.unsent.drop 1 } }).send
    (.walong ⟨dst, 4, 0, r.eventSeq, 0, 0, r.kind, 0, r.bytes⟩)

/-- The request that resolves an address: ARP for IPv4, a neighbour solicitation for IPv6 (R49). -/
def State.askFor (s : State) (ip : Nat) : OutKind :=
  if bitOf (s.reg (aWalong 0x60)) 16 then .neighbourSolicit ip (s.ownFor true ip) else .arpRequest ip (s.ownFor false ip)

/-- A waiting event is sent in order, or dropped and counted: destination off, link down, no way to it; an unknown MAC
address starts address resolution, and the event waits (R49, R65, R66). -/
def doEventSend (s : State) : State :=
  match s.events.unsent with
  | [] => s
  | r :: _ =>
    if !bitOf (s.reg (aWalong 0x60)) 17 ∨ s.fld (aWalong 0x60) 0 16 = 0 ∨ !s.portUp then s.dropEvent
    else
      match s.eventHop with
      | none => s.dropEvent
      | some hop =>
        match look s.net.cache hop with
        | some mac => s.emitEvent r mac
        | none =>
          if (s.net.resolution.map fun x => (x.ip, x.event)) = some (hop, r.eventSeq) then s
          else ({ s with net := { s.net with resolution := some ⟨hop, 0, r.eventSeq⟩ } }).send (s.askFor hop)

/-- Address resolution retries once per second, up to three times; then it has failed and the event that waits for it is
dropped (R49, R66). -/
def doResolutionRetry (s : State) : State :=
  match s.net.resolution with
  | none => s
  | some r =>
    if r.tries < 3 then
      ({ s with net := { s.net with resolution := some { r with tries := r.tries + 1 } } }).send (s.askFor r.ip)
    else if (s.events.unsent.head?.map fun e => e.eventSeq) = some r.event then s.dropEvent
    else { s with net := { s.net with resolution := none } }

/-- A cache entry reaches its ageing time and is dropped (R49). -/
def doCacheAgeing (ip : Nat) (s : State) : State := { s with net := { s.net with cache := del s.net.cache ip } }

end Sys2Proof.Machine
end

