-- ==== Sys2Proof/Machine/Journal.lean ====
section
/-!
DEFINITION. The Ledger and the event ring as their readers see them (20): record writes (R437, R438), LEDGER_READ,
LEDGER_CLEAR and EVENTS_READ (R436, R439, R440).
-/
namespace Sys2Proof.Machine

/-- The waiting record that is written next: POWER_LOSS goes ahead of the others (R438). -/
def nextRecord (l : List Record) : Option Record :=
  match l.find? fun r => r.kind = 0x0004 with
  | some r => some r
  | none => l.head?

/-- A list without the first element equal to one. -/
def dropFirst {α : Type} [DecidableEq α] (x : α) : List α → List α
  | [] => []
  | y :: t => if x = y then t else y :: dropFirst x t

/-- A Ledger write begins: the record takes its LEDGER_SEQ, which its event copy shows too (R438). -/
def doLedgerWrite (s : State) : State :=
  if s.dev = .off ∨ s.ledger.writing.isSome then s
  else
    match nextRecord s.ledger.waiting with
    | none => s
    | some r =>
      let q := s.ledger.nextSeq
      let r' := { r with ledgerSeq := q }
      let mark (e : Record) : Record := if e.eventSeq = r.eventSeq ∧ r.eventSeq ≠ 0xFFFFFFFF then { e with ledgerSeq := q } else e
      { s with
        ledger := { s.ledger with waiting := dropFirst r s.ledger.waiting, writing := some r', nextSeq := (q + 1) % 2 ^ 32 }
        events := { s.events with ring := s.events.ring.map mark, unsent := s.events.unsent.map mark } }

/-- A record stored in the ring of 2,048: the oldest gives way (R437). -/
def Ledger.store (l : Ledger) (e : LedgerEntry) : Ledger :=
  let es := l.entries ++ [e]
  if es.length ≤ 2048 then { l with entries := es, writing := none }
  else { l with entries := es.drop (es.length - 2048), writing := none, wrapped := true }

/-- The write under way is stored whole and counted. -/
def State.storeWrite (s : State) : State :=
  match s.ledger.writing with
  | none => s
  | some r => ({ s with ledger := s.ledger.store { record := r } }).bump (aLedger 0x34)

/-- The write under way is cut short by the loss of the Lantern's power (R438): what was stored is a free value whose
CRC does not match (log entry 9). -/
def State.tearWrite (s : State) : State :=
  match s.ledger.writing with
  | none => s
  | some r =>
    let v := s.takeFree
    let head := le 60 v.1
    let crc := (crc32c head).toNat
    let bad := (crc + 1 + v.1 / 2 ^ 480 % (2 ^ 32 - 1)) % 2 ^ 32
    { v.2 with ledger := v.2.ledger.store { record := r, torn := some (head ++ be 4 bad) } }

/-- The stored bytes of a Ledger record: an intact one, or a torn one as stored (R438). -/
def LedgerEntry.bytes (e : LedgerEntry) : List Byte := e.torn.getD e.record.bytes

/-- The number of the oldest Ledger record; 0xFFFF_FFFF while empty (R439). -/
def Ledger.oldest (l : Ledger) : Nat :=
  match l.entries with
  | [] => 0xFFFFFFFF
  | e :: _ => e.record.ledgerSeq

/-- The field checks that LEDGER_READ and EVENTS_READ share (R436, R439). -/
def readChecks (count rsv : Nat) : List (Option Failure) := [inRange 4 count 0 128, rsvZero 6 rsv]

/-- LEDGER_READ (R439): records from FIRST on in ascending number; a torn record counts once in LEDGER.INVALID. -/
def doLedgerRead (h : ReqHdr) (first count rsv : Nat) (s : State) : State :=
  s.serve h (.ledgerRead h first count rsv) [] (readChecks count rsv) [] (count = 0) fun s =>
    let picked := (s.ledger.entries.filter fun e => decide (first ≤ e.record.ledgerSeq)).take count
    let isPicked (e : LedgerEntry) : Bool := picked.any fun p => p.record.ledgerSeq = e.record.ledgerSeq
    let fresh := (picked.filter fun e => e.torn.isSome && !e.counted).length
    let entries := s.ledger.entries.map fun e => if isPicked e && e.torn.isSome then { e with counted := true } else e
    let head := be 4 s.ledger.oldest ++ be 4 s.ledger.nextSeq ++ be 4 s.ledger.bootCount ++ be 2 picked.length ++ be 2 0
    (({ s with ledger := { s.ledger with entries := entries } }).bump (aLedger 0x30) fresh).reply h 0x0901 stOk
      (head ++ picked.flatMap LedgerEntry.bytes)

/-- LEDGER_CLEAR (R440): every record numbered below UP_TO is erased, all of them for 0xFFFF_FFFF. The reply leaves at
COMMAND_COMPLETION. -/
def doLedgerClear (h : ReqHdr) (upTo : Nat) (s : State) : State :=
  s.serve h (.ledgerClear h upTo) [] [] [] (upTo = 0) fun s =>
    let keep (e : LedgerEntry) : Bool := upTo ≠ 0xFFFFFFFF && decide (upTo ≤ e.record.ledgerSeq)
    ({ s with ledger := { s.ledger with entries := s.ledger.entries.filter keep } }).setJob h 0x0902 (.ledgerClear h upTo)
      (.finish stOk [])

/-- The number of the oldest event held; the next number while the ring is empty (R436). -/
def Events.oldest (e : Events) : Nat :=
  match e.ring with
  | [] => e.next
  | r :: _ => r.eventSeq

/-- EVENTS_READ (R436). -/
def doEventsRead (h : ReqHdr) (first count rsv : Nat) (s : State) : State :=
  s.serve h (.eventsRead h first count rsv) [] (readChecks count rsv) [] (count = 0) fun s =>
    let picked := (s.events.ring.filter fun r => decide (first ≤ r.eventSeq)).take count
    let head := be 4 s.events.oldest ++ be 4 s.events.next ++ be 4 (s.reg (aWalong 0x128)) ++ be 2 picked.length ++ be 2 0
    s.reply h 0x0904 stOk (head ++ picked.flatMap Record.bytes)

end Sys2Proof.Machine
end

