-- ==== Sys2Proof/Machine/Float.lean ====
section
/-!
DEFINITION. The floating-point rules of the part (R251): binary32 values as their 32-bit patterns, every operation
computed exactly on integers and rounded once to nearest, ties to even; subnormals kept; every computed NaN is
0x7FC0_0000. FP16 and bf16 values widen exactly and bf16 narrows with the same rounding (R239, R256).
-/
namespace Sys2Proof.Machine

/-- The NaN that every operation writes (R251). -/
def fNaN : Nat := 0x7FC00000
def fInf : Nat := 0x7F800000
def fNegInf : Nat := 0xFF800000
def fOne : Nat := 0x3F800000
def fHalf : Nat := 0x3F000000

def fSign (x : Nat) : Bool := bitOf x 31
def fExp (x : Nat) : Nat := bitsOf x 23 8
def fFrac (x : Nat) : Nat := bitsOf x 0 23
def isNaN (x : Nat) : Bool := fExp x = 255 && fFrac x ≠ 0
def isInf (x : Nat) : Bool := fExp x = 255 && fFrac x = 0
def isFinite (x : Nat) : Bool := fExp x ≠ 255
def isZero (x : Nat) : Bool := x % 2 ^ 31 = 0

/-- The sign bit put on a magnitude pattern. -/
def withSign (neg : Bool) (m : Nat) : Nat := m + (if neg then 2 ^ 31 else 0)

/-- The negation of a value (its sign bit turned). -/
def fNeg (x : Nat) : Nat := withSign (!fSign x) (x % 2 ^ 31)

/-- The magnitude of a value. -/
def fAbs (x : Nat) : Nat := x % 2 ^ 31

/-- A rational number with a positive denominator. -/
structure Q where
  num : Int
  den : Nat := 1
  deriving DecidableEq, Repr

def Q.neg (a : Q) : Q := ⟨-a.num, a.den⟩
def Q.add (a b : Q) : Q := ⟨a.num * b.den + b.num * a.den, a.den * b.den⟩
def Q.sub (a b : Q) : Q := a.add b.neg
def Q.mul (a b : Q) : Q := ⟨a.num * b.num, a.den * b.den⟩
/-- The quotient; the divisor is not zero where this is used. -/
def Q.div (a b : Q) : Q := if b.num < 0 then ⟨-(a.num * b.den), a.den * b.num.natAbs⟩ else ⟨a.num * b.den, a.den * b.num.natAbs⟩
/-- A power of two. -/
def Q.pow2 (k : Int) : Q := if k < 0 then ⟨1, 2 ^ k.natAbs⟩ else ⟨2 ^ k.natAbs, 1⟩
def Q.lt (a b : Q) : Bool := a.num * b.den < b.num * a.den
def Q.le (a b : Q) : Bool := a.num * b.den ≤ b.num * a.den

/-- A rational rounded to the nearest integer, ties to even (R142). -/
def Q.rne (a : Q) : Int :=
  let f := a.num / a.den
  let twice := 2 * (a.num - f * a.den)
  if twice < a.den then f else if twice = a.den then (if f % 2 = 0 then f else f + 1) else f + 1

/-- The floor of a rational. -/
def Q.floor (a : Q) : Int := a.num / a.den

/-- The exact value of a finite pattern. -/
def fVal (x : Nat) : Q :=
  let e := fExp x
  let m : Nat := if e = 0 then fFrac x else fFrac x + 2 ^ 23
  let k : Int := (if e = 0 then 1 else (e : Int)) - 150
  let q := (Q.pow2 k).mul ⟨m, 1⟩
  if fSign x then q.neg else q

/-- The binary exponent of the lowest bit kept when the positive rational n/d is rounded to binary32: 24 significant
bits, never below 2^-149. -/
def lowBit (n d : Nat) : Int :=
  let g : Int := (Nat.log2 n : Int) - Nat.log2 d
  let big : Bool := (Q.pow2 g).le ⟨n, d⟩
  max ((if big then g else g - 1) - 23) (-149)

/-- A non-zero rational rounded to binary32, nearest with ties to even; beyond the largest finite value, infinity. -/
def fRound (a : Q) : Nat :=
  let neg : Bool := a.num < 0
  let n := a.num.natAbs
  let k := lowBit n a.den
  let r := ((⟨n, a.den⟩ : Q).mul (Q.pow2 (-k))).rne.natAbs
  let e : Nat := if r < 2 ^ 23 then 0 else (k + 150).toNat
  let m : Nat := if r < 2 ^ 23 then r else r - 2 ^ 23 + e * 2 ^ 23
  withSign neg (min m fInf)

/-- A rational rounded to binary32, an exact zero taking the sign given. -/
def fRoundZ (negZero : Bool) (a : Q) : Nat := if a.num = 0 then withSign negZero 0 else fRound a

/-- An integer as binary32. -/
def fOfInt (i : Int) : Nat := fRoundZ false ⟨i, 1⟩

/-- Addition (R251). -/
def fAdd (a b : Nat) : Nat :=
  if isNaN a || isNaN b then fNaN
  else if isInf a then (if isInf b && fSign a ≠ fSign b then fNaN else a)
  else if isInf b then b
  else fRoundZ (fSign a && fSign b) ((fVal a).add (fVal b))

/-- Subtraction (R251). -/
def fSub (a b : Nat) : Nat := if isNaN b then fNaN else fAdd a (fNeg b)

/-- Multiplication (R251). -/
def fMul (a b : Nat) : Nat :=
  let neg := fSign a != fSign b
  if isNaN a || isNaN b then fNaN
  else if isInf a || isInf b then (if isZero a || isZero b then fNaN else withSign neg fInf)
  else fRoundZ neg ((fVal a).mul (fVal b))

/-- Division (R251). -/
def fDiv (a b : Nat) : Nat :=
  let neg := fSign a != fSign b
  if isNaN a || isNaN b then fNaN
  else if isInf a then (if isInf b then fNaN else withSign neg fInf)
  else if isInf b then withSign neg 0
  else if isZero b then (if isZero a then fNaN else withSign neg fInf)
  else fRoundZ neg ((fVal a).div (fVal b))

/-- Square root (R251): the integer root of the value scaled by an even power of two, with a sticky bit for what is cut
off, rounded once. -/
def fSqrt (x : Nat) : Nat :=
  if isNaN x then fNaN
  else if isZero x then x
  else if fSign x then fNaN
  else if isInf x then x
  else
    let v := fVal x
    let w := v.num.natAbs * 2 ^ 400 / v.den
    let exact := decide (w * v.den = v.num.natAbs * 2 ^ 400)
    let r := Nat.sqrt w
    let sticky := if exact && r * r = w then 2 * r else 2 * r + 1
    fRound ⟨sticky, 2 ^ 201⟩

/-- Multiplication by a power of two, rounded where it must be. -/
def fScale (x : Nat) (k : Int) : Nat :=
  if isNaN x then fNaN else if isInf x then x else fRoundZ (fSign x) ((fVal x).mul (Q.pow2 k))

/-- a < b as IEEE 754 compares: false with a NaN, zeros equal. -/
def fLt (a b : Nat) : Bool :=
  if isNaN a || isNaN b then false
  else if isZero a && isZero b then false
  else match fSign a, fSign b with
    | false, false => a < b
    | true, true => fAbs b < fAbs a
    | true, false => true
    | false, true => false

/-- The 16-bit pattern of a bf16 value widened exactly; a NaN reads as the part's NaN (R255). -/
def ofBf16 (h : Nat) : Nat := if isNaN (h * 65536) then fNaN else h % 65536 * 65536

/-- A value rounded to bf16, ties to even; NaN becomes 0x7FC0 (R251). -/
def toBf16 (x : Nat) : Nat :=
  if isNaN x then 0x7FC0
  else
    let f := x / 65536
    let rest := x % 65536
    if rest < 32768 then f else if rest = 32768 then (if f % 2 = 0 then f else f + 1) else f + 1

/-- An FP16 pattern widened exactly to binary32 (R132, R146). -/
def ofFp16 (h : Nat) : Nat :=
  let neg := bitOf h 15
  let e := bitsOf h 10 5
  let m := bitsOf h 0 10
  if e = 31 then (if m = 0 then withSign neg fInf else fNaN)
  else if e = 0 then fRoundZ neg (if neg then ⟨-(m : Int), 2 ^ 24⟩ else ⟨m, 2 ^ 24⟩)
  else withSign neg ((e + 112) * 2 ^ 23 + m * 2 ^ 13)

/-- The larger of two values for the canonical maximum: NaN elements leave the other (R253). -/
def fMaxNN (a b : Nat) : Nat := if isNaN b then a else if fLt a b then b else a

/-- The canonical maximum: the largest element that is no NaN, minus infinity where there is none (R253). -/
def fMaxList (l : List Nat) : Nat := l.foldl fMaxNN fNegInf

/-- One level of the pairwise sum: neighbours added (R243). -/
def pairLevel : List Nat → List Nat
  | a :: b :: t => fAdd a b :: pairLevel t
  | l => l

/-- The pairwise sum over `levels` levels (R243, R282). -/
def pairsumN : Nat → List Nat → Nat
  | 0, l => l.headD 0
  | n + 1, l => pairsumN n (pairLevel l)

/-- A list filled with +0.0 up to a length (R243). -/
def padZero (n : Nat) (l : List Nat) : List Nat := l.take n ++ List.replicate (n - l.length) 0

/-- pairsum of one block of 256 values, those beyond the end read as +0.0 (R243). -/
def pairsum (l : List Nat) : Nat := pairsumN 8 (padZero 256 l)

/-- The blocks of 256 elements of a vector. -/
def blocks256 : Nat → List Nat → List (List Nat)
  | 0, _ => []
  | n + 1, l => l.take 256 :: blocks256 n (l.drop 256)

/-- The block sums of a vector in ascending order (R243). -/
def blockSums (l : List Nat) : List Nat := (blocks256 ((l.length + 255) / 256) l).map pairsum

/-- chainsum: the block results added into +0.0 in ascending order (R253). -/
def chainsum (l : List Nat) : Nat := (blockSums l).foldl fAdd 0

end Sys2Proof.Machine
end

