-- ==== Sys2Proof/Machine/Elementary.lean ====
section
/-!
DEFINITION. The correctly rounded functions of R252 and R279: exp, tanh, erf, sin, cos and the rotary angle. Each value
is enclosed between two rationals at rising precision until both ends round to the same binary32 value; the rotary
angle is found by comparing integer powers, which also settles its exact cases.
-/
namespace Sys2Proof.Machine

/-- An interval of numbers lo/2^p to hi/2^p that holds a real value. -/
structure Iv where
  lo : Int
  hi : Int
  deriving DecidableEq, Repr

/-- The quotient of an integer by a positive one, rounded up. -/
def cdiv (a b : Int) : Int := -((-a) / b)

/-- A rational enclosed at precision p. -/
def Iv.ofQ (p : Nat) (a : Q) : Iv := ⟨a.num * 2 ^ p / a.den, cdiv (a.num * 2 ^ p) a.den⟩

def Iv.add (a b : Iv) : Iv := ⟨a.lo + b.lo, a.hi + b.hi⟩
def Iv.neg (a : Iv) : Iv := ⟨-a.hi, -a.lo⟩

/-- The product of two intervals at precision p. -/
def Iv.mul (p : Nat) (a b : Iv) : Iv :=
  let c := [a.lo * b.lo, a.lo * b.hi, a.hi * b.lo, a.hi * b.hi]
  ⟨(c.foldl min (a.lo * b.lo)) / 2 ^ p, cdiv (c.foldl max (a.lo * b.lo)) (2 ^ p)⟩

/-- The quotient of an interval by a positive one. -/
def Iv.div (p : Nat) (a b : Iv) : Iv :=
  let c := [a.lo * 2 ^ p / b.lo, a.lo * 2 ^ p / b.hi]
  let d := [cdiv (a.hi * 2 ^ p) b.lo, cdiv (a.hi * 2 ^ p) b.hi]
  ⟨c.foldl min (a.lo * 2 ^ p / b.lo), d.foldl max (cdiv (a.hi * 2 ^ p) b.lo)⟩

/-- An interval divided by a positive whole number. -/
def Iv.divNat (a : Iv) (n : Nat) : Iv := ⟨a.lo / n, cdiv a.hi n⟩

/-- Terms of a series: the n-th term is the one before it times `x` divided by `d n`; the sum of all of them is returned,
`k` of them at most, widened by `tail` of the last term. -/
def seriesSum (p : Nat) (x : Iv) (d : Nat → Nat) : Nat → Nat → Iv → Iv → Iv
  | 0, _, term, acc =>
    let w := max term.hi.natAbs term.lo.natAbs
    ⟨acc.lo - 2 * w - 1, acc.hi + 2 * w + 1⟩
  | k + 1, n, term, acc =>
    let t := (Iv.mul p term x).divNat (d n)
    if t.lo.natAbs ≤ 1 ∧ t.hi.natAbs ≤ 1 then ⟨acc.lo - 4, acc.hi + 4⟩
    else seriesSum p x d k (n + 1) t (acc.add t)

/-- exp of a small non-negative interval (below 1/256). -/
def expSmall (p : Nat) (x : Iv) : Iv := seriesSum p x (fun n => n) (p + 8) 1 ⟨2 ^ p, 2 ^ p⟩ ⟨2 ^ p, 2 ^ p⟩

/-- An interval squared n times. -/
def sqTimes (p : Nat) : Nat → Iv → Iv
  | 0, a => a
  | n + 1, a => sqTimes p n (Iv.mul p a a)

/-- exp of a non-negative rational: the argument halved until small, the result squared back. -/
def expPos (p : Nat) (x : Q) : Iv :=
  let k := 8 + Nat.log2 (x.num.natAbs / x.den + 1) + 1
  sqTimes p k (expSmall p (Iv.ofQ p (x.mul (Q.pow2 (-k)))))

/-- exp of a rational. -/
def expIv (p : Nat) (x : Q) : Iv :=
  if x.num < 0 then Iv.div p ⟨2 ^ p, 2 ^ p⟩ (expPos p x.neg) else expPos p x

/-- arctan(1/n) by its alternating series. -/
def atanInv (p n : Nat) : Iv :=
  let terms : List (Nat × Int) :=
    (List.range (p + 2)).map fun (k : Nat) => (k, ((2 ^ p / (n ^ (2 * k + 1) * (2 * k + 1)) : Nat) : Int))
  let s := terms.foldl (fun acc t => if t.1 % 2 = 0 then acc + t.2 else acc - t.2) 0
  ⟨s - (p + 4), s + (p + 4)⟩

/-- The constant pi (Machin). -/
def piIv (p : Nat) : Iv :=
  let a := atanInv p 5
  let b := atanInv p 239
  ⟨16 * a.lo - 4 * b.hi, 16 * a.hi - 4 * b.lo⟩

/-- The square root of a positive interval. -/
def Iv.sqrt (p : Nat) (a : Iv) : Iv :=
  ⟨(Nat.sqrt (a.lo.toNat * 2 ^ p) : Int), (Nat.sqrt (a.hi.toNat * 2 ^ p) : Int) + 1⟩

/-- The constant pi widened from a precision that stays fixed. -/
def halfPi (p : Nat) : Iv := (piIv p).divNat 2

/-- The sine series of a small interval. -/
def sinSmall (p : Nat) (x : Iv) : Iv :=
  seriesSum p (Iv.mul p x x).neg (fun n => 2 * n * (2 * n + 1)) (p + 8) 1 x x

/-- The cosine series of a small interval. -/
def cosSmall (p : Nat) (x : Iv) : Iv :=
  seriesSum p (Iv.mul p x x).neg (fun n => (2 * n - 1) * (2 * n)) (p + 8) 1 ⟨2 ^ p, 2 ^ p⟩ ⟨2 ^ p, 2 ^ p⟩

/-- sin of a rational shifted by `turn` quarter turns: the argument less a whole number of quarter turns, then the series
the quarter names. -/
def sinTurn (p : Nat) (turn : Nat) (x : Q) : Iv :=
  let extra := Nat.log2 (x.num.natAbs / x.den + 1) + 8
  let hp := halfPi (p + extra)
  let q : Int := (x.num * 2 ^ (p + extra) / x.den + hp.lo / 2) / hp.lo
  let whole := Iv.ofQ (p + extra) x
  let r : Iv := if 0 ≤ q then ⟨whole.lo - q * hp.hi, whole.hi - q * hp.lo⟩ else ⟨whole.lo - q * hp.lo, whole.hi - q * hp.hi⟩
  let r : Iv := ⟨r.lo / 2 ^ extra, cdiv r.hi (2 ^ extra)⟩
  match ((q + turn) % 4).toNat with
  | 0 => sinSmall p r
  | 1 => cosSmall p r
  | 2 => (sinSmall p r).neg
  | _ => (cosSmall p r).neg

/-- erf of a positive rational below 4: 2/sqrt(pi) exp(-x²) times a series of positive terms. -/
def erfPos (p : Nat) (x : Q) : Iv :=
  let x2 := x.mul x
  let xi := Iv.ofQ p x
  let s := seriesSum p (Iv.ofQ p (x2.mul ⟨2, 1⟩)) (fun n => 2 * n + 1) (p + 64) 1 xi xi
  let s := Iv.mul p s (expIv p x2.neg)
  Iv.div p ⟨2 * s.lo, 2 * s.hi⟩ (Iv.sqrt p (piIv p))

/-- tanh of a positive rational: (E - 1)/(E + 1) with E = exp(2x). -/
def tanhPos (p : Nat) (x : Q) : Iv :=
  let e := expPos p (x.mul ⟨2, 1⟩)
  Iv.div p ⟨e.lo - 2 ^ p, e.hi - 2 ^ p⟩ ⟨e.lo + 2 ^ p, e.hi + 2 ^ p⟩

/-- The value that both ends of an enclosure round to, at the first precision of a list where they agree. -/
def settle (f : Nat → Iv) : List Nat → Nat
  | [] => fNaN
  | p :: t =>
    let v := f p
    let a := fRoundZ false ⟨v.lo, 2 ^ p⟩
    let b := fRoundZ false ⟨v.hi, 2 ^ p⟩
    if a = b then a else settle f t

/-- The precisions tried, in bits after the point. -/
def precisions : List Nat := [256, 512, 1024, 2048, 4096]

/-- exp, correctly rounded (R252). -/
def fExpE (x : Nat) : Nat :=
  if isNaN x then fNaN
  else if isInf x then (if fSign x then 0 else fInf)
  else if isZero x then fOne
  else if fLt 0x42B40000 x then fInf
  else if fLt x 0xC2D20000 then 0
  else settle (fun p => expIv p (fVal x)) precisions

/-- An odd function from its values at positive arguments. -/
def oddFn (f : Nat → Nat) (x : Nat) : Nat := withSign (fSign x) (f (fAbs x))

/-- tanh, correctly rounded (R252). -/
def fTanh (x : Nat) : Nat :=
  if isNaN x then fNaN
  else if isZero x then x
  else oddFn (fun a => if fLt 0x41200000 a then fOne else settle (fun p => tanhPos p (fVal a)) precisions) x

/-- erf, correctly rounded (R252). -/
def fErf (x : Nat) : Nat :=
  if isNaN x then fNaN
  else if isZero x then x
  else oddFn (fun a => if fLt 0x40800000 a then fOne else settle (fun p => erfPos p (fVal a)) precisions) x

/-- sin, correctly rounded (R252). -/
def fSin (x : Nat) : Nat :=
  if isFinite x then (if isZero x then x else settle (fun p => sinTurn p 0 (fVal x)) precisions) else fNaN

/-- cos, correctly rounded (R252). -/
def fCos (x : Nat) : Nat :=
  if isFinite x then (if isZero x then fOne else settle (fun p => sinTurn p 1 (fVal x)) precisions) else fNaN

/-! ### The rotary angle -/

/-- A power of a rational. -/
def Q.pow (a : Q) (n : Nat) : Q := ⟨a.num ^ n, a.den ^ n⟩

/-- t ≤ pos × base^(-a/b), for a non-negative t: t^b × base^a ≤ pos^b. -/
def angleAtLeast (pos : Nat) (base : Q) (a b : Nat) (t : Q) : Bool := ((t.pow b).mul (base.pow a)).le ((⟨pos, 1⟩ : Q).pow b)

/-- The largest pattern below 2^n more than `lo` whose value is at most the angle, by halving. -/
def angleFloor (le : Q → Bool) : Nat → Nat → Nat
  | 0, lo => lo
  | n + 1, lo => if lo + 2 ^ n < fInf ∧ le (fVal (lo + 2 ^ n)) then angleFloor le n (lo + 2 ^ n) else angleFloor le n lo

/-- The binary32 value nearest to pos × base^(-2e/dim), ties to even (R279): the largest value not above it, then the
comparison with the middle to the next one. -/
def ropeAngle (pos : Nat) (base : Nat) (e dim : Nat) : Nat :=
  let g := Nat.gcd (2 * e) dim
  let a := 2 * e / g
  let b := dim / g
  let atLeast := angleAtLeast pos (fVal base) a b
  let f := angleFloor atLeast 31 0
  let mid := ((fVal f).add (fVal (f + 1))).mul ⟨1, 2⟩
  let above := atLeast mid
  let exactly := above && decide (((mid.pow b).mul ((fVal base).pow a)).num * ((⟨pos, 1⟩ : Q).pow b).den
    = ((⟨pos, 1⟩ : Q).pow b).num * ((mid.pow b).mul ((fVal base).pow a)).den)
  if pos = 0 then 0
  else if exactly then (if f % 2 = 0 then f else f + 1)
  else if above then f + 1 else f

end Sys2Proof.Machine
end

