-- ==== Sys2Proof/Machine/Numeric.lean ====
section
/-!
DEFINITION. Codes, scales and conversions (06): dynamic, epilogue and K/V conversions (R139 to R147), stochastic
rounding (R143), activations (R238, R258), the encoder's sent values (R127 to R129, R179), the exact integer product of
one segment (R130), and the Gleaner's product table (R281).
-/
namespace Sys2Proof.Machine

/-! ### Stochastic rounding -/

/-- The mixing function of R143, modulo 2^64. -/
def mix64 (z : BitVec 64) : BitVec 64 :=
  let z := z + 0x9E3779B97F4A7C15
  let z := (z ^^^ (z >>> 30)) * 0xBF58476D1CE4E5B9
  let z := (z ^^^ (z >>> 27)) * 0x94D049BB133111EB
  z ^^^ (z >>> 31)

/-- The 64-bit draw of a seed and an index (R143, R264). -/
def draw64 (seed index : Nat) : Nat := (mix64 (mix64 (BitVec.ofNat 64 seed) ^^^ BitVec.ofNat 64 index)).toNat

/-- A rational rounded with the draw r: up when r lies below the fraction times 65,536 (R143). -/
def stochRound (seed index : Nat) (a : Q) : Int :=
  let f := a.floor
  let r : Nat := draw64 seed index / 2 ^ 48
  if (r : Int) * a.den < (a.num - f * a.den) * 65536 then f + 1 else f

/-- The index of a K/V write (R143): layer, 0 for K and 1 for V, K/V head, position, element within the head. -/
def kvIndex (layer kv head pos elem : Nat) : Nat :=
  layer % 1024 * 2 ^ 54 + kv * 2 ^ 52 + head % 128 * 2 ^ 45 + pos / 65536 % 2 ^ 21 * 2 ^ 24 + pos % 65536 * 2 ^ 8 + elem % 256

/-- The index of a Mill conversion (R143): layer, element index, position. -/
def millIndex (layer elem pos : Nat) : Nat :=
  layer % 1024 * 2 ^ 54 + 2 * 2 ^ 52 + elem / 2 ^ 21 % 128 * 2 ^ 45 + elem % 2 ^ 21 * 2 ^ 24 + pos / 256 % 65536 * 2 ^ 8 + pos % 256

/-- The index of a SAMPLE draw (R264). -/
def sampleIndex (pos : Nat) : Nat := 3 * 2 ^ 52 + pos % 2 ^ 37

/-! ### Conversions -/

/-- A value limited to a range. -/
def clamp (lo hi i : Int) : Int := max lo (min hi i)

/-- A code and whether it was clipped (R141): the rounded value lay outside the range, or the element was infinite. -/
structure Code where
  val : Int
  clipped : Bool
  deriving DecidableEq, Repr

/-- One element converted with exponent s and offset z into lo..hi, under a rounding (R140, R144). DESIGN CHOICE (log
entry 123): a code that leaves lo..hi with s below 63, which rounding and the zero point can bring about, is limited and
counted as clipped too. -/
def codeOf (round : Q → Int) (lo hi z s : Int) (x : Nat) : Code :=
  if isNaN x then ⟨z, false⟩
  else if isInf x then ⟨if fSign x then lo else hi, true⟩
  else
    let v := round ((fVal x).mul (Q.pow2 (-s))) + z
    ⟨clamp lo hi v, decide (v < lo ∨ hi < v)⟩

/-- The least exponent from a start, at most `n` above it, with m ≤ cmax × 2^s; the last one if none is (R139, R147). -/
def leastExp (m : Q) (cmax : Nat) : Nat → Int → Int
  | 0, s => s
  | n + 1, s => if m.le ((⟨cmax, 1⟩ : Q).mul (Q.pow2 s)) then s else leastExp m cmax n (s + 1)

/-- The largest magnitude of the finite elements (R139, R144). -/
def maxMag (xs : List Nat) : Nat := (xs.filter isFinite).foldl (fun m x => max m (fAbs x)) 0

/-- The result of a dynamic conversion: codes, exponent, zero point, zero range. -/
structure Conversion where
  codes : List Code
  s : Int
  z : Int
  zeroRange : Bool
  deriving DecidableEq, Repr

/-- A list mapped with its indexes. -/
def mapIdxFrom {α β : Type} (f : Nat → α → β) : Nat → List α → List β
  | _, [] => []
  | n, x :: t => f n x :: mapIdxFrom f (n + 1) t

/-- The symmetric dynamic conversion to ±cmax (R139, R145). -/
def convertSym (round : Nat → Q → Int) (cmax : Nat) (xs : List Nat) : Conversion :=
  let m := fVal (maxMag xs)
  let s := leastExp m cmax 127 (-64)
  ⟨mapIdxFrom (fun k x => codeOf (round k) (-(cmax : Int)) cmax 0 s x) 0 xs, s, 0, decide (m.num = 0)⟩

/-- The smaller and the larger of two rationals. -/
def Q.min (a b : Q) : Q := if a.le b then a else b
def Q.max (a b : Q) : Q := if a.le b then b else a

/-- The asymmetric dynamic conversion to A8Z (R139, R145). DESIGN CHOICE (log entry 124): the span hi − lo is formed
exactly, not as an fp32 subtraction. -/
def convertA8Z (round : Nat → Q → Int) (xs : List Nat) : Conversion :=
  let vs := (xs.filter isFinite).map fVal
  let lo := vs.foldl Q.min ⟨0, 1⟩
  let hi := vs.foldl Q.max ⟨0, 1⟩
  let span := hi.sub lo
  let s := leastExp span 255 127 (-64)
  let z := clamp 0 255 ((lo.neg.mul (Q.pow2 (-s))).rne)
  ⟨mapIdxFrom (fun k x => codeOf (round k) 0 255 z s x) 0 xs, s, z, decide (span.num = 0)⟩

/-- A scale byte: exponent in bits 6:0, ZERO_RANGE in bit 7 (R136). -/
def scaleByte (s : Int) (zeroRange : Bool) : Nat := ofSigned 7 s + 128 * b2n zeroRange

/-- The exponent a scale byte holds; bit 7 is ignored (R136, R255). -/
def scaleOf (b : Nat) : Int := asSigned 7 b

/-- Clipped codes of a list. -/
def clippedCount (l : List Code) : Nat := (l.filter fun c => c.clipped).length

/-- A K/V block of 32 elements converted with head scale H (R147): codes, exponent, zero range. -/
def convertKv (round : Nat → Q → Int) (cmax : Nat) (h : Nat) (xs : List Nat) : Conversion :=
  let vs := xs.map fun x => fDiv x h
  let m := fVal (maxMag vs)
  let b := leastExp m cmax 15 (-15)
  ⟨mapIdxFrom (fun k x => codeOf (round k) (-(cmax : Int)) cmax 0 b x) 0 vs, b + 15, 0, decide (m.num = 0)⟩

/-! ### Activations -/

/-- GELU, tanh form (R258). -/
def geluTanh (x : Nat) : Nat :=
  let u := fMul x x
  let u := fMul u x
  let u := fMul u 0x3D372713
  let u := fAdd x u
  let u := fMul u 0x3F4C422A
  let t := fAdd fOne (fTanh u)
  fMul (fMul x fHalf) t

/-- GELU, erf form (R258). -/
def geluErf (x : Nat) : Nat := fMul (fMul x fHalf) (fAdd fOne (fErf (fMul x 0x3F3504F3)))

/-- The activation of a code (R238, R258). -/
def act (code x : Nat) : Nat :=
  match code with
  | 0 => x
  | 1 => if isNaN x then fNaN else if fSign x || isZero x then 0 else x
  | 2 => geluTanh x
  | 3 => geluErf x
  | 4 => fDiv x (fAdd fOne (fExpE (fNeg x)))
  | 5 => fTanh x
  | 6 => fDiv fOne (fAdd fOne (fExpE (fNeg x)))
  | _ => x

/-! ### Weight codes -/

/-- The planes a format sends per row chunk: W4 4, W4Z 5, W8 8. -/
def planesOf (fmt : Nat) : Nat := if fmt = 0 then 4 else if fmt = 1 then 5 else 8

/-- Bytes of one row chunk (R149). -/
def chunkBytes (fmt : Nat) : Nat := if fmt = 2 then 256 else 128

/-- Row chunks of one 4 KiB code block (R188). -/
def chunksPerBlock (fmt : Nat) : Nat := if fmt = 2 then 16 else 32

/-- The raw code of input i of a row chunk (R149). -/
def rawCode (fmt : Nat) (bytes : List Byte) (i : Nat) : Nat :=
  if fmt = 2 then (bytes.getD i 0).toNat
  else if i % 2 = 0 then (bytes.getD (i / 2) 0).toNat % 16 else (bytes.getD (i / 2) 0).toNat / 16

/-- The value the encoder sends for a raw code (R127 to R129, R179); `zp` is the zero-point byte of the row chunk. -/
def sentValue (fmt zp i raw : Nat) : Int :=
  match fmt with
  | 0 => if asSigned 4 raw = -8 then 0 else asSigned 4 raw
  | 1 => (raw : Int) - (if i < 128 then zp % 16 else zp / 16 % 16 : Nat)
  | _ => if asSigned 8 raw = -128 then 0 else asSigned 8 raw

/-- The raw code is an escape (R127, R129). -/
def isEscape (fmt raw : Nat) : Bool := (fmt = 0 && raw = 8) || (fmt = 2 && raw = 128)

/-- Bit p of a sent value in P-bit two's complement (R179). -/
def planeBit (v : Int) (p : Nat) : Bool := bitOf (ofSigned 8 v) p

/-! ### The exact integer product -/

/-- The count of one detector (R160): inputs of the segment at which the weight bit is 1 and the element transparent. -/
def detCount (sent : List Int) (codes : List Nat) (p q seg : Nat) : Nat :=
  (((sent.drop (128 * seg)).take 128).zip ((codes.drop (128 * seg)).take 128)).countP fun c => planeBit c.1 p && bitOf c.2 q

/-- The place value of planes p and q (R130). -/
def placeValue (planes : Nat) (lowByte : Bool) (p q : Nat) : Int :=
  (if p + 1 = planes then -1 else 1) * (if q = 7 && !lowByte then -1 else 1) * (2 : Int) ^ (p + q)

/-- One segment's sum from its counts (R130). -/
def segSum (planes : Nat) (lowByte : Bool) (count : Nat → Nat → Nat) : Int :=
  (List.range planes).foldl (fun acc p =>
    (List.range 8).foldl (fun acc q => acc + placeValue planes lowByte p q * count p q) acc) 0

/-! ### The Gleaner's products -/

/-- The product table (R281): K4 rounds once, K8 adds the products of the two halves of the code. -/
def lut (k8 : Bool) (v : Nat) (c : Int) : Nat :=
  if k8 then fAdd (fMul 0x41800000 (fMul v (fOfInt (c / 16)))) (fMul v (fOfInt (c % 16)))
  else fMul v (fOfInt c)

/-- A head scale as it is read: zero, negative, infinite and NaN read as 1.0 (R146). -/
def headScale (h : Nat) : Nat :=
  let f := ofFp16 h
  if isNaN f || isInf f || isZero f || fSign f then fOne else f

/-- The head scale was read as 1.0 in place of what is stored (R146). -/
def headScaleFixed (h : Nat) : Bool :=
  let f := ofFp16 h
  isNaN f || isInf f || isZero f || fSign f

end Sys2Proof.Machine
end

