-- ==== Sys2Proof/Machine/Program.lean ====
section
/-!
DEFINITION. Programs (13): reading records and descriptors (R197, R292 to R301), the ranges they read and write (R294,
R304), PROGRAM_LOAD and PROGRAM_CHECK (R302 to R305) with the checks the other chapters assign to them (R157, R183,
R184, R201, R227, R232, R238, R254, R257, R264, R288).
-/
namespace Sys2Proof.Machine

/-! ### Reading -/

/-- The `n`-byte little-endian field at an offset of a record (R292). -/
def lf (b : List Byte) (off n : Nat) : Nat := ofLe ((b.drop off).take n)

def parseBayLoad (b : List Byte) : BayLoadR :=
  ⟨lf b 1 1, lf b 2 1, lf b 3 1, lf b 4 4, lf b 8 2, lf b 10 2, lf b 12 2, ⟨lf b 14 1, lf b 28 4⟩, lf b 16 4, lf b 20 4, lf b 24 4⟩

def parseStream (b : List Byte) : StreamR :=
  ⟨lf b 1 1, lf b 2 1, lf b 3 1, lf b 4 1, lf b 5 1, lf b 6 1, ⟨lf b 7 1, lf b 24 4⟩, lf b 8 4, lf b 12 4, lf b 16 4, lf b 20 4⟩

def parseEpilogue (b : List Byte) : EpilogueR where
  slotMask := lf b 1 1
  act := lf b 2 1
  outFmt := lf b 3 1
  sOut := asSigned 8 (lf b 4 1)
  flags := lf b 5 1
  clipLimit := lf b 6 2
  rows := lf b 8 4
  columns := lf b 12 1
  sums := lf b 16 4
  inScale := lf b 20 4
  tithe := lf b 24 4
  rs := lf b 28 4
  bias := lf b 32 4
  out := lf b 36 4
  outStride := lf b 40 4
  outScale := lf b 44 4
  outWide := lf b 48 4
  outWideStride := lf b 52 4
  outcome := lf b 56 4
  stats := lf b 60 4

def parseMillOp (b : List Byte) : MillOpR where
  op := lf b 1 1
  inFmt := lf b 2 1
  outFmt := lf b 3 1
  flags := lf b 4 1
  cond := ⟨lf b 5 1, lf b 92 4⟩
  layer := lf b 6 2
  items := lf b 8 4
  n := lf b 12 4
  mills := lf b 16 8
  param0 := lf b 24 4
  param1 := lf b 28 4
  arg0 := lf b 32 4
  arg1 := lf b 36 4
  src := lf b 40 4
  srcStride := lf b 44 4
  src2 := lf b 48 4
  src2Stride := lf b 52 4
  inScale := lf b 56 4
  inZp := lf b 60 4
  out := lf b 68 4
  outStride := lf b 72 4
  outScale := lf b 76 4
  outZp := lf b 80 4
  aux0 := lf b 84 4
  aux1 := lf b 88 4

def parseGlean (b : List Byte) : GleanR where
  mode := lf b 1 1
  layer := lf b 2 2
  kvHeads := lf b 4 1
  qPerKv := lf b 5 1
  headDim := lf b 6 2
  flags := lf b 8 1
  qIn := lf b 12 4
  qStride := lf b 16 4
  kIn := lf b 20 4
  vIn := lf b 24 4
  kvStride := lf b 28 4
  out := lf b 32 4
  outStride := lf b 36 4
  scale := lf b 40 4
  ropeBase := lf b 44 4
  window := lf b 48 4

/-- The record whose bytes these are, 128 of them for a MILL_OP; none for a KIND outside R293. -/
def parseRecord (b : List Byte) : Option PRec :=
  match lf b 0 1 with
  | 0x01 => some (.bayLoad (parseBayLoad b))
  | 0x02 => some (.stream (parseStream b))
  | 0x03 => some (.epilogue (parseEpilogue b))
  | 0x04 => some (.millOp (parseMillOp b))
  | 0x05 => some (.glean (parseGlean b))
  | 0x06 => some (.gate (bitOf (lf b 1 1) 0))
  | 0x07 => some (.dep ⟨bitOf (lf b 1 1) 0, lf b 4 4, lf b 8 4, lf b 12 4⟩)
  | 0x08 => some (.copy ⟨lf b 1 1, ⟨lf b 2 1, lf b 4 4⟩, lf b 8 4⟩)
  | 0x09 => some (.route ((List.range 8).map fun n => lf b (1 + n) 1))
  | 0x0A => some (.fin (lf b 4 4))
  | _ => none

/-- The slots a record fills (R292). -/
def PRec.size : PRec → Nat
  | .millOp _ => 2
  | _ => 1

/-- The KIND of a record (R293). -/
def PRec.kind : PRec → Nat
  | .bayLoad _ => 1
  | .stream _ => 2
  | .epilogue _ => 3
  | .millOp _ => 4
  | .glean _ => 5
  | .gate _ => 6
  | .dep _ => 7
  | .copy _ => 8
  | .route _ => 9
  | .fin _ => 10

/-- The condition of a record; the kinds without one always run (R295). -/
def PRec.cond : PRec → Cond
  | .bayLoad r => r.cond
  | .stream r => r.cond
  | .millOp r => r.cond
  | .copy r => r.cond
  | _ => ⟨0, 0⟩

/-- The 64 bytes of a descriptor read (R197). -/
def parseDesc (b : List Byte) : Desc where
  kind := lf b 0 1
  target := lf b 1 1
  format := lf b 2 1
  indexWidth := lf b 3 1
  base := lf b 8 8
  dest := lf b 16 8
  runBytes := lf b 24 4
  runs := lf b 28 4
  runStride := lf b 32 8
  indexStride := lf b 40 8
  indexAddr := lf b 48 8
  indexLimit := lf b 56 4
  indexMax := lf b 60 2

/-- The descriptor address and count of a record (R297, R301). -/
def PRec.descs : PRec → Option (Nat × Nat)
  | .stream r => some (r.desc, r.descCount)
  | .copy r => some (r.desc, r.descCount)
  | _ => none

/-- Bits of a mask, ascending. -/
def maskBits (n m : Nat) : List Nat := (List.range n).filter fun i => bitOf m i

/-! ### Ranges -/

/-- The size of an element of a format (R254): fp32, bf16, A8, A16, A8Z. -/
def elemSize (fmt : Nat) : Nat :=
  match fmt with
  | 0 => 4
  | 1 => 2
  | 2 => 1
  | 3 => 2
  | _ => 1

/-- The size of an EPILOGUE output element (R239). -/
def epiSize (fmt : Nat) : Nat :=
  match fmt with
  | 0 => 1
  | 1 => 2
  | 2 => 4
  | _ => 2

/-- The most bytes a descriptor can deliver (R201). -/
def Desc.most (d : Desc) : Nat :=
  match d.kind with
  | 0 => d.runBytes
  | 1 => d.runs * d.runBytes
  | _ => d.indexMax * d.runs * d.runBytes

/-- A range (address, length) lies in the Granary (R294). -/
def inGranary (r : Nat × Nat) : Bool := if r.2 = 0 then r.1 < 0x28000000 else r.1 + r.2 ≤ 0x28000000

/-- Two ranges share a byte. -/
def overlaps (a b : Nat × Nat) : Bool := decide (0 < a.2) && decide (0 < b.2) && a.1 < b.1 + b.2 && b.1 < a.1 + a.2

/-- A strided array of `n` rows of `len` bytes. -/
def strided (a stride n len : Nat) : Nat × Nat := (a, (n - 1) * stride + len)

/-- The rows of a strided array one by one, or as one range where they join. -/
def rowRanges (a stride n len : Nat) : List (Nat × Nat) :=
  if stride = len ∨ n ≤ 1 then [(a, n * len)] else (List.range n).map fun i => (a + i * stride, len)

/-- What a range check of a record is made for: the columns of each session in table order, the columns of a STREAM's
tile, the members of its group, its descriptors. PROGRAM_CHECK takes one column (R294). -/
structure Extent where
  sess : List Nat := [1]
  u : Nat := 0
  members : Nat := 1
  descs : List Desc := []

def Extent.batch (x : Extent) : Nat := x.sess.sum

/-- The end of what a BAY_LOAD reads at IN, and at ZP (R296). -/
def BayLoadR.reads (r : BayLoadR) : List (Nat × Nat) :=
  let es := if r.part = 1 ∨ r.part = 2 then 2 else 1
  let n := (maskBits 8 r.slotMask).length
  let ends := (List.range n).map fun i =>
    (r.col0 + i * r.colStep + r.u - 1) * r.colStride + 256 * (r.kchunk + i * r.kchunkStep + 1) * es
  (r.src, ends.foldl max 0) :: (if 3 ≤ r.part then [(r.zp + r.col0, (n - 1) * r.colStep + r.u)] else [])

/-- Rows a STREAM may confirm: the row chunks of its code descriptor (R198). -/
def Desc.chunks (d : Desc) : Nat := if d.target = 0 then d.most / chunkBytes d.format else d.most

/-- The sum arrays of a STREAM (R227). -/
def StreamR.sumsRange (r : StreamR) (x : Extent) : Nat × Nat :=
  let rows := ((x.descs.find? fun d => d.target = 0).map Desc.chunks).getD 0
  strided r.sums r.sumsStride x.members (rows * x.u * 8)

def EpilogueR.flag (r : EpilogueR) (k : Nat) : Bool := bitOf r.flags k

/-- What an EPILOGUE reads (R237, R298). -/
def EpilogueR.reads (r : EpilogueR) : List (Nat × Nat) :=
  [(r.sums, r.rows * r.columns * 8), (r.inScale, r.columns)]
    ++ (if r.flag 0 then [(r.tithe, r.rows * r.columns * 4)] else [])
    ++ (if r.flag 1 then [] else [(r.rs, 2 * r.rows)])
    ++ (if r.flag 2 then [(r.bias, r.rows * (if r.flag 3 then 2 else 4))] else [])

/-- What an EPILOGUE writes (R239 to R243). -/
def EpilogueR.writes (r : EpilogueR) : List (Nat × Nat) :=
  [strided r.out r.outStride r.columns (r.rows * epiSize r.outFmt)]
    ++ (if r.outFmt < 2 then [(r.outScale, r.columns)] else [])
    ++ (if r.flag 4 then [strided r.outWide r.outWideStride r.columns (2 * r.rows)] else [])
    ++ [(r.outcome, 4)] ++ (if r.flag 6 then [(r.stats, 16 * r.columns)] else [])

/-- The bytes an EPILOGUE writes, apart from its re-run (R239 to R243, R319). -/
def EpilogueR.written (r : EpilogueR) : List (Nat × Nat) :=
  rowRanges r.out r.outStride r.columns (r.rows * epiSize r.outFmt) ++ (if r.outFmt < 2 then [(r.outScale, r.columns)] else [])
    ++ [(r.outcome, 4)] ++ (if r.flag 6 then [(r.stats, 16 * r.columns)] else [])

def MillOpR.flag (r : MillOpR) (k : Nat) : Bool := bitOf r.flags k

/-- The size of an auxiliary element: bf16 while AUX_BF16 is 1 (R254, R260). -/
def MillOpR.auxSize (r : MillOpR) : Nat := if r.flag 2 then 2 else 4

/-- A norm that takes its sums from statistics entries (R261). -/
def MillOpR.stats (r : MillOpR) : Bool := decide (r.op = 6 ∨ r.op = 7) && r.flag 1

/-- The range of the vectors at IN with their scale bytes and zero points, or statistics (R254, R261). -/
def MillOpR.vecReads (r : MillOpR) : List (Nat × Nat) :=
  strided r.src r.srcStride r.items (r.n * elemSize r.inFmt)
    :: ((if r.stats then [(r.inScale, 16 * r.items)] else if 2 ≤ r.inFmt then [(r.inScale, r.items)] else [])
      ++ (if r.inFmt = 4 then [(r.inZp, r.items)] else []))

/-- What a MILL_OP reads (R254 to R266). -/
def MillOpR.reads (r : MillOpR) (x : Extent) : List (Nat × Nat) :=
  match r.op with
  | 0x08 => []
  | 0x09 =>
    r.vecReads ++ [(r.aux0, 8 * r.arg1)]
      ++ (if r.arg0 = 0 then [] else [(r.aux1, (r.n - 1) / 256 * r.param0 + (r.arg0 - 1) * r.param1 + 1)])
  | 0x0C => [(r.aux0, 40 * r.items), (r.src, 4 * (x.sess.take r.items).sum)]
  | op =>
    r.vecReads
      ++ (if op = 2 ∨ op = 3 then [strided r.src2 r.src2Stride r.items (r.n * r.auxSize)] else [])
      ++ (if (op = 6 ∨ op = 7) ∧ r.flag 3 then [(r.aux0, r.n * r.auxSize)] else [])
      ++ (if op = 7 ∧ r.flag 4 then [(r.aux1, r.n * r.auxSize)] else [])

/-- What a MILL_OP writes. -/
def MillOpR.writes (r : MillOpR) : List (Nat × Nat) :=
  match r.op with
  | 0x09 => [(r.out, r.arg0 * r.items * 4)]
  | 0x0A => [strided r.out r.outStride r.items (8 * r.arg0), (r.aux0, 4 + min r.n (r.items * r.arg0) * (if bitOf r.arg1 1 then 4 else 2))]
  | 0x0B => [(r.out, 4 * r.items)]
  | 0x0C => []
  | op =>
    strided r.out r.outStride r.items (r.n * elemSize r.outFmt)
      :: ((if op ≠ 8 ∧ 2 ≤ r.outFmt then [(r.outScale, r.items)] else [])
        ++ (if op ≠ 8 ∧ r.outFmt = 4 then [(r.outZp, r.items)] else []))

/-- The bytes a MILL_OP writes, apart from a router's union list, whose length shows only when it runs (R256 to R266, R319). -/
def MillOpR.written (r : MillOpR) : List (Nat × Nat) :=
  match r.op with
  | 0x09 => r.writes
  | 0x0A => rowRanges r.out r.outStride r.items (8 * r.arg0)
  | 0x0B => r.writes
  | 0x0C => []
  | _ => rowRanges r.out r.outStride r.items (r.n * elemSize r.outFmt) ++ r.writes.drop 1

def GleanR.inSize (r : GleanR) : Nat := if bitOf r.flags 0 then 2 else 4
def GleanR.outSize (r : GleanR) : Nat := if bitOf r.flags 1 then 2 else 4

/-- What a GLEAN reads in the Granary apart from the stages (R288). -/
def GleanR.reads (r : GleanR) (x : Extent) : List (Nat × Nat) :=
  let b := x.batch
  (if bitOf r.mode 0 then
     [strided r.kIn r.kvStride b (r.kvHeads * r.headDim * r.inSize), strided r.vIn r.kvStride b (r.kvHeads * r.headDim * r.inSize)]
   else [])
    ++ (if bitOf r.mode 1 then [strided r.qIn r.qStride b (r.kvHeads * r.qPerKv * r.headDim * r.inSize)] else [])

/-- What a GLEAN writes apart from the stages (R282). -/
def GleanR.writes (r : GleanR) (x : Extent) : List (Nat × Nat) :=
  if bitOf r.mode 1 then [strided r.out r.outStride x.batch (r.kvHeads * r.qPerKv * r.headDim * r.outSize)] else []

/-- The destinations of the TARGET 3 descriptors of a record (R201). -/
def destRanges (ds : List Desc) : List (Nat × Nat) := (ds.filter fun d => d.target = 3).map fun d => (d.dest, d.most)

/-- The ranges a record reads in the Granary, its descriptors among them (R294). -/
def PRec.reads (r : PRec) (x : Extent) : List (Nat × Nat) :=
  match r with
  | .bayLoad r => r.reads
  | .stream r => [(r.desc, 64 * r.descCount)]
  | .epilogue r => r.reads
  | .millOp r => r.reads x
  | .glean r => r.reads x
  | .dep r => if r.predict then [(r.guard, 4), (r.list, 4)] else []
  | .copy r => [(r.desc, 64 * r.descCount)]
  | .fin t => [(t, 4 * x.batch)]
  | _ => []

/-- The ranges a record writes in the Granary. -/
def PRec.writes (r : PRec) (x : Extent) : List (Nat × Nat) :=
  match r with
  | .stream r => [r.sumsRange x]
  | .epilogue r => r.writes
  | .millOp r => r.writes
  | .glean r => r.writes x
  | _ => []

/-- The ranges that grow with BATCH or the step table and are read: they too keep clear of the program's slots and
descriptors (R294, R304). -/
def PRec.batchReads (r : PRec) (x : Extent) : List (Nat × Nat) :=
  match r with
  | .glean r => r.reads x
  | .millOp r => if r.op = 0x0C then [(r.src, 4 * (x.sess.take r.items).sum)] else []
  | .fin t => [(t, 4 * x.batch)]
  | _ => []

/-- Every range a record writes, at any device address. -/
def PRec.allWrites (r : PRec) (x : Extent) : List (Nat × Nat) := r.writes x ++ destRanges x.descs

/-! ### The checks of one record -/

/-- A check of a record by field offset: the offset and the status it fails with. -/
abbrev RecFail := Option (Nat × Nat)

/-- PROGRAM_INVALID at a field offset unless the condition holds. -/
def pinv (off : Nat) (ok : Bool) : RecFail := if ok then none else some (off, stProgramInvalid)

/-- A shape field: zero gives ZERO_SHAPE, beyond its range PROGRAM_INVALID. -/
def pshape (off v hi : Nat) : RecFail := if v = 0 then some (off, stZeroShape) else pinv off (v ≤ hi)

/-- The failing check with the lowest offset decides. -/
def lowestFail (l : List RecFail) : Option Nat :=
  (l.foldl (fun (best : RecFail) c =>
    match best, c with
    | none, c => c
    | some b, some c => if c.1 < b.1 then some c else some b
    | some b, none => some b) none).map fun b => b.2

/-- A Granary address field. -/
def gAddr (off a : Nat) : RecFail := pinv off (a < 0x28000000)

/-- Bytes of a record outside the listed ones are 0 (R294). -/
def reservedZero (b : List Byte) (from_ n : Nat) : RecFail := pinv from_ (lf b from_ n = 0)

/-- A stream descriptor's fields and spans (R197, R201). -/
def Desc.legal (d : Desc) (b : List Byte) : Bool :=
  let step := if d.runs = 0 ∨ d.runBytes = 0 then 0 else (d.runs - 1) * (if 1 < d.runs then d.runStride else 0) + d.runBytes
  let span := if d.kind = 2 ∧ step ≠ 0 then (d.indexLimit - 1) * d.indexStride + step else step
  let most := d.most
  d.kind ≤ 2 && d.target ≤ 3
    && (if d.target = 0 then d.format ≤ 2 else d.format = 0)
    && (if d.kind = 2 then d.indexWidth = 2 || d.indexWidth = 4 else d.indexWidth = 0)
    && lf b 4 4 = 0 && lf b 62 2 = 0 && d.base < 2 ^ 48
    && (if d.target = 3 then (if most = 0 then (tierOf d.dest).isSome else inTier d.dest most) else d.dest = 0)
    && d.runBytes ≤ 2 ^ 30 && (d.target ≠ 0 || d.runBytes % chunkBytes d.format = 0)
    && d.runs ≤ 2 ^ 24 && (d.kind ≠ 0 || d.runs = 1)
    && (d.runs ≤ 1 || d.runBytes ≤ d.runStride)
    && (if span = 0 then (tierOf d.base).isSome else inTier d.base span)
    && (if d.kind = 2 then
          d.indexAddr % 4 = 0 && 1 ≤ d.indexLimit && d.indexLimit ≤ 2 ^ 24 && 1 ≤ d.indexMax && d.indexMax ≤ 4096
            && inGranary (d.indexAddr, 4 + d.indexMax * d.indexWidth)
        else d.indexStride = 0 && d.indexAddr = 0 && d.indexLimit = 0 && d.indexMax = 0)

/-- The code stream and a side stream of a STREAM deliver the same number of row chunks, where that is known (R201). -/
def sameChunks (code side : Desc) : Bool :=
  if code.kind < 2 ∧ side.kind < 2 then code.chunks = side.chunks
  else if code.kind = 2 ∧ side.kind = 2 ∧ code.indexAddr = side.indexAddr then
    let n := code.runs * code.runBytes / chunkBytes code.format
    n = side.runs * side.runBytes && (n = 0 || code.indexMax = side.indexMax)
  else true

/-- The descriptors of a STREAM: one of TARGET 0 and 1, one of TARGET 2 exactly for W4Z, at most one of TARGET 3 (R297). -/
def streamDescsOk (ds : List Desc) : Bool :=
  let count (t : Nat) : Nat := ds.countP fun d => d.target = t
  count 0 = 1 && count 1 = 1 && count 3 ≤ 1
    && match ds.find? fun d => d.target = 0 with
       | none => false
       | some code =>
         count 2 = (if code.format = 1 then 1 else 0)
           && ds.all fun d => (d.target ≠ 1 && d.target ≠ 2) || sameChunks code d

/-- The parts of a tile that go with a STREAM's PART (R297). -/
def partAgrees (stream tile : Nat) : Bool :=
  match stream with
  | 0 => tile = 0
  | 1 => tile = 1 || tile = 3
  | 2 => tile = 2 || tile = 4
  | _ => false

/-- The slots of the group that a slot belongs to under a route, among the first `act` slots: the entries of slots that are
not active are ignored (R181, R301). -/
def groupOf (act : Nat) (route : List Nat) (slot : Nat) : List Nat :=
  (List.range (min act 8)).filter fun n => route.getD n 0 = route.getD slot 0

/-- A parsed program: records with their indexes, each with its bytes and descriptors (with theirs). -/
structure PEntry where
  idx : Nat
  op : PRec
  bytes : List Byte
  descs : List (Desc × List Byte)

/-- The record at an index. -/
def recAt (prog : List PEntry) (i : Nat) : Option PRec := (prog.find? fun e => e.idx = i).map fun e => e.op

/-- The condition's fields are legal, and COND_REC names an earlier EPILOGUE with WIDE_EN 1 (R295, R304). -/
def condFail (prog : List PEntry) (i condOff rcOff : Nat) (c : Cond) : List RecFail :=
  [pinv condOff (c.cond ≤ 2),
   pinv rcOff (if c.cond = 0 then c.rc = 0
     else decide (c.rc < i) && match recAt prog c.rc with | some (.epilogue r) => r.flag 4 | _ => false)]

/-- The fields of a BAY_LOAD (R296). -/
def bayLoadFails (prog : List PEntry) (e : PEntry) (r : BayLoadR) : List RecFail :=
  let n := (maskBits 8 r.slotMask).length
  let es := if r.part = 1 ∨ r.part = 2 then 2 else 1
  [pinv 1 (r.slotMask ≠ 0), pshape 2 r.u 64, pinv 3 (r.part ≤ 4), pinv 10 (r.colStep ≤ 512),
   pinv 12 (r.col0 ≤ 511 && r.col0 + (n - 1) * r.colStep + r.u ≤ 512), reservedZero e.bytes 15 1, gAddr 16 r.src,
   pinv 20 (r.colStride % es = 0), (if 3 ≤ r.part then gAddr 24 r.zp else pinv 24 (r.zp = 0)), reservedZero e.bytes 32 32]
    ++ condFail prog e.idx 14 28 r.cond ++ r.reads.map fun g => pinv 16 (inGranary g)

/-- The fields of a STREAM under the route in force (R184, R201, R227, R232, R297). -/
def streamFails (prog : List PEntry) (act : Nat) (route : List Nat) (e : PEntry) (r : StreamR) : List RecFail :=
  let group := groupOf act route r.slot
  let tile := match recAt prog r.tile with | some (.bayLoad t) => some t | _ => none
  let ds := e.descs.map fun d => d.1
  let tileOk := match tile with
    | none => false
    | some t => decide (r.tile < e.idx) && group.all (fun n => bitOf t.slotMask n) && partAgrees r.part t.part
  let x : Extent := { u := (tile.map fun t => t.u).getD 0, members := group.length, descs := ds }
  [pinv 1 (r.slot ≤ 7 && group.head? = some r.slot), pinv 2 (r.part ≤ 2), pinv 3 (r.acc ≤ 1), pinv 4 (r.join ≤ 2),
   pinv 5 (if r.join = 0 then r.chainMask = 0
     else decide (2 ≤ (maskBits 8 r.chainMask).length) && bitOf r.chainMask r.slot && decide (group.length = 1)),
   pinv 6 (2 ≤ r.descCount && r.descCount ≤ 4), pinv 8 tileOk,
   pinv 12 (r.desc % 64 = 0 && inGranary (r.desc, 64 * r.descCount) && streamDescsOk ds && e.descs.all fun d => d.1.legal d.2),
   pinv 16 (r.sums % 8 = 0 && inGranary (r.sumsRange x)), pinv 20 (r.sumsStride % 8 = 0), reservedZero e.bytes 28 36]
    ++ condFail prog e.idx 7 24 r.cond

/-- The fields of an EPILOGUE (R238, R298). -/
def epilogueFails (e : PEntry) (r : EpilogueR) : List RecFail :=
  let orZero (off : Nat) (used : Bool) (a : Nat) : RecFail := if used then gAddr off a else pinv off (a = 0)
  [pinv 1 (r.slotMask ≠ 0), pinv 2 (r.act ≤ 6), pinv 3 (r.outFmt ≤ 3), pinv 4 (-64 ≤ r.sOut && r.sOut ≤ 63),
   pinv 5 (!r.flag 4 || r.outFmt = 0), pshape 8 r.rows 1048576, pshape 12 r.columns 64, reservedZero e.bytes 13 3,
   pinv 16 (r.sums % 8 = 0), gAddr 20 r.inScale, orZero 24 (r.flag 0) r.tithe, orZero 28 (!r.flag 1) r.rs, orZero 32 (r.flag 2) r.bias,
   gAddr 36 r.out, pinv 40 (r.outStride % epiSize r.outFmt = 0), orZero 44 (r.outFmt < 2) r.outScale,
   orZero 48 (r.flag 4) r.outWide, pinv 52 (if r.flag 4 then r.outWideStride % 2 = 0 else r.outWideStride = 0),
   pinv 56 (r.outcome % 4 = 0), orZero 60 (r.flag 6) r.stats]
    ++ (r.reads.map fun g => pinv 16 (inGranary g)) ++ r.writes.map fun g => pinv 36 (inGranary g)

/-- A finite fp32 value that is not negative (a zero of either sign included). -/
def finiteNonNeg (x : Nat) : Bool := isFinite x && (!fSign x || isZero x)

/-- An input range may overlap an output range only when both are the same, and only for CONVERT, ADD, MUL and ACTIVATE
with equal formats (R254). -/
def MillOpR.overlapOk (r : MillOpR) : Bool :=
  let same := decide (1 ≤ r.op) && decide (r.op ≤ 4) && decide (r.inFmt = r.outFmt)
  r.writes.all fun w => (r.reads {}).all fun g => !overlaps w g || (same && w = g)

/-- The fields of a MILL_OP (R254, R257, R258, R261, R263, R264). -/
def millOpFails (prog : List PEntry) (e : PEntry) (r : MillOpR) : List RecFail :=
  let addr (off a : Nat) : RecFail := gAddr off a
  [pinv 1 (1 ≤ r.op && r.op ≤ 0x0C), pinv 2 (r.inFmt ≤ 4), pinv 3 (r.outFmt ≤ 4 && (r.op < 8 || r.outFmt = 0)),
   pinv 4 (r.flags < 32 && (!r.flag 1 || r.inFmt ≤ 1)), pinv 6 (r.layer ≤ 1023), pshape 8 r.items 65536, pshape 12 r.n 1048576,
   pinv 12 ((r.op ≠ 0x0A || r.n ≤ 4096) && (r.op ≠ 0x0C || r.n = 1)),
   pinv 24 (r.op ≠ 0x0B || finiteNonNeg r.param0),
   pinv 28 (r.op ≠ 0x0B || (fLt 0 r.param1 && !fLt fOne r.param1)),
   pinv 32 (match r.op with
     | 0x04 => r.arg0 ≤ 6
     | 0x0A => 1 ≤ r.arg0 && r.arg0 ≤ min 16 r.n
     | 0x0B => r.arg0 ≤ r.n
     | _ => true),
   addr 40 r.src, pinv 44 (r.srcStride % elemSize r.inFmt = 0), addr 48 r.src2,
   pinv 52 (r.src2Stride % r.auxSize = 0), addr 56 r.inScale, addr 60 r.inZp,
   reservedZero e.bytes 64 4, addr 68 r.out, pinv 72 (r.outStride % elemSize r.outFmt = 0), addr 76 r.outScale, addr 80 r.outZp,
   addr 84 r.aux0, addr 88 r.aux1, reservedZero e.bytes 96 32, pinv 68 r.overlapOk]
    ++ condFail prog e.idx 5 92 r.cond
    ++ ((r.reads {}).map fun g => pinv 40 (inGranary g)) ++ r.writes.map fun g => pinv 68 (inGranary g)

/-- The fields of a GLEAN (R288, R300). -/
def gleanFails (e : PEntry) (r : GleanR) : List RecFail :=
  [pinv 1 (1 ≤ r.mode && r.mode ≤ 3), pinv 2 (r.layer ≤ 1023), pshape 4 r.kvHeads 128, pshape 5 r.qPerKv 16, pshape 6 r.headDim 256,
   pinv 6 (r.headDim % 32 = 0), pinv 8 (r.flags ≤ 3), reservedZero e.bytes 9 3, gAddr 12 r.qIn, pinv 16 (r.qStride % 4 = 0),
   gAddr 20 r.kIn, gAddr 24 r.vIn, pinv 28 (r.kvStride % 4 = 0), gAddr 32 r.out, pinv 36 (r.outStride % 4 = 0),
   pinv 40 (isFinite r.scale), pinv 44 (isZero r.ropeBase || (isFinite r.ropeBase && fLt fOne r.ropeBase)), reservedZero e.bytes 52 12]
    ++ ((r.reads {}).map fun g => pinv 12 (inGranary g)) ++ (r.writes {}).map fun g => pinv 32 (inGranary g)

/-- The bytes of an index list of a descriptor that the Reaper may read (R199, R201). -/
def Desc.listSpan (d : Desc) : Nat := 4 + d.indexMax * d.indexWidth

/-- The most bytes that a DEP's prediction list may be read for: the longest list of the descriptors it guards, up to the
next DEP (R212, R294). -/
def predictSpan (prog : List PEntry) (idx guard : Nat) : Nat :=
  let rest := (prog.filter fun e => idx < e.idx).takeWhile fun e => e.op.kind ≠ 7
  ((rest.flatMap fun e => e.descs).filterMap fun d =>
    if d.1.kind = 2 ∧ d.1.indexAddr = guard then some d.1.listSpan else none).foldl max 4

/-- The fields of the five control records (R183, R301). -/
def controlFails (prog : List PEntry) (e : PEntry) : List RecFail :=
  match e.op with
  | .gate _ => [pinv 1 (lf e.bytes 1 1 ≤ 1), reservedZero e.bytes 2 62]
  | .dep r =>
    let after := match recAt prog r.after with
      | some op => decide (r.after < e.idx) && decide (op.kind ≤ 5 ∨ op.kind = 8)
      | none => false
    let list (off a : Nat) : RecFail :=
      pinv off (if r.predict then a % 4 = 0 && inGranary (a, predictSpan prog e.idx r.guard) else a = 0)
    [pinv 1 (lf e.bytes 1 1 ≤ 1), reservedZero e.bytes 2 2, pinv 4 after, list 8 r.guard, list 12 r.list, reservedZero e.bytes 16 48]
  | .copy r =>
    [pinv 1 (1 ≤ r.descCount && r.descCount ≤ 8), reservedZero e.bytes 3 1,
     pinv 8 (r.desc % 64 = 0 && inGranary (r.desc, 64 * r.descCount)
       && e.descs.all fun d => d.1.target = 3 && d.1.legal d.2), reservedZero e.bytes 12 52]
      ++ condFail prog e.idx 2 4 r.cond
  | .route gs =>
    let place := e.idx = 0 || match (prog.filter fun p => p.idx < e.idx).getLast? with
      | some p => p.op.kind = 6
      | none => false
    pinv 0 place :: (mapIdxFrom (fun n g => pinv (1 + n) (g ≤ 7)) 0 gs) ++ [reservedZero e.bytes 9 55]
  | .fin t => [reservedZero e.bytes 1 3, pinv 4 (t % 4 = 0 && inGranary (t, 4)), reservedZero e.bytes 8 56]
  | _ => []

/-! ### The checks of the whole program -/

/-- The route in force at an index (R182, R184). -/
def routeAt (prog : List PEntry) (i : Nat) : List Nat :=
  ((prog.filter fun e => e.idx ≤ i).foldl (fun route e => match e.op with | .route gs => gs | _ => route) [0, 1, 2, 3, 4, 5, 6, 7])

/-- The records after the last GATE before an index, up to it. -/
def sinceGate (prog : List PEntry) (i : Nat) : List PEntry :=
  (prog.filter fun e => e.idx < i).foldl (fun l e => if e.op.kind = 6 then [] else l ++ [e]) []

/-- The two most recent BAY_LOADs of a slot before an index, latest first; `all` takes every condition as true, else
every conditional record is skipped (R157, R304, log entry 10). -/
def recentLoads (prog : List PEntry) (all : Bool) (slot i : Nat) : List Nat :=
  (((prog.filter fun e => decide (e.idx < i) && (all || e.op.cond.cond = 0) && match e.op with
    | .bayLoad r => bitOf r.slotMask slot
    | _ => false).map fun e => e.idx).reverse).take 2

/-- A STREAM's tile is one of the two most recent of every member, under both readings of the conditions (R157). -/
def tileRecent (prog : List PEntry) (act : Nat) (route : List Nat) (i : Nat) (r : StreamR) : Bool :=
  [true, false].all fun all =>
    (!all && r.cond.cond ≠ 0) || (groupOf act route r.slot).all fun n => (recentLoads prog all n i).contains r.tile

/-- The joining STREAMs of a list of records: CHAIN_MASK, slot, and what members must share. -/
def joinsOf (prog l : List PEntry) (all : Bool) : List (Nat × Nat × Nat × Nat × Nat) :=
  l.filterMap fun e => match e.op with
    | .stream r =>
      if r.join ≠ 0 ∧ (all ∨ r.cond.cond = 0) then
        some (r.chainMask, r.slot, r.join, r.part, match recAt prog r.tile with | some (.bayLoad t) => t.u | _ => 0)
      else none
    | _ => none

/-- A joining STREAM agrees with those before it since the last GATE (R232). -/
def joinAgrees (prog : List PEntry) (i : Nat) (r : StreamR) (u : Nat) : Bool :=
  [true, false].all fun all =>
    (!all && r.cond.cond ≠ 0) || (joinsOf prog (sinceGate prog i) all).all fun j =>
      if j.1 = r.chainMask then j.2.1 ≠ r.slot && j.2.2 = (r.join, r.part, u) else j.1 &&& r.chainMask = 0

/-- Every slot of each CHAIN_MASK since the last GATE has its joining STREAM (R232). -/
def joinsComplete (prog : List PEntry) (i : Nat) : Bool :=
  [true, false].all fun all =>
    let js := joinsOf prog (sinceGate prog i) all
    js.all fun j => (maskBits 8 j.1).all fun n => js.any fun k => k.1 = j.1 && k.2.1 = n

/-- Conditional records since the last GATE name one COND_REC (R304). -/
def oneCondRec (prog : List PEntry) (i : Nat) (c : Cond) : Bool :=
  c.cond = 0 || (sinceGate prog i).all fun e => e.op.cond.cond = 0 || e.op.cond.rc = c.rc

/-- The order checks of a record (R157, R232, R304). -/
def orderFails (prog : List PEntry) (act slots : Nat) (e : PEntry) : List RecFail :=
  [pinv 1000 (oneCondRec prog e.idx e.op.cond)]
    ++ match e.op with
       | .stream r =>
         let u := match recAt prog r.tile with | some (.bayLoad t) => t.u | _ => 0
         [pinv 1001 (tileRecent prog act (routeAt prog e.idx) e.idx r), pinv 1002 (r.join = 0 || joinAgrees prog e.idx r u)]
       | .gate _ => [pinv 1003 (joinsComplete prog e.idx)]
       | .fin _ => [pinv 0 (e.idx + 1 = slots), pinv 1003 (joinsComplete prog e.idx)]
       | .millOp _ => [pinv 0 (e.idx + 1 < slots)]
       | _ => []

/-- What a record's own ranges are measured with in PROGRAM_CHECK. -/
def extentAt (prog : List PEntry) (act : Nat) (e : PEntry) : Extent :=
  match e.op with
  | .stream r =>
    { u := match recAt prog r.tile with | some (.bayLoad t) => t.u | _ => 0
      members := (groupOf act (routeAt prog e.idx) r.slot).length, descs := e.descs.map fun d => d.1 }
  | _ => { descs := e.descs.map fun d => d.1 }

/-- The status a record fails with in PROGRAM_CHECK: its fields in ascending offset, then the order of the program. -/
def recordFailure (prog : List PEntry) (act slots : Nat) (protect : List (Nat × Nat)) (e : PEntry) : Option Nat :=
  let fields := match e.op with
    | .bayLoad r => bayLoadFails prog e r
    | .stream r => streamFails prog act (routeAt prog e.idx) e r
    | .epilogue r => epilogueFails e r
    | .millOp r => millOpFails prog e r
    | .glean r => gleanFails e r
    | _ => controlFails prog e
  let w := e.op.allWrites (extentAt prog act e) ++ e.op.batchReads {}
  lowestFail (fields ++ orderFails prog act slots e ++ [pinv 999 (w.all fun g => protect.all fun p => !overlaps g p)])

/-! ### Reading a program -/

/-- Descriptors of a record read; none where a word fails its parity. -/
def State.readDescs (s : State) (op : PRec) : Option (List (Desc × List Byte)) :=
  match op.descs with
  | none => some []
  | some (a, n) =>
    if a % 64 = 0 ∧ inGranary (a, 64 * n) ∧ n ≤ 8 then
      ((List.range n).mapM fun i =>
        match (s.readMem 0 (a + 64 * i) 64).1 with
        | (b, none) => some (parseDesc b, b)
        | _ => none)
    else some []

/-- How reading a program ended. -/
inductive Parsed where
  | ok (prog : List PEntry)
  | badKind (idx : Nat)
  | parity (word : Nat)

/-- The Granary word that fails parity in a range. -/
def State.granaryBad (s : State) (a n : Nat) : Option Nat :=
  ((s.memory.badParity.filter fun x => a ≤ x && x < a + n).min?).map fun x => x / 64 * 64

/-- The records of a program from an index on (R292, R303). -/
def State.parseFrom (s : State) (addr slots : Nat) : Nat → Nat → List PEntry → Parsed
  | 0, _, acc => .ok acc
  | fuel + 1, i, acc =>
    if slots ≤ i then .ok acc
    else
      let b := s.bytesAt (addr + 64 * i) 128
      let b := if lf b 0 1 = 4 then b else b.take 64
      match s.granaryBad (addr + 64 * i) b.length, parseRecord b with
      | some w, _ => .parity w
      | none, none => .badKind i
      | none, some op =>
        match s.readDescs op with
        | none => .parity (((op.descs.bind fun d => s.granaryBad d.1 (64 * d.2))).getD 0)
        | some ds => s.parseFrom addr slots fuel (i + op.size) (acc ++ [⟨i, op, b, ds⟩])

/-- A whole program read. -/
def State.parseProgram (s : State) (addr slots : Nat) : Parsed := s.parseFrom addr slots slots 0 []

/-- The slots and descriptors of a program: the ranges that uncheck it (R304, R305). -/
def protectOf (addr slots : Nat) (prog : List PEntry) : List (Nat × Nat) :=
  (addr, 64 * slots) :: (prog.filterMap fun e => e.op.descs).map fun d => (d.1, 64 * d.2)

/-- The slots a record names (R303). -/
def PRec.slotsNamed : PRec → Nat
  | .bayLoad r => r.slotMask
  | .stream r => (2 ^ r.slot ||| r.chainMask)
  | .epilogue r => r.slotMask
  | _ => 0

/-- The reply of PROGRAM_CHECK (R303). -/
def checkReply (act slots : Nat) (prog : List PEntry) : List Byte :=
  let any (p : PRec → Bool) : Nat := b2n (prog.any fun e => p e.op)
  be 4 slots ++ be 4 (prog.countP fun e => e.op.kind = 6) ++ be 1 (prog.foldl (fun m e => m ||| e.op.slotsNamed) 0)
    ++ be 1 (any (fun op => match op with | .route gs => !((gs.take act).eraseDups.length = min act 8) | _ => false)
      + 2 * any (fun op => op.cond.cond ≠ 0)
      + 4 * any (fun op => match op with | .epilogue r => r.flag 6 && r.flag 7 | _ => false)
      + 8 * any (fun op => match op with | .stream r => r.join = 2 | _ => false))
    ++ be 2 0 ++ be 4 ((prog.map fun e => e.descs.length).sum)

/-- The outcome of PROGRAM_CHECK: a failure, or the ranges to watch and the reply. -/
inductive Checked where
  | fail (f : Failure)
  | pass (ranges : List (Nat × Nat)) (payload : List Byte)

/-- The first record that fails decides (R303); a KIND outside R293 stops the reading there. -/
def judgeProgram (act addr slots : Nat) (prog : List PEntry) (cut : Option Nat) : Checked :=
  let protect := protectOf addr slots prog
  match prog.findSome? fun e => (recordFailure prog act slots protect e).map fun st => (st, e.idx) with
  | some (st, i) => .fail { status := st, detail := i }
  | none =>
    match cut, prog.getLast? with
    | some i, _ => .fail { status := stProgramInvalid, detail := i }
    | none, some e => if e.op.kind = 10 then .pass protect (checkReply act slots prog) else .fail { status := stProgramInvalid, detail := e.idx }
    | none, none => .fail { status := stProgramInvalid, detail := 0 }

/-- Records before a KIND outside R293, with its index. -/
def State.parsePrefix (s : State) (addr slots : Nat) : Parsed × List PEntry :=
  match s.parseProgram addr slots with
  | .badKind i =>
    (.badKind i, match s.parseFrom addr i i 0 [] with | .ok p => p | _ => [])
  | .ok p => (.ok p, p)
  | .parity w => (.parity w, [])

/-- The slots that PROGRAM_CHECK takes for active: the present ones, or all 8 while there are none (R153, R301; log entry
125). -/
def State.slotsSeen (s : State) : Nat :=
  let n := s.furrows.countP fun x => x.role = 0
  if n = 0 then 8 else n

/-- PROGRAM_CHECK's judgement of a registered program (R303). -/
def State.checkProgram (s : State) (p : Program) : Checked :=
  match s.parsePrefix p.addr p.slots with
  | (.parity w, _) => .fail (ueFailure w)
  | (.badKind i, prog) => judgeProgram s.slotsSeen p.addr p.slots prog (some i)
  | (.ok _, prog) => judgeProgram s.slotsSeen p.addr p.slots prog none

/-! ### The commands -/

/-- The registered program at an address. -/
def State.programAt (s : State) (a : Nat) : Option Program := s.programs.find? fun p => p.addr = a

/-- The STEP_RUN that a lane holds back after it started, until a wake or the end of a test (R72, R125, R412): PROGRAM,
STEP_TABLE and BATCH. -/
def Lane.waitingStep (l : Lane) : List (Nat × Nat × Nat) :=
  match l.job with
  | some ⟨_, _, .stepRun _ p t b _ _, .waitWake⟩ => [(p, t, b)]
  | _ => []

/-- The STEP_RUNs in a lane's queue: PROGRAM, STEP_TABLE and BATCH of each. -/
def Lane.queuedSteps (l : Lane) : List (Nat × Nat × Nat) :=
  l.queue.filterMap fun r =>
    if r.opcode = 0x0403 ∧ r.early = none then some (fieldAt r.payload 0 8, fieldAt r.payload 8 8, fieldAt r.payload 16 2) else none

/-- The queued STEP_RUNs: those that wait in their lanes, and those that wait for a wake or a test (R302, log entry 11). -/
def State.queuedSteps (s : State) : List (Nat × Nat × Nat) := s.lanes.flatMap fun l => l.waitingStep ++ l.queuedSteps

/-- The queued STEP_RUNs other than the one that a lane starts now (R309). -/
def State.otherSteps (s : State) (own : Nat) : List (Nat × Nat × Nat) :=
  s.lanes.zipIdx.flatMap fun l => (if l.2 = own then [] else l.1.waitingStep) ++ l.1.queuedSteps

/-- A running or queued STEP_RUN uses the program at an address (R302). -/
def State.usesProgram (s : State) (a : Nat) : Bool := (s.steps.any fun t => t.program = a) || s.queuedSteps.any fun q => q.1 = a

/-- A write to bytes of a checked program or of its descriptors returns it to unchecked (R305). -/
def State.uncheck (s : State) (a n : Nat) : State :=
  { s with programs := s.programs.map fun p => if p.ranges.any fun r => overlaps r (a, n) then { p with checked := false, ranges := [] } else p }

/-- The entries that stay when a range is registered, or none when one in use stands in the way (R302). -/
def State.makeRoom (s : State) (a slots : Nat) : Option (List Program) :=
  let inUse (p : Program) : Bool := s.usesProgram p.addr
  let hit (p : Program) : Bool := overlaps (p.addr, 64 * p.slots) (a, 64 * slots)
  if s.programs.any fun p => hit p && inUse p then none
  else
    let rest := s.programs.filter fun p => !hit p
    if rest.length < 64 then some rest
    else match rest.find? fun p => !inUse p with
      | none => none
      | some old => some (rest.filter fun p => p.addr ≠ old.addr)

/-- PROGRAM_LOAD (R302). -/
def doProgramLoad (h : ReqHdr) (a slots rsv : Nat) (s : State) : State :=
  let room := s.makeRoom a slots
  s.serve h (.programLoad h a slots rsv) []
    [need (a % 64 = 0) (fRange 0 a), need (a < 0x28000000) (fAddr 0 a), inRange 8 slots 0 65536,
     (if slots = 0 then none else need (inOneTier .granary a (64 * slots)) (fAddr 8 0x28000000)), rsvZero 12 rsv]
    [wrongUnless (slots = 0 || room.isSome)] (slots = 0) fun s =>
    match s.makeRoom a slots with
    | none => s.failReply h 0x0301 { status := stWrongState }
    | some rest => ({ s with programs := rest ++ [Program.mk a slots false []] }).reply h 0x0301 stOk

/-- PROGRAM_CHECK (R303). -/
def doProgramCheck (h : ReqHdr) (a : Nat) (s : State) : State :=
  s.serve h (.programCheck h a) [] [need (a % 64 = 0) (fRange 0 a), need (a < 0x28000000) (fAddr 0 a)]
    [wrongUnless (s.programAt a).isSome] false fun s =>
    match s.programAt a with
    | none => s.failReply h 0x0302 { status := stWrongState }
    | some p =>
      let set (c : Bool) (rs : List (Nat × Nat)) (s : State) : State :=
        { s with programs := s.programs.map fun q => if q.addr = a then { q with checked := c, ranges := rs } else q }
      match s.checkProgram p with
      | .fail f => (set false [] s).failReply h 0x0302 f
      | .pass rs payload => (set true rs s).reply h 0x0302 stOk payload

end Sys2Proof.Machine
end

