-- ==== Sys2Proof/Machine/Sessions.lean ====
section
/-!
DEFINITION. Sessions (04, 12): the geometry of a session's cache and stage (R270 to R277), opening and closing (R92,
R93), commit and rollback (R99, R100, R284 to R286).
-/
namespace Sys2Proof.Machine

/-! ### Geometry -/

/-- A number rounded up to a multiple. -/
def roundUp (a m : Nat) : Nat := (a + m - 1) / m * m

/-- Bits per code (R274). -/
def Session.bits (x : Session) : Nat := if x.k8 then 8 else 4
/-- The address of stripe 0 (R271). -/
def Session.stripe0 (x : Session) : Nat := roundUp x.kvBase 0x8000
/-- The stripes that lie wholly inside the range (R271). -/
def Session.stripes (x : Session) : Nat := ((x.kvBase + x.kvBytes) / 0x8000 * 0x8000 - x.stripe0) / 0x8000
/-- Local heads per lane (R272). -/
def Session.hl (x : Session) : Nat := (x.kvHeads + 7) / 8
/-- The header of head scales of a lane (R273). -/
def Session.sh (x : Session) : Nat := roundUp (4 * x.layers * x.hl) 256
/-- Blocks per token row (R274). -/
def Session.nb (x : Session) : Nat := x.headDim / 32
/-- The size of a unit (R274). -/
def Session.unit (x : Session) : Nat := roundUp (32 * x.bits * x.headDim + 4 * x.headDim) 256
/-- The capacity T_MAX (R276). -/
def Session.tMax (x : Session) : Nat := 256 * ((x.stripes * 4096 - x.sh) / (x.layers * x.hl * 2 * x.unit))
/-- The size of a stage row (R277). -/
def Session.rowBytes (x : Session) : Nat := x.headDim * x.bits / 8 + 8
/-- The size of a stage slot (R277). -/
def Session.slotBytes (x : Session) : Nat := x.layers * x.kvHeads * 2 * x.rowBytes
/-- The device address of a lane offset (R271). -/
def Session.laneAddr (x : Session) (n u : Nat) : Nat := x.stripe0 + u / 4096 * 0x8000 + n * 0x1000 + u % 4096
/-- The device ranges of `len` bytes of a lane from an offset: they part at the end of a page (R271). -/
def Session.lanePieces (x : Session) (n u len : Nat) : List (Nat × Nat) :=
  let k := min len (4096 - u % 4096)
  (x.laneAddr n u, k) :: (if k < len then [(x.laneAddr n (u + k), len - k)] else [])
/-- The lane offset of the unit of a layer, head, keys or values, in the Stook of a position (R275). -/
def Session.unitOff (x : Session) (layer head kv pos : Nat) : Nat :=
  x.sh + pos / 256 * (x.layers * x.hl * 2 * x.unit) + ((layer * x.hl + head / 8) * 2 + kv) * x.unit
/-- The lane offset of a position's codes (R275). -/
def Session.codeOff (x : Session) (layer head kv pos : Nat) : Nat :=
  x.unitOff layer head kv pos + pos % 256 * (x.headDim * x.bits / 8)
/-- The lane offset of the byte that holds a block's exponent, and whether it is the upper nibble (R275). -/
def Session.expOff (x : Session) (layer head kv pos block : Nat) : Nat × Bool :=
  let i := pos % 256 * x.nb + block
  (x.unitOff layer head kv pos + 32 * x.bits * x.headDim + i / 2, i % 2 = 1)
/-- The lane offset of a head scale: H_K at +0, H_V at +2 (R273). -/
def Session.scaleOff (x : Session) (layer head kv : Nat) : Nat := 4 * (layer * x.hl + head / 8) + 2 * kv
/-- The address of a stage row (R277). -/
def Session.stageRow (x : Session) (stage slot layer head kv : Nat) : Nat :=
  stage + slot * x.slotBytes + ((layer * x.kvHeads + head) * 2 + kv) * x.rowBytes

/-! ### State -/

/-- An open session by number. -/
def State.session (s : State) (n : Nat) : Option Session := look s.sessions n

/-- A session set. -/
def State.setSession (s : State) (n : Nat) (x : Session) : State := { s with sessions := put s.sessions n x }

/-- A step that has started names the session (R306). -/
def State.sessionRunning (s : State) (n : Nat) : Bool := s.steps.any fun t => t.cols.any fun c => c.session = n

/-- A queued STEP_RUN names the session, by its step table as it stands (log entry 11). -/
def State.namesSession (s : State) (n : Nat) (q : Nat × Nat × Nat) : Bool :=
  (List.range q.2.2).any fun i => s.leAt (q.2.1 + 64 + 16 * i) 2 = n

/-- A running or queued STEP_RUN names the session (R93). -/
def State.sessionInStep (s : State) (n : Nat) : Bool := s.sessionRunning n || s.queuedSteps.any (s.namesSession n)

/-- A running or queued STEP_RUN other than the one that a lane starts now names the session (R306, R309). -/
def State.sessionTaken (s : State) (own n : Nat) : Bool := s.sessionRunning n || (s.otherSteps own).any (s.namesSession n)

/-- A counter of every Gleaner whose lane holds rows of the session raised (R291). -/
def State.bumpLanes (s : State) (x : Session) (off n : Nat) : State :=
  (List.range (min 8 x.kvHeads)).foldl (fun s g => s.bump (aGleaner g off) n) s

/-- Stage slots counted as discarded (R291). -/
def State.discardSlots (s : State) (x : Session) (n : Nat) : State := if n = 0 then s else s.bumpLanes x 0x74 n

/-- Held entries of a session discarded (R93, R100). -/
def State.dropHeld (s : State) (n : Nat) : State :=
  match s.session n with
  | none => s
  | some x => (s.discardSlots x ((x.held.map fun k => k.slots).getD 0)).setSession n { x with held := none }

/-! ### Commit -/

/-- The byte at an address as a reader sees it, merge buffers included (R330). -/
def State.mergedByte (s : State) (a : Nat) : Byte :=
  match s.memory.merge.find? fun m => m.word = a / 64 * 64 with
  | some m => (look m.bytes (a % 64)).getD (s.byteAt a)
  | none => s.byteAt a

/-- One stage row written to the cache: its codes, then the exponent nibble of each block (R275, R284). -/
def State.commitRow (s : State) (x : Session) (stage slot layer head kv : Nat) (pos : Nat) : State :=
  let src := x.stageRow stage slot layer head kv
  let lane := head % 8
  let len := x.headDim * x.bits / 8
  let s := ((x.lanePieces lane (x.codeOff layer head kv pos) len).foldl (fun (acc : Nat × State) p =>
    (acc.1 + p.2, acc.2.writeMem .commit p.1 (s.bytesAt (src + acc.1) p.2))) (0, s)).2
  let exps := s.leAt (src + len) 8
  (List.range x.nb).foldl (fun s k =>
    let e := x.expOff layer head kv pos k
    let a := x.laneAddr lane e.1
    let old := (s.mergedByte a).toNat
    let v := exps / 16 ^ k % 16
    s.writeMem .commit a [BitVec.ofNat 8 (if e.2 then old % 16 + 16 * v else old / 16 * 16 + v)]) s

/-- The Loft words that a row's bytes lie in. -/
def Session.rowWords (x : Session) (layer head kv pos : Nat) : List Nat :=
  let lane := head % 8
  let len := x.headDim * x.bits / 8
  let code := (List.range len).map fun i => x.laneAddr lane (x.codeOff layer head kv pos + i) / 64 * 64
  let exp := (List.range x.nb).map fun k => x.laneAddr lane (x.expOff layer head kv pos k).1 / 64 * 64
  (code ++ exp).eraseDups

/-- The rows of a slot: layer, head, keys or values, ascending. -/
def Session.rows (x : Session) : List (Nat × Nat × Nat) :=
  (List.range x.layers).flatMap fun l => (List.range x.kvHeads).flatMap fun h => [(l, h, 0), (l, h, 1)]

/-- Rows of a slot whose stage bytes fail their parity (R285). -/
def State.badRows (s : State) (x : Session) (stage slot : Nat) : List (Nat × Nat × Nat) :=
  x.rows.filter fun r => (s.granaryBad (x.stageRow stage slot r.1 r.2.1 r.2.2) x.rowBytes).isSome

/-- A word made to report uncorrectable at every read, counted and logged with SOURCE 3 (R285). -/
def State.poisonWord (s : State) (w : Nat) : State := (s.setErr { word := w, poison := true }).logUE w 3

/-- Stage slots 0 to count − 1 of a session written to positions from N on in token order, N advanced, the other slots
discarded; whether a stored-data error was met (R284, R285). -/
def State.commitSlots (s : State) (n stage count total : Nat) : Bool × State :=
  match s.session n with
  | none => (false, s)
  | some x =>
    let count := min count total
    let bad := (List.range count).flatMap fun j => (s.badRows x stage j).flatMap fun r => x.rowWords r.1 r.2.1 r.2.2 (x.n + j)
    let s := (List.range count).foldl (fun s j =>
      x.rows.foldl (fun s r => s.commitRow x stage j r.1 r.2.1 r.2.2 (x.n + j)) s) s
    let s := s.flushOwner .commit
    let f := s.takeFails .commit
    let s := bad.eraseDups.foldl State.poisonWord f.2
    let s := s.bumpLanes x 0x70 count
    let s := s.discardSlots x (total - count)
    (decide (bad ≠ []) || f.1.isSome, s.setSession n { x with n := x.n + count, held := none })

/-! ### The commands -/

/-- A range overlaps that of an open session. -/
def State.cacheClash (s : State) (a n : Nat) : Bool := s.sessions.any fun e => overlaps (e.2.kvBase, e.2.kvBytes) (a, n)

/-- A range overlaps that of an open session other than the one named (R92). -/
def State.clashBut (s : State) (k a n : Nat) : Bool :=
  s.sessions.any fun e => e.1 ≠ k && overlaps (e.2.kvBase, e.2.kvBytes) (a, n)

/-- SESSION_OPEN (R92, R276). -/
def doSessionOpen (h : ReqHdr) (b : SessOpenB) (x : Option (Nat × Nat × Nat)) (s : State) : State :=
  let fmt := orReg (x.map fun y => y.1) (s.fld (aGlobal 0x24) 0 1)
  let rnd := orReg (x.map fun y => y.2.1) (s.fld (aGlobal 0x24) 1 1)
  let rsv := orReg (x.map fun y => y.2.2) 0
  let ses : Session := ⟨b.layers, b.kvHeads, b.headDim, b.kvBase, b.kvBytes, b.seed, fmt = 1, rnd = 1, 0, none⟩
  s.serve h (.sessionOpen h b (some (fmt, rnd, rsv))) []
    [inRange 0 b.session 0 255, shape 2 b.layers 1 1024, shape 4 b.kvHeads 1 128, shape 6 b.headDim 32 256,
     need (b.headDim % 32 = 0) (fRange 6 b.headDim), need (b.kvBase % 256 = 0) (fRange 8 b.kvBase),
     need (tierOf b.kvBase = some .loft) (fAddr 8 b.kvBase), need (!s.clashBut b.session b.kvBase b.kvBytes) (fRange 8 b.kvBase),
     (if b.kvBytes = 0 then some (fZero 16) else none), need (b.kvBytes % 256 = 0) (fRange 16 b.kvBytes),
     need (inOneTier .loft b.kvBase b.kvBytes) (fAddr 16 0x008000000000), need (ses.tMax ≠ 0) (fRange 16 b.kvBytes),
     inRange 32 fmt 0 1, inRange 33 rnd 0 1, rsvZero 34 rsv]
    [wrongUnless (s.session b.session).isNone] false fun s => (s.setSession b.session ses).reply h 0x0401 stOk

/-- SESSION_CLOSE (R93). -/
def doSessionClose (h : ReqHdr) (n rsv : Nat) (s : State) : State :=
  s.serve h (.sessionClose h n rsv) [] [inRange 0 n 0 255, rsvZero 2 rsv]
    [wrongUnless ((s.session n).isSome && !s.sessionInStep n)] false fun s =>
    let s := s.dropHeld n
    ({ s with sessions := del s.sessions n }).reply h 0x0402 stOk

/-- Held slots of a session. -/
def State.heldSlots (s : State) (n : Nat) : Nat := ((s.session n).bind fun x => x.held.map fun k => k.slots).getD 0

/-- SESSION_COMMIT (R99, R286). -/
def doSessionCommit (h : ReqHdr) (n count : Nat) (s : State) : State :=
  s.serve h (.sessionCommit h n count) []
    [inRange 0 n 0 255, need (s.session n).isSome (fRange 0 n), inRange 2 count 0 9, need (count ≤ s.heldSlots n) (fRange 2 count)]
    [wrongUnless (!s.sessionInStep n)] (count = 0) fun s =>
    match (s.session n).bind fun x => x.held with
    | none => s.reply h 0x0406 stNothing
    | some k =>
      let r := s.commitSlots n k.stage count k.slots
      r.2.reply h 0x0406 (if r.1 then stDegraded else stOk)

/-- SESSION_ROLLBACK (R100). -/
def doSessionRollback (h : ReqHdr) (n rsv : Nat) (s : State) : State :=
  s.serve h (.sessionRollback h n rsv) [] [inRange 0 n 0 255, need (s.session n).isSome (fRange 0 n), rsvZero 2 rsv]
    [wrongUnless (!s.sessionInStep n)] (s.heldSlots n = 0) fun s => (s.dropHeld n).reply h 0x0407 stOk

end Sys2Proof.Machine
end

