-- ==== Sys2Proof/Machine/StepBase.lean ====
section
/-!
DEFINITION. What the parts of a running step share (13): the step of a lane, slots and groups (R153, R181), records as
the Reeve reads them (R292, R326), the first abort (R219), the holding step (R316, R317), the end of steps in FAULT (R71),
and the lane commands TASK_CANCEL, LANE_RESUME, TASK_STATUS and HOST_WATCHDOG (R96 to R104).
-/
namespace Sys2Proof.Machine

/-! ### Steps, Furrows, slots -/

/-- The step that runs in a lane. -/
def State.stepOf (s : State) (l : Nat) : Option Step := s.steps.find? fun t => t.lane = l

/-- The step of a lane changed. -/
def State.modStep (s : State) (l : Nat) (f : Step → Step) : State :=
  { s with steps := s.steps.map fun x => if x.lane = l then f x else x }

/-- The step of a lane replaced. -/
def State.setStep (s : State) (t : Step) : State := s.modStep t.lane fun _ => t

/-- A Furrow by its physical number. -/
def State.furrow (s : State) (f : Nat) : Furrow := s.furrows.getD f {}

/-- A Furrow replaced. -/
def State.setFurrow (s : State) (f : Nat) (x : Furrow) : State := { s with furrows := setAt s.furrows f x }

/-- A Furrow changed. -/
def State.modFurrow (s : State) (f : Nat) (g : Furrow → Furrow) : State := s.setFurrow f (g (s.furrow f))

/-- The active Furrow that holds a slot (R153). -/
def State.furrowOf (s : State) (slot : Nat) : Option Nat :=
  (List.range 10).find? fun f => (s.furrow f).role = 0 && (s.furrow f).slot = slot

/-- The active Furrows. -/
def State.activeFurrows (s : State) : List Nat := (List.range 10).filter fun f => (s.furrow f).role = 0

/-- The present active count. -/
def State.activeCount (s : State) : Nat := s.activeFurrows.length

/-- The active members of a slot's group under the step's route, ascending: slot and Furrow (R181, R184). -/
def State.members (s : State) (t : Step) (slot : Nat) : List (Nat × Nat) :=
  (groupOf 8 t.route slot).filterMap fun n => (s.furrowOf n).map fun f => (n, f)

/-- The batch of a step. -/
def Step.batch (t : Step) : Nat := t.cols.length

/-- The sessions of a step in step-table order (R307). -/
def Step.sessions (t : Step) : List Nat := (t.cols.map fun c => c.session).eraseDups

/-- The columns of a session. -/
def Step.width (t : Step) (n : Nat) : Nat := t.cols.countP fun c => c.session = n

/-- The batch column of a session's column J = 0. -/
def Step.firstCol (t : Step) (n : Nat) : Nat := t.cols.findIdx fun c => c.session = n

/-- What the ranges of a record are measured with once the step table is known (R294, R309). -/
def Step.extent (t : Step) (ds : List Desc) : Extent := { sess := t.sessions.map t.width, descs := ds }

/-- The dispatched record with an index. -/
def Step.liveAt (t : Step) (i : Nat) : Option Live := t.live.find? fun v => v.idx = i

/-- A dispatched record changed. -/
def Step.modLive (t : Step) (i : Nat) (f : Live → Live) : Step :=
  { t with live := t.live.map fun v => if v.idx = i then f v else v }

/-- Bytes one element of a descriptor delivers (R198). -/
def Desc.elemBytes (d : Desc) : Nat := d.runs * d.runBytes

/-- The bytes a descriptor's stream delivers. -/
def Fetch.total (f : Fetch) (k : Nat) : Nat :=
  (f.entries.getD k []).length * ((f.descs.getD k ⟨0, 0, 0, 0, 0, 0, 0, 0, 0, 0, 0, 0, 0⟩).elemBytes)

/-- The first TARGET 3 descriptor of a fetch that is not written whole, with the bytes already written. -/
def Fetch.open3 (f : Fetch) : Option (Nat × Desc × Nat) :=
  (f.descs.zipIdx.find? fun d => d.1.target = 3 && (look f.written d.2).getD 0 < f.total d.2).map fun d => (d.2, d.1, (look f.written d.2).getD 0)

/-- The index lists are read, none of them failed, and everything of TARGET 3 is written. -/
def Fetch.done3 (f : Fetch) : Bool := f.ready && f.fault.isNone && f.open3.isNone

/-- The bytes that the TARGET 3 streams of a fetch write (R198). -/
def Fetch.dests (f : Fetch) : List (Nat × Nat) :=
  f.descs.zipIdx.filterMap fun d => if d.1.target = 3 then some (d.1.dest, f.total d.2) else none

/-- What is left of a fetch once its record is complete: the Tithe list of a STREAM, while it is not written whole (R198,
R312). -/
def Fetch.rest3 (f : Fetch) : Option Fetch :=
  if f.done3 then none
  else
    let is3 (p : Piece) : Bool := (f.descs[p.desc]?.map fun d => d.target) = some 3
    some { f with todo := f.todo.filter is3, pieces := f.pieces.filter is3 }

/-- A record complete: it is no longer live (R312). -/
def Step.complete (t : Step) (i : Nat) : Step :=
  { t with
    live := t.live.filter fun v => v.idx ≠ i
    fetches := t.fetches.filterMap fun v => if v.record = i then v.rest3 else some v }

/-- A record is complete: dispatched and no longer live. -/
def Step.isDone (t : Step) (i : Nat) : Bool := decide (i < t.next) && (t.liveAt i).isNone

/-- Whether a condition holds; none while its clip decision is not made (R295, R315). -/
def Step.condHolds (t : Step) (c : Cond) : Option Bool :=
  if c.cond = 0 then some true
  else (t.clips.find? fun e => e.1 = c.rc).map fun e => if c.cond = 1 then e.2 else !e.2

/-- The step holds the engines and nothing ends it (R316, R219). -/
def State.works (s : State) (t : Step) : Bool := s.reaper.holder = some t.lane && t.failure.isNone && !t.teardown

/-! ### Records -/

/-- What reading a record at its index gives. -/
inductive ReadRec where
  | none
  | parity (f : Failure)
  | ok (op : PRec) (descs : List Desc)

/-- A Granary parity error in what the Reeve reads for a step (R326). -/
def reeveParity (w : Nat) : Failure := { status := stMemUncorrectable, block := 0, inst := 0, detail := w }

/-- A Granary parity error in a descriptor that the Reaper reads (R216, R326). -/
def reaperParity (w : Nat) : Failure := { status := stMemUncorrectable, block := 2, inst := 0, detail := w }

/-- A record of a step read from the Granary, with its descriptors (R292, R326). -/
def State.readRec (s : State) (t : Step) (i : Nat) : ReadRec :=
  if t.slots ≤ i then .none
  else
    let a := t.program + 64 * i
    let b := s.bytesAt a 128
    let b := if lf b 0 1 = 4 then b else b.take 64
    match s.granaryBad a b.length, parseRecord b with
    | some w, _ => .parity (reeveParity w)
    | Option.none, Option.none => .none
    | Option.none, some op =>
      match op.descs with
      | Option.none => .ok op []
      | some (d, n) =>
        match s.granaryBad d (64 * n) with
        | some w => .parity (reaperParity w)
        | Option.none => .ok op ((List.range n).map fun k => parseDesc (s.bytesAt (d + 64 * k) 64))

/-! ### Aborts -/

/-- An abort reaches the Reeve: the first one decides the status of the step (R219, R432), and its block's clock of now goes
into the record (R443). -/
def State.abortStep (s : State) (l : Nat) (f : Failure) (rec : Nat) : State :=
  s.modStep l fun t => if t.failure.isNone && !t.teardown then { t with failure := some (f, rec), failedAt := s.failClock f } else t

/-- The number of steps a Furrow has aborted in a row with a status of R174, case 3, and its last abort (R176). -/
def State.noteAbort (s : State) (f status : Nat) : State :=
  (s.modFurrow f fun x => { x with badSteps := x.badSteps + 1 }).setReg (aFurrow f 0xA8) status

/-- The STEP_RUNs that wait in their lanes end with a failure in their turn (R71, R103). -/
def State.failQueued (s : State) (f : Failure) : State :=
  { s with lanes := s.lanes.map fun l =>
    { l with queue := l.queue.map fun r => if r.opcode = 0x0403 ∧ r.early = none then { r with early := some f } else r } }

/-- A STEP_RUN that waits for a wake ends at once with a failure. -/
def State.failWaking (s : State) (f : Failure) : State :=
  s.lanes.foldl (fun s l => match l.job with
    | some j => if j.opcode = 0x0403 ∧ j.kind = .waitWake then s.failReply j.hdr j.opcode f else s
    | none => s) s

/-- Every running or queued STEP_RUN ends with a failure; a step whose status is decided keeps it (R71, R103, R432). -/
def State.endAllSteps (s : State) (f : Failure) : State :=
  (s.steps.foldl (fun s t => s.abortStep t.lane f t.cur) (s.failWaking f)).failQueued f

/-- The device is in FAULT with a failure: every running or queued STEP_RUN ends with it, sources, drivers and heaters are
off, and no entry, wake or hold goes on (R71, R383, R387). -/
def State.toFault (s : State) (f : Failure) : State :=
  let s := s.endAllSteps f
  { s with
    dev := .fault
    vane := { s.vane with drives := [] }
    sources := s.sources.map fun x => { x with locked := false }
    lantern := { s.lantern with entry := none, waking := none, hold := none, dozeDue := false, fault := some f } }

/-- The device enters FAULT with a status of class 0x3xxx (R71, R431, R434). -/
def State.enterFault (s : State) (f : Failure) (blk : Option Blk := none) : State :=
  (s.raise { kind := 0x0012, status := f.status, block := f.block, inst := f.inst, detail := f.detail } blk).toFault f

/-! ### The holding step -/

/-- A Furrow's Winnow run abandoned (R371, R376); `keep` leaves its due mark set. -/
def State.abandonRun (s : State) (f : Nat) (keep : Bool) : State :=
  let w := s.winnow.getD f {}
  if w.run.isNone then s
  else
    ({ s with winnow := setAt s.winnow f { w with run := none, due := w.due || keep, outcome := 3 } }).bump (aWinnow 0x50)

/-- A pattern collection ends when a step takes the engines: its run is abandoned and stays due (R371). -/
def State.abandonPatterns (s : State) : State :=
  (List.range 10).foldl (fun s f =>
    match (s.winnow.getD f {}).run with
    | some r => if !r.live && r.fitTemp.isNone then s.abandonRun f true else s
    | none => s) s

/-- The step that takes the engines next: the highest PRIORITY, ties to the earliest start (R316). -/
def nextHolder (l : List Step) : Option Step :=
  (l.filter fun t => t.failure.isNone && !t.teardown).foldl (fun best t =>
    match best with
    | none => some t
    | some b => if b.priority < t.priority ∨ (b.priority = t.priority ∧ t.order < b.order) then some t else some b) none

/-- A step begins on the engines: the first pass of each Furrow will swap (R159), and TALLY.STATUS.SATURATED, which tells of
the present or last step, is 0 again (R246). -/
def State.freshStart (s : State) : State :=
  let s : State := { s with furrows := s.furrows.map fun f => { f with fresh := true } }
  (List.range 10).foldl (fun s f => s.setFld (aTally f 8) 3 1 0) s

/-- Free engines pass to a waiting step, and the stall timers start from 0 (R173, R317, log entry 49). A step that resumes
restores its tiles first (R317). -/
def State.passEngines (s : State) : State :=
  if s.reaper.holder.isSome then s
  else
    match nextHolder s.steps with
    | none => s
    | some t =>
      let s := s.abandonPatterns
      let s : State := { s with
        reaper := { s.reaper with holder := some t.lane }, furrows := s.furrows.map fun f => { f with stall := 0 } }
      let s := if t.preempted then s else s.freshStart
      s.modStep t.lane fun t => { t with preempted := false, restore := if t.preempted then t.loads else [] }

/-! ### Entry into a power state -/

/-- Every Winnow run in progress abandoned (R376). -/
def State.abandonRuns (s : State) : State := (List.range 10).foldl (fun s f => s.abandonRun f false) s

/-- Every pre-warm and pending exchange ends, and the spares stay spares (R361); a SOURCE_SPARE that waits for one has
no exchange to arm (R360). -/
def State.endExchanges (s : State) : State :=
  let s : State := { s with
    exchanges := [], sources := s.sources.map fun x => { x with ready := false, warming := false } }
  s.lanes.foldl (fun s l => match l.job with
    | some j => match j.kind with
      | .sourceSpare _ => s.reply j.hdr j.opcode stDegraded
      | _ => s
    | none => s) s

/-- Bay heater zones are slots 0 to 2,719 (R340). -/
def isBayZone (n : Nat) : Bool := n < 2720
/-- Slots that run in DOZE: bay zones, die zones and their limits, switch heaters (R361). -/
def runsInDoze (n : Nat) : Bool := n < 2720 || (3292 ≤ n && n ≤ 3355)

/-- The Vane's loops stop: their actuators are driven at code 0, those of the loops of DOZE go on when it is entered
(R361). -/
def Vane.sleep (v : Vane) (doze : Bool) : Vane :=
  let bank := if v.bankBActive then v.bankB else v.bankA
  let on := (bank.filter fun e => e.2.enable && runsInDoze e.1).map fun e => e.2.actuator
  { v with drives := if doze then v.drives.filter fun d => on.contains d.1 else [] }

/-- An entry into IDLE, DOZE or NIGHT begins: from now on the state is reported as the target (R392), and with DOZE or
NIGHT the merge buffers are flushed, the sources switched off, runs, pre-warms, exchanges and a supply hold end (R330,
R361, R376, R390, R398), and the blocks that power down keep what their registers show (R74). -/
def State.beginEntry (s : State) (target : DState) : State :=
  let lan := { s.lantern with
    sleptFrom := if s.dev = .ready ∨ s.dev = .idle then s.dev else if s.dev = .run then .ready else s.lantern.sleptFrom
    entry := some ⟨target⟩ }
  let s : State := { s with lantern := lan, dev := target }
  if target = .idle then s
  else
    let s := (s.flushAll s.memory.merge).abandonRuns.endExchanges
    { s with
      down := match s.down with
        | some d => some d
        | none => some ⟨lan.sleptFrom, s.lantern.hot, s.sessions, s.vane.slots, []⟩
      lantern := { s.lantern with hold := none }
      sources := s.sources.map fun x => { x with locked := false }
      vane := s.vane.sleep (target = .doze) }

/-- A DOZE that was due begins: no step runs any more, and no test either, which runs to its end (R103, log entry 115). -/
def State.dozeIfDue (s : State) : State :=
  if s.steps = [] ∧ s.lantern.dozeDue ∧ !s.testing ∧ (s.dev = .ready ∨ s.dev = .idle) then
    ({ s with lantern := { s.lantern with dozeDue := false } }).beginEntry .doze
  else s

/-- A step leaves: with the last one RUN ends, and a DOZE due after a watchdog expiry begins (R103, R107). -/
def State.dropStep (s : State) (l : Nat) : State :=
  let rest := s.steps.filter fun t => t.lane ≠ l
  let s : State := { s with
    steps := rest
    reaper := { s.reaper with holder := if s.reaper.holder = some l then none else s.reaper.holder } }
  let s := if rest = [] ∧ s.dev = .run then { s with dev := .ready } else s
  s.dozeIfDue.passEngines

/-- The counts TASK_STATUS reports of a step, kept with its retained reply (R101). -/
def State.noteCounts (s : State) (l seq : Nat) (c : Nat × Nat × Nat) : State :=
  let ln := s.lane l
  s.setLane l { ln with replies := ln.replies.map fun r => if r.hdr.seq = seq then { r with counts := c } else r }

/-! ### Lane commands -/

/-- The field checks TASK_CANCEL and TASK_STATUS share (R96, R101). -/
def targetChecks (lane rsv : Nat) : List (Option Failure) := [inRange 0 lane 0 15, rsvZero 1 rsv]

/-- TASK_CANCEL (R96, R97, R219): a running target aborts and the reply waits for its teardown; a queued one replies
CANCELLED in its turn; one that has ended, or whose status is already decided, leaves nothing to do. -/
def doTaskCancel (h : ReqHdr) (lane rsv seq : Nat) (s : State) : State :=
  s.serve h (.taskCancel h lane rsv seq) [] (targetChecks lane rsv) [] false fun s =>
    let ln := s.lane lane
    let f : Failure := { status := stCancelled, detail := h.seq }
    let nothing := s.reply h 0x0404 stNothing
    if lane = h.lane then nothing
    else
      match ln.job with
      | some j =>
        if j.hdr.seq = seq ∧ j.opcode = 0x0403 then
          if j.kind = .waitWake then (s.failReply j.hdr 0x0403 f).reply h 0x0404 stOk
          else
            match s.stepOf lane with
            | some t =>
              if t.failure.isNone && !t.teardown then
                (s.abortStep lane f t.cur).setJob h 0x0404 (.taskCancel h lane rsv seq) (.cancelWait lane seq)
              else nothing
            | none => nothing
        else cancelQueued s h lane seq f
      | none => cancelQueued s h lane seq f
where
  /-- A STEP_RUN that waits in its lane is marked to reply CANCELLED. -/
  cancelQueued (s : State) (h : ReqHdr) (lane seq : Nat) (f : Failure) : State :=
    let ln := s.lane lane
    if ln.queue.any fun r => r.hdr.seq = seq && r.opcode = 0x0403 && r.early = none then
      (s.setLane lane { ln with queue := ln.queue.map fun r =>
        if r.hdr.seq = seq ∧ r.opcode = 0x0403 ∧ r.early = none then { r with early := some f } else r }).reply h 0x0404 stOk
    else s.reply h 0x0404 stNothing

/-- LANE_RESUME (R98). -/
def doLaneResume (h : ReqHdr) (s : State) : State :=
  s.serve h (.laneResume h) [] [] [] (s.lane h.lane).held.isNone fun s =>
    (s.setLane h.lane { s.lane h.lane with held := none }).reply h 0x0405 stOk

/-- The STATE, STATUS, RECORD, GATES and REPLAYS that TASK_STATUS reports (R101); the TASK_STATUS that asks is a running
command of its own lane. -/
def State.taskReport (s : State) (h : ReqHdr) (lane seq : Nat) : Nat × Nat × Nat × Nat × Nat :=
  let ln := s.lane lane
  let running := (lane = h.lane && seq = h.seq) || match ln.job with | some j => decide (j.hdr.seq = seq) | none => false
  if running then
    match s.stepOf lane with
    | some t => (2, 0, t.cur, t.gates, t.replays)
    | none => (2, 0, 0, 0, 0)
  else if ln.queue.any fun r => r.hdr.seq = seq then (1, 0, 0, 0, 0)
  else
    match ln.replies.find? fun r => r.hdr.seq = seq with
    | some r => (if r.status / 0x1000 = 0 then 3 else 4, r.status, r.counts.1, r.counts.2.1, r.counts.2.2)
    | none => (0, 0, 0, 0, 0)

/-- TASK_STATUS (R101). -/
def doTaskStatus (h : ReqHdr) (lane rsv seq : Nat) (s : State) : State :=
  s.serve h (.taskStatus h lane rsv seq) [] (targetChecks lane rsv) [] false fun s =>
    let r := s.taskReport h lane seq
    s.reply h 0x0408 stOk
      (be 1 r.1 ++ be 1 0 ++ be 2 r.2.1 ++ be 4 r.2.2.1 ++ be 4 r.2.2.2.1 ++ be 4 r.2.2.2.2)

/-- HOST_WATCHDOG (R102, R104). -/
def doHostWatchdog (h : ReqHdr) (p : Nat) (x : Option (Nat × Nat)) (s : State) : State :=
  let action := orReg (x.map fun y => y.1) (s.fld (aGlobal 0x14) 24 1)
  s.serve h (.hostWatchdog h p x) []
    [need (p = 0 || (10 ≤ p && p ≤ 600000)) (fRange 0 p), inRange 4 action 0 1, rsvZero 5 (orReg (x.map fun y => y.2) 0)] []
    false fun s =>
    ({ s with watchdog := { period := p, action := action, armedAt := if p = 0 then none else some s.clocks.tick } }).reply h 0x0004 stOk

/-- The host watchdog expires (R103): disarmed, recorded, and outside DOZE and NIGHT every STEP_RUN ends with CANCELLED;
with ACTION 1 the device enters DOZE once no step runs. -/
def doHostWatchdogExpiry (s : State) : State :=
  if s.watchdog.armedAt.isNone then s
  else
    let act := s.watchdog.action
    let s : State := { s with watchdog := { s.watchdog with armedAt := none } }
    let s := s.raise { kind := 0x0011, status := stCancelled, detail := 0xFFFFFFFF }
    if s.dev = .doze ∨ s.dev = .night then s
    else
      let s := s.endAllSteps { status := stCancelled, detail := 0xFFFFFFFF }
      if act = 1 ∧ (s.dev = .ready ∨ s.dev = .run ∨ s.dev = .idle) then
        ({ s with lantern := { s.lantern with dozeDue := true } } : State).dozeIfDue
      else s

end Sys2Proof.Machine
end

