-- ==== Sys2Proof/Machine/Sensors.lean ====
section
/-!
DEFINITION. Temperature readings (17): the mean of four conversions (R380), neighbours and medians (R379, R381), and the
reading that decisions use in place of a broken channel's (R381).
-/
namespace Sys2Proof.Machine

/-- A value put into an ascending list. -/
def insertUp (v : Int) : List Int → List Int
  | [] => [v]
  | x :: t => if v ≤ x then v :: x :: t else x :: insertUp v t

/-- The median; of an even number of readings the mean of the two middle ones (R381). -/
def median (l : List Int) : Option Int :=
  let s := l.foldr insertUp []
  let n := s.length
  if n = 0 then none
  else if n % 2 = 1 then s[n / 2]?
  else some ((s.getD (n / 2 - 1) 0 + s.getD (n / 2) 0) / 2)

/-- The reading of a channel: the mean of its last 4 conversions, rounded down to 1/256 °C (R380, log entry 12). -/
def Channel.reading (c : Channel) : Option Int :=
  let v := (c.conv.take 4).filterMap fun x => match x with
    | .value q => some q
    | _ => none
  if v = [] then none else some (v.sum / v.length)

/-- The diode channel with a number. -/
def State.diode (s : State) (n : Nat) : Channel := s.lantern.diodes.getD n {}

/-- A channel is trustworthy while it is not broken (R381). -/
def State.trusted (s : State) (n : Nat) : Bool := (s.diode n).broken.isNone

/-- The four channels of 0 to 9 nearest in number, ties to the lower (R379). -/
def nearestFour (n : Nat) : List Nat :=
  (((List.range 10).flatMap fun d =>
    (if 1 ≤ d ∧ d ≤ n then [n - d] else []) ++ (if 1 ≤ d ∧ n + d ≤ 9 then [n + d] else []))).take 4

/-- The neighbour set of a channel (R379). -/
def neighbours (n : Nat) : List Nat :=
  if n ≤ 9 then nearestFour n
  else
    let others (lo k : Nat) : List Nat := ((List.range k).map fun i => lo + i).filter fun c => c ≠ n
    if n ≤ 13 then others 10 4 else if n ≤ 21 then others 14 8 else if n ≤ 29 then others 22 8 else []

/-- The median of the trustworthy neighbours of a channel. -/
def State.neighbourMedian (s : State) (n : Nat) : Option Int :=
  median (((neighbours n).filter s.trusted).filterMap fun c => (s.diode c).reading)

/-- The reading that a decision uses: a broken channel with neighbours is replaced by their median, one without is left
out (R381). -/
def State.tempOf (s : State) (n : Nat) : Option Int :=
  if s.trusted n then (s.diode n).reading else s.neighbourMedian n

/-- The highest reading of some channels. -/
def State.highest (s : State) (l : List Nat) : Option Int := (l.filterMap s.tempOf).max?

/-- The temperature T_f of a Furrow (R365). -/
def State.furrowTemp (s : State) (f : Nat) : Int := (s.tempOf f).getD 0

/-- An Int register field: the 16-bit pattern of a Q8.8 reading. -/
def q88 (i : Int) : Nat := ofSigned 16 i

end Sys2Proof.Machine
end

