-- ==== Sys2Proof/Machine/Winnow.lean ====
section
/-!
DEFINITION. The Winnow (16): interpolation over the point table (R367, R368), runs with their collection, fit and
result (R369 to R376), WINNOW_RUN (R377), and the decision rule of the quantiser (R161), whose parameters it keeps.
-/
namespace Sys2Proof.Machine

/-! ### The decision rule -/

/-- The signed distance v of R161: levels with 23 fraction bits. -/
def sampleLevel (ofs : Int) (rcp code : Nat) : Int := ((code : Int) * 256 - ofs) * rcp

/-- The nearest level of R161. -/
def nearestLevel (v : Int) : Int := (v + 2 ^ 22) / 2 ^ 23

/-- The quantiser's decision of one sample (R161); none is AMBIGUOUS. -/
def quantise (p : DetFit) (code : Nat) (under beyond : Bool) : Option Nat :=
  if under then some 0
  else if beyond then none
  else
    let v := sampleLevel p.ofs p.rcp code
    let k := nearestLevel v
    let d := (v - k * 2 ^ 23).natAbs
    if k < 0 ∨ 128 < k ∨ p.guard * 2 ^ 15 < d then none else some k.toNat

/-- The parameters of a detector in a set. -/
def fitOf (set : List DetFit) (d : Nat) : Option DetFit := set.find? fun p => p.det = d

/-- The sample code that lies nearest to a level: what a sample that an event does not list carries. -/
def nominalCode (p : DetFit) (k : Nat) : Nat :=
  (clamp 0 255 (((p.ofs + (k : Int) * 2 ^ 23 / (max 1 p.rcp : Nat)) + 128) / 256)).toNat

/-! ### State -/

/-- The Winnow's state of a Furrow. -/
def State.win (s : State) (f : Nat) : WinnowF := s.winnow.getD f {}

/-- The Winnow's state of a Furrow changed. -/
def State.modWin (s : State) (f : Nat) (g : WinnowF → WinnowF) : State := { s with winnow := setAt s.winnow f (g (s.win f)) }

/-- A POINT_k register as a temperature (R378). -/
def State.point (s : State) (k : Nat) : Int := asSigned 16 (s.fld (aWinnow (0x30 + 4 * k)) 0 16)

/-- The entry that covers a temperature: the nearest point, ties to the lower k (R364). -/
def State.entryFor (s : State) (t : Int) : Nat :=
  (List.range 8).foldl (fun best k => if (t - s.point k).natAbs < (t - s.point best).natAbs then k else best) 0

/-! ### Interpolation -/

/-- p_a + (p_b − p_a) × n / d to the nearest integer, ties towards p_a (R367). -/
def between (pa pb n d : Int) : Int :=
  let x := (pb - pa) * n
  let q := (2 * x.natAbs + d.natAbs - 1) / (2 * d.natAbs)
  if x < 0 then pa - q else pa + q

/-- One detector's parameters between two entries (R367). -/
def mixFit (a b : PointEntry) (t : Int) (p : DetFit) : DetFit :=
  match fitOf b.fits p.det with
  | none => p
  | some q =>
    let n := t - a.tau
    let d := b.tau - a.tau
    ⟨p.det, between p.ofs q.ofs n d, (between p.rcp q.rcp n d).toNat, max p.guard q.guard⟩

/-- The set at a temperature from the valid entries in order (R367). -/
def setAtTemp (t : Int) : List PointEntry → List DetFit
  | [] => []
  | [e] => e.fits
  | a :: b :: rest =>
    if t ≤ a.tau then a.fits
    else if rest.isEmpty && b.tau ≤ t then b.fits
    else if t ≤ b.tau then a.fits.map (mixFit a b t)
    else setAtTemp t (b :: rest)

/-- The valid entries of a Furrow, by ascending k. -/
def WinnowF.entries (w : WinnowF) : List PointEntry := w.points.map fun e => e.2

/-- The interpolated set of a Furrow is computed anew and written as the pending one (R368). -/
def State.writeSet (s : State) (f : Nat) : State :=
  let w := s.win f
  if w.points = [] then s
  else
    let t := s.furrowTemp f
    (s.modWin f fun w => { w with pending := some (setAtTemp t w.entries), tInterp := some t }).bump (aWinnow 0x7C)

/-- The Winnow computes a Furrow's set when its temperature has moved by INTERP_STEP, when an entry changed, or when the
Furrow took a slot (R368). -/
def doInterpSetWrite (f : Nat) (s : State) : State :=
  match (s.win f).tInterp with
  | none => s.writeSet f
  | some t => if s.fld (aWinnow 0x14) 0 16 ≤ (s.furrowTemp f - t).natAbs then s.writeSet f else s

/-- A bay swap makes the pending set current (R162). -/
def State.swapSet (s : State) (f : Nat) : State :=
  match (s.win f).pending with
  | none => s
  | some set => (s.modWin f fun w => { w with current := set, pending := none }).setFld (aFurrow f 8) 11 1 (1 - s.fld (aFurrow f 8) 11 1)

/-! ### Runs -/

/-- A run of a Furrow becomes due (R369). -/
def State.markDue (s : State) (f : Nat) : State :=
  s.modWin f fun w => if w.due then w else { w with due := true, dueAt := s.clocks.tick }

/-- The temperature trigger of R369. -/
def State.winnowTrigger (s : State) (f : Nat) : Bool :=
  bitOf (s.reg (aWinnow 4)) 0 && match (s.win f).tLast with
    | some t => s.fld (aWinnow 0x10) 0 16 ≤ (s.furrowTemp f - t).natAbs
    | none => false

/-- A pattern collection is in progress: they go one Furrow at a time (R371). -/
def State.patternBusy (s : State) : Bool :=
  s.winnow.any fun w => match w.run with | some r => !r.live && r.fitTemp.isNone | none => false

/-- Whether a due run can start now, and live or with patterns (R370, R371). -/
def State.runMode (s : State) : Option Bool :=
  if s.dev = .run ∧ s.reaper.holder.isSome then some true
  else if (s.dev = .ready ∨ s.dev = .idle) ∧ s.reaper.holder.isNone ∧ !s.patternBusy ∧ !s.marginTesting then some false
  else none

/-- The trigger of a Furrow is judged, and a due run of an active Furrow starts when it can (R369 to R371). -/
def doWinnowRunDue (f : Nat) (s : State) : State :=
  let s := if s.winnowTrigger f && (s.furrow f).role = 0 then s.markDue f else s
  let w := s.win f
  match s.runMode with
  | none => s
  | some live =>
    if w.due && w.run.isNone && (s.furrow f).role = 0 then
      s.modWin f fun w => { w with due := false, run := some ⟨s.furrowTemp f, none, live, [], 0, [], [], w.dueAt, []⟩ }
    else s

/-- One sample added to the statistics of its level (R370). -/
def addSample (l : List LevelStat) (k code : Nat) : List LevelStat :=
  match l.find? fun e => e.k = k with
  | none => ⟨k, 1, code, [(code, 1)]⟩ :: l
  | some _ => l.map fun e =>
    if e.k = k ∧ e.n < 65535 then
      ⟨k, e.n + 1, e.sum + code, put e.hist code (min 65535 ((look e.hist code).getD 0 + 1))⟩
    else e

/-- Samples of a confirmed row chunk, as (detector, count, code), join the statistics of a live collection (R370). -/
def State.collect (s : State) (f : Nat) (samples : List (Nat × Nat × Nat)) : State :=
  s.modWin f fun w => match w.run with
    | some r =>
      let add (st : List (Nat × List LevelStat)) (x : Nat × Nat × Nat) : List (Nat × List LevelStat) :=
        put st x.1 (addSample ((look st x.1).getD []) x.2.1 x.2.2)
      if r.live && r.fitTemp.isNone then { w with run := some { r with stats := samples.foldl add r.stats } } else w
    | none => w

/-- Collection ends: the fit temperature is the mean of its start and its end, and the set then current is the one the fits are
compared with (R373). A pattern collection brings the statistics it measured (R370 to R372). -/
def doWinnowCollectionEnd (f : Nat) (pattern : List (Nat × List LevelStat)) (s : State) : State :=
  let t := s.furrowTemp f
  s.modWin f fun w => match w.run with
    | some r =>
      if r.fitTemp.isSome then w
      else
        { w with run := some { r with
            fitTemp := some ((r.startTemp + t) / 2), stats := if r.live then r.stats else pattern, now := w.current } }
    | none => w

/-- A rational rounded to nearest, ties away from zero (R372). -/
def roundAway (a : Q) : Int :=
  let m := (2 * a.num.natAbs + a.den) / (2 * a.den)
  if a.num < 0 then -(m : Int) else m

/-- A level's mean as fp32. -/
def levelMean (l : LevelStat) : Nat := fDiv (fOfInt l.sum) (fOfInt l.n)

/-- The fit of one detector and whether it is rejected (R372, R373). `cur` is its set at the end of collection. -/
def fitDetector (s : State) (d : Nat) (stats : List LevelStat) (cur : Option DetFit) : Option DetFit × Bool :=
  let lim := s.reg (aWinnow 0x18)
  let dev := s.reg (aWinnow 0x1C)
  let used := ((List.range 129).filterMap fun k => stats.find? fun l => l.k = k).filter fun l => bitsOf lim 8 8 ≤ l.n
  let cnt := fOfInt used.length
  let fsum (l : List Nat) : Nat := l.foldl fAdd 0
  let kbar := fDiv (fsum (used.map fun l => fOfInt l.k)) cnt
  let mbar := fDiv (fsum (used.map levelMean)) cnt
  let dk (l : LevelStat) : Nat := fSub (fOfInt l.k) kbar
  let b := fDiv (fsum (used.map fun l => fMul (dk l) (fSub (levelMean l) mbar))) (fsum (used.map fun l => fMul (dk l) (dk l)))
  let a := fSub mbar (fMul b kbar)
  if used.length < max 1 (bitsOf lim 0 4) ∨ !isFinite b ∨ !fLt 0 b then (none, true)
  else
    let ofs := clamp (-32768) 32767 (roundAway (fVal (fMul 0x43800000 a)))
    let rcp := (clamp 1 65535 (roundAway (fVal (fDiv 0x47000000 b)))).toNat
    let dist (x : Nat) : Nat :=
      let v := sampleLevel ofs rcp x
      ((v - nearestLevel v * 2 ^ 23).natAbs + 32767) / 2 ^ 15
    let g := (used.flatMap fun l => l.hist.map fun h => dist h.1).foldl max 0
    let fit : DetFit := ⟨d, ofs, rcp, min 0x7F (max 0x10 (g + bitsOf lim 16 8))⟩
    let resid (l : LevelStat) : Bool :=
      let r := fAbs (fSub (levelMean l) (fAdd a (fMul b (fOfInt l.k))))
      fLt (fDiv (fOfInt (bitsOf dev 24 8)) 0x43800000) (fDiv (fMul r (fOfInt rcp)) 0x47000000)
    let far : Bool := match cur with
      | none => false
      | some c => decide (bitsOf dev 0 16 < (ofs - c.ofs).natAbs)
          || decide (bitsOf dev 16 8 * c.rcp < ((rcp : Int) - c.rcp).natAbs * 256)
    (some fit, far || used.any resid || decide (bitsOf lim 24 8 < g))

/-- When a Furrow's run came due. -/
def State.runDue (s : State) (f : Nat) : Nat := ((s.win f).run.map fun r => r.dueAt).getD 0

/-- The Furrow whose run the fit engine serves: the earliest due, ties to the lower Furrow (R375). -/
def State.fitting (s : State) : Option Nat :=
  ((List.range 10).filter fun f => match (s.win f).run with | some r => r.fitTemp.isSome && r.slice < 17 | none => false).foldl
    (fun best f => match best with
      | none => some f
      | some b => if s.runDue f < s.runDue b then some f else some b) none

/-- One slice of a Furrow's run: 64 detectors fitted (R372, R373, R375). -/
def State.fitSlice (s : State) (f : Nat) : State :=
    s.modWin f fun w => match w.run with
      | none => w
      | some r =>
        let mine := r.stats.filter fun e => r.slice * 64 ≤ e.1 && e.1 < (r.slice + 1) * 64
        let res := mine.map fun e => (e.1, fitDetector s e.1 e.2 (fitOf r.now e.1))
        let good := res.filterMap fun x => if x.2.2 then none else x.2.1
        let bad := res.filterMap fun x => if x.2.2 then some x.1 else none
        { w with run := some { r with slice := r.slice + 1, fits := r.fits ++ good, rejected := r.rejected ++ bad } }

/-- A fit stored in the entry that covers its temperature; detectors without one keep the entry's values, or take those
that interpolation gives there (R374, R366). -/
def State.storeFit (s : State) (f : Nat) (t : Int) (fits : List DetFit) : State :=
  let w := s.win f
  let k := s.entryFor t
  let old := match look w.points k with
    | some e => e.fits
    | none => setAtTemp t w.entries
  let kept := old.filter fun p => (fitOf fits p.det).isNone
  s.modWin f fun w => { w with points := put w.points k ⟨t, fits ++ kept⟩, tInterp := none, tLast := some t }

/-- A run completes: discarded whole, or applied (R374). The detectors it rejected count in DET_REJECTS either way (R378). -/
def doWinnowRunComplete (f : Nat) (s : State) : State :=
  match (s.win f).run with
  | none => s
  | some r =>
    match r.fitTemp with
    | none => s
    | some t =>
      if r.slice < 17 then s
      else
        let n := r.rejected.length
        let s := (s.setFld (aWinnow (0x10C + 16 * f)) 16 11 n).bump (aWinnow 0x78) n
        if s.fld (aWinnow 0x24) 0 11 < n then
          ((s.modWin f fun w => { w with run := none, outcome := 2 }).bump (aWinnow 0x74)).raise
            { kind := 0x0024, block := 0x0070, inst := 0, detail := n }
        else
          let s := (s.storeFit f t r.fits).modWin f fun w => { w with run := none, outcome := 1 }
          let s := (s.bump (aWinnow 0x70)).bump (aWinnow (0x104 + 16 * f))
          (s.setReg (aWinnow (0x108 + 16 * f)) (s.uptime % 2 ^ 32)).setFld (aWinnow (0x10C + 16 * f)) 0 16 (q88 t)

/-! ### WINNOW_RUN -/

/-- The Furrows a mask names; 0 names every active one (R377). -/
def State.winnowNames (s : State) (mask : Nat) : List Nat := if mask = 0 then s.activeFurrows else maskBits 10 mask

/-- WINNOW_RUN (R377). -/
def doWinnowRun (h : ReqHdr) (mask rsv : Nat) (x : Option (Nat × Nat)) (s : State) : State :=
  let wait := orReg (x.map fun y => y.1) (s.fld (aWinnow 0x28) 0 1)
  let ok := decide (mask < 1024) && (maskBits 10 mask).all fun f => (s.furrow f).role = 0
  s.serve h (.winnowRun h mask rsv x) []
    [need ok (fRange 0 mask), rsvZero 2 rsv, inRange 4 wait 0 1, rsvZero 5 (orReg (x.map fun y => y.2) 0)] [] false fun s =>
    let names := s.winnowNames mask
    let s := names.foldl (fun s f => (s.markDue f).modWin f fun w => { w with outcome := 0 }) s
    if wait = 0 then s.reply h 0x0503 stOk
    else s.setJob h 0x0503 (.winnowRun h mask rsv x) (.winnowWait ((names.map fun f => 2 ^ f).sum))

/-- The reply of WINNOW_RUN with WAIT 1 once the runs have ended or the time is over (R377). -/
def State.winnowReply (s : State) (mask : Nat) : List Byte :=
  (List.range 10).flatMap fun f =>
    be 1 (if bitOf mask f then (if (s.win f).outcome = 0 then 3 else (s.win f).outcome) else 0)

end Sys2Proof.Machine
end

