-- ==== Sys2Proof/Machine/Vane.lean ====
section
/-!
DEFINITION. The Vane (15): the loop table (R340, R341), one sample with its control law, profiles, select groups and
hand-over (R342 to R348), coefficient banks (R349 to R351), lock reports and the heat throttle (R352, R353).
-/
namespace Sys2Proof.Machine

/-! ### The loop table -/

/-- The entry of a slot in one bank; an unlisted slot is disabled. -/
def entryIn (bank : List (Nat × LoopEntry)) (n : Nat) : LoopEntry := (look bank n).getD {}

/-- The active bank. -/
def Vane.active (v : Vane) : List (Nat × LoopEntry) := if v.bankBActive then v.bankB else v.bankA
/-- The standby bank. -/
def Vane.standby (v : Vane) : List (Nat × LoopEntry) := if v.bankBActive then v.bankA else v.bankB

/-- An entry written into one bank or both. -/
def Vane.write (v : Vane) (active standby : Bool) (n : Nat) (e : LoopEntry) : Vane :=
  let a := if v.bankBActive then standby else active
  let b := if v.bankBActive then active else standby
  { v with bankA := if a then put v.bankA n e else v.bankA, bankB := if b then put v.bankB n e else v.bankB }

/-- The Vane's KIND and LOCK_WATCH in service (R340): LOCK is 1. -/
def serviceKind (n : Nat) : Nat × Bool :=
  if n < 3232 then (1, true) else if n < 3292 then (if (n - 3232) % 3 = 2 then (1, true) else (0, false)) else (0, false)

/-- Photonic die zones are slots 3,292 to 3,307 (R340). -/
def isDieZone (n : Nat) : Bool := 3292 ≤ n && n ≤ 3307

/-- 96 °C in Q16.16 (R113, R341). -/
def dieTarget : Int := 6291456

/-- 0.25 °C/ms as Q16.16 °C per sample of 10 µs, rounded down (R113, R346). -/
def dieSlew : Int := 163

/-- The firmware's entry of a slot (R113, step 1; R340, R341, R352): what the manual states of it, and the module's own
coefficients (Config). The photonic die zones go to 96 °C at no more than 0.25 °C/ms. -/
def firmwareEntry (n : Nat) : LoopEntry :=
  let c := Config.loopTableField n
  let k := serviceKind n
  { target := if isDieZone n then dieTarget else c 0, kind := k.1, enable := true, lockWatch := k.2
    ffSupply := c 1 % 2 = 1, ffAccel := c 2 % 2 = 1, actSrc := (c 3 % 3).toNat, lockN := 3, relockN := 20
    sensor := n, actuator := if 3340 ≤ n then n - 48 else n
    coef := (List.range 6).map fun i => c (4 + i), shifts := (List.range 6).map fun i => (c (10 + i) % 32).toNat
    outMin := c 16, outMax := c 17, vmax := if isDieZone n then max 1 (min dieSlew (c 18)) else c 18
    amax := c 19, jmax := c 20, lockTol := c 21 }

/-- The firmware's table (R340). -/
def firmwareTable : List (Nat × LoopEntry) := (List.range 3356).map fun n => (n, firmwareEntry n)

/-- The loops that run in the present state (R361): none, those of DOZE, or all. -/
def State.vaneLevel (s : State) : Nat :=
  if s.dev = .ready ∨ s.dev = .run ∨ s.dev = .idle ∨ (s.dev = .config ∧ s.engineStarting) then 2
  else match s.lantern.waking with
    | some w => if w.target = .doze then 1 else 2
    | none => if s.dev = .doze then 1 else 0

/-- The slots of a source: temperature, bias, comb lock (R340). -/
def sourceSlots (k : Nat) : List Nat := [3232 + 3 * k, 3233 + 3 * k, 3234 + 3 * k]

/-- A source is switched on: in ENGINE_START all from the moment the photonic die holds 96 °C, but not under a supply
warning (R113, R115); in MARGIN_TEST all (R125); else the active ones, and a spare that pre-warms or is ready (R113, step
5; R356, R357). -/
def State.sourceOn (s : State) (k : Nat) : Bool :=
  let x := s.sources.getD k {}
  if s.engineStarting then s.vane.warm && !s.lantern.warn
  else s.marginTesting || x.role = 0 || x.warming || x.ready

/-- The comb-lock loop of a source has started: in a wake once its temperature loop reports lock and the photonic die holds
96 °C (R394). -/
def State.combOn (s : State) (k : Nat) : Bool :=
  s.lantern.waking.isNone || (s.vane.warm && !((look s.vane.slots (3232 + 3 * k)).getD {}).lost)

/-- A slot runs in the present state (R361). -/
def State.slotRuns (s : State) (n : Nat) : Bool :=
  if 3232 ≤ n ∧ n < 3292 then
    let k := (n - 3232) / 3
    s.vaneLevel = 2 && s.sourceOn k && ((n - 3232) % 3 ≠ 2 || s.combOn k)
  else s.vaneLevel = 2 || (s.vaneLevel = 1 && runsInDoze n)

/-- The drive code of an actuator: bits 30:16 of the output it takes, 0 with no output (R341, R361). -/
def Vane.driveCode (v : Vane) (a : Nat) : Nat := bitsOf (ofSigned 32 ((look v.drives a).getD 0)) 16 15

/-- A slot that will be initialised and start in LOCK_LOST (R348, R352). -/
def LoopState.restart (x : LoopState) : LoopState :=
  { x with init := true, lost := true, overRun := 0, inRun := 0, missRun := 0 }

/-- Slots restarted. -/
def State.restartSlots (s : State) (l : List Nat) : State :=
  { s with vane := { s.vane with slots := l.foldl (fun v n => put v n ((look v n).getD {}).restart) s.vane.slots } }

/-- A source is switched off: its actuators are driven at code 0, and its loops are initialised when they start again (R348,
R357, R361). -/
def State.offSource (s : State) (k : Nat) : State :=
  let acts := (sourceSlots k).map fun n => (entryIn s.vane.active n).actuator
  (({ s with vane := { s.vane with drives := s.vane.drives.filter fun d => !acts.contains d.1 } }) : State).restartSlots (sourceSlots k)

/-- The Vane restarts its loops: every enabled slot is initialised and starts in LOCK_LOST (R348, R352). -/
def State.vaneRestart (s : State) : State :=
  { s with vane := { s.vane with
    warm := false
    slots := (s.vane.active.filter fun e => e.2.enable).map fun e => (e.1, ((look s.vane.slots e.1).getD {}).restart) } }

/-- The Vane stops: actuators are driven at code 0 (R361). -/
def State.vaneStop (s : State) : State := { s with vane := { s.vane with drives := [], warm := false } }

/-! ### The control law -/

/-- A value limited to the int32 range (R344). -/
def sat32 (i : Int) : Int := clamp (-2147483648) 2147483647 i

/-- An arithmetic shift right. -/
def sar (i : Int) (n : Nat) : Int := i / (2 : Int) ^ n

/-- The integer square root, rounded down, by bits from the highest. -/
def isqrtFrom : Nat → Nat → Nat → Nat
  | 0, r, _ => r
  | n + 1, r, x => if (r + 2 ^ n) * (r + 2 ^ n) ≤ x then isqrtFrom n (r + 2 ^ n) x else isqrtFrom n r x

def isqrt (x : Nat) : Nat := isqrtFrom 33 0 x

/-- One sample of the profile generator (R346): sp, v, a. -/
def profile (e : LoopEntry) (x : LoopState) : LoopState :=
  let dist := e.target - x.sp
  let vlim := min e.vmax (isqrt (2 * e.amax * dist.natAbs).toNat)
  let want := clamp (-e.amax) e.amax (dist.sign * vlim - x.v)
  let a := clamp (-e.amax) e.amax (x.a + clamp (-e.jmax) e.jmax (want - x.a))
  let v := clamp (-e.vmax) e.vmax (x.v + a)
  if dist = 0 ∨ (0 < dist ∧ dist ≤ v) ∨ (dist < 0 ∧ v ≤ dist) then { x with sp := e.target, v := 0, a := 0 }
  else { x with sp := x.sp + v, v := v, a := a }

/-- Coefficient k of an entry. -/
def LoopEntry.k (e : LoopEntry) (i : Nat) : Int := e.coef.getD i 0
/-- Shift k of an entry. -/
def LoopEntry.sh (e : LoopEntry) (i : Nat) : Nat := e.shifts.getD i 0

/-- The feed-forward sum f (R344). -/
def feedForward (e : LoopEntry) (x : LoopState) (vs : Int) : Int :=
  sat32 ((if e.ffSupply then sar (e.k 3 * (vs - 3145728)) (e.sh 3) else 0)
    + (if e.ffAccel then sar (e.k 4 * x.a) (e.sh 4) else 0) + (if 0 < e.actSrc then sar (e.k 5 * x.act) (e.sh 5) else 0))

/-- What one slot computes: its new state without the integrator, ti, u_raw, and the error e. -/
structure SlotOut where
  st : LoopState
  ti : Int
  raw : Int
  err : Int

/-- The control law of a slot that has its measurement (R344, R348); `now` is the drive its actuator applies, `x` and
`moved` the slot before and after its profile's sample. -/
def control (e : LoopEntry) (x moved : LoopState) (y vs now : Int) : SlotOut :=
  let x' := if x.init then { x with sp := y, v := 0, a := 0 } else moved
  let err := sat32 (x'.sp - y)
  let p := sat32 (sar (e.k 0 * err) (e.sh 0))
  let d := if x.init then 0 else sat32 (sar (e.k 2 * (x.yPrev - y)) (e.sh 2))
  let f := feedForward e x' vs
  let ti := if x.init then sat32 (now - p - d - f) else sat32 (x.i + sar (e.k 1 * err) (e.sh 1))
  let raw := if e.kind = 2 then sat32 (x'.sp + f) else sat32 (p + ti + d + f)
  let u := min (max raw e.outMin) e.outMax
  ⟨{ x' with yPrev := y, u := u, sat := decide (u ≠ raw), miss := false, missRun := 0, i := if x.init then ti else x.i }, ti, raw, err⟩

/-- The Furrow a slot belongs to (R340, R345): that of a bay zone, the one on a modulator zone's feed row, the one a source
lights. A slot of the host's belongs where its sensor does; the other loops have none (log entry 118). -/
def State.ownFurrow (s : State) (n sensor : Nat) : Option Nat :=
  let k := if n < 3356 then n else sensor
  if k < 2720 then some (k / 272)
  else if k < 3232 then s.furrowOf ((k - 2720) / 64)
  else if k < 3292 then
    let f := (s.sources.getD ((k - 3232) / 3) {}).furrow
    if f < 10 then some f else none
  else none

/-- The share of a Furrow's symbol clocks of the last sample, 140,000 of them, classed BUSY, SWAP or REPLAY, in units of
1/65,536 (R345). -/
def State.furrowShare (s : State) (f : Nat) : Nat := min 65536 ((s.furrow f).work * 65536 / 140000)

/-- The activity a slot filters (R345): its own Furrow's share, or the Mills'. -/
def State.rawActivity (s : State) (inp : VaneInput) (n : Nat) (e : LoopEntry) : Int :=
  if e.actSrc = 1 then ((s.ownFurrow n e.sensor).map s.furrowShare).getD 0 else if e.actSrc = 2 then inp.millAct else 0

/-- ENGINE_START stands still under a supply warning (R115). -/
def State.heatPaused (s : State) : Bool := s.engineStarting && s.lantern.warn

/-- A slot after one sample of its profile; while ENGINE_START is paused the photonic die's set-points stay (R115, R346). -/
def State.moveSlot (s : State) (n : Nat) (e : LoopEntry) (x : LoopState) : LoopState :=
  if s.heatPaused && isDieZone n then { x with v := 0, a := 0 } else profile e x

/-- ENGINE_START goes on after a pause (R115): a ramp from the present photonic-die temperature, a later step from its
beginning, so the sources lock anew. -/
def State.resumeHeat (s : State) : State :=
  if !s.engineStarting then s
  else if s.vane.warm then s.restartSlots ((List.range 20).flatMap sourceSlots)
  else
    { s with vane := { s.vane with slots := s.vane.slots.map fun e => if isDieZone e.1 then (e.1, { e.2 with init := true }) else e } }

/-- The lock of a slot after a computed sample; the slots with LOCK_WATCH report it (R352, log entry 119). -/
def lockStep (e : LoopEntry) (x : LoopState) (err : Int) : LoopState :=
  let misses := if e.lockTol < (err.natAbs : Int) then x.overRun + 1 else 0
  let inn := if (err.natAbs : Int) ≤ e.lockTol / 2 then x.inRun + 1 else 0
  let x := { x with overRun := misses, inRun := inn }
  if !x.lost && decide (e.lockN ≤ misses) then { x with lost := true, inRun := 0 }
  else if x.lost && decide (e.relockN ≤ inn) then { x with lost := false, overRun := 0 }
  else x

/-- One slot in one sample (R342 to R344, R352): its state and, when it was computed, ti and u_raw. -/
def State.slotSample (s : State) (inp : VaneInput) (n : Nat) (e : LoopEntry) : LoopState × Option (Int × Int) :=
  let x := (look s.vane.slots n).getD {}
  let shift := s.fld (aVane 4) 12 4
  let x := { x with act := x.act + sar (s.rawActivity inp n e - x.act) shift }
  let broken := s.lantern.vaneBroken.contains e.sensor
  match if broken then none else look inp.meas e.sensor with
  | none =>
    let x := if x.init then x else s.moveSlot n e x
    let run := x.missRun + 1
    let lost := x.lost || decide (s.fld (aVane 4) 8 4 ≤ run)
    ({ x with miss := true, missRun := run, lost := lost, inRun := if lost && !x.lost then 0 else x.inRun }, none)
  | some y =>
    let c := control e x (s.moveSlot n e x) y inp.supply ((look s.vane.drives e.actuator).getD 0)
    (lockStep e { c.st with init := false } c.err, some (c.ti, c.raw))

/-! ### One sample -/

/-- Two entries differ in a field other than TARGET (R348). -/
def entryDiffers (a b : LoopEntry) : Bool := !(({ a with target := 0 } : LoopEntry) = { b with target := 0 })

/-- The banks change places, and slots whose entry changes are initialised, keeping their lock state (R348, R351, R352). -/
def State.swapBanks (s : State) : State :=
  let v := s.vane
  let old := v.active
  let v := { v with bankBActive := !v.bankBActive, swapPending := false }
  let fresh (n : Nat) (e : LoopEntry) : LoopState :=
    match look v.slots n with
    | some x => if entryDiffers (entryIn old n) e then { x with init := true, lost := x.lost || !(entryIn old n).enable } else x
    | none => {}
  ({ s with vane := { v with slots := (v.active.filter fun (e : Nat × LoopEntry) => e.2.enable).map fun (e : Nat × LoopEntry) => (e.1, fresh e.1 e.2) } }).bump (aVane 0xA4)

/-- Entries written whole into both banks take effect (R350). -/
def State.applyWrites (s : State) : State :=
  s.vane.pendingWrites.foldl (fun s w =>
    let v := s.vane.write true true w.1 w.2
    { s with vane := { v with slots := if w.2.enable then put v.slots w.1 {} else del v.slots w.1 } })
    { s with vane := { s.vane with pendingWrites := [] } }

/-- A Furrow's loops of R167: its bay zones, its feed row's modulator zones, the comb locks of its sources. -/
def State.furrowSlots (s : State) (f : Nat) : List Nat :=
  (List.range 272).map (fun i => 272 * f + i)
    ++ (List.range 64).map (fun z => 2720 + 64 * (s.furrow f).slot + z)
    ++ ((List.range 20).filter fun n => (s.sources.getD n {}).furrow = f).map fun n => 3232 + 3 * n + 2

/-- Some loop of R167 reports LOCK_LOST for a Furrow. -/
def State.furrowLost (s : State) (f : Nat) : Bool :=
  s.vane.slots.any fun e => e.2.lost && (entryIn s.vane.active e.1).lockWatch && s.slotRuns e.1 && (s.furrowSlots f).contains e.1

/-- The Furrows follow the lock reports: after a loss every unconfirmed row chunk is replayed outside the limit of R165
(R167). -/
def State.furrowLocks (s : State) : State :=
  s.activeFurrows.foldl (fun s f =>
    let lost := s.furrowLost f
    s.modFurrow f fun x =>
      if lost && !x.unlocked then
        { x with unlocked := true, sent := [], replays := (x.replays ++ x.sent).map fun c => { c with lockRedo := true } }
      else { x with unlocked := lost }) s

/-- The drive of a slot's actuator lies above the slot's OUT_MIN (R353). -/
def State.driveAbove (s : State) (n : Nat) : Bool :=
  let e := entryIn s.vane.active n
  decide (e.outMin < (look s.vane.drives e.actuator).getD 0)

/-- A bay heater zone reports LOCK_LOST with its actuator's drive at OUT_MIN (R353). -/
def State.throttleCause (s : State) : Bool :=
  s.vane.slots.any fun e => isBayZone e.1 && e.2.lost && (entryIn s.vane.active e.1).lockWatch && !s.driveAbove e.1

/-- Every bay zone and die zone is locked with its actuator's drive above OUT_MIN (R353). -/
def State.zonesCalm (s : State) : Bool :=
  s.vane.slots.all fun e => !(isBayZone e.1 || isDieZone e.1) || (!e.2.lost && s.driveAbove e.1)

/-- The heat throttle after a sample (R353). -/
def State.heatThrottle (s : State) : State :=
  let v := s.vane
  let dmin := s.fld (aVane 0x1C) 0 4
  if bitOf (s.reg (aVane 4)) 0 && s.throttleCause then
    let t : State := { s with vane := { v with duty := dmin, throttled := true, calmSamples := 0 } }
    if v.throttled then t else t.bump (aVane 0xA8)
  else if !v.throttled then s
  else if !s.zonesCalm then { s with vane := { v with calmSamples := 0 } }
  else if v.calmSamples + 1 < 10 then { s with vane := { v with calmSamples := v.calmSamples + 1 } }
  else
    let d := v.duty + s.fld (aVane 0x1C) 4 4
    { s with vane := { v with duty := min 16 d, throttled := decide (d < 16), calmSamples := 0 } }

/-- The slot of a select group that wins: the least u, ties to the lowest number (R347). -/
def winnerOf (l : List (Nat × Int)) : Option (Nat × Int) :=
  l.foldl (fun best c => match best with
    | none => some c
    | some b => if c.2 < b.2 then some c else some b) none

/-- Replies of VANE_BANK_SWAP leave after the sample's computation (R351). -/
def State.answerSwaps (s : State) : State :=
  s.lanes.foldl (fun s l => match l.job with
    | some j => if j.kind = .bankSwap then s.reply j.hdr j.opcode stOk else s
    | none => s) s

/-- The photonic die holds 96 °C ± 0.5 °C in a sample: every zone sensor that is not broken reads so (R113, R394, log entry
117). -/
def State.dieHolds (s : State) (inp : VaneInput) : Bool :=
  let zones := ((List.range 16).map fun z => 3292 + z).filter fun k => !s.lantern.vaneBroken.contains k
  zones ≠ [] && zones.all fun k => match look inp.meas k with
    | some y => decide (dieTarget - 32768 ≤ y) && decide (y ≤ dieTarget + 32768)
    | none => false

/-- The comb locks after a sample: the lock report of each source's comb-lock loop that runs (R352, R363). -/
def State.combLocks (s : State) : State :=
  { s with sources := s.sources.zipIdx.map fun x =>
      let n := 3234 + 3 * x.2
      if s.slotRuns n && (entryIn s.vane.active n).enable then { x.1 with locked := !((look s.vane.slots n).getD {}).lost } else x.1 }

/-- One sample of the Vane (R342 to R347). -/
def doVaneSample (inp : VaneInput) (s : State) : State :=
  if s.vaneLevel = 0 then s
  else
    let s := if s.vane.swapPending then s.swapBanks else s
    let s := s.applyWrites
    let s : State := { s with clocks := { s.clocks with samples := s.clocks.samples + 1 }, vane := { s.vane with supply := inp.supply } }
    let run := s.vane.active.filter fun e => e.2.enable && s.slotRuns e.1
    let outs := run.map fun e => (e.1, e.2, (look s.vane.slots e.1).getD {}, s.slotSample inp e.1 e.2)
    let acts := (run.map fun e => e.2.actuator).eraseDups
    let wins := acts.filterMap fun a => winnerOf ((outs.filter fun o => o.2.1.actuator = a).map fun o => (o.1, o.2.2.2.1.u))
    let isWin (n : Nat) : Bool := wins.any fun w => w.1 = n
    let done := outs.map fun o =>
      let x := o.2.2.2.1
      let x := { x with winner := isWin o.1 }
      match o.2.2.2.2 with
      | some (ti, raw) => (o.1, if x.winner && raw = x.u && o.2.1.kind ≠ 2 then { x with i := ti } else x)
      | none => (o.1, x)
    let off := (s.vane.active.filter fun e => e.2.enable && !s.slotRuns e.1 && !acts.contains e.2.actuator).map fun e => e.2.actuator
    let drives := wins.foldl (fun d w => match look s.vane.active w.1 with
      | some e => put d e.actuator w.2
      | none => d) (s.vane.drives.filter fun d => !off.contains d.1)
    let misses := (outs.filter fun o => o.2.2.2.1.miss).length
    let losses := outs.filter fun o => o.2.1.lockWatch && !o.2.2.1.lost && o.2.2.2.1.lost
    let relocks := (outs.filter fun o => o.2.1.lockWatch && o.2.2.1.lost && !o.2.2.2.1.lost).length
    let rest := s.vane.slots.filter fun e => !(done.any fun d => d.1 = e.1)
    let s : State := { s with
      furrows := s.furrows.map fun x => { x with work := 0 }
      vane := { s.vane with
        slots := (done.foldl (fun l d => put l d.1 d.2) rest), drives := drives, warm := s.vane.warm || s.dieHolds inp
        zones := inp.meas.filter fun m => isDieZone m.1 } }
    let s := ((s.bump (aVane 0x98) misses).bump (aVane 0x9C) losses.length).bump (aVane 0xA0) relocks
    let s := match losses.getLast? with
      | some o => s.setReg (aVane 0xAC) o.1
      | none => s
    s.combLocks.furrowLocks.heatThrottle.answerSwaps

/-! ### The commands -/

/-- The values of a VANE_LOOP_SET entry as an expert request carries them. -/
def LoopEntry.fields (e : LoopEntry) (write : Nat) : LoopX where
  write := write
  cfg := e.kind + 4 * b2n e.enable + 8 * b2n e.lockWatch + 16 * b2n e.ffSupply + 32 * b2n e.ffAccel + 64 * e.actSrc
  lockN := e.lockN
  relockN := e.relockN
  sensor := e.sensor
  actuator := e.actuator
  coef := (List.range 6).map e.k
  shifts := (List.range 6).map e.sh
  rsv := 0
  outMin := ofSigned 32 e.outMin
  outMax := ofSigned 32 e.outMax
  vmax := ofSigned 32 e.vmax
  amax := ofSigned 32 e.amax
  jmax := ofSigned 32 e.jmax
  lockTol := ofSigned 32 e.lockTol

/-- The entry a VANE_LOOP_SET writes (R350). -/
def loopEntryOf (target : Int) (x : LoopX) : LoopEntry where
  target := target
  kind := x.cfg % 4
  enable := bitOf x.cfg 2
  lockWatch := bitOf x.cfg 3
  ffSupply := bitOf x.cfg 4
  ffAccel := bitOf x.cfg 5
  actSrc := x.cfg / 64
  lockN := x.lockN
  relockN := x.relockN
  sensor := x.sensor
  actuator := x.actuator
  coef := x.coef
  shifts := x.shifts
  outMin := x.outMin
  outMax := x.outMax
  vmax := x.vmax
  amax := x.amax
  jmax := x.jmax
  lockTol := x.lockTol

/-- The field checks of VANE_LOOP_SET in ascending offset (R350). -/
def loopChecks (n rsv : Nat) (x : LoopX) : List (Option Failure) :=
  [inRange 0 n 0 4095, rsvZero 2 rsv, inRange 8 x.write 0 2, need (x.cfg % 4 ≤ 2 && x.cfg / 64 ≤ 2) (fRange 9 x.cfg),
   inRange 10 x.lockN 1 255, inRange 11 x.relockN 1 255, inRange 12 x.sensor 0 3355, inRange 14 x.actuator 0 3339]
    ++ (mapIdxFrom (fun k v => inRange (40 + k) v 0 31) 0 x.shifts)
    ++ [rsvZero 46 x.rsv, inRange 48 x.outMin 0 0x7FFFFFFE, need (x.outMin < x.outMax && x.outMax ≤ 0x7FFFFFFF) (fRange 52 x.outMax),
        inRange 56 x.vmax 1 0x7FFFFFFF, inRange 60 x.amax 1 0x7FFFFFFF, inRange 64 x.jmax 1 x.amax, inRange 68 x.lockTol 1 0x7FFFFFFF]

/-- VANE_LOOP_SET (R116, R350). -/
def doVaneLoopSet (h : ReqHdr) (n rsv : Nat) (target : Int) (x : Option LoopX) (s : State) : State :=
  let y := orReg x ((entryIn s.vane.standby n).fields (s.fld (aVane 0x18) 0 2))
  let e := loopEntryOf target y
  s.serve h (.vaneLoopSet h n rsv target x)
    [wrongUnless (!s.engineStarting), wrongUnless (!(y.write = 1 && s.vane.swapPending)), wrongUnless (!(y.write = 2 && (entryIn s.vane.active n).enable))]
    (loopChecks n rsv y) [] false fun s =>
    let v := s.vane
    let v' :=
      if y.write = 0 then
        { v with bankA := put v.bankA n { entryIn v.bankA n with target := target }
                 bankB := put v.bankB n { entryIn v.bankB n with target := target } }
      else if y.write = 1 then v.write false true n e
      else { v with pendingWrites := v.pendingWrites ++ [(n, e)] }
    let s : State := { s with vane := v' }
    (if y.write = 2 ∧ s.vaneLevel = 0 then s.applyWrites else s).reply h 0x0505 stOk

/-- VANE_BANK_SWAP (R116, R351). -/
def doVaneBankSwap (h : ReqHdr) (s : State) : State :=
  s.serve h (.vaneBankSwap h) [wrongUnless (!s.engineStarting)] [] [] false fun s =>
    if s.vaneLevel = 0 then s.swapBanks.reply h 0x0506 stOk
    else ({ s with vane := { s.vane with swapPending := true } }).setJob h 0x0506 (.vaneBankSwap h) .bankSwap

end Sys2Proof.Machine
end

