-- ==== Sys2Proof/Machine/Sources.lean ====
section
/-!
DEFINITION. The comb sources (15): fade states (R355), pre-warm, spares and exchanges (R356 to R360), and the retirement
of a Furrow with its sources (R174, R175, R359).
-/
namespace Sys2Proof.Machine

/-- A comb source by number. -/
def State.source (s : State) (n : Nat) : Source := s.sources.getD n {}

/-- A comb source changed. -/
def State.modSource (s : State) (n : Nat) (g : Source → Source) : State :=
  { s with sources := setAt s.sources n (g (s.source n)) }

/-- The sources that light a Furrow, ascending. -/
def State.sourcesOf (s : State) (f : Nat) : List Nat :=
  (List.range 20).filter fun n => (s.source n).role = 0 && (s.source n).furrow = f

/-- The set-point TARGET of a loop slot moved in both banks (R346, R350). -/
def State.moveTarget (s : State) (n : Nat) (t : Int) : State :=
  let v := s.vane
  { s with vane := { v with
    bankA := put v.bankA n { entryIn v.bankA n with target := t }
    bankB := put v.bankB n { entryIn v.bankB n with target := t } } }

/-- The bias TARGET of every source follows the photonic band: the table's own in P0, the warm one in P1 and P2 (R385). -/
def State.applyBias (s : State) : State :=
  (List.range 20).foldl (fun s n =>
    s.moveTarget (3233 + 3 * n) (if s.lantern.pBand = 0 then (firmwareEntry (3233 + 3 * n)).target else Config.warmBias n)) s

/-- A source with the highest calibrated power of a list, ties to the lower number (R356). -/
def State.strongest (s : State) (l : List Nat) : Option Nat :=
  l.foldl (fun best n => match best with
    | none => some n
    | some b => if (s.source b).cal < (s.source n).cal then some n else some b) none

/-- The spares that no exchange has taken. -/
def State.freeSpares (s : State) : List Nat :=
  (List.range 20).filter fun n => (s.source n).role = 1 && !(s.exchanges.any fun e => e.into = some n)

/-! ### Exchanges -/

/-- The spare's loops start, and its set-point moves to the lines of the source it is to replace (R356). -/
def State.startWarm (s : State) (spare out : Nat) : State :=
  ((s.restartSlots (sourceSlots spare)).moveTarget (3232 + 3 * spare) (Config.spareTarget spare out)).modSource spare fun x => { x with warming := true, ready := false }

/-- The exchange that waits for a spare with the deepest fade (R356). -/
def State.deepestWaiting (s : State) : Option Exchange :=
  (s.exchanges.filter fun e => e.into.isNone).foldl (fun best e => match best with
    | none => some e
    | some b => if (s.source e.out).fadeDb < (s.source b.out).fadeDb then some e else some b) none

/-- Exchanges without a spare take one, the deepest fade first; with no spare left a source stays in service, and a
SOURCE_SPARE that asked for it ends with OK_DEGRADED (R356, R360). -/
def State.assignSpares : Nat → State → State
  | 0, s => s
  | n + 1, s =>
    match s.deepestWaiting with
    | none => s
    | some e =>
      match s.strongest s.freeSpares with
      | some sp =>
        let set (x : Exchange) : Exchange := if x.out = e.out then { x with into := some sp } else x
        State.assignSpares n (({ s with exchanges := s.exchanges.map set }).startWarm sp e.out)
      | none =>
        let s : State := { s with exchanges := s.exchanges.filter fun x => x.out ≠ e.out }
        let s := match e.lane with
          | some l => (match (s.lane l).job with
            | some j => s.reply j.hdr j.opcode stDegraded
            | none => s)
          | none => s
        State.assignSpares n s

/-- An exchange put in line for a spare, unless one is already pending for the source (R356, R360). -/
def State.queueExchange (s : State) (e : Exchange) : State :=
  if s.exchanges.any fun x => x.out = e.out then s else { s with exchanges := s.exchanges ++ [e] }

/-- An exchange asked for (R356, R360). -/
def State.wantExchange (s : State) (e : Exchange) : State := State.assignSpares 20 (s.queueExchange e)

/-- A slow switch moves: how long it settles is a free value within R186, which LAST_SETTLE shows; a Gate stays closed until
then (R187, R196, log entry 50). -/
def State.moveSwitch (s : State) : State :=
  let v := s.takeFree
  let ns := v.1 % 30001
  let s := v.2.setReg (aThresher 0x1C) ns
  { s with reaper := { s.reaper with switchAt := s.clocks.tick + (ns + 249) / 250 } }

/-- A spare takes the place of a source on its Furrow: the source is switched off and marked failed (R357). -/
def State.exchange (s : State) (e : Exchange) (into reason : Nat) : State :=
  let f := (s.source e.out).furrow
  let s := (s.modSource e.out fun x => { x with role := 2, furrow := 0xF, fade := 0, locked := false, powers := [] }).offSource e.out
  let s := s.modSource into fun x =>
    { x with role := 0, furrow := f, ready := false, warming := false, fade := 0, fadeDb := 0, powers := [] }
  let s : State := { s with exchanges := s.exchanges.filter fun x => x.out ≠ e.out }
  let s := (s.bump (aSources 0x20)).setReg (aSources 0x1C) (e.out + into * 256 + reason * 65536)
  let s := if e.forced then s.bump (aSources 0x24) else s
  s.moveSwitch

/-- The reason code of an exchange made now (R363). -/
def State.exchangeReason (s : State) (e : Exchange) : Nat :=
  if e.forced then 3 else if e.reason = 0 then 0 else if (s.source e.out).fade = 2 then 2 else 1

/-- Ready spares are exchanged: all of them, or those that are forced (R357, R358). -/
def State.makeExchanges (s : State) (onlyForced : Bool) : State :=
  s.exchanges.foldl (fun s e => match e.into with
    | some n => if (s.source n).ready && (!onlyForced || e.forced) then s.exchange e n (s.exchangeReason e) else s
    | none => s) s

/-- No step is between two Gates on the engines, so that a forced exchange changes no source within a pass (R12, R358). -/
def State.betweenGates (s : State) : Bool :=
  match s.reaper.holder.bind s.stepOf with
  | some t => t.rest || t.teardown
  | none => true

/-- Exchanges that need not wait for a Gate: all of them while no task runs, a forced one while no step is between two Gates
(R12, R357, R358). -/
def State.settleExchanges (s : State) : State := if s.betweenGates then s.makeExchanges (decide (s.steps ≠ [])) else s

/-! ### Events -/

/-- The fade states of R355: within warning, within critical. -/
def fadeState (warn crit db : Int) (old : Nat) : Nat :=
  if db ≤ crit ∨ (old = 2 ∧ db ≤ crit + 64) then 2 else if db ≤ warn ∨ (1 ≤ old ∧ db ≤ warn + 64) then 1 else 0

/-- The power of a source averaged over the last SOURCES.FILTER_MS milliseconds, in 1/256 dBm rounded down (R355, log entry
120). -/
def meanPower (l : List Int) : Int := l.sum / l.length

/-- The power of one source over the last millisecond taken into its average, and the fade of an active one judged (R355,
R356). One that enters warning waits for a spare. -/
def State.judgeFade (s : State) (n : Nat) (now : Int) : State :=
  let x := s.source n
  let l := (now :: x.powers).take (max 1 (s.fld (aSources 0x18) 0 10))
  let p := meanPower l
  let s := s.modSource n fun x => { x with powers := l }
  if x.role ≠ 0 then s.modSource n fun x => { x with power := p }
  else
    let db := p - x.cal
    let new := fadeState (asSigned 16 (s.fld (aSources 0x14) 0 16)) (asSigned 16 (s.fld (aSources 0x14) 16 16)) db x.fade
    let s := s.modSource n fun x => { x with power := p, fadeDb := db, fade := new }
    let rec_ (kind : Nat) : Record := { kind := kind, block := 0x0061, inst := 0, detail := q88 db }
    let s := if x.fade = 0 ∧ 1 ≤ new then (s.bump (aSources 0x28)).raise (rec_ 0x0022) (some .sources) else s
    let s := if x.fade < 2 ∧ new = 2 then (s.bump (aSources 0x2C)).raise (rec_ 0x0023) (some .sources) else s
    if x.fade = 0 ∧ 1 ≤ new ∧ bitOf (s.reg (aSources 4)) 0 then s.queueExchange ⟨n, none, 1, false, none⟩ else s

/-- The check of every millisecond, with the power of each source over that millisecond: averaged powers set the fades
(R355), and then the sources that have entered warning take their spares, the deepest fade first (R356). It runs while the
sources do. -/
def doSourceFadeCheck (powers : List (Nat × Int)) (s : State) : State :=
  if s.vaneLevel ≠ 2 then s else State.assignSpares 20 (powers.foldl (fun s p => s.judgeFade p.1 p.2) s)

/-- A SOURCE_SPARE that waits for its spare is answered: the exchange is armed, or already made (R360). -/
def State.answerSpare (s : State) (l : Nat) : State :=
  match (s.lane l).job with
  | some j => (match j.kind with
    | .sourceSpare _ => s.reply j.hdr j.opcode stOk
    | _ => s)
  | none => s

/-- A pre-warmed spare becomes ready: a SOURCE_SPARE that asked for it is answered, and an exchange that need not wait for
a Gate is made (R356 to R358, R360). -/
def doSpareReady (n : Nat) (s : State) : State :=
  if !(s.source n).warming then s
  else
    let s := s.modSource n fun x => { x with warming := false, ready := true, locked := true }
    let s := match s.exchanges.find? fun e => e.into = some n with
      | some e => (match e.lane with
        | some l => s.answerSpare l
        | none => s)
      | none => s
    s.settleExchanges

/-- A spare is not ready within 100 ms: it is marked failed and the next is tried (R356, R360). -/
def doPrewarmTimeout (n : Nat) (s : State) : State :=
  if !(s.source n).warming then s
  else
    let s := (s.modSource n fun x => { x with role := 2, warming := false }).bump (aSources 0x30)
    State.assignSpares 20 { s with exchanges := s.exchanges.map fun e => if e.into = some n then { e with into := none } else e }

/-- A SOURCE_FADE abort forces the spare in (R358): at once if it is ready, else when its pre-warm completes, and never
between two Gates of another step (R12). -/
def State.forceExchange (s : State) (n : Nat) : State :=
  let s := s.wantExchange ⟨n, none, 3, true, none⟩
  let s : State := { s with exchanges := s.exchanges.map fun e => if e.out = n then { e with forced := true } else e }
  if s.betweenGates then s.makeExchanges true else s

/-- SOURCE_SPARE (R360). -/
def doSourceSpare (h : ReqHdr) (src spare rsv : Nat) (s : State) : State :=
  s.serve h (.sourceSpare h src spare rsv) [wrongUnless (s.sources.any fun x => x.role = 1)]
    [need (src ≤ 19 && (s.source src).role = 0) (fRange 0 src),
     need (spare = 0xFF || (spare ≤ 19 && (s.source spare).role = 1)) (fRange 1 spare), rsvZero 2 rsv] []
    (s.exchanges.any fun e => e.out = src) fun s =>
    let s := s.setJob h 0x0507 (.sourceSpare h src spare rsv) (.sourceSpare src)
    if spare ≠ 0xFF ∧ s.freeSpares.contains spare then
      ({ s with exchanges := s.exchanges ++ [Exchange.mk src (some spare) 0 false (some h.lane)] }).startWarm spare src
    else s.wantExchange ⟨src, none, 0, false, some h.lane⟩

/-! ### Retirement of a Furrow -/

/-- The warm spare Furrow with the highest minimum Q, ties to the lower number (R175). -/
def State.bestSpareFurrow (s : State) : Option Nat :=
  ((List.range 10).filter fun f => (s.furrow f).role = 1).foldl (fun best f => match best with
    | none => some f
    | some b => if s.fld (aFurrow b 0x10) 0 16 < s.fld (aFurrow f 0x10) 0 16 then some f else some b) none

/-- The device reports FURROW_LOST for a retired Furrow (R175, R78). -/
def State.furrowLostFault (s : State) (f : Nat) : State :=
  s.enterFault { status := stFurrowLost, block := 0x0010, inst := f, detail := f + 256 * s.activeCount } (some .furrow)

/-- The sources of a retired Furrow go over to its spare; one that is failed or critical is replaced in the same exchange,
by the spare that pre-warms for it or else the strongest (R175, R359, log entry 121). Whether every source could be lit. -/
def State.handSources (s : State) (f g : Nat) : Bool × State :=
  ((List.range 20).filter fun n => (s.source n).furrow = f && (s.source n).role ≠ 1).foldl (fun (r : Bool × State) n =>
    let x := r.2.source n
    let s := r.2.modSource n fun x => { x with furrow := g }
    if x.role = 2 ∨ x.fade = 2 then
      let e := s.exchanges.find? fun e => e.out = n
      match (e.bind fun e => e.into).orElse fun _ => s.strongest s.freeSpares with
      | some sp =>
        let s := match e.bind fun e => e.lane with
          | some l => s.answerSpare l
          | none => s
        (r.1, s.exchange ⟨n, some sp, 4, false, none⟩ sp 4)
      | none => (false, s)
    else (r.1, s)) (true, s)

/-- An active Furrow is retired: recorded, its role failed, its slot and sources handed to a warm spare; without one the
device reports FURROW_LOST (R174, R175). Only active Furrows run in the Winnow (R369): a run of the retired Furrow is abandoned,
and its due mark goes (log entry 132). -/
def State.retireFurrow (s : State) (f cause : Nat) : State :=
  let slot := (s.furrow f).slot
  let s := (s.raise { kind := 0x0021, block := 0x0010, inst := f, detail := cause } (some .furrow)).setReg (aFurrow f 0xAC) cause
  let s := s.modFurrow f fun x => { x with role := 2, badSteps := 0, bayA := none, bayB := none, fill := none, passes := [], sent := [], replays := [] }
  let s := (s.abandonRun f false).modWin f fun w => { w with due := false }
  match s.bestSpareFurrow with
  | none => s.furrowLostFault f
  | some g =>
    let s := s.modFurrow g fun x => { x with role := 0, slot := slot, fresh := true }
    let s := (s.modWin g fun w => { w with tInterp := none }).markDue g
    let r := s.handSources f g
    let s := r.2.moveSwitch
    if r.1 then s else s.furrowLostFault f

end Sys2Proof.Machine
end

