-- ==== Sys2Proof/Machine/Reaper.lean ====
section
/-!
DEFINITION. The Reaper (09): descriptors as streams of 256-byte pieces (R198 to R203), tags and lines (R204, R208),
run-ahead and its stops (R209, R210), speculative prefetch and its matching (R212 to R215), returns, timeouts and marks
(R205, R216 to R219), and delivery to memory (R198).
-/
namespace Sys2Proof.Machine

/-! ### Streams as pieces -/

/-- An index list: its count N and the entries used (R199). -/
def State.indexList (s : State) (d : Desc) (a : Nat) : Nat × List Nat :=
  let n := s.leAt a 4
  (n, (List.range (min n d.indexMax)).map fun i => s.leAt (a + 4 + i * d.indexWidth) d.indexWidth)

/-- The elements of a descriptor's stream: their bases, none where zero bytes are delivered (R198, R200). -/
def State.elements (s : State) (d : Desc) : List (Option Nat) :=
  if d.kind = 2 then (s.indexList d d.indexAddr).2.map fun x => if x < d.indexLimit then some (d.base + x * d.indexStride) else none
  else [some d.base]

/-- The pieces of one run: aligned 256-byte reads (R203). -/
def runPieces (k pos a n : Nat) (spec : Bool) : List Piece :=
  if n = 0 then []
  else (List.range ((a % 256 + n + 255) / 256)).map fun i =>
    let at_ := (a / 256 + i) * 256
    let lo := max a at_
    { desc := k, pos := pos + (lo - a), addr := at_, used := min (a + n) (at_ + 256) - lo, spec := spec }

/-- Pieces in stream order; a piece that only continues the last one is read with it (R203). -/
def joinPieces (l : List Piece) (p : Piece) : List Piece :=
  match l with
  | q :: t => if q.addr = p.addr ∧ q.pos + q.used = p.pos then { q with used := q.used + p.used } :: t else p :: l
  | [] => [p]

/-- The pieces of one element at a stream position. -/
def elementPieces (k : Nat) (d : Desc) (pos base : Nat) (spec : Bool) : List Piece :=
  ((List.range d.runs).foldl (fun l r => (runPieces k (pos + r * d.runBytes) (base + r * d.runStride) d.runBytes spec).foldl joinPieces l) []).reverse

/-- The pieces of a whole descriptor. -/
def descPieces (k : Nat) (d : Desc) (els : List (Option Nat)) (spec : Bool) : List Piece :=
  (mapIdxFrom (fun j (e : Option Nat) => match e with
    | some b => elementPieces k d (j * d.elemBytes) b spec
    | none => []) 0 els).flatten

/-- Two streams interleaved in proportion to their lengths (R202). -/
def mergeProp (la lb : Nat) : Nat → List Piece → List Piece → List Piece
  | 0, a, b => a ++ b
  | _ + 1, [], b => b
  | _ + 1, a, [] => a
  | n + 1, x :: a, y :: b =>
    if x.pos * lb ≤ y.pos * la then x :: mergeProp la lb n a (y :: b) else y :: mergeProp la lb n (x :: a) b

/-- The reads of a record in the order their consumers need the bytes: those of a STREAM interleaved, those of a COPY
descriptor by descriptor (R202, R301). -/
def orderPieces (copy : Bool) (ls : List (Nat × List Piece)) : List Piece :=
  if copy then ls.flatMap fun x => x.2
  else (ls.foldl (fun (acc : Nat × List Piece) x => (max 1 (max acc.1 x.1), mergeProp (max 1 acc.1) (max 1 x.1) (acc.2.length + x.2.length) acc.2 x.2)) (0, [])).2

/-- The piece that holds a stream position. -/
def Fetch.pieceAt (f : Fetch) (k pos : Nat) : Option Piece :=
  f.pieces.find? fun p => p.desc = k && p.pos ≤ pos && pos < p.pos + p.used

/-- The device address of a stream position, none in a zero-filled element. -/
def Fetch.addrAt (f : Fetch) (k pos : Nat) : Option Nat :=
  match f.descs[k]? with
  | none => none
  | some d =>
    let r := pos % d.elemBytes
    ((f.entries.getD k []).getD (pos / d.elemBytes) none).map fun b => b + r / d.runBytes * d.runStride + r % d.runBytes

/-- One byte of a stream, once its piece has returned. -/
def Fetch.byte (f : Fetch) (k pos : Nat) : Option Byte :=
  match f.addrAt k pos with
  | none => some 0
  | some a => (f.pieceAt k pos).bind fun p => p.data[a - p.addr]?

/-- A slice of a stream, once all of it has returned (R202). -/
def Fetch.slice (f : Fetch) (k pos n : Nat) : Option (List Byte) := (List.range n).mapM fun i => f.byte k (pos + i)

/-- The mark that stands in a slice (R216, R218). -/
def Fetch.mark (f : Fetch) (k pos n : Nat) : Option Failure :=
  (f.pieces.find? fun p => p.desc = k && p.pos < pos + n && pos < p.pos + p.used && p.fault.isSome).bind fun p => p.fault

/-- The descriptor with a TARGET. -/
def Fetch.target (f : Fetch) (t : Nat) : Option (Nat × Desc) := (f.descs.zipIdx.find? fun d => d.1.target = t).map fun d => (d.2, d.1)

/-! ### Fetches -/

/-- Lane and sequence of a step for its records. -/
def State.stepSeq (s : State) (l : Nat) : Nat := (((s.lane l).job.map fun j => j.hdr.seq)).getD 0

/-- The entries of the list at an address that some descriptor of a record zero-fills (R200). -/
def State.zeroFilled (s : State) (ds : List Desc) (a : Nat) : List Nat :=
  let ls := (ds.filter fun d => d.kind = 2 && d.indexAddr = a).map fun d => (d.indexLimit, (s.indexList d a).2)
  (List.range ((ls.map fun l => l.2.length).foldl max 0)).filterMap fun j =>
    ls.findSome? fun l => l.2[j]?.bind fun x => if l.1 ≤ x then some x else none

/-- An index list cut to INDEX_MAX counts once per record, each zero-filled entry of a list counts once (R199, R200). -/
def State.countIndexes (s : State) (lane idx : Nat) (ds : List Desc) : State :=
  let lists := ds.filter fun d => d.kind = 2
  let cut := lists.find? fun d => d.indexMax < (s.indexList d d.indexAddr).1
  let oor := (lists.map fun d => d.indexAddr).eraseDups.flatMap (s.zeroFilled ds)
  let rec_ (kind v : Nat) : Record :=
    { kind := kind, block := 0x0002, inst := 0, detail := v, lane := lane, seq := s.stepSeq lane, progRec := idx }
  let s := match cut with
    | some d => (s.bump (aReaper 0x74)).raise (rec_ 0x0013 (s.indexList d d.indexAddr).1) (some .reaper)
    | none => s
  match oor with
  | [] => s
  | x :: _ => (s.bump (aReaper 0x70) oor.length).raise (rec_ 0x0014 x) (some .reaper)

/-- The index lists of some descriptors: the first descriptor that names each, its address, and the bytes of it that they
use (R199). -/
def State.indexLists (s : State) (ds : List Desc) : List (Nat × Nat × Nat) :=
  let idx := ds.zipIdx.filter fun d => d.1.kind = 2
  let first := idx.foldl (fun (l : List (Desc × Nat)) d => if l.any fun x => x.1.indexAddr = d.1.indexAddr then l else l ++ [d]) []
  first.map fun d =>
    (d.2, d.1.indexAddr, ((idx.filter fun x => x.1.indexAddr = d.1.indexAddr).map fun x =>
      4 + (s.indexList x.1 x.1.indexAddr).2.length * x.1.indexWidth).foldl max 0)

/-- A Granary word with bad parity in an index list that the record needs (R216). -/
def State.indexFault (s : State) (ds : List Desc) : Option Failure :=
  ((s.indexLists ds).findSome? fun l => s.granaryBad l.2.1 l.2.2).map fun w =>
    { status := stMemUncorrectable, block := 2, inst := 0, detail := w }

/-- The descriptor number of the pieces of descriptor k's index list: a record has at most 8 descriptors (R301). -/
def listDesc (k : Nat) : Nat := 16 + k

/-- A piece of an index list. -/
def Piece.isList (p : Piece) : Bool := decide (16 ≤ p.desc)

/-- The reads of the index lists that a record names (R203). -/
def State.listPieces (s : State) (ds : List Desc) : List Piece :=
  (s.indexLists ds).flatMap fun l => runPieces (listDesc l.1) 0 l.2.1 l.2.2 false

/-- The reads of the list at an address, made at once when a DEP needs it, charged to the channel (R203, R212, R214, log
entry 126). -/
def State.chargeReads (s : State) (ps : List Piece) : State :=
  (s.bump48 (aReaper 0x50) (256 * ps.length)).bump (aReaper 0x60) (ps.countP fun p => p.used < 256)

/-- The fetch of a COPY: every stream of it is written (R301). -/
def Fetch.isCopy (f : Fetch) : Bool := f.descs.all fun d => d.target = 3

/-- A fetch whose index lists are known: its elements, and the reads in order (R198 to R203). -/
def State.fillFetch (s : State) (f : Fetch) : Fetch :=
  let els := f.descs.map s.elements
  let ls := mapIdxFrom (fun k (x : Desc × List (Option Nat)) => (x.2.length * x.1.elemBytes, descPieces k x.1 x.2 false)) 0 (f.descs.zip els)
  { f with entries := els, todo := orderPieces f.isCopy ls, ready := true }

/-- The Reaper's work for a record (R198 to R203): its index lists are read first. -/
def State.newFetch (s : State) (idx : Nat) (ds : List Desc) : Fetch :=
  let f : Fetch := { record := idx, descs := ds }
  if ds.any fun d => d.kind = 2 then { f with todo := s.listPieces ds, ready := false } else s.fillFetch f

/-- A fetch begun, unless the step already has it. -/
def State.beginFetch (s : State) (lane idx : Nat) (ds : List Desc) : State :=
  match s.stepOf lane with
  | none => s
  | some t =>
    if t.fetches.any fun f => f.record = idx && f.predicted.isNone then s
    else s.modStep lane fun t => { t with fetches := t.fetches ++ [s.newFetch idx ds] }

/-- A fetch of a step changed. -/
def Step.modFetch (t : Step) (idx : Nat) (g : Fetch → Fetch) : Step :=
  { t with fetches := t.fetches.map fun f => if f.record = idx && f.predicted.isNone then g f else f }

/-- The work of a record. -/
def Step.fetchOf (t : Step) (idx : Nat) : Option Fetch := t.fetches.find? fun f => f.record = idx && f.predicted.isNone

/-! ### Tags and lines -/

/-- The tags that pieces of running steps occupy. -/
def State.pieceTags (s : State) : List Nat := s.steps.flatMap fun t => t.fetches.flatMap fun f => f.pieces.filterMap fun p => p.tag

/-- The tags now occupied (R204). -/
def State.tagsInUse (s : State) : List Nat := s.pieceTags ++ s.reaper.dropping.map fun d => d.tag

/-- The lowest free tag of 12,288 (R204). -/
def State.freeTag (s : State) : Option Nat :=
  let used := s.tagsInUse
  (List.range (min 12288 (used.length + 1))).find? fun n => !used.contains n

/-- The tags that speculative reads occupy (R204). -/
def State.specTags (s : State) : Nat :=
  (s.steps.map fun t => (t.fetches.map fun f => f.pieces.countP fun p => p.spec && p.tag.isSome).sum).sum + s.reaper.dropping.length

/-- All that a piece holds has gone to the feed rows: it is kept for replay, in their reserve (R208). -/
def Fetch.inReserve (f : Fetch) (p : Piece) : Bool :=
  match f.descs[p.desc]? with
  | some d =>
    decide (d.target ≠ 3) && decide (p.pos + p.used ≤ if d.target = 0 then f.delivered * chunkBytes d.format else f.delivered)
  | none => false

/-- The lines of the run-ahead buffer that a step holds (R208). -/
def Step.lines (t : Step) : Nat := (t.fetches.map fun f => f.pieces.countP fun p => !f.inReserve p).sum

/-- The speculative pieces a step holds. -/
def Step.specLines (t : Step) : Nat := (t.fetches.map fun f => f.pieces.countP fun p => p.spec).sum

/-- A line is free for a read of the step (R208). -/
def State.lineFree (s : State) (t : Step) (spec : Bool) : Bool :=
  decide (t.lines < s.fld (aReaper 0x20) 0 6 * 4096) && decide ((s.steps.map Step.lines).sum < 245760)
    && (!spec || decide (t.specLines < s.fld (aReaper 0x24) 0 5 * 4096))

/-- A read issued: its tag, the channel time and the counters (R203, R215). -/
def State.issue (s : State) (lane idx : Nat) (spec : Bool) (p : Piece) (tag : Nat) : State :=
  let used := s.tagsInUse.length + 1
  let s := (s.bump48 (aReaper 0x50) 256).setFld (aReaper 0x28) 16 14 (max used (s.fld (aReaper 0x28) 16 14))
  let s := if p.used < 256 then s.bump (aReaper 0x60) else s
  let s := if spec then s.bump (aReaper 0x64) else s
  s.modStep lane fun t => { t with fetches := t.fetches.map fun f =>
    if f.record = idx ∧ f.predicted.isSome = spec then { f with todo := f.todo.drop 1, pieces := f.pieces ++ [{ p with tag := some tag }] } else f }

/-- The next read that a step waits for, ordinary or speculative: of the lowest record that has one, which for an ordinary
read run-ahead has reached (R202). -/
def Step.nextRead (t : Step) (spec : Bool) : Option (Nat × Piece) :=
  ((t.fetches.filter fun f => f.predicted.isSome = spec && !f.todo.isEmpty && (spec || decide (f.record ≤ t.ahead))).foldl
    (fun (best : Option Fetch) f => match best with
      | none => some f
      | some b => if f.record < b.record then some f else some b) none).bind fun f => f.todo.head?.map fun p => (f.record, p)

/-- One read issued for a step, if a tag and a line are free. -/
def State.issueNext (s : State) (t : Step) (spec : Bool) : Option State :=
  match t.nextRead spec, s.freeTag with
  | some (idx, p), some tag => if s.lineFree t spec then some (s.issue t.lane idx spec p tag) else none
  | _, _ => none

/-! ### Run-ahead -/

/-- The last failed read (R222). -/
def State.noteFault (s : State) (a kind : Nat) (spec tear : Bool) : State :=
  ((s.setReg (aReaper 0x30) (a % 2 ^ 32)).setReg (aReaper 0x34) (a / 2 ^ 32)).setReg (aReaper 0x38) (kind + 4 * b2n spec + 8 * b2n tear)

/-- A stop of run-ahead counted once (R210). -/
def State.stopAhead (s : State) (t : Step) : State :=
  if t.stopAt = some t.ahead then s
  else (s.modStep t.lane fun t => { t with stopAt := some t.ahead }).bump (aReaper 0x80)

/-- A descriptor writes into the Loft or the Silo. -/
def Desc.external (d : Desc) : Bool := d.target = 3 && tierOf d.dest ≠ some .granary

/-- What run-ahead finds at its next record. -/
inductive Ahead where
  /-- Go past it, after fetching what it names. -/
  | pass (op : PRec) (descs : List Desc) (fetch : Bool)
  /-- A stop of R210. -/
  | stop (op : PRec)
  | halt

/-- The record at the Reaper's position, judged by R209 and R210. -/
def State.aheadAt (s : State) (t : Step) (i : Nat) : Ahead :=
  let sent := decide (i < t.next)
  if !bitOf (s.reg (aReaper 4)) 1 && !sent then .halt
  else
    match s.readRec t i with
    | .ok op ds =>
      match op with
      | .fin _ => .halt
      | .dep _ => if sent then .pass op [] false else .stop op
      | _ =>
        match t.condHolds op.cond with
        | none => .stop op
        | some false => .pass op [] false
        | some true =>
          if op.kind = 8 ∧ ds.any Desc.external then (if t.isDone i then .pass op [] false else .stop op)
          else .pass op ds ((op.kind = 2 || op.kind = 8) && !t.isDone i)
    | _ => .halt

/-- The prediction of a list: values below INDEX_LIMIT (R212). -/
def State.predictedList (s : State) (d : Desc) (list : Nat) : List Nat := (s.indexList d list).2.filter fun x => x < d.indexLimit

/-- The speculative work of one record under a DEP's prediction (R212). -/
def State.specFetch (s : State) (idx guard list : Nat) (op : PRec) (ds : List Desc) : Option Fetch :=
  let guarded (d : Desc) : Bool := d.kind = 2 && d.indexAddr = guard
  if ds.any guarded then
    let vals := ds.map fun d => if guarded d then s.predictedList d list else []
    let els := (ds.zip vals).map fun x => x.2.map fun v => some (x.1.base + v * x.1.indexStride)
    let ls := mapIdxFrom (fun k (x : Desc × List (Option Nat)) => (x.2.length * x.1.elemBytes, descPieces k x.1 x.2 true)) 0 (ds.zip els)
    some { record := idx, descs := ds, entries := els, todo := orderPieces (op.kind = 8) ls, predicted := some vals }
  else none

/-- The records after a DEP up to the next one, as far as run-ahead could pass (R212). -/
def State.specScan (s : State) (t : Step) (guard list : Nat) : Nat → Nat → List Fetch
  | 0, _ => []
  | n + 1, i =>
    match s.readRec t i with
    | .ok op ds =>
      match op with
      | .fin _ => []
      | .dep _ => []
      | _ =>
        match t.condHolds op.cond with
        | none => []
        | some ok =>
          if op.kind = 8 ∧ ds.any Desc.external then []
          else
            (match if ok then s.specFetch i guard list op ds else none with
              | some f => [f]
              | none => []) ++ s.specScan t guard list n (i + op.size)
    | _ => []

/-- The bytes of a DEP's prediction list that its guarded descriptors use (R199, R212). -/
def State.predictedBytes (s : State) (r : DepR) (fs : List Fetch) : Nat :=
  ((fs.flatMap fun f => f.descs.filter fun d => d.kind = 2 && d.indexAddr = r.guard).map fun d =>
    4 + (s.indexList d r.list).2.length * d.indexWidth).foldl max 0

/-- Speculation at a DEP that names a prediction (R212). A prediction list that fails its parity is discarded (R217). -/
def State.speculate (s : State) (t : Step) (r : DepR) : State :=
  if r.predict && bitOf (s.reg (aReaper 4)) 0 then
    let fs := s.specScan t r.guard r.list t.slots (t.ahead + 1)
    if fs.isEmpty then s
    else
      let n := s.predictedBytes r fs
      let s := s.chargeReads (runPieces 0 0 r.list n true)
      match s.granaryBad r.list n with
      | some w => s.noteFault (w / 256 * 256) 1 true false
      | none => s.modStep t.lane fun t => { t with fetches := t.fetches ++ fs }
  else s

/-- The Reaper advances by one record, or stops (R209, R210, R212). -/
def State.advance (s : State) (t : Step) : Option State :=
  match s.aheadAt t t.ahead with
  | .halt => none
  | .stop op =>
    if t.stopAt = some t.ahead then none
    else
      let s := s.stopAhead t
      match op with
      | .dep r => some (s.speculate t r)
      | _ => some s
  | .pass op ds fetch =>
    let i := t.ahead
    let s := s.modStep t.lane fun t => { t with ahead := i + op.size }
    some (if fetch then s.beginFetch t.lane i ds else s)

/-- The Reaper does no work for a step that ends, nor during a supply hold (R220, R396). -/
def State.reapStopped (s : State) (t : Step) : Bool := t.failure.isSome || t.teardown || s.lantern.hold.isSome

/-- One move of the Reaper for a step: a read that waits, else run-ahead (R209). -/
def State.reapOnce (s : State) (lane : Nat) : Option State :=
  match s.stepOf lane with
  | none => none
  | some t =>
    if s.reapStopped t then none
    else if (t.nextRead false).isSome then s.issueNext t false
    else s.advance t

/-- The Reaper works for a step until nothing more can be issued. -/
def State.reapStep (lane : Nat) : Nat → State → State
  | 0, s => s
  | n + 1, s =>
    match s.reapOnce lane with
    | none => s
    | some s => State.reapStep lane n s

/-- Speculative reads of a step, as far as tags and lines allow (R204, R208, R212). -/
def State.reapSpec (lane : Nat) : Nat → State → State
  | 0, s => s
  | n + 1, s =>
    match s.stepOf lane with
    | none => s
    | some t =>
      if s.reapStopped t || decide (s.fld (aReaper 0x24) 16 14 ≤ s.specTags) then s
      else
        match s.issueNext t true with
        | none => s
        | some s => State.reapSpec lane n s

/-- Steps in the order of precedence: PRIORITY, then start (R208). -/
def stepOrder (l : List Step) : List Nat :=
  let put1 (t : Step) (acc : List Step) : List Step :=
    acc.takeWhile (fun x => t.priority < x.priority || (t.priority = x.priority && x.order < t.order)) ++ [t]
      ++ acc.dropWhile (fun x => t.priority < x.priority || (t.priority = x.priority && x.order < t.order))
  (l.foldr put1 []).map fun t => t.lane

/-! ### Delivery to memory -/

/-- What stands next in a TARGET 3 stream: nothing yet, a mark, or bytes. -/
inductive Next3 where
  | wait
  | bad (f : Failure)
  | bytes (l : List Byte)

/-- The next bytes of a stream from a position on: a zero-filled element, or the rest of a returned piece. -/
def Fetch.next3 (f : Fetch) (k pos : Nat) (d : Desc) : Next3 :=
  match (f.entries.getD k []).getD (pos / d.elemBytes) none with
  | none => .bytes (List.replicate (d.elemBytes - pos % d.elemBytes) 0)
  | some _ =>
    match f.pieceAt k pos with
    | none => .wait
    | some p =>
      match p.fault with
      | some x => .bad x
      | none => match f.slice k pos (p.pos + p.used - pos) with
        | some l => .bytes l
        | none => .wait

/-- The TARGET 3 streams of a started record written as far as their bytes have come, in order (R198, R216, R218). -/
def State.deliver3 (lane idx : Nat) : Nat → State → State
  | 0, s => s
  | n + 1, s =>
    match s.stepOf lane with
    | none => s
    | some t =>
      if t.failure.isSome || t.teardown then s
      else
        match t.fetchOf idx with
        | none => s
        | some f =>
          match if f.ready then f.fault else none with
          | some x => s.abortStep lane x idx
          | none =>
            match f.open3 with
            | none => s
            | some (k, d, pos) =>
              match f.next3 k pos d with
              | .wait => s
              | .bad x => s.abortStep lane x idx
              | .bytes l =>
                let s := (s.writeMem (.lane lane) (d.dest + pos) l).bump48 (aReaper 0x48) l.length
                let fin := pos + l.length
                let s := s.modStep lane fun t =>
                  { t.modFetch idx fun f =>
                    { f with
                      written := put f.written k fin
                      pieces := f.pieces.filter fun p => !(p.desc = k && p.pos + p.used ≤ fin) } with
                    touched := if t.touched.contains (d.dest, f.total k) then t.touched else t.touched ++ [(d.dest, f.total k)] }
                State.deliver3 lane idx n s

/-- Bytes a fetch still has to write, a bound on its deliveries. -/
def Fetch.left3 (f : Fetch) : Nat := (f.descs.zipIdx.map fun d => if d.1.target = 3 then f.total d.2 else 0).sum

/-- A COPY whose writes are done is complete (R312). -/
def State.finishCopies (s : State) (lane : Nat) : State :=
  s.modStep lane fun t => t.live.foldl (fun t v =>
    if v.op.kind = 8 && v.started && ((t.fetchOf v.idx).map Fetch.done3).getD false then t.complete v.idx else t) t

/-- A record whose TARGET 3 streams may be written: its engine has started it, or it is a STREAM complete but for its Tithe
list (R198, R312). -/
def Step.delivers (t : Step) (f : Fetch) : Bool :=
  f.predicted.isNone && (t.isDone f.record || match t.liveAt f.record with
    | some v => v.started
    | none => false)

/-- The started records of a step deliver to memory; a Tithe list written after its STREAM leaves the Reaper. -/
def State.deliverStep (s : State) (lane : Nat) : State :=
  match s.stepOf lane with
  | none => s
  | some t =>
    let s := (t.fetches.filter t.delivers).foldl (fun (s : State) f => State.deliver3 lane f.record (f.left3 + 1) s) s
    (s.finishCopies lane).modStep lane fun t =>
      { t with fetches := t.fetches.filter fun f => !(f.predicted.isNone && t.isDone f.record && f.done3) }

/-- The Reaper works for every step, in the order of precedence (R208): ordinary reads of every step before speculative
ones of any (R212). -/
def State.reap (s : State) : State :=
  let s := (stepOrder s.steps).foldl (fun s l => State.reapStep l 40000 (s.deliverStep l)) s
  (stepOrder s.steps).foldl (fun s l => State.reapSpec l 12288 s) s

/-! ### Returns and timeouts -/

/-- The fetch and piece that hold a tag: lane, record, whether speculative, and the piece. -/
def State.holderOfTag (s : State) (tag : Nat) : Option (Step × Fetch × Piece) :=
  s.steps.findSome? fun t => t.fetches.findSome? fun f => (f.pieces.find? fun p => p.tag = some tag).map fun p => (t, f, p)

/-- A piece of a step changed, or removed. -/
def State.modPiece (s : State) (lane : Nat) (tag : Nat) (g : Piece → Option Piece) : State :=
  s.modStep lane fun t => { t with fetches := t.fetches.map fun f =>
    { f with pieces := f.pieces.filterMap fun p => if p.tag = some tag then g p else some p } }

/-- The mark of a failed word on a Reaper read (R216). -/
def reaperMark (w : Nat) : Failure :=
  if tierOf w = some .granary then { status := stMemUncorrectable, block := 2, inst := 0, detail := w } else ueFailure w

/-- An index list has been read whole: the elements are known, cuts and zero-filled entries are counted; one that failed
gives nothing (R199, R200, R216). -/
def State.listsDone (s : State) (lane idx : Nat) : State :=
  match (s.stepOf lane).bind fun t => t.fetchOf idx with
  | none => s
  | some f =>
    if f.ready || (f.todo ++ f.pieces).any Piece.isList then s
    else if f.fault.isSome then s.modStep lane fun t => t.modFetch idx fun f => { f with entries := f.descs.map fun _ => [], ready := true }
    else (s.modStep lane fun t => t.modFetch idx s.fillFetch).countIndexes lane idx f.descs

/-- A piece of an index list has come, or failed with a mark (R203, R216, R218). -/
def State.listReturn (s : State) (lane idx tag : Nat) (x : Option Failure) : State :=
  ((s.modPiece lane tag fun _ => none).modStep lane fun t =>
    t.modFetch idx fun f => { f with fault := f.fault.orElse fun _ => x }).listsDone lane idx

/-- A step of the given start is in its teardown. -/
def State.inTeardown (s : State) (order : Nat) : Bool := s.steps.any fun t => t.order = order && t.teardown

/-- A speculative read that no entry claimed comes back or runs out of time: its data is dropped, a failure is noted, and in
a teardown it is counted (R214, R217, R219, R220). -/
def State.dropReturn (s : State) (d : Dropped) : State :=
  let s : State := { s with reaper := { s.reaper with dropping := s.reaper.dropping.filter fun x => x.tag ≠ d.tag } }
  if s.inTeardown d.order then s.bump (aReaper 0x84) else s

/-- A read returns: its data is stored and its tag is free; an error marks the line, a speculative read that fails is
discarded, and data of a step that ends is dropped (R204, R205, R214 to R217, R219, R220). -/
def State.tagReturn (s : State) (e : TagEv) : State :=
  let late (s : State) : State :=
    if s.reaper.reclaimed.contains e.tag then
      ({ s with reaper := { s.reaper with reclaimed := dropFirst e.tag s.reaper.reclaimed } }).bump (aReaper 0x7C)
    else s
  if e.late then late s
  else
    match s.holderOfTag e.tag with
    | some (t, f, p) =>
      let r := s.readMem 2 p.addr 256
      let s := match r.1.2 with
        | some _ => r.2.noteFault p.addr 1 p.spec t.teardown
        | none => r.2
      if t.teardown then
        ((s.modPiece t.lane e.tag fun _ => none).bump (aReaper 0x84)).bump (aReaper 0x6C) (b2n p.spec)
      else if p.isList then s.listReturn t.lane f.record e.tag (r.1.2.map reaperMark)
      else
        match r.1.2 with
        | none => s.modPiece t.lane e.tag fun p => some { p with tag := none, data := r.1.1 }
        | some w =>
          if p.spec then (s.modPiece t.lane e.tag fun _ => none).bump (aReaper 0x6C)
          else s.modPiece t.lane e.tag fun p => some { p with tag := none, fault := some (reaperMark w) }
    | none =>
      match s.reaper.dropping.find? fun d => d.tag = e.tag with
      | some d =>
        let r := s.readMem 2 d.addr 256
        (match r.1.2 with
          | some _ => r.2.noteFault d.addr 1 true (s.inTeardown d.order)
          | none => r.2).dropReturn d
      | none => late s

/-- A read has not returned in time: its tag is reclaimed, and an ordinary read's line is marked (R205, R217, R218). -/
def State.tagTimeout (s : State) (tag : Nat) : State :=
  let reclaim (s : State) : State :=
    ({ s with reaper := { s.reaper with reclaimed := s.reaper.reclaimed ++ [tag] } }).bump (aReaper 0x78)
  match s.holderOfTag tag with
  | some (t, f, p) =>
    let s := (reclaim s).noteFault p.addr 2 p.spec t.teardown
    let x : Failure := { status := stTagTimeout, block := 2, inst := 0, detail := p.addr }
    if t.teardown then (s.modPiece t.lane tag fun _ => none).bump (aReaper 0x6C) (b2n p.spec)
    else if p.isList then s.listReturn t.lane f.record tag (some x)
    else if p.spec then (s.modPiece t.lane tag fun _ => none).bump (aReaper 0x6C)
    else s.modPiece t.lane tag fun p => some { p with tag := none, fault := some x }
  | none =>
    match s.reaper.dropping.find? fun d => d.tag = tag with
    | some d =>
      let s := (reclaim s).noteFault d.addr 2 true (s.inTeardown d.order)
      { s with reaper := { s.reaper with dropping := s.reaper.dropping.filter fun x => x.tag ≠ d.tag } }
    | none => s

/-! ### Matching -/

/-- Each real entry claims the first unclaimed predicted entry with its value: for each predicted entry, the real entry
that claimed it (R214). -/
def claims (pred real : List Nat) : List (Option Nat) :=
  (real.zipIdx.foldl (fun (acc : List (Nat × Option Nat)) x =>
    let at_ := acc.findIdx fun p => p.1 = x.1 && p.2.isNone
    if at_ < acc.length then setAt acc at_ (x.1, some x.2) else acc) (pred.map fun v => (v, none))).map fun p => p.2

/-- A predicted piece moved to the place of the real entry that claimed it. -/
def claimPiece (f : Fetch) (cl : List (List (Option Nat))) (p : Piece) : Option Piece :=
  match f.descs[p.desc]? with
  | none => none
  | some d =>
    let eb := max 1 d.elemBytes
    ((cl.getD p.desc []).getD (p.pos / eb) none).map fun j => { p with pos := p.pos % eb + j * eb, spec := false }

/-- The prefetched work of one record matched with its real list, which is read at once (R214, R215, log entry 126). -/
def State.matchFetch (s : State) (t : Step) (f : Fetch) : State :=
  let real := { s.fillFetch { record := f.record, descs := f.descs } with fault := s.indexFault f.descs }
  let cl := mapIdxFrom (fun k (vals : List Nat) =>
    match f.descs[k]? with
    | some d => claims vals (s.indexList d d.indexAddr).2
    | none => []) 0 (f.predicted.getD [])
  let kept := f.pieces.filterMap (claimPiece f cl)
  let lost := f.pieces.filter fun p => (claimPiece f cl p).isNone
  let flying := lost.filterMap fun p => p.tag.map fun n => (⟨n, t.order, p.addr⟩ : Dropped)
  let todo := real.todo.filter fun p => !(kept.any fun q => q.desc = p.desc && q.pos = p.pos && q.addr = p.addr)
  let s : State := { s.chargeReads (s.listPieces f.descs) with reaper := { s.reaper with dropping := s.reaper.dropping ++ flying } }
  let s := (s.bump (aReaper 0x68) kept.length).bump (aReaper 0x6C) lost.length
  let s := s.modStep t.lane fun t => { t with fetches := t.fetches.map fun x =>
    if x.record = f.record ∧ x.predicted.isSome then { real with pieces := kept, todo := todo } else x }
  if real.fault.isSome then s else s.countIndexes t.lane f.record f.descs

/-- The matching at the dispatch of a DEP (R214). -/
def State.matchSpec (s : State) (lane : Nat) : State :=
  match s.stepOf lane with
  | none => s
  | some t =>
    (t.fetches.filter fun f => f.predicted.isSome).foldl (fun s f => s.matchFetch t f) s

end Sys2Proof.Machine
end

