-- ==== Sys2Proof/Machine/Tally.lean ====
section
/-!
DEFINITION. The Tallies and the Windrow (10): contributions into sum arrays in program order (R223 to R229), saturation
(R226), joins (R231 to R235), the completion of a STREAM (R312), epilogues with their statistics and the clip decision
(R236 to R244).
-/
namespace Sys2Proof.Machine

/-! ### Passes and their rows -/

/-- The pass of a record on a Furrow. -/
def Furrow.passOf (x : Furrow) (lane rec : Nat) : Option Pass := x.passes.find? fun p => p.lane = lane && p.record = rec

/-- The passes of a record, with their Furrows, ascending. -/
def State.passesOf (s : State) (lane rec : Nat) : List (Nat × Pass) :=
  (List.range 10).filterMap fun f => ((s.furrow f).passOf lane rec).map fun p => (f, p)

/-- The pass of a record on a Furrow changed. -/
def State.modPass (s : State) (f lane rec : Nat) (g : Pass → Pass) : State :=
  s.modFurrow f fun x => { x with passes := x.passes.map fun p => if p.lane = lane ∧ p.record = rec then g p else p }

/-- The chunk belongs to a record's row. -/
def Chunk.isRow (c : Chunk) (lane rec row : Nat) : Bool := c.lane = lane && c.record = rec && c.row = row

/-- A row of a pass has not been written to its sum, or sent on, yet (R225). -/
def State.rowOpen (s : State) (t : Step) (f : Nat) (p : Pass) (i : Nat) : Bool :=
  let x := s.furrow f
  decide (i < p.total) && (decide (p.sent ≤ i)
    || (x.sent ++ x.replays).any (fun c => c.isRow p.lane p.record i)
    || t.waits.any (fun w => w.record = p.record && w.furrow = f && w.row = i)
    || (p.mask ≠ 0 && t.joins.any fun j => j.mask = p.mask && j.slot = p.slot && j.row = i))

/-- A contribution to the bytes from `a` on has to wait for a row of an earlier STREAM (R225). -/
def State.mustWait (s : State) (t : Step) (rec a n : Nat) : Bool :=
  (List.range 10).any fun f => (s.furrow f).passes.any fun p =>
    let rb := p.u * 8
    let lo := (a - p.base) / rb
    p.lane = t.lane && decide (p.record < rec) && decide (0 < p.u) && decide (p.base < a + n)
      && (List.range ((a + n - 1 - p.base) / rb + 1 - lo)).any fun k => s.rowOpen t f p (lo + k)

/-- A dispatched STREAM. -/
def Step.streamAt (t : Step) (i : Nat) : Option StreamR :=
  match t.liveAt i with
  | none => none
  | some v => match v.op with
    | .stream r => some r
    | _ => none

/-- A dispatched STREAM that the Thresher has taken up. -/
def Step.runningStream (t : Step) (i : Nat) : Option StreamR :=
  match t.liveAt i with
  | none => none
  | some v => if v.started then t.streamAt i else none

/-! ### Staging -/

/-- Rows of joins at a Furrow's slot: those of its own pass, or those that have only come in. -/
def State.joinLines (s : State) (f : Nat) (own : Bool) : Nat :=
  let x := s.furrow f
  if x.role = 0 then (s.steps.map fun t => t.joins.countP fun j => j.slot = x.slot && j.own.isSome = own).sum else 0

/-- Staging lines a Furrow's Tally holds for passes, of 3,584 (R229): rows sent and not yet written or sent on. -/
def State.passLines (s : State) (f : Nat) : Nat :=
  let x := s.furrow f
  x.sent.length + x.replays.length + (s.steps.map fun t => t.waits.countP fun w => w.furrow = f).sum + s.joinLines f true

/-- Staging lines a Furrow's Tally holds for Windrow input, of the 512 kept for it (R229, log entry 127). -/
def State.windrowLines (s : State) (f : Nat) : Nat := s.joinLines f false

/-- Staging lines in use (R246). -/
def State.stagingUse (s : State) (f : Nat) : Nat := s.passLines f + s.windrowLines f

/-- The most lines in use is kept in PEAK (R246). -/
def State.notePeak (s : State) (f : Nat) : State :=
  s.setFld (aTally f 0x10) 16 13 (max (s.stagingUse f) (s.fld (aTally f 0x10) 16 13))

/-! ### Sums -/

/-- The largest magnitude of a sum (R226). -/
def satLimit : Int := 2 ^ 47 - 1

/-- A value lies outside the range of sums (R226). -/
def outOfSum (x : Int) : Bool := decide (x < -satLimit ∨ satLimit < x)

/-- Two rows added, each sum limited to its range; how many additions saturated: those whose exact result, or whose old sum,
lies outside the range (R226, R245). -/
def satAdd (a b : List Int) : List Int × Nat :=
  let v := List.zipWith (fun x y => (x, x + y)) a b
  (v.map fun x => clamp (-satLimit) satLimit x.2, v.countP fun x => outOfSum x.1 || outOfSum x.2)

/-- A row of sums as it stands in the Granary; none where a word fails its parity (R227, R245, R326). -/
def State.readSums (s : State) (a u : Nat) : List Int := (List.range u).map fun c => asSigned 48 (s.leAt (a + 8 * c) 6)

/-- A row of sums as bytes: an int48, sign-extended to 8 bytes (R227). -/
def sumBytes (v : List Int) : List Byte := v.flatMap fun x => le 8 (ofSigned 64 x)

/-- Saturations counted and kept, and the task aborts (R226). -/
def State.saturate (s : State) (lane f row rec n : Nat) : State :=
  if n = 0 then s
  else
    let s := ((s.bump (aTally f 0x40) n).setFld (aTally f 0x14) 0 20 row).setReg (aTally f 0x18) rec
    (s.setFld (aTally f 8) 3 1 1).abortStep lane { status := stTallySaturated, block := 0x20, inst := f, detail := row } rec

/-- A Tally read that fails its parity aborts the task (R326). -/
def tallyParity (f w : Nat) : Failure := { status := stMemUncorrectable, block := 0x20, inst := f, detail := w }

/-! ### Joins -/

/-- The entry of a join for a slot and row. -/
def Step.joinRow (t : Step) (mask slot row : Nat) : JoinRow :=
  (t.joins.find? fun j => j.mask = mask && j.slot = slot && j.row = row).getD ⟨mask, slot, row, none, none⟩

/-- The entry of a join for a slot and row removed. -/
def Step.dropJoin (t : Step) (mask slot row : Nat) : Step :=
  { t with joins := t.joins.filter fun j => !(j.mask = mask && j.slot = slot && j.row = row) }

/-- The entry of a join for a slot and row set. -/
def Step.putJoin (t : Step) (j : JoinRow) : Step :=
  let t := t.dropJoin j.mask j.slot j.row
  { t with joins := t.joins ++ [j] }

/-- The joining STREAM of a slot for a mask, once started, with its record. -/
def Step.joinStream (t : Step) (mask slot : Nat) : Option (Nat × StreamR) :=
  t.live.findSome? fun v => match v.op with
    | .stream r => if v.started && r.join ≠ 0 && r.chainMask = mask && r.slot = slot then some (v.idx, r) else none
    | _ => none

/-- The pass of a slot in a join, with its Furrow. -/
def State.joinPass (s : State) (t : Step) (mask slot : Nat) : Option (Nat × Pass) :=
  (t.joinStream mask slot).bind fun e => (s.passesOf t.lane e.1).head?

/-- The row of sums of a join written to the array of the member that writes it (R231). -/
def State.writeJoined (s : State) (t : Step) (mask slot row : Nat) (v : List Int) : State :=
  match s.joinPass t mask slot with
  | none => s
  | some (_, p) => s.writeMem (.lane t.lane) (p.base + row * p.u * 8) (sumBytes v)

/-- The record that a slot joins with, for the log of a saturation. -/
def Step.joinRec (t : Step) (mask slot : Nat) : Nat := ((t.joinStream mask slot).map fun e => e.1).getD 0

/-- The last member of a chain adds a row that has reached it to its own, and writes it (R231). -/
def State.closeChain (s : State) (lane mask row : Nat) : State :=
  match s.stepOf lane, (maskBits 8 mask).getLast? with
  | some t, some last =>
    match t.joinRow mask last row with
    | ⟨_, _, _, some own, some inc⟩ =>
      let r := satAdd inc own
      let s := s.writeJoined t mask last row r.1
      (s.modStep lane fun t => t.dropJoin mask last row).saturate lane ((s.furrowOf last).getD 0) row (t.joinRec mask last) r.2
    | _ => s
  | _, _ => s

/-- The member after a slot in a chain. -/
def nextMember (mask slot : Nat) : Option Nat := (maskBits 8 mask).find? fun n => slot < n

/-- The lowest row a chain member can send: its own is added, and the row before it has arrived unless it is the first
(R231, R234). -/
def Step.sendable (t : Step) (mask slot : Nat) : Option JoinRow :=
  let isFirst := decide ((maskBits 8 mask).head? = some slot)
  (t.joins.filter fun j => j.mask = mask && j.slot = slot && j.own.isSome && (isFirst || j.inc.isSome)).foldl
    (fun (best : Option JoinRow) j => match best with
      | none => some j
      | some b => if j.row < b.row then some j else some b) none

/-- A chain member sends a row on, once the next member has a line for it (R229, R231). -/
def State.chainHop (s : State) (lane rec mask slot : Nat) : State :=
  match s.stepOf lane, nextMember mask slot with
  | some t, some next =>
    match t.sendable mask slot with
    | none => s
    | some j =>
      let own := j.own.getD []
      let r := match j.inc with
        | none => (own, 0)
        | some inc => satAdd inc own
      let g := (s.furrowOf next).getD 0
      if (t.joinRow mask next j.row).own.isNone && decide (512 ≤ s.windrowLines g) then s
      else
        let s := s.modStep lane fun t => (t.dropJoin mask slot j.row).putJoin { t.joinRow mask next j.row with inc := some r.1 }
        ((s.notePeak g).saturate lane ((s.furrowOf slot).getD 0) j.row rec r.2).closeChain lane mask j.row
  | _, _ => s

/-- One level of a tree join: adjacent pairs added, an odd last carried; each pair keeps the slot of its lower member, with
the sums it limited (R231). -/
def treeLevel : List (Nat × List Int × Nat) → List (Nat × List Int × Nat)
  | a :: b :: t =>
    let r := satAdd a.2.1 b.2.1
    (a.1, r.1, r.2) :: treeLevel t
  | l => l.map fun a => (a.1, a.2.1, 0)

/-- The levels of a tree join of a row, with the saturations of each (R226, R231). -/
def State.treeLevels (lane mask row : Nat) : Nat → List (Nat × List Int × Nat) → State → State
  | 0, _, s => s
  | n + 1, l, s =>
    match s.stepOf lane, l with
    | some t, [a] =>
      let s := s.writeJoined t mask a.1 row a.2.1
      s.modStep lane fun t => (maskBits 8 mask).foldl (fun t slot => t.dropJoin mask slot row) t
    | some t, l =>
      let l := treeLevel l
      let s := l.foldl (fun s a => s.saturate lane ((s.furrowOf a.1).getD 0) row (t.joinRec mask a.1) a.2.2) s
      State.treeLevels lane mask row n l s
    | none, _ => s

/-- The lowest row that every member of a tree join has added. -/
def Step.treeReady (t : Step) (mask : Nat) : Option Nat :=
  ((t.joins.filter fun j => j.mask = mask && (maskBits 8 mask).all fun n => (t.joinRow mask n j.row).own.isSome).map fun j => j.row).min?

/-- A tree join of its lowest ready row (R231). -/
def State.treeHop (s : State) (lane mask : Nat) : State :=
  match s.stepOf lane with
  | none => s
  | some t =>
    match t.treeReady mask with
    | none => s
    | some row =>
      State.treeLevels lane mask row 9 ((maskBits 8 mask).map fun n => (n, ((t.joinRow mask n row).own.getD []), 0)) s

/-- Members of a join that differ in their row counts, found once a row beyond the shorter of the two exists (R233). -/
def State.joinMismatch (s : State) (t : Step) (mask : Nat) : Option (Nat × Nat × Nat) :=
  ((maskBits 8 mask).getLast?.bind fun last => s.joinPass t mask last).bind fun l =>
    (maskBits 8 mask).findSome? fun n => (s.joinPass t mask n).bind fun m =>
      if m.2.total ≠ l.2.total && t.joins.any (fun j => j.mask = mask && decide (min m.2.total l.2.total ≤ j.row)) then
        some (n, l.2.total, m.2.total)
      else none

/-- Members that deliver different numbers of row chunks abort the join (R233). -/
def State.checkJoin (s : State) (lane rec mask : Nat) : State :=
  match s.stepOf lane with
  | none => s
  | some t =>
    match s.joinMismatch t mask with
    | none => s
    | some (n, want, got) =>
      let v := want % 65536 * 65536 + got % 65536
      ((s.setReg (aWindrow 0x24) v).bump (aWindrow 0x20)).abortStep lane
        { status := stStreamSkew, block := 0x20, inst := 0x100 + n, detail := v } rec

/-! ### Contributions -/

/-- A contribution made: added into its sum, or kept for the Windrow (R223 to R226, R231). -/
def State.addRow (s : State) (lane : Nat) (w : WaitRow) : State :=
  match s.stepOf lane, (s.furrow w.furrow).passOf lane w.record with
  | some t, some p =>
    match t.streamAt w.record with
    | none => s
    | some r =>
      let a := p.base + w.row * p.u * 8
      match if r.acc = 1 then s.granaryBad a (8 * p.u) else none with
      | some bad => s.abortStep lane (tallyParity w.furrow bad) w.record
      | none =>
        let v := if r.acc = 1 then satAdd (s.readSums a p.u) w.vals else (w.vals, 0)
        let s := s.bump48 (aTally w.furrow 0x28) 1
        let s := if r.join = 0 then s.writeMem (.lane lane) a (sumBytes v.1)
          else s.modStep lane fun t => t.putJoin { t.joinRow p.mask w.slot w.row with own := some v.1 }
        let s := s.saturate lane w.furrow w.row w.record v.2
        if r.join = 0 then s
        else
          let s := if r.join = 1 then s.closeChain lane p.mask w.row else s
          s.checkJoin lane w.record p.mask
  | _, _ => s

/-- The bytes a row of sums takes. -/
def State.rowBytes (s : State) (lane : Nat) (w : WaitRow) : Nat × Nat :=
  match (s.furrow w.furrow).passOf lane w.record with
  | some p => (p.base + w.row * p.u * 8, 8 * p.u)
  | none => (0, 0)

/-- Rows that wait and no longer have to are added, in the order of their records (R225). -/
def State.retryWaits (lane : Nat) : Nat → State → State
  | 0, s => s
  | n + 1, s =>
    match s.stepOf lane with
    | none => s
    | some t =>
      match t.waits.find? fun w => !(s.mustWait t w.record (s.rowBytes lane w).1 (s.rowBytes lane w).2) with
      | none => s
      | some w =>
        State.retryWaits lane n
          ((s.modStep lane fun t => { t with waits := t.waits.filter fun x => !(x.record = w.record && x.furrow = w.furrow && x.row = w.row) }).addRow lane w)

/-- The rows that wait in a step. -/
def State.waitCount (s : State) (lane : Nat) : Nat := ((s.stepOf lane).map fun t => t.waits.length).getD 0

/-- Rows released from their waiting. -/
def State.freeWaits (s : State) (lane : Nat) : State := State.retryWaits lane (s.waitCount lane) s

/-- A confirmed row chunk reaches its Tally: added, or kept waiting for an earlier pass (R163, R225). -/
def State.contribute (s : State) (lane : Nat) (w : WaitRow) : State :=
  match s.stepOf lane with
  | none => s
  | some t =>
    let b := s.rowBytes lane w
    if s.mustWait t w.record b.1 b.2 then s.modStep lane fun t => { t with waits := t.waits ++ [w] }
    else (s.addRow lane w).freeWaits lane

/-! ### Completion of a STREAM -/

/-- Every member of a STREAM has confirmed its rows and added them. -/
def State.rowsAdded (s : State) (t : Step) (rec : Nat) : Bool :=
  (s.passesOf t.lane rec).all (fun p => p.2.confirmed = p.2.total) && t.waits.all fun w => w.record ≠ rec

/-- The join of a mask is complete: every member has added its rows and none is under way (R231, R312). -/
def State.joinDone (s : State) (t : Step) (mask : Nat) : Bool :=
  ((maskBits 8 mask).all fun n => match t.joinStream mask n with
    | some e => s.rowsAdded t e.1
    | none => false) && t.joins.all fun j => j.mask ≠ mask

/-- A STREAM is complete: every member's last sum is written, after its join (R312). -/
def State.streamDone (s : State) (t : Step) (v : Live) : Bool :=
  match v.op with
  | .stream r => v.started && s.rowsAdded t v.idx && (r.join = 0 || s.joinDone t r.chainMask)
  | _ => false

/-- The CHAIN_MASK and JOIN of a joining STREAM. -/
def Live.joinOf (v : Live) : Option (Nat × Nat) :=
  match v.op with
  | .stream r => if r.join = 0 then none else some (r.chainMask, r.join)
  | _ => none

/-- Complete STREAMs leave, with their passes, and completed joins are counted (R247, R312). -/
def State.finishStreams (s : State) (lane : Nat) : State :=
  match s.stepOf lane with
  | none => s
  | some t =>
    let done := t.live.filter (s.streamDone t)
    let joins := (done.filterMap Live.joinOf).eraseDups
    let s := joins.foldl (fun s j => let s := s.bump (aWindrow 0x14); if j.2 = 2 then s.bump (aWindrow 0x1C) else s) s
    let isDone (p : Pass) : Bool := p.lane = lane && done.any fun v => v.idx = p.record
    let s : State := { s with furrows := s.furrows.map fun x => { x with passes := x.passes.filter fun p => !isDone p } }
    done.foldl (fun s v => s.modStep lane fun t => t.complete v.idx) s

/-- The Reaper works on, STREAMs whose last sum is written complete, and freed lines are used (R208, R312). -/
def State.settle (s : State) : State :=
  let s := s.reap
  (s.steps.foldl (fun s t => s.finishStreams t.lane) s).reap

/-- READ_TAG_RETURN (R204, R216, R217). -/
def doReadTagReturn (e : TagEv) (s : State) : State := (s.tagReturn e).settle

/-- TAG_TIMEOUT (R205, R218). -/
def doTagTimeout (tag : Nat) (s : State) : State := (s.tagTimeout tag).settle

/-- WINDROW_HOP (R231, R234): the sending member of the record's join passes its lowest ready row on; a tree combines its
lowest ready row. -/
def doWindrowHop (lane rec : Nat) (s : State) : State :=
  match s.stepOf lane with
  | none => s
  | some t =>
    match t.runningStream rec with
    | none => s
    | some r =>
      if !s.works t || r.join = 0 then s
      else
        let s := if r.join = 1 then s.chainHop lane rec r.chainMask r.slot else s.treeHop lane r.chainMask
        (((s.checkJoin lane rec r.chainMask).freeWaits lane).finishStreams lane).settle

/-! ### Epilogues -/

/-- The named slots of an EPILOGUE, ascending. -/
def EpilogueR.slots (r : EpilogueR) : List Nat := maskBits 8 r.slotMask

/-- The rows of the i-th named slot: from, up to (R236). -/
def EpilogueR.rowsOf (r : EpilogueR) (i : Nat) : Nat × Nat :=
  let n := r.slots.length
  let rs := 256 * ((r.rows + 256 * n - 1) / (256 * n))
  (min (i * rs) r.rows, min ((i + 1) * rs) r.rows)

/-- What the i-th named slot reads (R237). -/
def EpilogueR.slotReads (r : EpilogueR) (i : Nat) : List (Nat × Nat) :=
  let b := r.rowsOf i
  let n := b.2 - b.1
  if n = 0 then []
  else
    [(r.sums + b.1 * r.columns * 8, n * r.columns * 8), (r.inScale, r.columns)]
      ++ (if r.flag 0 then [(r.tithe + b.1 * r.columns * 4, n * r.columns * 4)] else [])
      ++ (if r.flag 1 then [] else [(r.rs + 2 * b.1, 2 * n)])
      ++ (if r.flag 2 then (if r.flag 3 then [(r.bias + 2 * b.1, 2 * n)] else [(r.bias + 4 * b.1, 4 * n)]) else [])

/-- The first word with bad parity that the slots of an EPILOGUE read, with its slot. -/
def State.epiBad (s : State) (r : EpilogueR) : Option (Nat × Nat) :=
  r.slots.zipIdx.findSome? fun n => (r.slotReads n.2).findSome? fun g => (s.granaryBad g.1 g.2).map fun w => (n.1, w)

/-- The output of one element before conversion (R237, R238). -/
def State.epiElem (s : State) (r : EpilogueR) (row c : Nat) : Nat :=
  let x := fScale (fOfInt (asSigned 48 (s.leAt (r.sums + (row * r.columns + c) * 8) 6))) (scaleOf (s.leAt (r.inScale + c) 1) - 7)
  let x := if r.flag 0 then fAdd x (s.leAt (r.tithe + (row * r.columns + c) * 4) 4) else x
  let x := if r.flag 1 then x else fMul x (ofFp16 (s.leAt (r.rs + 2 * row) 2))
  let x := if r.flag 2 then fAdd x (if r.flag 3 then ofBf16 (s.leAt (r.bias + 2 * row) 2) else s.leAt (r.bias + 4 * row) 4) else x
  act r.act x

/-- The outputs by column. -/
def State.epiOut (s : State) (r : EpilogueR) : List (List Nat) :=
  (List.range r.columns).map fun c => (List.range r.rows).map fun row => s.epiElem r row c

/-- The codes of the outputs in ±cmax with the exponent S_OUT (R140, R141, R144). -/
def EpilogueR.codes (r : EpilogueR) (cmax : Nat) (ys : List (List Nat)) : List (List Code) :=
  ys.map fun col => col.map fun y => codeOf Q.rne (-(cmax : Int)) cmax 0 r.sOut y

/-- Clipped elements of a row range (R141). -/
def clippedRows (cs : List (List Code)) (b : Nat × Nat) : Nat := (cs.map fun col => clippedCount ((col.drop b.1).take (b.2 - b.1))).sum

/-- Columns of bytes written `stride` apart. -/
def State.writeColumns (s : State) (lane a stride : Nat) (cols : List (List Byte)) : State :=
  cols.zipIdx.foldl (fun s c => s.writeMem (.lane lane) (a + c.2 * stride) c.1) s

/-- Codes and scale bytes of a conversion written (R239). -/
def State.writeCodes (s : State) (lane : Nat) (r : EpilogueR) (bytes a stride : Nat) (cs : List (List Code)) : State :=
  (s.writeColumns lane a stride (cs.map fun col => col.flatMap fun c => le bytes (ofSigned (8 * bytes) c.val))).writeMem
    (.lane lane) r.outScale (List.replicate r.columns (BitVec.ofNat 8 (ofSigned 7 r.sOut)))

/-- The first conversion's outputs written (R239); its codes, none for fp32 and bf16. -/
def State.epiWrite (s : State) (lane : Nat) (r : EpilogueR) (ys : List (List Nat)) : List (List Code) × State :=
  match r.outFmt with
  | 0 => let cs := r.codes 127 ys; (cs, s.writeCodes lane r 1 r.out r.outStride cs)
  | 1 => let cs := r.codes 32767 ys; (cs, s.writeCodes lane r 2 r.out r.outStride cs)
  | 2 => ([], s.writeColumns lane r.out r.outStride (ys.map fun col => col.flatMap fun y => le 4 y))
  | _ => ([], s.writeColumns lane r.out r.outStride (ys.map fun col => col.flatMap fun y => le 2 (toBf16 y)))

/-- Elements converted and clipped counted in each Tally (R246); `rerun` counts the re-run too. -/
def State.countSlots (s : State) (r : EpilogueR) (cs : List (List Code)) (rerun : Bool) : State :=
  r.slots.zipIdx.foldl (fun s n =>
    let b := r.rowsOf n.2
    match s.furrowOf n.1 with
    | none => s
    | some f =>
      if b.1 = b.2 then s
      else
        let s := (s.bump48 (aTally f 0x30) ((b.2 - b.1) * r.columns)).bump (aTally f 0x38) (clippedRows cs b)
        if rerun then s.bump (aTally f 0x3C) else s) s

/-- Totals combined in adjacent pairs, level by level (R231, R244). -/
def pairTotals : List Nat → List Nat
  | a :: b :: t => fAdd a b :: pairTotals t
  | l => l

/-- The levels of a tree of totals. -/
def treeTotal : Nat → List Nat → Nat
  | 0, l => l.headD 0
  | _ + 1, [a] => a
  | n + 1, l => treeTotal n (pairTotals l)

/-- The sum of one column in the canonical order, or over a tree of the slots' totals (R243, R244). -/
def EpilogueR.total (r : EpilogueR) (tree : Bool) (v : List Nat) : Nat :=
  if tree then treeTotal 9 (r.slots.zipIdx.map fun n => chainsum ((v.drop (r.rowsOf n.2).1).take ((r.rowsOf n.2).2 - (r.rowsOf n.2).1)))
  else chainsum v

/-- The statistics of one column: SUM, SUMSQ, MEAN, VAR (R243). -/
def EpilogueR.statBytes (r : EpilogueR) (tree : Bool) (col : List Nat) : List Byte :=
  let sm := r.total tree col
  let sq := r.total tree (col.map fun y => fMul y y)
  let n := fOfInt r.rows
  let mean := fDiv sm n
  let var := fSub (fDiv sq n) (fMul mean mean)
  le 4 sm ++ le 4 sq ++ le 4 mean ++ le 4 (if fLt var 0 then 0 else var)

/-- The statistics of an EPILOGUE written and its join counted (R243, R244, R247). -/
def State.epiStats (s : State) (lane : Nat) (r : EpilogueR) (ys : List (List Nat)) : State :=
  if !r.flag 6 then s
  else
    let tree := r.flag 7 && !bitOf (s.reg (aWindrow 4)) 0
    let s := s.writeMem (.lane lane) r.stats (ys.flatMap (r.statBytes tree))
    if r.slots.length < 2 then s
    else
      let s := s.bump (aWindrow 0x18)
      if tree then s.bump (aWindrow 0x1C) else s

/-- An earlier record of a named slot, or of a join that ties a named slot to it, that an EPILOGUE waits for (R236, R311). -/
def EpilogueR.waitsFor (r : EpilogueR) (t : Step) (v : Live) : Bool :=
  match v.op with
  | .stream q => (groupOf 8 t.route q.slot).any (fun n => bitOf r.slotMask n) || q.chainMask &&& r.slotMask ≠ 0
  | .epilogue q => q.slotMask &&& r.slotMask ≠ 0
  | _ => false

/-- The clipped share exceeds the limit (R240, R241). -/
def EpilogueR.exceeds (r : EpilogueR) (c limit : Nat) : Bool := decide (limit * (r.rows * r.columns) < c * 65536)

/-- The EPILOGUE runs again in A16 (R240). -/
def EpilogueR.wideRun (r : EpilogueR) (c limit : Nat) : Bool := r.exceeds c limit && r.outFmt = 0 && r.flag 4

/-- What the re-run writes at OUT_WIDE (R240). -/
def EpilogueR.wideRanges (r : EpilogueR) : List (Nat × Nat) :=
  (List.range r.columns).map fun c => (r.outWide + c * r.outWideStride, 2 * r.rows)

/-- EPILOGUE (R236 to R244): the sums are converted, the outputs and statistics written. -/
def doEpilogue (lane rec : Nat) (s : State) : State :=
  match s.stepOf lane with
  | none => s
  | some t =>
    match t.liveAt rec with
    | some ⟨_, .epilogue r, false, _, _, _⟩ =>
      if !s.works t || t.live.any (fun v => decide (v.idx < rec) && r.waitsFor t v) then s
      else
        match s.epiBad r with
        | some (n, w) => s.abortStep lane (tallyParity ((s.furrowOf n).getD 0) w) rec
        | none =>
          let ys := s.epiOut r
          let w := s.epiWrite lane r ys
          let s := ((w.2.countSlots r w.1 false).epiStats lane r ys)
          let limit := if r.flag 5 then r.clipLimit else s.fld (aWindrow 0x10) 0 16
          let c := (w.1.map clippedCount).sum
          s.modStep lane fun t =>
            { t.modLive rec fun v => { v with started := true, clipped := some (c, limit) } with
              touched := t.touched ++ if r.wideRun c limit then r.wideRanges else [] }
    | _ => s

/-- The re-run of an EPILOGUE in A16 (R240); the elements it clipped, or the abort of a read that fails. -/
def State.epiRerun (s : State) (lane rec : Nat) (r : EpilogueR) : Nat × State :=
  match s.epiBad r with
  | some (n, w) => (0, s.abortStep lane (tallyParity ((s.furrowOf n).getD 0) w) rec)
  | none =>
    let cs := r.codes 32767 (s.epiOut r)
    ((cs.map clippedCount).sum, (s.writeCodes lane r 2 r.outWide r.outWideStride cs).countSlots r cs true)

/-- CLIP_DECISION (R240, R241): the clipped share is judged, a re-run made, the outcome word written; the record is
complete. -/
def doClipDecision (lane rec : Nat) (s : State) : State :=
  match s.stepOf lane with
  | none => s
  | some t =>
    match t.liveAt rec with
    | some ⟨_, .epilogue r, _, _, _, some (c, limit)⟩ =>
      if !s.works t then s
      else
        let exceeds := r.exceeds c limit
        let wide := r.wideRun c limit
        let w := if wide then s.epiRerun lane rec r else (0, s)
        let word := b2n wide + 2 * b2n exceeds + 4 * b2n (decide (w.1 ≠ 0)) + 256 * min c (2 ^ 24 - 1)
        let s := w.2.writeMem (.lane lane) r.outcome (le 4 word)
        (s.modStep lane fun t => { t.complete rec with clips := (rec, wide) :: t.clips }).settle
    | _ => s

end Sys2Proof.Machine
end

