-- ==== Sys2Proof/Machine/Furrow.lean ====
section
/-!
DEFINITION. The Furrows and the Thresher (07, 08): bay loads (R155 to R158, R267), passes and swaps (R159, R162), row
chunks with the skew check and multicast credit (R178 to R194), decisions and replays (R163 to R168), stall timeouts
(R173).
-/
namespace Sys2Proof.Machine

/-! ### Positions and tiles -/

/-- The position that stands for a position in a Furrow's column map (R118, R155). -/
def State.posOf (s : State) (f p : Nat) : Nat :=
  let m := s.reg (aFurrow f 0x14)
  if bitsOf m 0 8 = p then 65 else if bitsOf m 8 8 = p then 66 else if bitsOf m 16 8 = p then 67 else p

/-- The bay that the next load writes is Bay B: an empty bay first, Bay A before Bay B, else the older tile (R157, log
entry 13). -/
def Furrow.olderB (x : Furrow) : Bool :=
  match x.bayA, x.bayB with
  | none, _ => false
  | some _, none => true
  | some a, some b => decide (b.age < a.age)

/-- A bay holds the tile that a BAY_LOAD of a step loaded. -/
def isTile (o : Option Tile) (order rec : Nat) : Bool :=
  match o with
  | some t => t.step = order && t.record = rec
  | none => false

/-- The bay that holds a tile: true for Bay B; the younger where both do. -/
def Furrow.bayOf (x : Furrow) (order rec : Nat) : Option Bool :=
  match isTile x.bayA order rec, isTile x.bayB order rec with
  | true, true => some (!x.olderB)
  | true, false => some false
  | false, true => some true
  | false, false => none

/-- The tile in a bay. -/
def Furrow.tileIn (x : Furrow) (b : Bool) : Option Tile := if b then x.bayB else x.bayA

/-! ### Bay loads -/

/-- The tile code of input i from its source bytes (R267); z is the column's zero point. -/
def tileCode (part : Nat) (bytes : List Byte) (z i : Nat) : Nat :=
  let b (k : Nat) : Nat := (bytes.getD k 0).toNat
  match part with
  | 0 => b i
  | 1 => b (2 * i + 1)
  | 2 => b (2 * i)
  | 3 => ofSigned 16 ((b i : Int) - z) / 256
  | _ => ofSigned 16 ((b i : Int) - z) % 256

/-- Column c of the tile of the i-th slot of a BAY_LOAD: its codes, or the word that fails its parity (R296, R267). -/
def State.packColumn (s : State) (batch : Nat) (r : BayLoadR) (i c : Nat) : List Nat × Option Nat :=
  let b := r.col0 + i * r.colStep + c
  if batch ≤ b then (List.replicate 256 0, none)
  else
    let es := if r.part = 1 ∨ r.part = 2 then 2 else 1
    let a := r.src + b * r.colStride + 256 * (r.kchunk + i * r.kchunkStep) * es
    let bad := match s.granaryBad a (256 * es) with
      | some w => some w
      | none => if 3 ≤ r.part then s.granaryBad (r.zp + b) 1 else none
    let bytes := s.bytesAt a (256 * es)
    let z := if 3 ≤ r.part then s.leAt (r.zp + b) 1 else 0
    ((List.range 256).map (tileCode r.part bytes z), bad)

/-- A STREAM still needs a tile of a Furrow: its pass there is not confirmed (R157). -/
def State.tileBusy (s : State) (t : Step) (f idx : Nat) (o : Tile) : Bool :=
  o.step = t.order && t.live.any fun v => match v.op with
    | .stream r =>
      decide (v.idx < idx) && r.tile = o.record && (s.members t r.slot).any (fun m => m.2 = f)
        && (match (s.furrow f).passOf t.lane v.idx with
            | some p => decide (p.confirmed < p.total)
            | none => true)
    | _ => false

/-- A bay load of a record can begin on a Furrow: its loading path is free and the older tile is no longer used (R156,
R157). -/
def State.canLoad (s : State) (t : Step) (f idx : Nat) : Bool :=
  let x := s.furrow f
  x.fill.isNone && match x.tileIn x.olderB with
    | none => true
    | some o => !s.tileBusy t f idx o

/-- The two latest BAY_LOADs of a slot are kept for a resume (R317). -/
def keepLoads (slot idx : Nat) (l : List (Nat × Nat)) : List (Nat × Nat) :=
  let mine := (slot, idx) :: l.filter fun e => e.1 = slot
  mine.take 2 ++ l.filter fun e => e.1 ≠ slot

/-- The time in ns that a bay load takes in the present band of its Furrow (R156, R384). -/
def State.loadNs (s : State) (f : Nat) : Nat := if s.lantern.hot.contains f then 1300 else 1000

/-- A bay load begins on one slot (R155 to R158, R267). -/
def State.beginLoad (s : State) (t : Step) (idx : Nat) (r : BayLoadR) (slot f : Nat) : State :=
  let i := ((maskBits 8 r.slotMask).filter fun n => n < slot).length
  let cols := (List.range r.u).map (s.packColumn t.batch r i)
  match cols.findSome? fun c => c.2 with
  | some w => s.abortStep t.lane { status := stMemUncorrectable, block := 0x30, inst := 8 * slot, detail := w } idx
  | none =>
    let x := s.furrow f
    let ctl := s.reg (aFurrow f 4)
    let check := (if bitOf ctl 1 then bitsOf ctl 8 6 else x.rot) % max 1 r.u
    let tile : Tile := ⟨t.order, idx, r.part, cols.map fun c => c.1, check, x.loads⟩
    let b := x.olderB
    let s := s.setFurrow f { x with fill := some ⟨b, tile, s.loadNs f⟩, rot := (x.rot + 1) % 2 ^ 24, loads := x.loads + 1 }
    s.bump (aMill (8 * slot) 0x48)

/-- The reload of a slot that comes next at a resume: the two in program order (R317). -/
def Step.nextReload (t : Step) (slot : Nat) : Option Nat := ((t.restore.filter fun e => e.1 = slot).map fun e => e.2).min?

/-- Reloads of a record at a resume begin (R317). -/
def State.reloadBays (s : State) (t : Step) (rec : Nat) : State :=
  match s.readRec t rec with
  | .parity f => s.abortStep t.lane f rec
  | .ok (.bayLoad r) _ =>
    (List.range 8).foldl (fun s slot => match s.furrowOf slot with
      | some f => if t.nextReload slot = some rec && s.canLoad t f 0 then s.beginLoad t rec r slot f else s
      | none => s) s
  | _ => s

/-- The slots of a BAY_LOAD whose load can begin now: none of an earlier one waits there (R311). -/
def State.loadSlots (s : State) (t : Step) (rec : Nat) (todo : List Nat) : List (Nat × Nat) :=
  todo.filterMap fun slot => (s.furrowOf slot).bind fun f =>
    let earlier := t.live.any fun v => decide (v.idx < rec) && v.op.kind = 1 && v.todo.contains slot
    if !earlier && s.canLoad t f rec then some (slot, f) else none

/-- BAY_LOAD (R155 to R158, R296, R317): loads begin on every named slot that can take one. -/
def doBayLoad (lane rec : Nat) (s : State) : State :=
  match s.stepOf lane with
  | none => s
  | some t =>
    if !s.works t then s
    else if t.restore ≠ [] then s.reloadBays t rec
    else
      match t.liveAt rec with
      | some v => (match v.op with
        | .bayLoad r =>
          if s.lantern.hold.isSome && !v.started then s
          else
            (s.loadSlots t rec v.todo).foldl (fun (s : State) (e : Nat × Nat) =>
              let s := s.beginLoad t rec r e.1 e.2
              s.modStep lane fun t =>
                { t.modLive rec fun v => { v with started := true, todo := v.todo.filter fun n => n ≠ e.1 } with
                  loads := keepLoads e.1 rec t.loads }) s
        | _ => s)
      | none => s

/-- A list without one pair. -/
def dropPair (e : Nat × Nat) (l : List (Nat × Nat)) : List (Nat × Nat) := dropFirst e l

/-- A loaded bay completes its record, or the reload of a resume (R312, R317). -/
def State.bayLoaded (s : State) (slot : Nat) (tile : Tile) : State :=
  { s with steps := s.steps.map fun t =>
      if t.order ≠ tile.step then t
      else if t.restore.contains (slot, tile.record) then { t with restore := dropPair (slot, tile.record) t.restore }
      else
        let t := t.modLive tile.record fun v => { v with left := v.left.filter fun n => n ≠ slot }
        match t.liveAt tile.record with
        | some v => if v.left = [] then t.complete tile.record else t
        | none => t }

/-- BAY_LOAD_COMPLETE (R156): the bay holds its tile; LOAD_NS shows the time fixed when the load began (R384). -/
def doBayLoadComplete (f : Nat) (s : State) : State :=
  let x := s.furrow f
  match x.fill with
  | none => s
  | some b =>
    let x := if b.intoB then { x with bayB := some b.tile } else { x with bayA := some b.tile }
    let s := (s.setFurrow f { x with fill := none }).setReg (aFurrow f 0x20) b.ns
    (s.bayLoaded x.slot b.tile).settle

/-! ### Streams -/

/-- The columns U of the tile that a STREAM uses. -/
def State.tileU (s : State) (t : Step) (tile : Nat) : Nat :=
  match s.readRec t tile with
  | .ok (.bayLoad r) _ => r.u
  | _ => 0

/-- The code stream of a fetch: its index, its format, and its row chunks. -/
def Fetch.code (f : Fetch) : Nat × Nat × Nat :=
  match f.target 0 with
  | some (k, d) => (k, d.format, f.total k / chunkBytes d.format)
  | none => (0, 0, 0)

/-- Side bytes of a TARGET that a stream delivers. -/
def Fetch.sideTotal (f : Fetch) (target : Nat) : Nat :=
  match f.target target with
  | some (k, _) => f.total k
  | none => 0

/-- A STREAM_SKEW abort: the two sequences kept (R189, R190); `zp` for the zero-point stream. -/
def State.skew (s : State) (lane rec leader : Nat) (zp : Bool) (want got : Nat) : State :=
  let v := want % 65536 * 65536 + got % 65536
  let s := ((s.setReg (aThresher 0x20) v).setReg (aThresher 0x24) (leader + 8 * b2n zp)).bump (aThresher 0x38)
  s.abortStep lane { status := stStreamSkew, block := 3, inst := leader, detail := v } rec

/-- Side bytes that stand beyond the last row chunk: the stream and the sequence of their block (R190). -/
def Fetch.leftover (f : Fetch) : Option (Bool × Nat) :=
  let c := f.code
  let block := c.2.2 / chunksPerBlock c.2.1
  if c.2.2 < f.sideTotal 1 then some (false, block)
  else if c.2.1 = 1 ∧ c.2.2 < f.sideTotal 2 then some (true, block)
  else none

/-- The ranges that a STREAM of n row chunks writes with tiles of u columns: the array of every member, and of a join only that
of the member that writes it (R227, R231, R319). -/
def StreamR.writeRanges (r : StreamR) (u n members : Nat) : List (Nat × Nat) :=
  let writer := if r.join = 1 then (maskBits 8 r.chainMask).getLast? else (maskBits 8 r.chainMask).head?
  if r.join ≠ 0 ∧ writer ≠ some r.slot then []
  else (List.range members).map fun m => (r.sums + m * r.sumsStride, n * u * 8)

/-- A STREAM is taken up: a pass for every member, with its own sum array (R184, R227, R297); an empty one is counted
(R228). -/
def State.startStream (s : State) (t : Step) (v : Live) (r : StreamR) (f : Fetch) : State :=
  let u := s.tileU t r.tile
  let n := f.code.2.2
  let s := (s.members t r.slot).zipIdx.foldl (fun (s : State) (m : (Nat × Nat) × Nat) =>
    let p : Pass := { lane := t.lane, record := v.idx, slot := m.1.1, tile := r.tile, u := u, base := r.sums + m.2 * r.sumsStride, mask := r.chainMask, total := n }
    let s := s.modFurrow m.1.2 fun x => { x with passes := x.passes ++ [p] }
    if n = 0 then s.bump (aTally m.1.2 0x44) else s) s
  let s := s.modStep t.lane fun t =>
    { t.modLive v.idx fun v => { v with started := true } with touched := t.touched ++ r.writeRanges u n (s.members t r.slot).length ++ f.dests }
  let s := if r.join = 0 then s else s.checkJoin t.lane v.idx r.chainMask
  match if n = 0 then f.leftover else none with
  | some (zp, block) => s.skew t.lane v.idx r.slot zp 0xFFFF block
  | none => s.finishStreams t.lane

/-- The work of a record begun, if run-ahead has not reached it (R198, R209). -/
def State.ensureFetch (s : State) (t : Step) (rec : Nat) : State :=
  if (t.fetchOf rec).isSome then s
  else
    match s.readRec t rec with
    | .ok _ ds => s.beginFetch t.lane rec ds
    | .parity f => s.abortStep t.lane f rec
    | .none => s

/-- STREAM (R184, R297, R311): Reaper and Thresher take up their records in program order, and this one once its index lists
have been read. -/
def doStream (lane rec : Nat) (s : State) : State :=
  match s.stepOf lane with
  | none => s
  | some t =>
    match t.liveAt rec with
    | some v => (match v.op with
      | .stream r =>
        let earlier := t.live.any fun w => decide (w.idx < rec) && (((w.op.kind = 2 || w.op.kind = 8) && !w.started) || w.op.kind = 9)
        if !s.works t || v.started || earlier || t.restore ≠ [] || s.lantern.hold.isSome then s
        else
          let s := (s.ensureFetch t rec).settle
          (match (s.stepOf lane).bind fun t => t.fetchOf rec with
          | none => s
          | some f => if !f.ready then s else match f.fault with
            | some x => s.abortStep lane x rec
            | none => (s.startStream t v r f).settle)
      | _ => s)
    | none => s

/-! ### Passes -/

/-- The next pass of a Furrow: every earlier one has been sent whole (R159). -/
def Furrow.nextPass (x : Furrow) : Option Pass :=
  match x.passes.find? fun p => p.sent < p.total with
  | some p => if p.started then none else some p
  | none => none

/-- The class code of a symbol that sends something, by the address offset of its counter (R171, R176). -/
def sentClass (off : Nat) : Nat := if off = 0x70 then 8 else if off = 0x78 then 9 else 3

/-- Symbols counted in a class of a Furrow, by the address offset of its counter (R171, R172). BUSY, SWAP and REPLAY are the
activity of R345, and set the stall timer to 0 (R173). -/
def State.countSymbols (s : State) (f off n : Nat) : State :=
  (s.bump48 (aFurrow f off) n).modFurrow f fun x =>
    if off = 0x70 ∨ off = 0x78 ∨ off = 0x48 then
      { x with symbols := x.symbols + n, work := x.work + n, sending := sentClass off, stall := 0 }
    else { x with symbols := x.symbols + n }

/-- The light of a Furrow turned to a bay; a waiting decision set becomes current (R159, R162, R368). -/
def State.light (s : State) (f : Nat) (b : Bool) : State := (s.modFurrow f fun x => { x with litB := b }).swapSet f

/-- A bay swap before a pass: 28 symbol clocks (R159). -/
def State.swapBay (s : State) (f : Nat) (b : Bool) : State := (s.countSymbols f 0x78 28).light f b

/-- The status of the last abort a Furrow caused (R176). -/
def State.noteCause (s : State) (f status : Nat) : State := s.setReg (aFurrow f 0xA8) status

/-- STALL_TIMEOUT on a Furrow (R173, R174): DETAIL names the record in dispatch. -/
def State.stallAbort (s : State) (t : Step) (f cause : Nat) : State :=
  (s.noteCause f stStallTimeout).abortStep t.lane
    { status := stStallTimeout, block := 0x10, inst := f, cause := cause, detail := t.cur } t.cur

/-- A bay swap that brings no light retires the Furrow and aborts the step (R174, case 2). -/
def State.darkSwap (s : State) (t : Step) (f : Nat) : State := (s.setReg (aFurrow f 0xAC) 2).stallAbort t f 1

/-- PASS_START (R159, R162): the next pass begins, with a swap where it needs one. A swap that brings no light retires the
Furrow (R174, case 2). -/
def doPassStart (f : Nat) (light : Bool) (s : State) : State :=
  let x := s.furrow f
  match x.nextPass with
  | none => s
  | some p =>
    match s.stepOf p.lane with
    | none => s
    | some t =>
      match x.bayOf t.order p.tile with
      | none => s
      | some b =>
        if !s.works t || x.unlocked || x.replays ≠ [] || s.lantern.hold.isSome then s
        else
          let swap := x.fresh || b ≠ x.litB
          if swap && !light then s.darkSwap t f
          else
            let s := if swap then s.swapBay f b else s
            let fits := (s.win f).current
            (s.modFurrow f fun x => { x with fresh := false }).modPass f p.lane p.record fun p => { p with started := true, fits := fits }

/-! ### Row chunks -/

/-- Row chunks that wait in the buffer of a Furrow's feed row (R192). -/
def Furrow.buffered (x : Furrow) : Nat := (x.passes.map fun p => p.fed - p.sent).sum

/-- A member gives credit for one row chunk: its buffer has a free entry, and the tile that the row chunk needs is loaded
(R192). -/
def State.givesCredit (s : State) (order lane rec f : Nat) : Bool :=
  let x := s.furrow f
  decide (x.buffered < s.fld (aThresher 4) 0 6) && match x.passOf lane rec with
    | some p => (x.bayOf order p.tile).isSome
    | none => false

/-- A member can take its next row chunk: its pass has started, nothing has to be replayed, no loop is lost, its Tally has a
staging line, and in a group of several the row chunk stands in its buffer (R165, R167, R192, R229). -/
def State.canTake (s : State) (lane rec f : Nat) : Bool :=
  let x := s.furrow f
  (match x.passOf lane rec with
   | some p => p.started && decide (p.sent < p.total) && (decide (p.sent < p.fed) || decide ((s.passesOf lane rec).length < 2))
   | none => false) && !x.unlocked && x.replays = [] && decide (s.passLines f < 3584)

/-! ### The class of a symbol that sends nothing (R171) -/

/-- Some STREAM before the next GATE or END still has a pass for a slot. -/
def State.passAhead (s : State) (t : Step) (slot : Nat) : Nat → Nat → Bool
  | 0, _ => false
  | k + 1, i =>
    match s.readRec t i with
    | .ok (.gate _) _ => false
    | .ok (.fin _) _ => false
    | .ok (.stream r) _ => if (groupOf 8 t.route r.slot).contains slot then true else s.passAhead t slot k (i + 1)
    | .ok op _ => s.passAhead t slot k (i + op.size)
    | _ => false

/-- A GATE or END waits to open (R314). -/
def Step.atGate (t : Step) : Bool := t.live.any fun v => v.op.kind = 6 || v.op.kind = 10

/-- A slot has a further pass before the next Gate: in a STREAM dispatched and not taken up, or in one still to be
dispatched (R171). -/
def State.morePasses (s : State) (t : Step) (slot : Nat) : Bool :=
  (t.live.any fun v => !v.started && match v.op with
    | .stream r => (groupOf 8 t.route r.slot).contains slot
    | _ => false) || (!t.atGate && s.passAhead t slot (t.slots - t.next) t.next)

/-- A Furrow is ready and its group's stream waits for credit from another member (R171, R193). -/
def State.mcastWaits (s : State) (t : Step) (f : Nat) (p : Pass) : Bool :=
  decide (p.fed ≤ p.sent) && s.givesCredit t.order p.lane p.record f
    && (s.passesOf p.lane p.record).any fun m => m.1 ≠ f && !s.givesCredit t.order p.lane p.record m.1

/-- The stall cause code of an active Furrow that sends nothing, in the order of precedence of R171 (log entry 20). A supply
hold counts from the end of the Furrow's pass with its replays (R396). -/
def State.stallClass (s : State) (f : Nat) : Nat :=
  let x := s.furrow f
  let openPass := x.passes.find? fun p => decide (p.sent < p.total)
  if s.lantern.hold.isSome ∧ x.replays = [] ∧ !(openPass.any fun p => p.started) then 7
  else if x.unlocked ∨ x.replays.any (fun c => c.lockRedo) then 4
  else
    match s.reaper.holder.bind s.stepOf with
    | none => 6
    | some t =>
      if openPass.isNone ∧ !s.morePasses t x.slot then 6
      else if 3584 ≤ s.passLines f ∨ t.waits.any (fun w => w.furrow = f) then 5
      else match openPass with
        | none => 1
        | some p =>
          if (x.bayOf t.order p.tile).isNone then 1
          else if s.mcastWaits t f p then 2
          else 0

/-! ### Gaps for the Winnow -/

/-- A Furrow stands in a gap: the device is outside RUN, or the Furrow sends nothing and its symbols are classed BAY_FILL or
GATE_WAIT, a bay load that is not hidden among them (R375). -/
def State.inGap (s : State) (f : Nat) : Bool :=
  s.dev ≠ .run || ((s.furrow f).symbols = 0 && (s.stallClass f = 1 || s.stallClass f = 6))

/-- The fit engine fits one slice of the run that is due first. A slice starts only in a gap of that Furrow (R375). -/
def doWinnowFitSlice (s : State) : State :=
  match s.fitting with
  | none => s
  | some f => if s.inGap f then s.fitSlice f else s

/-- Byte k of a side stream: none once it has ended. -/
def Fetch.sideByte (f : Fetch) (target k : Nat) : Option (Option Byte) :=
  match f.target target with
  | none => none
  | some (i, _) => if k < f.total i then some (f.byte i k) else none

/-- What the next row chunk of a STREAM finds (R189, R190, R202, R216). -/
inductive ChunkNow where
  | wait
  | skew (zp : Bool) (want got : Nat)
  | bad (f : Failure)
  | chunk (bytes : List Byte) (exps zp : Nat)

/-- The mark of any of the bytes of row chunk k. -/
def Fetch.chunkMark (f : Fetch) (k : Nat) : Option Failure :=
  let c := f.code
  match f.mark c.1 (k * chunkBytes c.2.1) (chunkBytes c.2.1) with
  | some x => some x
  | none =>
    match (f.target 1).bind fun d => f.mark d.1 k 1 with
    | some x => some x
    | none => if c.2.1 = 1 then (f.target 2).bind fun d => f.mark d.1 k 1 else none

/-- Row chunk k as it arrives, with its side bytes. At the first of a block the block sequences are compared, those of the
side streams running ahead of the codes' by the given numbers of blocks (R188 to R190). -/
def Fetch.chunkAt (f : Fetch) (k expOff zpOff : Nat) : ChunkNow :=
  let c := f.code
  let block := k / chunksPerBlock c.2.1
  let first := decide (k % chunksPerBlock c.2.1 = 0)
  match f.chunkMark k with
  | some x => .bad x
  | none =>
    if f.sideTotal 1 ≤ k then .skew false block 0xFFFF
    else if c.2.1 = 1 ∧ f.sideTotal 2 ≤ k then .skew true block 0xFFFF
    else
      match f.slice c.1 (k * chunkBytes c.2.1) (chunkBytes c.2.1), f.sideByte 1 k, (if c.2.1 = 1 then f.sideByte 2 k else some (some 0)) with
      | some bytes, some (some e), some (some z) =>
        if first ∧ expOff % 65536 ≠ 0 then .skew false block (block + expOff)
        else if first ∧ c.2.1 = 1 ∧ zpOff % 65536 ≠ 0 then .skew true block (block + zpOff)
        else .chunk bytes e.toNat z.toNat
      | _, _, _ => .wait

/-- The encoder's escapes in a row chunk (R179). -/
def escapes (fmt : Nat) (bytes : List Byte) : Nat := (List.range 256).countP fun i => isEscape fmt (rawCode fmt bytes i)

/-- A row chunk that no member of its group has been sent yet goes through the encoder, and its bytes are delivered (R179). -/
def State.encode (s : State) (fmt : Nat) (bytes : List Byte) : State :=
  ((s.bump (aThresher 0x30) (escapes fmt bytes)).bump (aThresher 0x34)).bump48 (aReaper 0x48) (chunkBytes fmt + (if fmt = 1 then 2 else 1))

/-- A row chunk sent on one member (R179, R180): its planes are BUSY symbols there. -/
def State.sendOn (s : State) (lane rec f row fmt : Nat) (bytes : List Byte) (exps zp : Nat) : State :=
  let vals := (List.range 256).map fun i => sentValue fmt zp i (rawCode fmt bytes i)
  let c : Chunk := { lane := lane, record := rec, row := row, fmt := fmt, sent := vals, exps := exps }
  let s := s.modFurrow f fun x => { x with sent := x.sent ++ [c], withheld := none }
  ((s.modPass f lane rec fun p => { p with sent := row + 1, fed := max p.fed (row + 1) }).countSymbols f 0x70 (planesOf fmt)).notePeak f

/-- The row chunks that have left the look-ahead buffer for the feed rows of a stream. -/
def State.noteDelivered (s : State) (lane rec k : Nat) : State :=
  s.modStep lane fun t => t.modFetch rec fun f => { f with delivered := max f.delivered k }

/-- The next row chunk of a member: sent if it can be taken, or the abort that its block or its lines bring (R189 to R191,
R216). A skew goes before a replay that waits. -/
def State.arriveOn (s : State) (lane rec : Nat) (ev : ArrivalEv) (f : Nat) : State :=
  match (s.stepOf lane).bind fun t => t.fetchOf rec, (s.furrow f).passOf lane rec with
  | some x, some p =>
    if !p.started || decide (p.total ≤ p.sent) then s
    else
      match x.chunkAt p.sent ev.expOff ev.zpOff with
      | .skew zp want got => s.skew lane rec ev.leader zp want got
      | .wait => s
      | .bad m => if s.canTake lane rec f then s.abortStep lane m rec else s
      | .chunk bytes e z =>
        if s.canTake lane rec f then
          let new := (s.passesOf lane rec).all fun m => decide (m.2.sent ≤ p.sent)
          let s := if new then s.encode x.code.2.1 bytes else s
          (s.sendOn lane rec f p.sent x.code.2.1 bytes e z).noteDelivered lane rec (p.sent + 1)
        else s
  | _, _ => s

/-- Side bytes that are left when the codes have ended, found once the last row chunk is sent (R190). -/
def State.checkEnd (s : State) (lane rec leader : Nat) : State :=
  match (s.stepOf lane).bind fun t => t.fetchOf rec with
  | none => s
  | some x =>
    if (s.passesOf lane rec).any fun m => decide (m.2.total ≤ m.2.sent) then
      match x.leftover with
      | some (zp, block) => s.skew lane rec leader zp 0xFFFF block
      | none => s
    else s

/-- ROW_CHUNK_ARRIVAL (R179, R180, R188 to R192): the next row chunk of a STREAM is sent on every member that can take it. -/
def doRowChunkArrival (lane rec : Nat) (ev : ArrivalEv) (s : State) : State :=
  match s.stepOf lane with
  | none => s
  | some t =>
    match t.runningStream rec, t.fetchOf rec with
    | some r, some _ =>
      let ms := s.passesOf lane rec
      if !s.works t || r.slot ≠ ev.leader || ms = [] then s
      else ((ms.foldl (fun s m => s.arriveOn lane rec ev m.1) s).checkEnd lane rec r.slot).settle
    | _, _ => s

/-- MCAST_CREDIT (R192, R193): when every member gives credit, the shared stream moves its next row chunk into all their
buffers; a member that withholds is noted with the tick since which it does. -/
def doMcastCredit (lane rec leader : Nat) (s : State) : State :=
  match s.stepOf lane with
  | none => s
  | some t =>
    match t.runningStream rec, t.fetchOf rec with
    | some r, some x =>
      let ms := s.passesOf lane rec
      if !s.works t || r.slot ≠ leader || ms.length < 2 then s
      else
        let gives (f : Nat) : Bool := s.givesCredit t.order lane rec f
        let s' := ms.foldl (fun s m => s.modFurrow m.1 fun x =>
          { x with withheld := if gives m.1 then none else some (x.withheld.getD s.clocks.tick) }) s
        let k := ((ms.map fun m => m.2.fed).max?).getD 0
        let there := match x.chunkAt k 0 0 with
          | .wait => false
          | _ => true
        if ms.all (fun m => gives m.1) && there && decide (k < x.code.2.2) then
          (ms.foldl (fun s m => s.modPass m.1 lane rec fun p => { p with fed := k + 1 }) s').noteDelivered lane rec (k + 1)
        else s'
    | _, _ => s

/-- The member that has withheld credit longest, ties to the lower Furrow (R194). -/
def State.slowMember (s : State) (ms : List Nat) : Option Nat :=
  (ms.filter fun f => (s.furrow f).withheld.isSome).foldl (fun best f => match best with
    | none => some f
    | some b => if ((s.furrow f).withheld.getD 0) < ((s.furrow b).withheld.getD 0) then some f else some b) none

/-- The stall timer of an active Furrow has reached the limit of the step on the engines (R173). -/
def State.stallDue (s : State) (t : Step) (f : Nat) : Bool :=
  decide ((s.furrow f).role = 0) && decide (t.stallMs * 14000000 ≤ (s.furrow f).stall)

/-- A Furrow's stall timer has run out: the class of the last symbol it counted is the cause, and a lock stall retires the
Furrow (R173, R174, case 5). -/
def State.stallOut (s : State) (t : Step) (f : Nat) : State :=
  let c := (s.furrow f).cause
  (if c = 4 then s.setReg (aFurrow f 0xAC) 5 else s).stallAbort t f c

/-- MCAST_TIMEOUT (R194): suspended during a supply hold and while every member that withholds waits for a lock. A stall
timeout that falls due with it goes first (R195). -/
def doMcastTimeout (lane rec leader : Nat) (s : State) : State :=
  match s.stepOf lane with
  | none => s
  | some t =>
    match t.runningStream rec with
    | none => s
    | some r =>
      let ms := (s.passesOf lane rec).map fun m => m.1
      if !s.works t || r.slot ≠ leader || ms.length < 2 || s.lantern.hold.isSome then s
      else
        match s.slowMember ms with
        | none => s
        | some f =>
          if ms.all fun g => (s.furrow g).withheld.isNone || s.stallClass g = 4 then s
          else
            match s.activeFurrows.find? (s.stallDue t) with
            | some g => s.stallOut t g
            | none =>
              ((s.setReg (aThresher 0x28) f).bump (aThresher 0x40)).abortStep lane
                { status := stMcastTimeout, block := 0x10, inst := f } rec

/-- STALL_TIMEOUT (R173): the stall timer of a Furrow has reached its limit, and the class of the last symbol is the cause
that the event names. -/
def doStallTimeout (f cause : Nat) (s : State) : State :=
  match s.reaper.holder.bind s.stepOf with
  | none => s
  | some t => if !s.works t || !s.stallDue t f || (s.furrow f).cause ≠ cause then s else s.stallOut t f

/-! ### Decisions -/

/-- The number of a detector (16). -/
def detNumber (pos plane seg : Nat) : Nat := (pos * 8 + plane) * 2 + seg

/-- The sample of a detector in symbol p, where it differs from the code of its true count. -/
def sampleAt (devs : List SampleDev) (p pos q seg : Nat) : Option SampleDev :=
  devs.find? fun d => d.sym = p && d.pos = pos && d.plane = q && d.seg = seg

/-- What the quantiser returns for a detector in symbol p; none is AMBIGUOUS. A sample that the event does not list
returns its true count (R160, R161). -/
def decideSample (fits : List DetFit) (devs : List SampleDev) (sent : List Int) (codes : List Nat) (p pos q seg : Nat) : Option Nat :=
  match sampleAt devs p pos q seg with
  | none => some (detCount sent codes p q seg)
  | some d => (fitOf fits (detNumber pos q seg)).bind fun fit => quantise fit d.code d.under d.beyond

/-- Every plane of a symbol's detectors at one position, plane by plane, segment by segment. -/
def planeSegs : List (Nat × Nat) := (List.range 8).flatMap fun q => [(q, 0), (q, 1)]

/-- One attempt of a row chunk at a Furrow: the tile's columns with their positions, and what each sample gave. -/
structure Attempt where
  planes : Nat
  fits : List DetFit
  devs : List SampleDev
  sent : List Int
  /-- Position and codes of each logical column. -/
  cols : List (Nat × List Nat)
  /-- Position of the check column, and the column it repeats. -/
  check : Nat × Nat

/-- What one sample of an attempt gives. -/
def Attempt.sample (a : Attempt) (p : Nat) (col : Nat × List Nat) (q seg : Nat) : Option Nat :=
  decideSample a.fits a.devs a.sent col.2 p col.1 q seg

/-- The check column, as it lies at its position. -/
def Attempt.checkCol (a : Attempt) : Nat × List Nat := (a.check.1, (a.cols.getD a.check.2 (0, [])).2)

/-- Some sample at a position in use is AMBIGUOUS (R163). -/
def Attempt.ambiguous (a : Attempt) : Bool :=
  (a.checkCol :: a.cols).any fun col => (List.range a.planes).any fun p => planeSegs.any fun x => (a.sample p col x.1 x.2).isNone

/-- The first pair of detectors that disagree: activation plane and segment (R164, R176). -/
def Attempt.mismatch (a : Attempt) : Option (Nat × Nat) :=
  let rep := a.cols.getD a.check.2 (0, [])
  (List.range a.planes).findSome? fun p => planeSegs.find? fun x =>
    match a.sample p rep x.1 x.2, a.sample p a.checkCol x.1 x.2 with
    | some m, some n => m ≠ n
    | _, _ => false

/-- A sample that came out at a wrong count: activation plane and segment. R16 has no such sample pass: the check column
catches it, so that it stands as a mismatch (log entry 128). -/
def Attempt.wrong (a : Attempt) : Option (Nat × Nat) :=
  (a.checkCol :: a.cols).findSome? fun col => (List.range a.planes).findSome? fun p => planeSegs.find? fun x =>
    match a.sample p col x.1 x.2 with
    | some k => k ≠ detCount a.sent col.2 p x.1 x.2
    | none => false

/-- The contribution of one column (R130, R223, R224). -/
def Attempt.value (a : Attempt) (part exps : Nat) (col : Nat × List Nat) : Int :=
  let seg (k : Nat) : Int := segSum a.planes (part = 2) fun p q => (a.sample p col q k).getD 0
  let v := seg 0 * 2 ^ (exps % 16) + seg 1 * 2 ^ (exps / 16)
  if part = 1 then v * 256 else v

/-- The samples of an attempt for the Winnow: detector, count, code; UNDER samples are left out (R370). -/
def Attempt.samples (a : Attempt) : List (Nat × Nat × Nat) :=
  (a.checkCol :: a.cols).flatMap fun col => (List.range a.planes).flatMap fun p => planeSegs.filterMap fun x =>
    match a.sample p col x.1 x.2 with
    | none => none
    | some k =>
      let det := detNumber col.1 x.1 x.2
      match sampleAt a.devs p col.1 x.1 x.2 with
      | some d => if d.under then none else some (det, k, d.code)
      | none => some (det, k, match fitOf a.fits det with | some fit => nominalCode fit k | none => k)

/-- The attempt of a sent row chunk on a Furrow. -/
def State.attempt (s : State) (f : Nat) (p : Pass) (tile : Tile) (c : Chunk) (devs : List SampleDev) : Attempt where
  planes := planesOf c.fmt
  fits := p.fits
  devs := devs
  sent := c.sent
  cols := tile.codes.zipIdx.map fun x => (s.posOf f x.2, x.1)
  check := (s.posOf f 64, tile.check)

/-- The source of a Furrow that stands below its fade critical level (R165). -/
def State.criticalSource (s : State) (f : Nat) : Option Nat := (s.sourcesOf f).find? fun n => (s.source n).fade = 2

/-- A Furrow's abort of class R174, case 3. -/
def State.furrowAbort (s : State) (lane f rec : Nat) (x : Failure) : State :=
  match s.stepOf lane with
  | none => s
  | some t => if t.failure.isNone then (s.noteAbort f x.status).abortStep lane { x with block := 0x10, inst := f } rec else s

/-- The limit of R165 is reached: SOURCE_FADE while a source of the Furrow is critical and the attempt is ambiguous, else
AMBIGUITY_LIMIT (R78). DESIGN CHOICE (log entry 129): an attempt on replay 4 that is ambiguous and a first check mismatch
too fits two rows of R165, and the first of them holds. -/
def State.limitAbort (s : State) (lane f rec : Nat) (ambiguous : Bool) : State :=
  match if ambiguous then s.criticalSource f else none with
  | some n => s.furrowAbort lane f rec { status := stSourceFade, detail := n }
  | none => s.furrowAbort lane f rec { status := stAmbiguityLimit, detail := rec }

/-- The lowest row of a STREAM that a member has not confirmed. -/
def State.lowRow (s : State) (f lane rec : Nat) : Nat :=
  let x := s.furrow f
  let open_ := ((x.sent ++ x.replays).filter fun c => c.lane = lane && c.record = rec).map fun c => c.row
  match x.passOf lane rec with
  | some p => min p.sent (open_.min?.getD p.sent)
  | none => 0

/-- Look-ahead lines of row chunks that every member has confirmed are freed (R165, R208). -/
def State.freeLines (s : State) (lane rec : Nat) : State :=
  let low := (((s.passesOf lane rec).map fun m => s.lowRow m.1 lane rec).min?).getD 0
  s.modStep lane fun t => t.modFetch rec fun f => { f with pieces := f.pieces.filter fun p =>
    match f.descs[p.desc]? with
    | some d => if d.target = 3 then true else decide ((if d.target = 0 then low * chunkBytes d.format else low) < p.pos + p.used)
    | none => true }

/-- A row chunk is confirmed: its counts go to the Tally, and a pass whose last row chunk this is counts (R163). -/
def State.confirm (s : State) (f : Nat) (p : Pass) (c : Chunk) (part : Nat) (a : Attempt) : State :=
  let s := s.modFurrow f fun x => { x with sent := x.sent.filter fun y => !(y.isRow c.lane c.record c.row) }
  let s := s.modPass f c.lane c.record fun p => { p with confirmed := p.confirmed + 1 }
  let s := if p.confirmed + 1 = p.total then s.bump (aFurrow f 0xA0) else s
  let s := if ((s.win f).run.map fun r => r.live).getD false then s.collect f a.samples else s
  let vals := a.cols.map (a.value part c.exps)
  let s := s.contribute c.lane ⟨c.record, p.slot, f, c.row, vals⟩
  ((s.freeLines c.lane c.record).freeWaits c.lane).finishStreams c.lane

/-- A row chunk has to be sent again, in the order of the decisions (R165, R166). -/
def State.queueReplay (s : State) (f : Nat) (c : Chunk) : State :=
  s.modFurrow f fun x =>
    { x with sent := x.sent.filter fun y => !(y.isRow c.lane c.record c.row), replays := x.replays ++ [{ c with lockRedo := false }] }

/-- The outcome of an attempt that is ambiguous, or has a check mismatch (R164, R165, R176). -/
def State.refuse (s : State) (f : Nat) (tile : Tile) (c : Chunk) (ambiguous : Bool) (mm : Option (Nat × Nat)) : State :=
  let s := if ambiguous then s.bump (aFurrow f 0x90) else s
  let s := match mm with
    | some x => (s.bump (aFurrow f 0x98)).setReg (aFurrow f 0xA4) (tile.check + 64 * x.1 + 512 * x.2)
    | none => s
  if mm.isSome && c.mismatched then s.furrowAbort c.lane f c.record { status := stCheckMismatch, detail := c.record }
  else if 4 ≤ c.tries then s.limitAbort c.lane f c.record ambiguous
  else s.queueReplay f { c with mismatched := c.mismatched || mm.isSome }

/-- ROW_CHUNK_DECISION (R161 to R165): the oldest undecided row chunk of a Furrow is confirmed, replayed, or aborts the
task. -/
def doRowChunkDecision (f : Nat) (devs : List SampleDev) (s : State) : State :=
  let x := s.furrow f
  match x.sent with
  | [] => s
  | c :: _ =>
    match s.stepOf c.lane, x.passOf c.lane c.record with
    | some t, some p =>
      match (x.bayOf t.order p.tile).bind x.tileIn, t.streamAt c.record with
      | some tile, some r =>
        if !s.works t then s
        else
          let a := s.attempt f p tile c devs
          let amb := a.ambiguous
          let mm := a.mismatch.orElse fun _ => if amb then none else a.wrong
          if amb || mm.isSome then s.refuse f tile c amb mm else (s.confirm f p c r.part a).settle
      | _, _ => s
    | _, _ => s

/-- The bay of a row chunk to replay lies away from the light (R166). -/
def State.farReplay (s : State) (t : Step) (f : Nat) (p : Pass) : Option Bool :=
  let x := s.furrow f
  match x.bayOf t.order p.tile with
  | some b => if b = x.litB then none else some b
  | none => none

/-- The replay of a row chunk at one Furrow: with a swap to its bay and back where it needs one, which make a waiting set
current, it is sent again if it waits there, and its symbols are counted (R162, R166, R168, R171, R176). -/
def State.replayAt (s : State) (t : Step) (c : Chunk) (f : Nat) (p : Pass) : State :=
  let lit := (s.furrow f).litB
  let far := s.farReplay t f p
  let s := match far with
    | some b => (s.light f b).light f lit
    | none => s
  let s := (s.countSymbols f 0x48 (planesOf c.fmt + (if far.isSome then 56 else 0))).bump (aFurrow f 0x94)
  let x := s.furrow f
  match x.replays.find? fun y => y.isRow c.lane c.record c.row with
  | none => s
  | some y =>
    let s := if y.lockRedo then s.bump (aFurrow f 0x9C) else s
    s.setFurrow f { (s.furrow f) with
      replays := x.replays.filter fun z => !(z.isRow c.lane c.record c.row)
      sent := x.sent ++ [{ y with tries := y.tries + (if y.lockRedo then 0 else 1), lockRedo := false }] }

/-- The next row chunk of a Furrow's pass fails its skew check on the boundary at which a replay would be sent (R191). -/
def State.skewNow (s : State) (t : Step) (f : Nat) : Option (Nat × Bool × Nat × Nat) :=
  (s.furrow f).passes.findSome? fun p =>
    if p.started && decide (p.sent < p.total) then
      (t.fetchOf p.record).bind fun x => match x.chunkAt p.sent 0 0 with
        | .skew zp want got => some (p.record, zp, want, got)
        | _ => none
    else none

/-- A replay in a group of several needs credit from every member, like any row chunk (R192). -/
def State.replayCredit (s : State) (t : Step) (ms : List (Nat × Pass)) (rec : Nat) : Bool :=
  decide (ms.length < 2) || ms.all fun m => s.givesCredit t.order t.lane rec m.1

/-- ROW_CHUNK_REPLAY (R165 to R168): the first row chunk that a Furrow has to replay is sent again, to every member of its
group; a replay of the pass before the lit one swaps back and forth, and a swap that brings no light retires the Furrow
(R174, case 2). A skew on the same boundary goes first (R191). -/
def doRowChunkReplay (ev : ReplayEv) (s : State) : State :=
  let x := s.furrow ev.furrow
  match x.replays with
  | [] => s
  | c :: _ =>
    match s.stepOf c.lane with
    | none => s
    | some t =>
      let ms := s.passesOf c.lane c.record
      if !s.works t || ms.any (fun m => (s.furrow m.1).unlocked) || !s.replayCredit t ms c.record then s
      else
        match s.skewNow t ev.furrow with
        | some (rec, zp, want, got) =>
          s.skew c.lane rec (((t.streamAt rec).map fun r => r.slot).getD 0) zp want got
        | none =>
          match ms.find? fun m => (s.farReplay t m.1 m.2).isSome && ev.dark.contains m.1 with
          | some m => s.darkSwap t m.1
          | none =>
            let s := ms.foldl (fun s m => s.replayAt t c m.1 m.2) s
            s.modStep c.lane fun t => { t with replays := t.replays + ms.length }

end Sys2Proof.Machine
end

