-- ==== Sys2Proof/Machine/Gleaner.lean ====
section
/-!
DEFINITION. The Gleaners (12): rotary positions (R279), appends to the stage (R277, R278), attention through product
tables (R280 to R283), the Loft bytes charged (R289), and GLEAN as a whole.
-/
namespace Sys2Proof.Machine

/-! ### Reads -/

/-- Bytes read by a Gleaner: a failure aborts the task (R290). -/
def State.gleanRead (s : State) (lane rec g a n : Nat) : Option (List Byte) × State :=
  let r := s.readMem 3 a n
  match r.1.2 with
  | none => (some r.1.1, r.2)
  | some w => (none, r.2.abortStep lane { status := stMemUncorrectable, block := 0x40, inst := g, detail := w } rec)

/-- Ranges read one after the other. -/
def State.gleanReads (lane rec g : Nat) : List (Nat × Nat) → State → Option (List Byte) × State
  | [], s => (some [], s)
  | p :: t, s =>
    match s.gleanRead lane rec g p.1 p.2 with
    | (none, s) => (none, s)
    | (some b, s) =>
      match State.gleanReads lane rec g t s with
      | (none, s) => (none, s)
      | (some c, s) => (some (b ++ c), s)

/-- Elements of a vector from its bytes: fp32, or bf16 widened (R288). -/
def vecOf (bf : Bool) (b : List Byte) : List Nat :=
  if bf then (List.range (b.length / 2)).map fun k => ofBf16 (ofLe ((b.drop (2 * k)).take 2))
  else (List.range (b.length / 4)).map fun k => ofLe ((b.drop (4 * k)).take 4)

/-! ### Rotary positions -/

/-- A vector rotated at a position (R279). -/
def rotate (base pos : Nat) (x : List Nat) : List Nat :=
  if isZero base then x
  else
    let half := x.length / 2
    let lo := x.take half
    let hi := x.drop half
    let cs := (List.range half).map fun e => let a := ropeAngle pos base e x.length; (fCos a, fSin a)
    let pairs := (lo.zip hi).zip cs
    pairs.map (fun p => fSub (fMul p.1.1 p.2.1) (fMul p.1.2 p.2.2)) ++ pairs.map fun p => fAdd (fMul p.1.2 p.2.1) (fMul p.1.1 p.2.2)

/-! ### Codes -/

/-- Codes packed: two to a byte for K4, the even-indexed in bits 3:0 (R147, R274). -/
def packCodes (k8 : Bool) (cs : List Int) : List Byte :=
  if k8 then cs.map fun c => BitVec.ofNat 8 (ofSigned 8 c)
  else (List.range (cs.length / 2)).map fun i => BitVec.ofNat 8 (ofSigned 4 (cs.getD (2 * i) 0) + 16 * ofSigned 4 (cs.getD (2 * i + 1) 0))

/-- The code of an element of a row (R146). -/
def codeAt (k8 : Bool) (b : List Byte) (e : Nat) : Int :=
  if k8 then asSigned 8 (b.getD e 0).toNat
  else
    let v := (b.getD (e / 2) 0).toNat
    asSigned 4 (if e % 2 = 0 then v % 16 else v / 16)

/-- A block of 32 elements. -/
def blockOf (x : List Nat) (k : Nat) : List Nat := (x.drop (32 * k)).take 32

/-- A key or value vector converted block by block (R147): its conversions in order. -/
def Session.convertRow (x : Session) (layer kv head pos scale : Nat) (v : List Nat) : List Conversion :=
  (List.range x.nb).map fun k =>
    let round (i : Nat) : Q → Int := if x.stoch then stochRound x.seed (kvIndex layer kv head pos (32 * k + i)) else Q.rne
    convertKv round (if x.k8 then 127 else 7) scale (blockOf v k)

/-- The stage row of its conversions: codes, then the word of exponents (R277). -/
def Session.rowOf (x : Session) (cs : List Conversion) : List Byte :=
  packCodes x.k8 ((cs.flatMap fun c => c.codes).map fun c => c.val) ++ le 8 (cs.zipIdx.foldl (fun n c => n + c.1.s.toNat * 16 ^ c.2) 0)

/-! ### Head scales -/

/-- The head scales of a session for a layer, by KV head: H_K and H_V as they are read (R146, R273). -/
def State.readScales (lane rec layer : Nat) (x : Session) : List Nat → State → Option (List (Nat × Nat)) × State
  | [], s => (some [], s)
  | h :: t, s =>
    let g := h % 8
    match s.gleanRead lane rec g (x.laneAddr g (x.scaleOff layer h 0)) 4 with
    | (none, s) => (none, s)
    | (some b, s) =>
      let k := ofLe (b.take 2)
      let v := ofLe (b.drop 2)
      let s := s.bump (aGleaner g 0x44) (b2n (headScaleFixed k) + b2n (headScaleFixed v))
      match State.readScales lane rec layer x t s with
      | (none, s) => (none, s)
      | (some l, s) => (some ((headScale k, headScale v) :: l), s)

/-- The head scales of every session of a step. -/
def State.allScales (lane rec : Nat) (r : GleanR) : List Nat → State → Option (List (Nat × List (Nat × Nat))) × State
  | [], s => (some [], s)
  | n :: t, s =>
    match s.session n with
    | none => State.allScales lane rec r t s
    | some x =>
      match State.readScales lane rec r.layer x (List.range r.kvHeads) s with
      | (none, s) => (none, s)
      | (some l, s) =>
        match State.allScales lane rec r t s with
        | (none, s) => (none, s)
        | (some m, s) => (some ((n, l) :: m), s)

/-- The head scales of a KV head. -/
def scalesOf (sc : List (Nat × List (Nat × Nat))) (n h : Nat) : Nat × Nat := ((look sc n).getD []).getD h (fOne, fOne)

/-! ### Appending -/

/-- One key or value row of a column appended (R278). -/
def State.appendRow (s : State) (lane rec : Nat) (r : GleanR) (x : Session) (c : Column) (i h kv scale : Nat) : Option Unit × State :=
  let g := h % 8
  let src := (if kv = 0 then r.kIn else r.vIn) + i * r.kvStride + h * r.headDim * r.inSize
  match s.gleanRead lane rec g src (r.headDim * r.inSize) with
  | (none, s) => (none, s)
  | (some b, s) =>
    let v := vecOf (bitOf r.flags 0) b
    let v := if kv = 0 then rotate r.ropeBase c.pos v else v
    let cs := x.convertRow r.layer kv h c.pos scale v
    let s := s.writeMem (.lane lane) (x.stageRow c.stage c.j r.layer h kv) (x.rowOf cs)
    let s := (s.bump (aGleaner g 0x34) x.nb).bump (aGleaner g 0x38) (cs.countP fun c => c.zeroRange)
    (some (), s.bump (aGleaner g 0x3C) (cs.map fun c => clippedCount c.codes).sum)

/-- The rows a record appends: batch column, KV head, key or value, ascending. -/
def GleanR.appendList (r : GleanR) (t : Step) : List ((Column × Nat) × Nat × Nat) :=
  t.cols.zipIdx.flatMap fun c => (List.range r.kvHeads).flatMap fun h => [(c, h, 0), (c, h, 1)]

/-- Every append of a record, up to one whose read fails (R278, R280). -/
def State.appends (lane rec : Nat) (r : GleanR) (sc : List (Nat × List (Nat × Nat))) :
    List ((Column × Nat) × Nat × Nat) → State → Option Unit × State
  | [], s => (some (), s)
  | a :: t, s =>
    let c := a.1.1
    let hs := scalesOf sc c.session a.2.1
    match s.session c.session with
    | none => State.appends lane rec r sc t s
    | some x =>
      match s.appendRow lane rec r x c a.1.2 a.2.1 a.2.2 (if a.2.2 = 0 then hs.1 else hs.2) with
      | (none, s) => (none, s)
      | (some _, s) => State.appends lane rec r sc t s

/-! ### Attention -/

/-- A key or value row of a visible position: its code bytes and its block exponents, from the Loft below N, else from the
stage (R280). -/
def State.kvRow (s : State) (lane rec : Nat) (r : GleanR) (x : Session) (c : Column) (h kv pos : Nat) :
    Option (List Byte × List Nat) × State :=
  let g := h % 8
  let len := r.headDim * x.bits / 8
  let n := c.pos - c.j
  if pos < n then
    let e := x.expOff r.layer h kv pos 0
    let elast := (x.expOff r.layer h kv pos (x.nb - 1)).1
    match State.gleanReads lane rec g (x.lanePieces g (x.codeOff r.layer h kv pos) len ++ x.lanePieces g e.1 (elast - e.1 + 1)) s with
    | (none, s) => (none, s)
    | (some b, s) =>
      let w := ofLe (b.drop len) / (if e.2 then 16 else 1)
      (some (b.take len, (List.range x.nb).map fun k => w / 16 ^ k % 16), s)
  else
    match s.gleanRead lane rec g (x.stageRow c.stage (pos - n) r.layer h kv) (len + 8) with
    | (none, s) => (none, s)
    | (some b, s) => (some (b.take len, (List.range x.nb).map fun k => ofLe (b.drop len) / 16 ^ k % 16), s)

/-- The running softmax of one query head (R282). -/
structure Attn where
  m : Nat
  l : Nat
  acc : List Nat

/-- The score of a position before the head scale (R281, R282). -/
def rawScore (k8 : Bool) (q : List Nat) (codes : List Byte) (exps : List Nat) : Nat :=
  exps.zipIdx.foldl (fun raw b =>
    let w := (List.range 32).map fun i => lut k8 (q.getD (32 * b.2 + i) 0) (codeAt k8 codes (32 * b.2 + i))
    fAdd raw (fScale (pairsumN 5 w) ((b.1 : Int) - 15))) 0

/-- One visible position (R282). -/
def Attn.step (a : Attn) (k8 : Bool) (score : Nat) (codes : List Byte) (exps : List Nat) : Attn :=
  let a := if fLt a.m score then
      let c := fExpE (fSub a.m score)
      { m := score, l := fMul a.l c, acc := a.acc.map fun v => fMul v c }
    else a
  let pr := fExpE (fSub score a.m)
  { a with
    l := fAdd a.l pr
    acc := a.acc.zipIdx.map fun v => fAdd v.1 (fScale (lut k8 pr (codeAt k8 codes v.2)) (((exps.getD (v.2 / 32) 0 : Nat) : Int) - 15)) }

/-! ### Loft bytes charged -/

/-- The pieces of 256 bytes that the lane offsets a to b touch, but for those that reading up to `prev` has touched. -/
def newPieces (prev : Option Nat) (a b : Nat) : Nat :=
  b / 256 + 1 - ((prev.map fun e => max (a / 256) (e / 256 + 1)).getD (a / 256))

/-- The Loft bytes that position p adds to the charge of one head's keys and values, where the record reads the cache of the
session from position lo on: every piece of a Stook's codes and exponents costs 256 bytes once (R203, R289). -/
def Session.chargeAt (x : Session) (layer h lo p : Nat) : Nat :=
  let prev := if lo < p && p % 256 ≠ 0 then some (p - 1) else none
  let codeEnd (kv p : Nat) : Nat := x.codeOff layer h kv p + x.headDim * x.bits / 8 - 1
  let expEnd (kv p : Nat) : Nat := (x.expOff layer h kv p (x.nb - 1)).1
  256 * ([0, 1].map fun kv => newPieces (prev.map (codeEnd kv)) (x.codeOff layer h kv p) (codeEnd kv p)
    + newPieces (prev.map (expEnd kv)) (x.expOff layer h kv p 0).1 (expEnd kv p)).sum

/-- The lowest position a column sees (R280). -/
def GleanR.lowest (r : GleanR) (pos : Nat) : Nat := if r.window = 0 then 0 else pos + 1 - r.window

/-- The visible positions of a column (R280). -/
def GleanR.visible (r : GleanR) (pos : Nat) : List Nat :=
  (List.range (pos + 1 - r.lowest pos)).map fun i => r.lowest pos + i

/-- A Gleaner takes one visible position of a query head: the position counts in VISITS, and a Loft position that the record
has not read before is charged in LOFT_BYTES. A unit is read once per record for all columns and query heads that use it
(R289), so the session's first column and the KV head's first query head carry the charge; they see the lowest position. The
position that stops a Gleaner on an abort counts: it stops AFTER its present position (R290, log entry 130). -/
def State.takePosition (s : State) (r : GleanR) (x : Session) (c : Column) (h gq p : Nat) : State :=
  let g := h % 8
  let s := s.bump48 (aGleaner g 0x28) 1
  if p < c.pos - c.j && c.j = 0 && gq % max 1 r.qPerKv = 0 then
    s.bump48 (aGleaner g 0x20) (x.chargeAt r.layer h (r.lowest c.pos) p)
  else s

/-- Attention of one query head over its visible positions, up to one whose read fails (R280, R282, R290). -/
def State.attend (lane rec : Nat) (r : GleanR) (x : Session) (c : Column) (h gq : Nat) (q : List Nat) (hk : Nat) :
    List Nat → Attn → State → Option Attn × State
  | [], a, s => (some a, s)
  | p :: t, a, s =>
    match (s.takePosition r x c h gq p).kvRow lane rec r x c h 0 p with
    | (none, s) => (none, s)
    | (some k, s) =>
      match s.kvRow lane rec r x c h 1 p with
      | (none, s) => (none, s)
      | (some v, s) =>
        let score := fMul (fMul (rawScore x.k8 q k.1 k.2) hk) r.scale
        State.attend lane rec r x c h gq q hk t (a.step x.k8 score v.1 v.2) s

/-- One query head of a column: read, rotated, attended, written (R280, R282). -/
def State.queryHead (s : State) (lane rec : Nat) (r : GleanR) (x : Session) (c : Column) (i gq : Nat) (hs : Nat × Nat) : Option Unit × State :=
  let h := gq / max 1 r.qPerKv
  let g := h % 8
  match s.gleanRead lane rec g (r.qIn + i * r.qStride + gq * r.headDim * r.inSize) (r.headDim * r.inSize) with
  | (none, s) => (none, s)
  | (some b, s) =>
    let q := rotate r.ropeBase c.pos (vecOf (bitOf r.flags 0) b)
    match State.attend lane rec r x c h gq q hs.1 (r.visible c.pos) ⟨fNegInf, 0, List.replicate r.headDim 0⟩ s with
    | (none, s) => (none, s)
    | (some a, s) =>
      let o := a.acc.map fun v => fMul (fDiv v a.l) hs.2
      let bytes := o.flatMap fun v => if bitOf r.flags 1 then le 2 (toBf16 v) else le 4 (if isNaN v then fNaN else v)
      let s := s.writeMem (.lane lane) (r.out + i * r.outStride + gq * r.headDim * r.outSize) bytes
      (some (), if o.any isNaN then s.bump (aGleaner g 0x40) else s)

/-- Every query head of every column, up to one whose read fails. -/
def State.queries (lane rec : Nat) (r : GleanR) (sc : List (Nat × List (Nat × Nat))) : List ((Column × Nat) × Nat) → State → Option Unit × State
  | [], s => (some (), s)
  | a :: t, s =>
    let c := a.1.1
    match s.session c.session with
    | none => State.queries lane rec r sc t s
    | some x =>
      match s.queryHead lane rec r x c a.1.2 a.2 (scalesOf sc c.session (a.2 / max 1 r.qPerKv)) with
      | (none, s) => (none, s)
      | (some _, s) => State.queries lane rec r sc t s

/-! ### GLEAN -/

/-- The work of a GLEAN on a step (R278 to R283); none when a read failed. -/
def State.gleanWork (s : State) (t : Step) (rec : Nat) (r : GleanR) : Option Unit × State :=
  match State.allScales t.lane rec r t.sessions s with
  | (none, s) => (none, s)
  | (some sc, s) =>
    let s := if bitOf r.mode 0 then s.modStep t.lane fun t => { t with staged := t.sessions.map fun n => (n, t.width n) } else s
    match if bitOf r.mode 0 then State.appends t.lane rec r sc (r.appendList t) s else (some (), s) with
    | (none, s) => (none, s)
    | (some _, s) =>
      if bitOf r.mode 1 then
        State.queries t.lane rec r sc (t.cols.zipIdx.flatMap fun c => (List.range (r.kvHeads * r.qPerKv)).map fun g => (c, g)) s
      else (some (), s)

/-- GLEAN (R278 to R290, R311): the record runs on all eight Gleaners after their earlier records, and is complete. -/
def doGlean (lane rec : Nat) (s : State) : State :=
  match s.stepOf lane with
  | none => s
  | some t =>
    match t.liveAt rec with
    | none => s
    | some v =>
      match v.op with
      | .glean r =>
        if !s.works t || t.live.any (fun w => decide (w.idx < rec) && w.op.kind = 5) then s
        else
          let s := (List.range 8).foldl (fun s g => s.setReg (aGleaner g 0x10) rec) s
          (match s.gleanWork t rec r with
          | (none, s) => s
          | (some _, s) => (s.modStep lane fun t => t.complete rec).settle)
      | _ => s

end Sys2Proof.Machine
end

