-- ==== Sys2Proof/Machine/Mill.lean ====
section
/-!
DEFINITION. The Mills (11): the effective mask and the assignment of items (R248 to R250), operands and the output stage
(R251 to R256), the operators (R257 to R266), and MILL_OP as a whole.
-/
namespace Sys2Proof.Machine

/-! ### Mills and items -/

/-- EXCLUDE is in force for a Mill since the last step start (R269). -/
def State.millExcluded (s : State) (m : Nat) : Bool := bitOf (s.reg (aMill m 8)) 2

/-- The Mills of a MILLS field: all for 0 (R248). -/
def millsOf (mask : Nat) : List Nat := if mask = 0 then List.range 64 else maskBits 64 mask

/-- The effective mask of a record (R248). -/
def State.effective (s : State) (r : MillOpR) : List Nat := (millsOf r.mills).filter fun m => !s.millExcluded m

/-- The Mill of an item (R248). -/
def millOf (mills : List Nat) (i : Nat) : Nat := mills.getD (i % max 1 mills.length) 0

/-- Seed and token position of an item: those of its batch column, 0 beyond the batch (R308). -/
def State.itemPlace (s : State) (t : Step) (i : Nat) : Nat × Nat :=
  match t.cols[i]? with
  | some c => (((s.session c.session).map fun x => x.seed).getD 0, c.pos)
  | none => (0, 0)

/-! ### Operands -/

/-- The element of a format as fp32 (R255); s and z belong to its item. -/
def elemOf (fmt sc z v : Nat) : Nat :=
  match fmt with
  | 0 => v
  | 1 => ofBf16 v
  | 2 => fScale (fOfInt (asSigned 8 v)) (scaleOf sc)
  | 3 => fScale (fOfInt (asSigned 16 v)) (scaleOf sc)
  | _ => fScale (fOfInt ((v : Int) - z)) (scaleOf sc)

/-- `n` elements of a format from an address. -/
def State.vecAt (s : State) (fmt a n sc z : Nat) : List Nat :=
  (List.range n).map fun k => elemOf fmt sc z (s.leAt (a + k * elemSize fmt) (elemSize fmt))

/-- The input vector of an item (R254, R255). -/
def State.millIn (s : State) (r : MillOpR) (i : Nat) : List Nat :=
  let sc := if 2 ≤ r.inFmt then s.leAt (r.inScale + i) 1 else 0
  let z := if r.inFmt = 4 then s.leAt (r.inZp + i) 1 else 0
  s.vecAt r.inFmt (r.src + i * r.srcStride) r.n sc z

/-- The format of second operands, gains and biases (R254, R260). -/
def MillOpR.auxFmt (r : MillOpR) : Nat := if r.flag 2 then 1 else 0

/-- An auxiliary vector: fp32, or bf16 while AUX_BF16 is 1. -/
def State.auxVec (s : State) (r : MillOpR) (a : Nat) : List Nat := s.vecAt r.auxFmt a r.n 0 0

/-! ### The output stage -/

/-- A NaN that a Mill writes is the canonical one (R251). -/
def canonNaN (x : Nat) : Nat := if isNaN x then fNaN else x

/-- The bytes of a vector in fp32 or bf16 (R256). -/
def vecBytes (fmt : Nat) (y : List Nat) : List Byte :=
  y.flatMap fun x => if fmt = 0 then le 4 (canonNaN x) else le 2 (toBf16 (canonNaN x))

/-- The rounding of an item's conversion: RNE, or the draw of R143 while STOCH is 1 (R256). -/
def MillOpR.rounding (r : MillOpR) (place : Nat × Nat) (k : Nat) : Q → Int :=
  if r.flag 0 then stochRound place.1 (millIndex r.layer k place.2) else Q.rne

/-- The result of one item written in OUT_FMT, and counted in its Mill (R256). -/
def State.millOut (s : State) (t : Step) (r : MillOpR) (m i : Nat) (y : List Nat) : State :=
  let a := r.out + i * r.outStride
  let o := Owner.lane t.lane
  if r.outFmt < 2 then
    (s.writeMem o a (vecBytes r.outFmt y)).bump (aMill m 0x2C) (y.countP isNaN)
  else
    let round := r.rounding (s.itemPlace t i)
    let c := if r.outFmt = 2 then convertSym round 127 y else if r.outFmt = 3 then convertSym round 32767 y else convertA8Z round y
    let n := elemSize r.outFmt
    let s := s.writeMem o a (c.codes.flatMap fun x => le n (ofSigned (8 * n) x.val))
    let s := s.writeMem o (r.outScale + i) [BitVec.ofNat 8 (scaleByte c.s c.zeroRange)]
    let s := if r.outFmt = 4 then s.writeMem o (r.outZp + i) [BitVec.ofNat 8 c.z.toNat] else s
    (s.bump (aMill m 0x24) (clippedCount c.codes)).bump (aMill m 0x28) (b2n c.zeroRange)

/-! ### Vector operators -/

/-- SOFTMAX with factor c (R259). -/
def softmax (c : Nat) (x : List Nat) : List Nat :=
  let z := x.map fun v => fMul v c
  let m := fMaxList z
  let e := z.map fun v => fExpE (fSub v m)
  let total := chainsum e
  e.map fun v => fDiv v total

/-- The gain of a norm applied, if there is one (R260). -/
def applyGain (y : List Nat) (g : Option (List Nat)) : List Nat :=
  match g with
  | none => y
  | some g => List.zipWith fMul y g

/-- The bias of a norm added, if there is one (R260). -/
def applyBias (y : List Nat) (b : Option (List Nat)) : List Nat :=
  match b with
  | none => y
  | some b => List.zipWith fAdd y b

/-- One over the square root of a mean plus EPS (R260). -/
def invRoot (mean eps : Nat) : Nat := fDiv fOne (fSqrt (fAdd mean eps))

/-- RMS_NORM; `sumsq` is SUMSQ of the statistics entry while STATS_IN is 1 (R260, R261). -/
def rmsNorm (eps : Nat) (x : List Nat) (sumsq : Option Nat) (g : Option (List Nat)) : List Nat :=
  let q := sumsq.getD (chainsum (x.map fun v => fMul v v))
  let r := invRoot (fDiv q (fOfInt x.length)) eps
  applyGain (x.map fun v => fMul v r) g

/-- LAYER_NORM; `stats` are MEAN and VAR of the statistics entry while STATS_IN is 1 (R260, R261). -/
def layerNorm (eps : Nat) (x : List Nat) (stats : Option (Nat × Nat)) (g b : Option (List Nat)) : List Nat :=
  let n := fOfInt x.length
  let mean := match stats with
    | some st => st.1
    | none => fDiv (chainsum x) n
  let d := x.map fun v => fSub v mean
  let var := match stats with
    | some st => st.2
    | none => fDiv (chainsum (d.map fun v => fMul v v)) n
  let r := invRoot var eps
  applyBias (applyGain (d.map fun v => fMul v r) g) b

/-- The result of an element-wise operator, SOFTMAX or a norm for one item (R257 to R261). -/
def State.vecResult (s : State) (r : MillOpR) (i : Nat) : List Nat :=
  let x := s.millIn r i
  let x2 := s.auxVec r (r.src2 + i * r.src2Stride)
  let gain := if r.flag 3 then some (s.auxVec r r.aux0) else none
  let bias := if r.flag 4 then some (s.auxVec r r.aux1) else none
  let stat (off : Nat) : Nat := s.leAt (r.inScale + 16 * i + off) 4
  match r.op with
  | 2 => List.zipWith fAdd x x2
  | 3 => List.zipWith fMul x x2
  | 4 => x.map (act r.arg0)
  | 5 => softmax r.param0 x
  | 6 => rmsNorm r.param0 x (if r.flag 1 then some (stat 4) else none) gain
  | 7 => layerNorm r.param0 x (if r.flag 1 then some (stat 8, stat 12) else none) gain bias
  | _ => x

/-! ### Tithe -/

/-- One entry of a Tithe list (R133). -/
structure TitheEntry where
  row : Nat
  col : Nat
  value : Nat
  deriving DecidableEq, Repr

/-- The entries of a Tithe list (R133). -/
def State.titheList (s : State) (r : MillOpR) : List TitheEntry :=
  (List.range r.arg1).map fun k =>
    let w := s.leAt (r.aux0 + 8 * k) 8
    ⟨bitsOf w 0 20, bitsOf w 20 20, bitsOf w 40 16⟩

/-- The entries that are applied, in list order (R135, R262): each greater than the one before it, at most 4 of a row and
Sheaf, within the rows and inputs. -/
def titheApplied (rows n : Nat) (l : List TitheEntry) : List TitheEntry :=
  (l.foldl (fun (acc : Option TitheEntry × List TitheEntry) e =>
    let rising : Bool := match acc.1 with
      | none => true
      | some p => p.row < e.row || (p.row = e.row && p.col < e.col)
    let same := acc.2.countP fun x => x.row = e.row && x.col / 128 = e.col / 128
    (some e, if rising && decide (same < 4) && decide (e.row < rows) && decide (e.col < n) then acc.2 ++ [e] else acc.2)) (none, [])).2

/-- The address of the exponent byte of an entry (R262). -/
def MillOpR.expAddr (r : MillOpR) (e : TitheEntry) : Nat := r.aux1 + e.col / 256 * r.param0 + e.row * r.param1

/-- The exponent of an entry's Sheaf (R262). -/
def State.titheExp (s : State) (r : MillOpR) (e : TitheEntry) : Nat :=
  let b := s.leAt (r.expAddr e) 1
  if e.col / 128 % 2 = 0 then b % 16 else b / 16

/-- The corrections of one item, by row (R262). -/
def State.titheRows (s : State) (r : MillOpR) (x : List Nat) (l : List TitheEntry) : List Nat :=
  let t := l.foldl (fun (acc : List (Nat × Nat)) e =>
    let w := fScale (ofBf16 e.value) ((s.titheExp r e : Int) - 7)
    put acc e.row (fAdd ((look acc e.row).getD 0) (fMul w (x.getD e.col 0)))) []
  (List.range r.arg0).map fun row => (look t row).getD 0

/-- TITHE for one item (R262). -/
def State.runTithe (s : State) (t : Step) (r : MillOpR) (m i : Nat) : State :=
  let l := s.titheList r
  let ok := titheApplied r.arg0 r.n l
  let ts := s.titheRows r (s.millIn r i) ok
  let s := ts.zipIdx.foldl (fun s v => s.writeMem (.lane t.lane) (r.out + (v.2 * r.items + i) * 4) (le 4 (canonNaN v.1))) s
  ((s.bump (aMill m 0x2C) (ts.countP isNaN)).bump (aMill m 0x30) ok.length).bump (aMill m 0x34) (l.length - ok.length)

/-! ### Ranking, routing, sampling -/

/-- Element a ranks before element b: higher value, NaN last, equal values by index (R253). -/
def ranksBefore (a b : Nat × Nat) : Bool :=
  if isNaN a.1 then isNaN b.1 && a.2 < b.2
  else if isNaN b.1 then true
  else fLt b.1 a.1 || (!fLt a.1 b.1 && a.2 < b.2)

/-- A ranked list with one more element. -/
def insertRank (a : Nat × Nat) : List (Nat × Nat) → List (Nat × Nat)
  | [] => [a]
  | b :: t => if ranksBefore a b then a :: b :: t else b :: insertRank a t

/-- Elements with their indexes in ranking order (R253). -/
def ranking (x : List Nat) : List (Nat × Nat) := x.zipIdx.foldr insertRank []

/-- The experts an item selects, with their weights (R263). -/
def topK (r : MillOpR) (x : List Nat) : List (Nat × Nat) :=
  let sel := (ranking x).take r.arg0
  if bitOf r.arg1 0 then
    let p := softmax fOne x
    sel.map fun e => (e.2, p.getD e.2 0)
  else
    let m := (sel.head?.map fun e => e.1).getD 0
    let es := sel.map fun e => fExpE (fSub e.1 m)
    let total := es.foldl fAdd 0
    List.zipWith (fun e v => (e.2, fDiv v total)) sel es

/-- ROUTER_TOPK over all items, with the union list (R263). -/
def State.runRouter (s : State) (t : Step) (r : MillOpR) (mills : List Nat) : State :=
  let sels := (List.range r.items).map fun i => topK r (s.millIn r i)
  let union := (sels.flatMap fun l => l.map fun e => e.1).foldl (fun l e => if l.contains e then l else l ++ [e]) []
  let w := if bitOf r.arg1 1 then 4 else 2
  let o := Owner.lane t.lane
  let s := sels.zipIdx.foldl (fun s x =>
    let bytes := x.1.flatMap fun e => le 2 e.1 ++ le 2 (union.findIdx fun n => n = e.1) ++ le 4 (canonNaN e.2)
    (s.writeMem o (r.out + x.2 * r.outStride) bytes).bump (aMill (millOf mills x.2) 0x2C) (x.1.countP fun e => isNaN e.2)) s
  (s.writeMem o r.aux0 (le 4 union.length ++ union.flatMap fun e => le w e)).modStep t.lane fun t =>
    { t with touched := t.touched ++ [(r.aux0, 4 + w * union.length)] }

/-- Running sums (R264). -/
def runningSums : Nat → List Nat → List Nat
  | _, [] => []
  | c, x :: t => fAdd c x :: runningSums (fAdd c x) t

/-- The token of an item: a function of its logits, TEMP, TOP_P, TOP_K, seed and position alone (R264, R265). Where no
running sum reaches the share, which infinite logits bring about, the spec names no candidate: a free value of those
operands picks one (log entry 14). -/
def sampleToken (r : MillOpR) (place : Nat × Nat) (x : List Nat) : Nat :=
  let ranked := ranking x
  let cand := (ranked.take (if r.arg0 = 0 then r.n else r.arg0)).filter fun e => !isNaN e.1
  match cand with
  | [] => 0xFFFFFFFF
  | top :: _ =>
    if isZero r.param0 then top.2
    else
      let z := cand.map fun e => fDiv e.1 r.param0
      let m := z.headD 0
      let c := runningSums 0 (z.map fun v => fExpE (fSub v m))
      let share := fMul r.param1 (c.getLast?.getD 0)
      let at_ := c.findIdx fun v => !isNaN v && !isNaN share && !fLt v share
      if at_ = c.length then
        (cand.getD (Config.sampleOpen x r.param0 r.param1 r.arg0 place.1 place.2 % cand.length) top).2
      else
        let draw : Nat := draw64 place.1 (sampleIndex (place.2 + 1)) / 2 ^ 40
        let target := fMul (fScale (fOfInt draw) (-24)) (c.getD at_ 0)
        let j := (c.take (at_ + 1)).findIdx fun v => fLt target v
        (cand.getD (min j at_) top).2

/-- SAMPLE for one item (R264). -/
def State.runSample (s : State) (t : Step) (r : MillOpR) (m i : Nat) : State :=
  let v := sampleToken r (s.itemPlace t i) (s.millIn r i)
  let s := s.writeMem (.lane t.lane) (r.out + 4 * i) (le 4 v)
  (s.bump (aMill m 0x38)).bump (aMill m 0x2C) (b2n (v = 0xFFFFFFFF))

/-- The accepted drafts A: the largest j whose drafts all equal the sampled tokens before them (R266). -/
def acceptedDrafts : List Nat → List Nat → Nat
  | d :: ds, v :: vs => if d = v ∧ v ≠ 0xFFFFFFFF then acceptedDrafts ds vs + 1 else 0
  | _, _ => 0

/-- DRAFT_COMPARE for one item: a session of the step (R266). -/
def State.runDraft (s : State) (t : Step) (r : MillOpR) (m i : Nat) : State :=
  match t.sessions[i]? with
  | none => s
  | some n =>
    let w := t.width n
    let count := s.leAt (r.aux0 + 40 * i) 4
    let d := min count (w - 1)
    let drafts := (List.range d).map fun j => s.leAt (r.aux0 + 40 * i + 4 + 4 * j) 4
    let vs := (List.range w).map fun j => s.leAt (r.src + 4 * (t.firstCol n + j)) 4
    let a := acceptedDrafts drafts vs
    let s := s.modStep t.lane fun t => { t with drafts := (t.drafts.filter fun e => e.session ≠ n) ++ [⟨n, vs.take (a + 1)⟩] }
    ((s.bump (aMill m 0x3C) d).bump (aMill m 0x40) a).bump (aMill m 0x44) (count - (w - 1))

/-! ### Parity -/

/-- What one item reads in the Granary (R268). -/
def State.itemReads (s : State) (t : Step) (r : MillOpR) (i : Nat) : List (Nat × Nat) :=
  let vec := [(r.src + i * r.srcStride, r.n * elemSize r.inFmt)]
    ++ (if r.stats then [(r.inScale + 16 * i, 16)] else if 2 ≤ r.inFmt then [(r.inScale + i, 1)] else [])
    ++ (if r.inFmt = 4 then [(r.inZp + i, 1)] else [])
  let aux (a : Nat) : List (Nat × Nat) := [(a, r.n * r.auxSize)]
  match r.op with
  | 0x08 => []
  | 0x09 =>
    vec ++ [(r.aux0, 8 * r.arg1)] ++ (titheApplied r.arg0 r.n (s.titheList r)).map fun e => (r.expAddr e, 1)
  | 0x0C =>
    match t.sessions[i]? with
    | none => []
    | some n => [(r.aux0 + 40 * i, 40), (r.src + 4 * t.firstCol n, 4 * t.width n)]
  | op =>
    vec ++ (if op = 2 ∨ op = 3 then aux (r.src2 + i * r.src2Stride) else [])
      ++ (if (op = 6 ∨ op = 7) ∧ r.flag 3 then aux r.aux0 else []) ++ (if op = 7 ∧ r.flag 4 then aux r.aux1 else [])

/-- The first read of an item that fails its parity. -/
def State.itemBad (s : State) (t : Step) (r : MillOpR) (i : Nat) : Option Nat :=
  (s.itemReads t r i).findSome? fun g => s.granaryBad g.1 g.2

/-- A Mill or packer read that fails its parity (R268). -/
def millParity (m w : Nat) : Failure := { status := stMemUncorrectable, block := 0x30, inst := m, detail := w }

/-! ### MILL_OP -/

/-- The items an operator runs: DRAFT_COMPARE's beyond the sessions do nothing (R266). -/
def MillOpR.itemCount (r : MillOpR) (t : Step) : Nat := if r.op = 0x0C then min r.items t.sessions.length else r.items

/-- One item on its Mill (R248, R257). -/
def State.runItem (s : State) (t : Step) (r : MillOpR) (m i : Nat) : State :=
  let s := match r.op with
    | 0x08 => s.writeMem (.lane t.lane) (r.out + i * r.outStride) (List.replicate r.n (le 4 r.param0)).flatten
    | 0x09 => s.runTithe t r m i
    | 0x0A => s
    | 0x0B => s.runSample t r m i
    | 0x0C => s.runDraft t r m i
    | _ => s.millOut t r m i (s.vecResult r i)
  s.bump (aMill m 0x20)

/-- The items of a record run in order, up to one whose read fails. -/
def State.runItems (t : Step) (rec : Nat) (r : MillOpR) (mills : List Nat) : List Nat → State → State
  | [], s => s
  | i :: rest, s =>
    match s.itemBad t r i with
    | some w => s.abortStep t.lane (millParity (millOf mills i) w) rec
    | none => State.runItems t rec r mills rest (s.runItem t r (millOf mills i) i)

/-- An earlier MILL_OP that shares a Mill has not finished (R250). -/
def State.millBusy (s : State) (t : Step) (rec : Nat) (mills : List Nat) : Bool :=
  t.live.any fun v => match v.op with
    | .millOp q => decide (v.idx < rec) && (s.effective q).any fun m => mills.contains m
    | _ => false

/-- MILL_OP (R248 to R268): the record runs on the Mills of its effective mask, and is complete. -/
def doMillOp (lane rec : Nat) (s : State) : State :=
  match s.stepOf lane with
  | none => s
  | some t =>
    match t.liveAt rec with
    | none => s
    | some v =>
      match v.op with
      | .millOp r =>
        let mills := s.effective r
        if !s.works t || s.millBusy t rec mills then s
        else
          let n := r.itemCount t
          let s := ((List.range (min n mills.length)).map (millOf mills)).foldl (fun s m => s.setReg (aMill m 0x10) rec) s
          let s := State.runItems t rec r mills (List.range n) s
          (match s.stepOf lane with
          | none => s
          | some u =>
            if u.failure.isSome then s
            else
              let s := if r.op = 0x0A then s.runRouter t r mills else s
              (s.modStep lane fun t => t.complete rec).settle)
      | _ => s

end Sys2Proof.Machine
end

