-- ==== Sys2Proof/Machine/Flow.lean ====
section
/-!
DEFINITION. How a step starts, runs and ends (13): STEP_RUN with its checks (R94, R307 to R309), dispatch (R311, R315),
DEP, COPY and ROUTE (R183, R301, R313), GATE and END (R310, R314, R316, R317), aborts and their teardown (R169, R219 to
R221, R319).
-/
namespace Sys2Proof.Machine

/-! ### The step table -/

/-- The columns that a step table lists: session, J, STAGE (R307); their positions are set when the step starts (R308). -/
def State.tableCols (s : State) (a batch : Nat) : List Column :=
  (List.range batch).map fun i =>
    let e := a + 64 + 16 * i
    { session := s.leAt e 2, j := s.leAt (e + 2) 1, stage := s.leAt (e + 4) 4, pos := 0 }

/-- The columns of one session are consecutive, with J from 0 and one STAGE, and no session has two runs (R307). -/
def runsOk : List Nat → Option Column → List Column → Bool
  | _, _, [] => true
  | seen, prev, c :: t =>
    (match prev with
     | some p =>
       if p.session = c.session then c.j = p.j + 1 && c.j ≤ 8 && c.stage = p.stage else c.j = 0 && !seen.contains c.session
     | none => c.j = 0) && runsOk (c.session :: seen) (some c) t

/-- The step table meets R307. -/
def State.tableOk (s : State) (a batch : Nat) : Bool :=
  let cols := s.tableCols a batch
  let n := (cols.map fun c => c.session).eraseDups.length
  s.leAt a 4 = batch && s.leAt (a + 4) 4 = n && n ≤ 256 && s.leAt (a + 8) 56 = 0
    && (List.range batch).all (fun i => s.leAt (a + 64 + 16 * i + 3) 1 = 0 && s.leAt (a + 64 + 16 * i + 8) 8 = 0)
    && cols.all (fun c => c.session ≤ 255) && runsOk [] none cols

/-! ### The checks of a step's start -/

/-- MILL.CTL.EXCLUDE, in force from the next step start (R248). -/
def State.excludeSet (s : State) (m : Nat) : Bool := bitOf (s.reg (aMill m 4)) 0

/-- A session can take part in a step: open, in no other running or queued step, nothing held, room for its columns (R287,
R306, R309). -/
def State.sessionFits (s : State) (t : Step) (n : Nat) : Bool :=
  match s.session n with
  | none => false
  | some x => !s.sessionTaken t.lane n && x.held.isNone && x.n + t.width n ≤ x.tMax

/-- The first stage area that leaves the Granary: its first address outside (R277). -/
def State.stageOutside (s : State) (t : Step) : Option Nat :=
  t.sessions.findSome? fun n =>
    match s.session n, t.cols.find? fun c => c.session = n with
    | some x, some c => if inOneTier .granary c.stage (t.width n * x.slotBytes) then none else some (max c.stage 0x28000000)
    | _, _ => none

/-- A record fits the device, the sessions and the batch (R153, R183, R249, R288, R294, R304). -/
def State.recordFits (s : State) (t : Step) (protect : List (Nat × Nat)) (e : PEntry) : Bool :=
  let x := t.extent []
  decide (e.op.slotsNamed < 2 ^ s.activeCount)
    && (match e.op with
        | .millOp r => (millsOf r.mills).any fun m => !s.excludeSet m
        | .glean r => t.sessions.all fun n => match s.session n with
          | some q => decide (q.kvHeads = r.kvHeads) && decide (q.headDim = r.headDim) && decide (r.layer < q.layers)
          | none => false
        | _ => true)
    && (if e.op.kind = 4 ∨ e.op.kind = 5 ∨ e.op.kind = 10 then
          (e.op.reads x).all inGranary && (e.op.writes x).all inGranary
            && (e.op.writes x ++ e.op.batchReads x).all fun g => protect.all fun p => !overlaps g p
        else true)

/-- The outcome of the checks of R309 from the third on. -/
def State.fitFailure (s : State) (t : Step) : Option Failure :=
  if !(t.sessions.all (s.sessionFits t)) then some { status := stWrongState }
  else
    match s.stageOutside t with
    | some a => some (fAddr 8 a)
    | none =>
      match s.parsePrefix t.program t.slots with
      | (.parity w, _) => some (reeveParity w)
      | (.badKind i, _) => some { status := stProgramInvalid, detail := i }
      | (.ok _, prog) =>
        (prog.find? fun e => !s.recordFits t (protectOf t.program t.slots prog) e).map fun e =>
          { status := stProgramInvalid, detail := e.idx }

/-- The checks of R309, in order. -/
def State.startFailure (s : State) (t : Step) (table : Nat) : Option Failure :=
  match s.programAt t.program with
  | none => some { status := stProgramInvalid, detail := 0xFFFFFFFF }
  | some p =>
    if !p.checked then some { status := stProgramInvalid, detail := 0xFFFFFFFF }
    else
      match s.granaryBad table (64 + 16 * t.batch) with
      | some w => some (reeveParity w)
      | none => if s.tableOk table t.batch then s.fitFailure t else some (fRange 8 table)

/-! ### STEP_RUN -/

/-- MILL.STATUS.EXCLUDED follows MILL.CTL.EXCLUDE at a step start (R248). -/
def State.latchExclude (s : State) : State :=
  (List.range 64).foldl (fun s m => s.setFld (aMill m 8) 2 1 (b2n (s.excludeSet m))) s

/-- A step that passed its checks begins: its columns stand at N + J, the device is in RUN, and it takes free engines
(R107, R308, R316). -/
def State.enterStep (s : State) (h : ReqHdr) (cmd : Instr) (t : Step) : State :=
  let cols := t.cols.map fun c => { c with pos := ((s.session c.session).map fun x => x.n).getD 0 + c.j }
  let s := s.latchExclude.setJob h 0x0403 cmd .step
  let s : State := { s with
    dev := .run
    steps := s.steps ++ [{ t with cols := cols, order := s.reaper.starts }]
    reaper := { s.reaper with starts := s.reaper.starts + 1 } }
  s.passEngines.settle

/-- STEP_RUN (R94, R309). -/
def doStepRun (h : ReqHdr) (program table batch rsv : Nat) (x : Option StepRunX) (s : State) : State :=
  let d := aGlobal 0x20
  let stall := orReg (x.map fun y => y.stallMs) (s.fld d 0 8)
  let gate := orReg (x.map fun y => y.gateMs) (s.fld d 8 8)
  let prio := orReg (x.map fun y => y.priority) (s.fld d 16 2)
  let mode := orReg (x.map fun y => y.commitMode) (s.fld d 18 1)
  let cmd := Instr.stepRun h program table batch rsv (some ⟨stall, gate, prio, mode⟩)
  s.serve h cmd []
    [need (program % 64 = 0) (fRange 0 program), need (program < 0x28000000) (fAddr 0 program),
     need (table % 64 = 0) (fRange 8 table), need (table < 0x28000000) (fAddr 8 table),
     need (inOneTier .granary table (64 + 16 * batch)) (fAddr 8 0x28000000), shape 16 batch 1 512, rsvZero 18 rsv,
     inRange 20 stall 1 255, inRange 21 gate 1 255, inRange 22 prio 0 3, inRange 23 mode 0 1]
    [] false fun s =>
    if s.testing then s.setJob h 0x0403 cmd .waitWake
    else
      let t : Step := {
        lane := h.lane, order := 0, program := program, slots := ((s.programAt program).map fun p => p.slots).getD 0
        cols := s.tableCols table batch, stallMs := stall, gateMs := gate, priority := prio, commitMode := mode }
      match s.startFailure t table with
      | some f => s.failReply h 0x0403 f
      | none => s.enterStep h cmd t

/-! ### Dispatch -/

/-- The record a step is about to dispatch is set as the one in dispatch. -/
def State.atRecord (s : State) (lane : Nat) : State := s.modStep lane fun t => { t with cur := t.next }

/-- What holds back the next record: a supply hold before a GATE, an END or the first record (R396), and an exchange forced
after SOURCE_FADE before the first (R358). -/
def State.dispatchHeld (s : State) (t : Step) (op : PRec) : Bool :=
  (s.lantern.hold.isSome && (op.kind = 6 || op.kind = 10 || t.next = 0)) || (decide (t.next = 0) && s.exchanges.any fun e => e.forced)

/-- The bytes that a record writes (R319); those of a STREAM or a COPY are known once the Reaper has taken it up. -/
def State.writesOf (s : State) (t : Step) (op : PRec) : List (Nat × Nat) :=
  match op with
  | .epilogue r => r.written
  | .millOp r => r.written
  | .glean r =>
    (if bitOf r.mode 1 then rowRanges r.out r.outStride t.batch (r.kvHeads * r.qPerKv * r.headDim * r.outSize) else [])
      ++ (if bitOf r.mode 0 then
        t.cols.flatMap fun c => match s.session c.session with
          | some q => (List.range r.kvHeads).flatMap fun h => [0, 1].map fun kv =>
              (q.stageRow c.stage c.j r.layer h kv, r.headDim * q.bits / 8 + 8)
          | none => []
      else [])
  | _ => []

/-- A step dispatches a record: it is no longer at a Gate, and the time of its first record is kept (R12, R386). -/
def Step.leaveGate (t : Step) (now : Nat) : Step := { t with rest := false, since := if t.next = 0 then now else t.since }

/-- A record given to its engine (R311). -/
def State.dispatch (s : State) (t : Step) (op : PRec) : State :=
  let slots := match op with
    | .bayLoad r => maskBits 8 r.slotMask
    | _ => []
  let w := s.writesOf t op
  s.modStep t.lane fun t =>
    { t.leaveGate s.clocks.tick with
      live := t.live ++ [{ idx := t.next, op := op, todo := slots, left := slots }]
      next := t.next + op.size
      touched := t.touched ++ w }

/-- RECORD_DISPATCH (R311, R314, R315, R317): the next record of a step is dispatched, or skipped where its condition is
false; a GATE or an END not yet open, a DEP, and a clip decision not yet made hold it back. -/
def doRecordDispatch (lane : Nat) (s : State) : State :=
  match s.stepOf lane with
  | none => s
  | some t =>
    if !s.works t || t.restore ≠ [] || t.atGate then s
    else
      match s.readRec t t.next with
      | .none => s
      | .parity f => (s.atRecord lane).abortStep lane f t.next
      | .ok op _ =>
        if s.dispatchHeld t op then s
        else
          let s := s.atRecord lane
          match op, t.condHolds op.cond with
          | .dep _, _ => s
          | _, none => s
          | _, some false => (s.modStep lane fun t => { t.leaveGate s.clocks.tick with next := t.next + op.size }).settle
          | _, some true => (s.dispatch t op).settle

/-! ### DEP, COPY, ROUTE -/

/-- DEP (R214, R313): dispatched when record AFTER is complete; predictions are matched with the real lists. -/
def doDep (lane idx : Nat) (s : State) : State :=
  match s.stepOf lane with
  | none => s
  | some t =>
    if !s.works t || t.restore ≠ [] || t.atGate || t.next ≠ idx then s
    else
      match s.readRec t idx with
      | .ok (.dep r) _ =>
        if s.dispatchHeld t (.dep r) || !t.isDone r.after then s.atRecord lane
        else ((s.atRecord lane).modStep lane fun t => { t.leaveGate s.clocks.tick with next := t.next + 1 }).matchSpec lane |>.settle
      | _ => s

/-- The lowest Furrow of some slots. -/
def State.lowFurrow (s : State) (slots : List Nat) : Nat := ((slots.filterMap s.furrowOf).min?).getD 0

/-- The Tallies that have not written their last sum of a STREAM. -/
def State.talliesLeft (s : State) (t : Step) (rec : Nat) : List Nat :=
  (s.passesOf t.lane rec).filterMap fun m =>
    if decide (m.2.confirmed < m.2.total) || t.waits.any (fun w => w.record = rec && w.furrow = m.1)
        || (m.2.mask ≠ 0 && t.joins.any fun j => j.mask = m.2.mask && j.slot = m.2.slot) then some m.1
    else none

/-- The same for a STREAM whose own Tallies are done and whose join is not: the Tallies of the other members. -/
def State.joinLeft (s : State) (t : Step) (r : StreamR) : List Nat :=
  (maskBits 8 r.chainMask).flatMap fun n => match t.joinStream r.chainMask n with
    | some e => s.talliesLeft t e.1
    | none => (s.furrowOf n).toList

/-- The engine that has not finished a dispatched record, by BLOCK and INSTANCE: the first, with the lowest instance (R313,
R314). -/
def State.engineOf (s : State) (t : Step) (v : Live) : Nat × Nat :=
  match v.op with
  | .copy _ => (0x02, 0)
  | .stream r =>
    (match t.fetchOf v.idx with
    | some f =>
      if v.started && f.ready && decide (f.code.2.2 ≤ f.delivered) then
        (0x20, ((s.talliesLeft t v.idx ++ s.joinLeft t r).min?).getD (s.lowFurrow (groupOf 8 t.route r.slot)))
      else (0x02, 0)
    | none => (0x02, 0))
  | .epilogue r => (0x20, s.lowFurrow r.slots)
  | .bayLoad _ => (0x30, 8 * v.left.headD 0)
  | .millOp r => (0x30, (s.effective r).headD 0)
  | .glean _ => (0x40, 0)
  | _ => (0xFFFF, 0xFFFF)

/-- The order in which unfinished engines are named: Reaper, Tally, Mill, Gleaner, the lowest instance first (R314). -/
def firstEngine (l : List (Nat × Nat)) : Nat × Nat :=
  (l.foldl (fun (best : Option (Nat × Nat)) e => match best with
    | none => some e
    | some b => if e.1 < b.1 ∨ (e.1 = b.1 ∧ e.2 < b.2) then some e else some b) none).getD (0xFFFF, 0xFFFF)

/-- GATE_TIMEOUT with the record that waits and an engine it waits for (R313, R314). -/
def gateTimeoutFailure (idx : Nat) (e : Nat × Nat) : Failure :=
  { status := stGateTimeout, block := e.1, inst := e.2, detail := idx }

/-- DEP_TIMEOUT (R313): the DEP in dispatch has waited longer than GATE_LIMIT_MS. -/
def doDepTimeout (lane : Nat) (s : State) : State :=
  match s.stepOf lane with
  | none => s
  | some t =>
    if !s.works t || s.lantern.hold.isSome || t.cur ≠ t.next then s
    else
      match s.readRec t t.next with
      | .ok (.dep r) _ =>
        (match t.liveAt r.after with
        | some v => s.abortStep lane (gateTimeoutFailure t.next (s.engineOf t v)) t.next
        | none => s)
      | _ => s

/-- An earlier record of the Reaper has not been taken up (R311). -/
def Step.reaperBehind (t : Step) (idx : Nat) : Bool :=
  t.live.any fun v => decide (v.idx < idx) && (v.op.kind = 2 || v.op.kind = 8) && !v.started

/-- COPY (R198, R301): the Reaper takes up its records in program order and writes their streams. -/
def doCopy (lane idx : Nat) (s : State) : State :=
  match s.stepOf lane with
  | none => s
  | some t =>
    match t.liveAt idx with
    | none => s
    | some v =>
      if !s.works t || v.op.kind ≠ 8 || v.started || t.reaperBehind idx || s.lantern.hold.isSome then s
      else ((s.ensureFetch t idx).modStep lane fun t => t.modLive idx fun v => { v with started := true }).settle

/-- A ROUTE's groups put in force: the entries of slots that are not active are ignored (R301). -/
def State.newRoute (s : State) (old gs : List Nat) : List Nat :=
  (List.range 8).map fun n => if (s.furrowOf n).isSome then gs.getD n 0 else old.getD n 0

/-- ROUTE (R182, R185): the groups change at the Gate before it; a change costs 64 symbol clocks of GATE_WAIT. -/
def doRoute (lane idx : Nat) (s : State) : State :=
  match s.stepOf lane with
  | none => s
  | some t =>
    match t.liveAt idx with
    | none => s
    | some v =>
      match v.op with
      | .route gs =>
        if !s.works t || t.live.any (fun w => decide (w.idx < idx)) then s
        else
          let new := s.newRoute t.route gs
          let s := if t.route = new then s
            else (s.activeFurrows.foldl (fun s f => s.countSymbols f 0x60 64) s).bump (aThresher 0x3C)
          (s.modStep lane fun t => { t.complete idx with route := new }).settle
      | _ => s

/-! ### GATE and END -/

/-- A GATE or END is the only record left and no pass of the step is open: all that it waits for is done (R314). An END also
waits for Tithe lists still being written (log entry 34). -/
def State.gateReady (s : State) (t : Step) : Option Live :=
  match t.live with
  | [v] =>
    if (v.op.kind = 6 || (v.op.kind = 10 && t.fetches.isEmpty)) && s.works t && s.lantern.hold.isNone
        && s.furrows.all (fun x => x.passes.all fun p => p.lane ≠ t.lane) then some v else none
  | _ => none

/-- The Gate hold factor of the junction throttle, in eighths (R386). -/
def holdEighths (level : Nat) : Nat := if level = 0 then 0 else 2 ^ (level - 1)

/-- All before a Gate is complete for the first time: ready spares are inserted, and the throttle's hold is set (R187, R357,
R386). -/
def State.armGate (s : State) (t : Step) : State :=
  if t.gateAt.isSome then s
  else
    let s := s.makeExchanges false
    let now := s.clocks.tick
    s.modStep t.lane fun t => { t with gateAt := some (now + holdEighths s.lantern.throttle * (now - t.since) / 8) }

/-- A part inserted since the last Gate has not settled, or not locked (R187). -/
def State.inserting (s : State) (t : Step) : Bool :=
  decide (t.since < s.reaper.switchAt)
    && (decide (s.clocks.tick < s.reaper.switchAt) || s.activeFurrows.any fun f => (s.furrow f).unlocked)

/-- Nothing keeps an armed Gate closed any more (R187, R386). -/
def State.gateOpens (s : State) (lane : Nat) : Bool :=
  match s.stepOf lane with
  | none => false
  | some t => (match t.gateAt with
    | some n => decide (n ≤ s.clocks.tick)
    | none => false) && !s.inserting t

/-- A Gate opens: the step stands at it (R12, R386). -/
def Step.openGate (t : Step) (idx now : Nat) : Step :=
  { t.complete idx with gates := t.gates + 1, rest := true, since := now, gateAt := none }

/-- A waiting step with a higher PRIORITY (R316). -/
def State.outranked (s : State) (t : Step) : Bool :=
  s.steps.any fun u => u.lane ≠ t.lane && u.failure.isNone && !u.teardown && decide (t.priority < u.priority)

/-- The engines are given up at a Gate: the step is preempted there (R316, R317). -/
def State.yieldEngines (s : State) (t : Step) : State :=
  let s := s.modStep t.lane fun t => { t with preempted := true }
  ({ s with reaper := { s.reaper with holder := none } }).passEngines

/-- GATE_OPEN (R187, R314, R316, R317, R357, R386). A Gate that is held, or at which a part is inserted, opens at a later
event. -/
def doGateOpen (lane : Nat) (s : State) : State :=
  match s.stepOf lane with
  | none => s
  | some t =>
    match s.gateReady t with
    | some ⟨idx, .gate hold, _, _, _, _⟩ =>
      let s := s.armGate t
      if !s.gateOpens lane then s
      else
        let s := s.modStep lane fun t => t.openGate idx s.clocks.tick
        (if !hold && s.outranked t then s.yieldEngines t else s).settle
    | _ => s

/-- GATE_TIMEOUT (R187, R314): a GATE or END has not opened within GATE_LIMIT_MS; the first unfinished engine is named, none
where only an insertion keeps it closed. -/
def doGateTimeout (lane : Nat) (s : State) : State :=
  match s.stepOf lane with
  | none => s
  | some t =>
    match t.live.find? fun v => v.op.kind = 6 || v.op.kind = 10 with
    | none => s
    | some v =>
      let engines := (t.live.filter fun u => u.idx ≠ v.idx).map (s.engineOf t)
        ++ (if v.op.kind = 10 ∧ !t.fetches.isEmpty then [(0x02, 0)] else [])
      if !s.works t || s.lantern.hold.isSome || (engines.isEmpty && !(t.gateAt.isSome && s.inserting t)) then s
      else s.abortStep lane (gateTimeoutFailure v.idx (firstEngine engines)) v.idx

/-- The tokens a session produced: those of its DRAFT_COMPARE, else the token of its last column (R266, R310). -/
def State.tokensOf (s : State) (t : Step) (tokens n : Nat) : List Nat :=
  match t.drafts.find? fun d => d.session = n with
  | some d => d.tokens
  | none => [s.leAt (tokens + 4 * (t.firstCol n + t.width n - 1)) 4]

/-- The commit count of a session (R266, R284, R310). -/
def Step.commitCount (t : Step) (n : Nat) : Nat :=
  match t.drafts.find? fun d => d.session = n with
  | some d => d.tokens.length
  | none => t.width n

/-- The stage address of a session in a step. -/
def Step.stageOf (t : Step) (n : Nat) : Nat := ((t.cols.find? fun c => c.session = n).map fun c => c.stage).getD 0

/-- The reply of STEP_RUN (R95). -/
def State.stepReply (s : State) (t : Step) (tokens : Nat) : List Byte :=
  be 2 t.sessions.length ++ be 2 0 ++ t.sessions.flatMap fun n =>
    let ts := s.tokensOf t tokens n
    be 2 n ++ be 1 ts.length ++ be 1 t.commitMode ++ (List.range 9).flatMap fun i => be 4 (ts.getD i 0)

/-- The staged slots of every session committed, in step-table order; whether a stored-data error was met (R284, R285). -/
def State.commitStep (s : State) (t : Step) : Bool × State :=
  t.sessions.foldl (fun (r : Bool × State) n =>
    let c := r.2.commitSlots n (t.stageOf n) (t.commitCount n) (t.width n)
    (r.1 || c.1, c.2)) (false, s)

/-- The staged slots of every session held (R286). -/
def State.holdStep (s : State) (t : Step) : State :=
  t.sessions.foldl (fun (s : State) n => match s.session n with
    | some x => s.setSession n { x with held := some ⟨t.stageOf n, t.width n⟩ }
    | none => s) s

/-- A step that completes on a Furrow ends its run of aborts (R174, case 3). -/
def State.clearAborts (s : State) (t : Step) : State :=
  (t.loads.map fun e => e.1).foldl (fun (s : State) slot => match s.furrowOf slot with
    | some f => s.modFurrow f fun x => { x with badSteps := 0 }
    | none => s) s

/-- A step leaves with its reply (R71, R95, R101). -/
def State.endStep (s : State) (t : Step) (status : Nat) (payload : List Byte) : State :=
  match (s.lane t.lane).job with
  | none => s.dropStep t.lane
  | some j =>
    let s := s.reply j.hdr j.opcode status payload
    (s.noteCounts t.lane j.hdr.seq (t.cur, t.gates, t.replays)).dropStep t.lane

/-- The END once open: tokens read, entries committed or held, the reply sent, the engines passed on (R284, R310, R316). -/
def State.finishStep (s : State) (t : Step) (idx tokens : Nat) : State :=
  match s.granaryBad tokens (4 * t.batch) with
  | some w => s.abortStep t.lane (reeveParity w) idx
  | none =>
    let s := s.flushOwner (.lane t.lane)
    let r := s.takeFails (.lane t.lane)
    match r.1 with
    | some w => r.2.abortStep t.lane (ueFailure w) idx
    | none =>
      let s := r.2
      let payload := s.stepReply t tokens
      let c := if t.commitMode = 0 then s.commitStep t else (false, s.holdStep t)
      ((c.2.clearAborts t).endStep t (if c.1 then stDegraded else stOk) payload).settle

/-- END (R284, R310, R314, R316). -/
def doEndRecord (lane : Nat) (s : State) : State :=
  match s.stepOf lane with
  | none => s
  | some t =>
    match s.gateReady t with
    | some ⟨idx, .fin tokens, _, _, _, _⟩ =>
      let s := s.armGate t
      if s.gateOpens lane then s.finishStep t idx tokens else s
    | _ => s

/-! ### Aborts -/

/-- Every Furrow drops its unconfirmed counts and marks both bays empty (R169). -/
def State.clearFurrows (s : State) : State :=
  { s with furrows := s.furrows.map fun x =>
    { x with bayA := none, bayB := none, fill := none, passes := [], sent := [], replays := [], withheld := none } }

/-- The bytes of a range take a free value (R319, log entry 3). -/
def State.scramble (s : State) (g : Nat × Nat) : State :=
  let v := s.takeFree
  v.2.poke g.1 (le g.2 v.1)

/-- The Reaper drops the work of a step; what is in flight stays until it returns (R220). -/
def Fetch.tornDown (f : Fetch) : Fetch := { f with todo := [], pieces := f.pieces.filter fun p => p.tag.isSome }

/-- Furrows that the Reeve retires after an abort: a bay switch without light, a lock stall, repeated aborts (R174). -/
def State.retireFailing (s : State) : State :=
  s.activeFurrows.foldl (fun s f =>
    let c := s.reg (aFurrow f 0xAC)
    if (s.furrow f).role ≠ 0 then s
    else if c = 2 ∨ c = 5 then s.retireFurrow f c
    else if 2 ≤ (s.furrow f).badSteps then s.retireFurrow f 3
    else s) s

/-- The lane of an aborted step is held, and the abort recorded (R71, R434). -/
def State.recordAbort (s : State) (t : Step) (f : Failure) (idx : Nat) : State :=
  match (s.lane t.lane).job with
  | none => s
  | some j =>
    let s := s.setLane t.lane { s.lane t.lane with held := some j.hdr.seq }
    if f.status / 0x1000 = 2 then s.raiseAt (f.record 0x0010 j.hdr idx) t.failedAt else s

/-- The staged slots of an aborted step are discarded (R287). -/
def State.discardStaged (s : State) (t : Step) : State :=
  t.staged.foldl (fun s e => match s.session e.1 with
    | some x => s.discardSlots x e.2
    | none => s) s

/-- TASK_ABORT (R169, R219, R220, R319, R358): the first abort of a step ends its work; what it wrote is undefined. -/
def doTaskAbort (lane : Nat) (s : State) : State :=
  match s.stepOf lane with
  | none => s
  | some t =>
    match t.failure with
    | none => s
    | some (f, idx) =>
      if t.teardown then s
      else
        let s := if s.reaper.holder = some lane then s.clearFurrows else s
        let s := ((s.flushOwner (.lane lane)).takeFails (.lane lane)).2
        let s := t.touched.foldl State.scramble s
        let s := s.bump (aReaper 0x6C) ((t.fetches.map fun x => x.pieces.countP fun p => p.spec && p.tag.isNone).sum)
        let s := (s.discardStaged t).recordAbort t f idx
        let s := s.modStep lane fun t =>
          { t with
            teardown := true, live := [], waits := [], joins := [], staged := []
            fetches := (t.fetches.map Fetch.tornDown).filter fun x => x.pieces ≠ [] }
        let s := if f.status = stSourceFade then s.forceExchange f.detail else s
        s.retireFailing

/-- The reads of a step still in flight, those that no entry claimed among them (R221). -/
def State.inFlight (s : State) (t : Step) : Bool :=
  (t.fetches.any fun f => f.pieces.any fun p => p.tag.isSome) || s.reaper.dropping.any fun d => d.order = t.order

/-- A TASK_CANCEL that waited for its target is answered (R96). -/
def State.answerCancels (s : State) (lane seq : Nat) : State :=
  s.lanes.foldl (fun s l => match l.job with
    | some j => match j.kind with
      | .cancelWait a b => if a = lane ∧ b = seq then s.reply j.hdr j.opcode stOk else s
      | _ => s
    | none => s) s

/-- TEARDOWN_COMPLETE (R96, R221, R317): the last read has returned; the reply leaves, and the engines pass on. -/
def doTeardownComplete (lane : Nat) (s : State) : State :=
  match s.stepOf lane with
  | none => s
  | some t =>
    match t.failure with
    | none => s
    | some (f, _) =>
      if !t.teardown || s.inFlight t then s
      else
        let seq := s.stepSeq lane
        (((s.endStep t f.status f.bytes).answerCancels lane seq).settleExchanges).settle

end Sys2Proof.Machine
end

