-- ==== Sys2Proof/Machine/MemCmds.lean ====
section
/-!
DEFINITION. The memory commands (04, 14): MEM_WRITE, MEM_READ, MEM_FILL and MEM_COPY (R87 to R91), REGION_SET (R328),
ECC_FLIP_ARM (R338); and what the controllers do by themselves: the merge timer (R330), the patrol scrub (R336), the
refresh band (R337).
-/
namespace Sys2Proof.Machine

/-! ### Reads and writes -/

/-- Bytes written for a command, its merge entries flushed, and the failure of a flush (R91, R305, R330, R332). -/
def State.commandWrite (s : State) (lane a : Nat) (bs : List Byte) : Option Failure × State :=
  let s := ((s.uncheck a bs.length).writeMem (.lane lane) a bs).flushOwner (.lane lane)
  let r := s.takeFails (.lane lane)
  (r.1.map ueFailure, r.2)

/-- MEM_WRITE (R87). -/
def doMemWrite (h : ReqHdr) (a rsv : Nat) (data : List Byte) (s : State) : State :=
  s.serve h (.memWrite h a rsv data) [] [rangeCheck 0 a data.length, inRange 8 data.length 0 8952, rsvZero 12 rsv] []
    (data.length = 0) fun s =>
    match s.commandWrite h.lane a data with
    | (some f, s) => s.failReply h 0x0201 f
    | (none, s) => s.reply h 0x0201 stOk

/-- MEM_READ (R88, R91). -/
def doMemRead (h : ReqHdr) (a n rsv : Nat) (s : State) : State :=
  s.serve h (.memRead h a n rsv) [wrongUnless (s.hasp.running || s.dev ≠ .fault)] [rangeCheck 0 a n, inRange 8 n 0 65536, rsvZero 12 rsv] [] (n = 0) fun s =>
    match s.readMem 0 a n with
    | ((_, some w), s) => s.failReply h 0x0202 (ueFailure w)
    | ((bs, none), s) => s.reply h 0x0202 stOk bs

/-- The job that a memory command leaves: its reply is sent when its time has run (R105). -/
def jobOf (f : Option Failure) : JobKind :=
  match f with
  | some x => .fail x
  | none => .finish stOk []

/-- A pattern of 8 bytes repeated over `n` bytes (R89). -/
def fillBytes (n : Nat) (p : List Byte) : List Byte := (List.range n).map fun i => p.getD (i % 8) 0

/-- MEM_FILL (R89). -/
def doMemFill (h : ReqHdr) (a n : Nat) (p : List Byte) (s : State) : State :=
  s.serve h (.memFill h a n p) [] [rangeCheck 0 a n, inRange 8 n 0 (2 ^ 30)] [] (n = 0) fun s =>
    let r := s.commandWrite h.lane a (fillBytes n p)
    r.2.setJob h 0x0203 (.memFill h a n p) (jobOf r.1)

/-- MEM_COPY (R90, R91): the bytes before a failing word of the source are written. -/
def doMemCopy (h : ReqHdr) (src dst n : Nat) (s : State) : State :=
  s.serve h (.memCopy h src dst n) []
    [rangeCheck 0 src n, rangeCheck 8 dst n, need (!overlaps (src, n) (dst, n)) (fRange 8 dst), inRange 16 n 0 (2 ^ 30)] []
    (n = 0) fun s =>
    let r := s.readMem 0 src n
    let w := r.2.commandWrite h.lane dst r.1.1
    let f := match r.1.2 with
      | some x => some (ueFailure x)
      | none => w.1
    w.2.setJob h 0x0204 (.memCopy h src dst n) (jobOf f)

/-! ### Region tables -/

/-- The tier a TIER field names. -/
def tierNamed (n : Nat) : Tier := if n = 0 then .loft else .silo

/-- The region table of a tier replaced. -/
def State.setRegions (s : State) (t : Tier) (l : List Region) : State :=
  match t with
  | .silo => { s with memory := { s.memory with siloRegions := l } }
  | _ => { s with memory := { s.memory with loftRegions := l } }

/-- The controllers of a tier. -/
def Tier.ctls (t : Tier) : List Nat := if t = .silo then (List.range 32).map fun c => 8 + c else List.range 8

/-- Words put in ascending order. -/
def sortWords (l : List Nat) : List Nat :=
  let put1 (x : Nat) (acc : List Nat) : List Nat := acc.takeWhile (fun y => y < x) ++ [x] ++ acc.dropWhile (fun y => y < x)
  l.foldr put1 []

/-- The words with stored errors in a tier whose class differs under a new table, ascending. A word without a stored error
changes only its check bytes. -/
def State.changedWords (s : State) (t : Tier) (new : List Region) : List Nat :=
  sortWords ((s.memory.errs.map fun e => e.word).filter fun w =>
    tierOf w = some t && (s.classOf w).2 ≠ (entryOf new ((w - t.base) / t.stripe)).2.cls)

/-- One word converted: read under its old class; what is uncorrectable stays so (R328). -/
def State.convertWord (s : State) (w : Nat) : Bool × State :=
  match s.readWord w 4 with
  | (none, s) => (true, s.setErr { word := w, poison := true })
  | (some d, s) => (false, (s.poke w d).clearErr w)

/-- Words converted in ascending order; the first that was uncorrectable. -/
def State.convertWords (s : State) (l : List Nat) : Option Nat × State :=
  l.foldl (fun (r : Option Nat × State) w =>
    let c := r.2.convertWord w
    (if c.1 then some (r.1.getD w) else r.1, c.2)) (none, s)

/-- A region entry applied: words converted, a range zeroed with MODE 1, the tier's flip disarmed, the scrub restarted
(R328, R336). With MODE 1 a word that changes class outside the zeroed range is converted too (log entry 15). -/
def State.applyRegion (s : State) (t : Tier) (n mode : Nat) (r : Region) : Option Failure × State :=
  let old := (s.regions t).getD n {}
  let new := setAt (s.regions t) n r
  let zero : Nat × Nat :=
    if mode = 0 then (0, 0)
    else if r.en then (t.base + r.base * t.stripe, r.size * t.stripe)
    else if old.en then (t.base + old.base * t.stripe, old.size * t.stripe) else (0, 0)
  let words := (s.changedWords t new).filter fun w => !(zero.1 ≤ w && w < zero.1 + zero.2)
  let c := s.convertWords words
  let s := (c.2.zero zero.1 zero.2).setRegions t new
  let s := s.setFlip t none
  (c.1.map ueFailure, { s with memory := { s.memory with scrubNext := s.memory.scrubNext.filter fun e => !t.ctls.contains e.1 } })

/-- The checks of BASE and SIZE (R328). -/
def regionRange (b : RegionB) : List (Option Failure) :=
  let t := tierNamed b.tier
  let inT : Bool := t.base ≤ b.base && b.base < t.base + t.size
  if b.entry = 0 then [need (b.base = t.base) (fRange 8 b.base), need (b.size = 0 || b.size = t.size) (fRange 16 b.size)]
  else if b.enable = 0 then [need (b.base = 0) (fRange 8 b.base), need (b.size = 0) (fRange 16 b.size)]
  else
    [need (!inT || b.base % t.stripe = 0) (fRange 8 b.base), need (inT || b.size = 0) (fAddr 8 b.base),
     need (b.size % t.stripe = 0) (fRange 16 b.size), need (b.size = 0 || inOneTier t b.base b.size) (fAddr 16 (t.base + t.size))]

/-- REGION_SET (R328). -/
def doRegionSet (h : ReqHdr) (b : RegionB) (x : Option (Nat × Nat)) (s : State) : State :=
  let mode := orReg (x.map fun y => y.1) (s.fld (aGlobal 0x2C) 0 1)
  let t := tierNamed b.tier
  let cmd := Instr.regionSet h b (some (mode, orReg (x.map fun y => y.2) 0))
  s.serve h cmd []
    ([inRange 0 b.tier 0 1, inRange 1 b.entry 0 15, inRange 2 b.cls 0 2, inRange 3 b.enable 0 1,
      need (b.entry ≠ 0 || b.enable = 1) (fRange 3 b.enable), rsvZero 4 b.rsv] ++ regionRange b
      ++ [inRange 24 mode 0 1, rsvZero 25 (orReg (x.map fun y => y.2) 0)]) []
    (b.size = 0 && b.enable = 1) fun s =>
    let r : Region := if b.enable = 1 then ⟨(b.base - t.base) / t.stripe, b.size / t.stripe, b.cls, true⟩ else ⟨0, 0, b.cls, false⟩
    let c := s.applyRegion t b.entry mode r
    c.2.setJob h 0x0205 cmd (jobOf c.1)

/-! ### Flips -/

/-- ECC_FLIP_ARM (R338). -/
def doEccFlipArm (h : ReqHdr) (b : FlipB) (s : State) : State :=
  let none_ := decide (b.checkMask = 0 ∧ b.symbolMask = 0)
  let t := tierNamed b.tier
  s.serve h (.eccFlipArm h b) []
    [inRange 0 b.tier 0 1, inRange 1 b.entry 0 15, need (none_ || ((s.regions t).getD b.entry {}).en) (fRange 1 b.entry),
     need (none_ || b.pattern ≠ 0) (fRange 2 b.pattern), rsvZero 4 b.rsv] [] false fun s =>
    let s : State := { s with memory := { s.memory with flipFired := [] } }
    (s.setFlip t (if none_ then none else some ⟨b.entry, b.pattern, b.checkMask, b.symbolMask⟩)).reply h 0x0703 stOk

/-! ### What the controllers do by themselves -/

/-- The packages are in self-refresh (R390). -/
def State.selfRefresh (s : State) : Bool := s.dev = .doze || s.dev = .night

/-- A failed flush of a running step's write aborts the step (R332). -/
def State.stepFlushFails (s : State) (o : Owner) : State :=
  match o with
  | .commit => s
  | .lane l =>
    match s.stepOf l with
    | none => s
    | some t =>
      match s.takeFails (.lane l) with
      | (some w, s) => s.abortStep l (ueFailure w) t.cur
      | (none, s) => s

/-- MERGE_FLUSH_TIMER (R330): an entry with no write for 2 µs is flushed. -/
def doMergeFlushTimer (ctl word : Nat) (s : State) : State :=
  match s.memory.merge.find? fun m => m.ctl = ctl && m.word = word with
  | none => s
  | some m => (s.flushEntry m).stepFlushFails m.owner

/-- One word that the scrub reads: a correction counts as one of the scrub too (R333, R334, R336). -/
def State.scrubWord (s : State) (w : Nat) : State :=
  match s.readWord w 5 with
  | (none, s) => s
  | (some _, t) => if (t.errOf w).isNone then t.bump (aMemctl (ctlOf w) 0x118) else t

/-- The KEEP words of a controller with stored errors in a range of its local space, in ascending local address. Reading a
word without one has no effect. -/
def State.scrubList (s : State) (ctl lo hi : Nat) : List Nat :=
  let mine := (s.memory.errs.map fun e => e.word).filter fun w => ctlOf w = ctl && (s.classOf w).2 = 0 && lo ≤ localOf w && localOf w < hi
  sortWords mine

/-- The last stripe of a tier whose class is KEEP: classes change at the ends of enabled entries only (R327). -/
def State.lastKeep (s : State) (t : Tier) : Option Nat :=
  let rs := s.regions t
  let ends := (rs.filter fun r => r.en).flatMap fun r => [r.base, r.base + r.size]
  ((ends.filter fun x => 0 < x && (entryOf rs (x - 1)).2.cls = 0).map fun x => x - 1).max?

/-- The local address behind the last word that the scrub of a tier's controller reads in a pass: every stripe holds one 4 KiB
page of each controller (R270, R323, R336). -/
def State.scrubEnd (s : State) (t : Tier) : Nat := ((s.lastKeep t).map fun x => (x + 1) * 0x1000).getD 0

/-- PATROL_SCRUB (R336): the scrub of a controller goes on up to a word of its KEEP regions, past the end of its local space
where the word lies before the next one. A pass counts when its last KEEP word has been read. -/
def doPatrolScrub (ctl word : Nat) (s : State) : State :=
  if !bitOf (s.reg (aMemctl ctl 4)) 0 || !s.memory.trained || s.selfRefresh || 40 ≤ ctl || ctlOf word ≠ ctl || word % 64 ≠ 0
      || (tierOf word ≠ some .loft && tierOf word ≠ some .silo) || (s.classOf word).2 ≠ 0 then s
  else
    let next := (look s.memory.scrubNext ctl).getD 0
    let here := localOf word
    let s := if next ≤ here then (s.scrubList ctl next (here + 64)).foldl State.scrubWord s
      else
        let s := ((s.scrubList ctl next (2 ^ 48)).foldl State.scrubWord s).bump (aMemctl ctl 0x11C)
        (s.scrubList ctl 0 (here + 64)).foldl State.scrubWord s
    let last := here + 64 = s.scrubEnd ((tierOf word).getD .silo)
    let s := if last then s.bump (aMemctl ctl 0x11C) else s
    { s with memory := { s.memory with scrubNext := putD 0 s.memory.scrubNext ctl (if last then 0 else here + 64) } }

/-- The diode channel of a controller's package (R379). -/
def packageChannel (ctl : Nat) : Nat := if ctl < 8 then 14 + ctl else 22 + (ctl - 8) / 4

/-- The band of a package temperature: a threshold once reached holds until the temperature is 3 °C below it (R337). -/
def refreshBand (old : Nat) (q : Int) : Nat :=
  ([(1, 85), (2, 95), (3, 105)].filter fun (b : Nat × Int) => decide (b.2 * 256 ≤ q) || (decide (b.1 ≤ old) && decide ((b.2 - 3) * 256 < q))).length

/-- REFRESH_BAND_UPDATE (R337): the higher of the diode and the DRAM's own indication; with neither, band 2. -/
def doRefreshBandUpdate (ctl : Nat) (dram : Option Nat) (s : State) : State :=
  if !s.memory.trained || s.selfRefresh || 40 ≤ ctl then s
  else
    let ch := packageChannel ctl
    let diode := if s.trusted ch then ((s.diode ch).reading).map (refreshBand (s.fld (aMemctl ctl 8) 2 2)) else none
    let band := match diode, dram with
      | some a, some b => max a b
      | some a, none => a
      | none, some b => b
      | none, none => 2
    s.setFld (aMemctl ctl 8) 2 2 (min band 3)

end Sys2Proof.Machine
end

