-- ==== Sys2Proof/Machine/Engine.lean ====
section
/-!
DEFINITION. ENGINE_START, ENGINE_STOP and MARGIN_TEST (05): heat-up (R113, R114), what the margin test makes of its
readings (R117 to R119), the assignment (R120, R121, R153), the engine report (R122), outcomes (R123, R125).
-/
namespace Sys2Proof

/-! ### The margin test -/

/-- The Q of a position of a Furrow, in Q8.8 rounded down. -/
def FurrowMeas.q (m : FurrowMeas) (p : Nat) : Nat := m.colQ.getD p 0

/-- Positions 0 to 64 that fail (R118). -/
def FurrowMeas.failing (m : FurrowMeas) (qMin : Nat) : List Nat := (List.range 65).filter fun p => m.q p < qMin

/-- Good spare positions (R118). -/
def FurrowMeas.goodSpares (m : FurrowMeas) (qMin : Nat) : List Nat := [65, 66, 67].filter fun p => qMin ≤ m.q p

/-- Failing positions with the spares that replace them, both ascending (R118). -/
def FurrowMeas.pairs (m : FurrowMeas) (qMin : Nat) : List (Nat × Nat) := (m.failing qMin).zip (m.goodSpares qMin)

/-- A Furrow passes (R119). -/
def FurrowMeas.passes (m : FurrowMeas) (qMin : Nat) : Bool :=
  decide ((m.failing qMin).length ≤ (m.goodSpares qMin).length) && m.modLock && m.switchOk

/-- The positions that the minimum Q of a Furrow is taken over (R119). -/
def FurrowMeas.used (m : FurrowMeas) (qMin : Nat) (pass : Bool) : List Nat :=
  if pass then
    (List.range 65).map fun p => match (m.pairs qMin).find? fun e => e.1 = p with
      | some e => e.2
      | none => p
  else (List.range 68).filter fun p => qMin ≤ m.q p

/-- The minimum Q of a Furrow (R119). -/
def FurrowMeas.minQ (m : FurrowMeas) (qMin : Nat) (pass : Bool) : Nat := (((m.used qMin pass).map m.q).min?).getD 0

/-- The position that a spare replaces, 0xFF if none (R122). -/
def FurrowMeas.replaces (m : FurrowMeas) (qMin spare : Nat) : Nat :=
  match (m.pairs qMin).find? fun e => e.2 = spare with
  | some e => e.1
  | none => 0xFF

/-- Some position fails. -/
def FurrowMeas.anyBad (m : FurrowMeas) (qMin : Nat) : Bool := (List.range 68).any fun p => m.q p < qMin

end Sys2Proof

namespace Sys2Proof.Machine

/-- The readings of a Furrow. -/
def measOf (env : Env) (f : Nat) : FurrowMeas := env.furrows.getD f {}

/-- The readings of a source; one without readings does not lock. -/
def sourceMeas (env : Env) (n : Nat) : SourceMeas := env.sources.getD n { locked := false, power := 0 }

/-- A source passes (R117). -/
def State.sourcePasses (s : State) (env : Env) (n : Nat) : Bool :=
  let m := sourceMeas env n
  m.locked && decide (asSigned 16 (s.fld (aSources 0x10) 0 16) ≤ m.power)

/-- The passing sources. -/
def State.passingSources (s : State) (env : Env) : List Nat := (List.range 20).filter (s.sourcePasses env)

/-- A Furrow passes the test; without two passing sources to light it none is tested (R117, R119). -/
def State.furrowPasses (s : State) (env : Env) (qMin f : Nat) : Bool :=
  decide (2 ≤ (s.passingSources env).length) && (measOf env f).passes qMin

/-! ### The assignment -/

/-- Numbers ranked by a measure, highest first, ties to the lower number (R120). -/
def rankBy (v : Nat → Int) (l : List Nat) : List Nat :=
  let put1 (x : Nat) (acc : List Nat) : List Nat :=
    acc.takeWhile (fun y => decide (v x < v y) || (decide (v x = v y) && decide (y < x))) ++ [x]
      ++ acc.dropWhile (fun y => decide (v x < v y) || (decide (v x = v y) && decide (y < x)))
  l.foldr put1 []

/-- FURROW.CTL.EXCLUDE (R176). -/
def State.furrowExcluded (s : State) (f : Nat) : Bool := bitOf (s.reg (aFurrow f 4)) 0

/-- A Furrow retired in service (R174, R175). -/
def State.furrowRetired (s : State) (f : Nat) : Bool :=
  let c := s.reg (aFurrow f 0xAC)
  (s.furrow f).role = 2 && (c = 2 || c = 3 || c = 5)

/-- A Furrow may be assigned: it passes, is not excluded, and with `keep` has not been retired (R125, R175, R176). -/
def State.eligible (s : State) (env : Env) (qMin : Nat) (keep : Bool) (f : Nat) : Bool :=
  s.furrowPasses env qMin f && !s.furrowExcluded f && !(keep && s.furrowRetired f)

/-- The active Furrows and the sources in their ranking (R120). -/
structure Assignment where
  active : List Nat
  spares : List Nat
  ranked : List Nat

/-- The rule of R120. DESIGN CHOICE (log entry 133): the spec does not say how finely Q is held when Furrows are ranked; they
are ranked by their minimum Q as FURROW.MIN_Q holds it, in Q8.8 rounded down, so that Furrows less than 1/256 apart tie and
the lower number wins. -/
def State.assignment (s : State) (env : Env) (qMin : Nat) (keep : Bool) : Assignment :=
  let pass := (List.range 10).filter (s.eligible env qMin keep)
  let src := s.passingSources env
  let n := min 8 (min pass.length (src.length / 2))
  let best := (rankBy (fun f => ((measOf env f).minQ qMin true : Int)) pass).take n
  { active := pass.filter fun f => best.contains f
    spares := pass.filter fun f => !best.contains f
    ranked := rankBy (fun k => (sourceMeas env k).power) src }

/-- The cause that FURROW.FAULT_CAUSE shows after an assignment (R176). -/
def State.assignCause (s : State) (env : Env) (qMin : Nat) (keep : Bool) (f : Nat) : Nat :=
  if keep && s.furrowRetired f then s.reg (aFurrow f 0xAC)
  else if s.furrowExcluded f then 4
  else if s.furrowPasses env qMin f then 0 else 1

/-- The assignment of one Furrow: role, slot, minimum Q, column map (R118 to R120, R153, R176). -/
def State.assignFurrow (s : State) (a : Assignment) (env : Env) (qMin : Nat) (keep : Bool) (f : Nat) : State :=
  let m := measOf env f
  let role := if a.active.contains f then 0 else if a.spares.contains f then 1 else 2
  let cause := s.assignCause env qMin keep f
  let s := s.modFurrow f fun x =>
    { x with
      role := role, slot := if role = 0 then a.active.findIdx fun g => g = f else 0, bayA := none, bayB := none
      rot := if keep then x.rot else 0, badSteps := if keep then x.badSteps else 0, fresh := true }
  let s := s.setReg (aFurrow f 0x10) (min 0xFFFF (m.minQ qMin (s.furrowPasses env qMin f)))
  let s := s.setReg (aFurrow f 0x14)
    (m.replaces qMin 65 + 256 * m.replaces qMin 66 + 65536 * m.replaces qMin 67 + 2 ^ 24 * (m.pairs qMin).length)
  s.setReg (aFurrow f 0xAC) cause

/-- The assignment of one source: those that are not active are switched off (R113, step 5; R120, R121). -/
def State.assignSource (s : State) (a : Assignment) (env : Env) (n : Nat) : State :=
  let i := a.ranked.findIdx fun k => k = n
  let p := (sourceMeas env n).power
  let lit := decide (i / 2 < a.active.length)
  let s := s.modSource n fun x =>
    { x with fade := 0, power := p, ready := false, warming := false, powers := [], locked := lit, furrow := if lit then a.active.getD (i / 2) 0xF else 0xF }
  if a.ranked.length ≤ i then (s.modSource n fun x => { x with role := 2, furrow := 0xF, locked := false }).offSource n
  else
    let s := s.modSource n fun x => { x with role := if lit then 0 else 1, fadeDb := 0, cal := p }
    if lit then s else s.offSource n

/-- Furrows, sources, spare columns and routes chosen; pending exchanges end (R113, step 5; R120, R153, R359). The
settling time of the slow switches is a free value within R186. -/
def State.assign (s : State) (env : Env) (qMin : Nat) (keep : Bool) : State :=
  let a := s.assignment env qMin keep
  let s := s.endExchanges
  let s := (List.range 10).foldl (fun s f => s.assignFurrow a env qMin keep f) s
  let s := (List.range 20).foldl (fun s n => s.assignSource a env n) s
  let s := s.moveSwitch
  { s with degraded := decide (a.active.length < 8) }

/-- The fits of a margin test stored for all Furrows, and their sets written (R366, R368). -/
def State.storeMargin (s : State) (env : Env) : State :=
  (List.range 10).foldl (fun s f =>
    match look env.fits f with
    | some fits => (s.storeFit f (s.furrowTemp f) fits).writeSet f
    | none => s) s

/-! ### The engine report -/

/-- A mask of the members of a list. -/
def maskOf (l : List Nat) : Nat := (l.map fun n => 2 ^ n).sum

/-- The engine report (R122): the assignment in force, with the Furrows and sources that count as failed. -/
def State.engineReport (s : State) (env : Env) (qMin : Nat) (badF badS : List Nat) : List Byte :=
  let srcs (role : Nat) : List Nat := (List.range 20).filter fun n => (s.source n).role = role
  be 1 s.activeCount ++ be 1 (srcs 1).length ++ be 2 (maskOf s.activeFurrows) ++ be 2 (maskOf badF)
    ++ be 2 (ofSigned 16 env.photTemp) ++ be 4 (maskOf (srcs 0)) ++ be 4 (maskOf badS)
    ++ (List.range 10).flatMap fun f =>
      let m := measOf env f
      be 1 (if badF.contains f then 2 else min 2 (s.furrow f).role) ++ be 1 (m.pairs qMin).length
        ++ be 2 (min 0xFFFF (m.minQ qMin (s.furrowPasses env qMin f))) ++ be 1 (m.replaces qMin 65) ++ be 1 (m.replaces qMin 66)
        ++ be 1 (m.replaces qMin 67) ++ be 1 0

/-- Furrows and sources marked failed. -/
def State.failedParts (s : State) : List Nat × List Nat :=
  ((List.range 10).filter fun f => (s.furrow f).role = 2, (List.range 20).filter fun n => (s.source n).role = 2)

/-- The record of a start with any failed part (R123). -/
def State.noteSpared (s : State) (env : Env) (qMin : Nat) : State :=
  let p := s.failedParts
  if p.1 = [] ∧ p.2 = [] ∧ !((List.range 10).any fun f => (measOf env f).anyBad qMin) then s
  else s.raise { kind := 0x0020, detail := maskOf s.activeFurrows * 65536 + maskOf p.1 }

/-- The outcome of R123: the reply with the report, or FURROW_LOST. -/
def State.engineOutcome (s : State) (h : ReqHdr) (op : Nat) (env : Env) (qMin minFurrows : Nat) : State :=
  let s := s.noteSpared env qMin
  let n := s.activeCount
  if n < minFurrows then
    let f : Failure := { status := stFurrowLost, detail := 0xFF + 256 * n }
    (s.enterFault f).failReply h op f
  else
    let p := s.failedParts
    s.reply h op (if n = 8 then stOk else stDegraded) (s.engineReport env qMin p.1 p.2)

/-! ### ENGINE_START -/

/-- The firmware's table during heat-up: bay zones run as PID loops on zone temperature (R340), with coefficients of the
module's own (Config). -/
def heatEntry (n : Nat) : LoopEntry :=
  let e := firmwareEntry n
  if isBayZone n then
    let c := Config.loopTableField (4096 + n)
    { e with
      target := c 0, kind := 0
      coef := (List.range 6).map fun i => c (4 + i), shifts := (List.range 6).map fun i => (c (10 + i) % 32).toNat
      outMin := c 16, outMax := c 17, vmax := c 18, amax := c 19, jmax := c 20, lockTol := c 21 }
  else e

/-- The firmware's loop table loaded: heat-up entries active, those of service on standby; the host's own slots stay (R113,
step 1; R340). -/
def State.loadLoops (s : State) : State :=
  let mine (l : List (Nat × LoopEntry)) : List (Nat × LoopEntry) := l.filter fun e => 3356 ≤ e.1
  let heat := (List.range 3356).map fun n => (n, heatEntry n)
  let v := s.vane
  let s : State := { s with vane := { v with
      bankA := (if v.bankBActive then firmwareTable else heat) ++ mine v.bankA
      bankB := (if v.bankBActive then heat else firmwareTable) ++ mine v.bankB } }
  (if s.lantern.pBand = 0 then s else s.applyBias).vaneRestart

/-- The operands of ENGINE_START, from the request or GLOBAL.ENGINE_DEF (R113, R126). -/
def State.engineOps (s : State) (x : Option (Nat × Nat × Nat)) : Nat × Nat × Nat :=
  let d := aGlobal 0x28
  x.getD (s.fld d 0 16, s.fld d 16 4, s.fld d 24 8)

/-- ENGINE_START (R113, R116, R366): the loops start, and every entry of the Winnow's point tables becomes invalid. -/
def doEngineStart (h : ReqHdr) (x : Option (Nat × Nat × Nat)) (s : State) : State :=
  let o := s.engineOps x
  s.serve h (.engineStart h x) [wrongUnless (!s.engineStarting)]
    [inRange 0 o.1 0x600 0xF00, inRange 2 o.2.1 1 8, inRange 3 o.2.2 5 40] [] false fun s =>
    let s : State := { s with winnow := s.winnow.map fun w => { w with points := [] } }
    (s.setJob h 0x0501 (.engineStart h x) (.engineStart o.1 o.2.1 o.2.2)).loadLoops

/-- ENGINE_START has run its sequence: bay zones change to LOCK, the assignment is made, the reply leaves (R113, R123). -/
def finishEngineStart (h : ReqHdr) (qMin minFurrows : Nat) (env : Env) (s : State) : State :=
  let s := (s.swapBanks.assign env qMin false).storeMargin env
  let s := if minFurrows ≤ s.activeCount then { s with engine := true, dev := .ready } else s.vaneStop
  s.engineOutcome h 0x0501 env qMin minFurrows

/-- ENGINE_START ends without success: sources and heaters are off, the device stays in CONFIG (R114, R115). -/
def State.failEngineStart (s : State) (h : ReqHdr) (f : Failure) : State :=
  (s.failReply h 0x0501 f).vaneStop

/-- The failure of a heat-up that takes too long: STALL_TIMEOUT with CAUSE 4 (R114). No record is in dispatch, and DETAIL is a
free value. -/
def State.heatFailure (s : State) : Failure × State :=
  let v := s.takeFree
  ({ status := stStallTimeout, cause := 4, detail := v.1 % 2 ^ 64 }, v.2)

/-! ### ENGINE_STOP -/

/-- The engine stops (R124, R376): sources, drivers and heaters off; roles and sessions stay. -/
def State.stopEngine (s : State) : State :=
  let s := s.abandonRuns.endExchanges
  let s : State := { s with
    engine := false, dev := .config
    furrows := s.furrows.map fun x => { x with bayA := none, bayB := none, fill := none }
    sources := s.sources.map fun x => { x with locked := false }
    lantern := { s.lantern with dozeDue := false } }
  s.vaneStop

/-- ENGINE_STOP (R124); it waits for a MARGIN_TEST to end (log entry 115). -/
def doEngineStop (h : ReqHdr) (s : State) : State :=
  s.serve h (.engineStop h) [] [] [] false fun s =>
    if s.marginTesting then s.setJob h 0x0502 (.engineStop h) .waitWake else s.stopEngine.reply h 0x0502 stOk

/-! ### MARGIN_TEST -/

/-- MARGIN_TEST (R125, R376). -/
def doMarginTest (h : ReqHdr) (x : Option (Nat × Nat × Nat)) (s : State) : State :=
  let d := aGlobal 0x28
  let o := x.getD (s.fld d 0 16, s.fld d 20 1, 0)
  s.serve h (.marginTest h x) [] [inRange 0 o.1 0x600 0xF00, inRange 2 o.2.1 0 1, rsvZero 3 o.2.2] [] false fun s =>
    (s.abandonRuns.setJob h 0x0504 (.marginTest h x) (.marginTest o.1 o.2.1 (s.fld d 16 4)))

/-- MARGIN_TEST has run: with REASSIGN 1 the assignment is made anew, with REASSIGN 0 it only reports (R125). -/
def finishMarginTest (h : ReqHdr) (qMin reassign minFurrows : Nat) (env : Env) (s : State) : State :=
  if reassign = 1 then
    ((s.assign env qMin true).storeMargin env).engineOutcome h 0x0504 env qMin minFurrows
  else
    let s := s.storeMargin env
    let badF := (List.range 10).filter fun f => !s.furrowPasses env qMin f
    let badS := (List.range 20).filter fun n => !s.sourcePasses env n
    let worse := badF.any (fun f => (s.furrow f).role = 0) || badS.any (fun n => (s.source n).role = 0)
    s.reply h 0x0504 (if worse then stDegraded else stOk) (s.engineReport env qMin badF badS)

end Sys2Proof.Machine
end

