-- ==== Sys2Proof/Machine/Sieve.lean ====
section
/-!
DEFINITION. The Sieve (18): the bank map (R404), marches and signatures (R406 to R409), SIEVE_RUN (R410 to R414), periodic
slices (R415 to R418).
-/
namespace Sys2Proof.Machine

/-! ### Banks -/

/-- The size of a Granary bank (R403). -/
def bankBytes : Nat := 0x50000

/-- The physical bank of a logical one (R404). -/
def Sieve.phys (v : Sieve) (b : Nat) : Nat := (look v.map b).getD b

/-- The logical bank that a physical one serves. -/
def Sieve.logical (v : Sieve) (p : Nat) : Option Nat := (List.range 2048).find? fun b => v.phys b = p

/-- A logical bank moved to a physical one. -/
def Sieve.move (v : Sieve) (b p : Nat) : Sieve := { v with map := putD b v.map b p }

/-- The free spares: physical banks that serve no logical bank and have not failed, ascending (R404). -/
def Sieve.spares (v : Sieve) : List Nat :=
  let used := (List.range 2048).map v.phys
  (List.range 2080).filter fun p => !v.failed.contains p && !used.contains p

/-- A physical bank marked failed until the next power-up (R413). -/
def Sieve.fail (v : Sieve) (p : Nat) : Sieve := if v.failed.contains p then v else { v with failed := v.failed ++ [p] }

/-! ### Marches and signatures -/

/-- One step of the signature register (R408). -/
def misr (sig d : Nat) : Nat :=
  let x := sig * 2 % 2 ^ 64 ^^^ d
  if 2 ^ 63 ≤ sig then x ^^^ 0x1B else x

/-- The signature after n equal lanes. -/
def misrN : Nat → Nat → Nat → Nat
  | 0, sig, _ => sig
  | n + 1, sig, d => misrN n (misr sig d) d

/-- The reads of each element of a march: how many per word, and whether they expect the complement (R406). -/
def marchReads (alg : Nat) : List (Nat × Bool) :=
  if alg = 0 then [(1, false), (1, true), (1, false), (1, true), (1, false)]
  else [(3, false), (3, true), (3, false), (3, true), (1, false)]

/-- The backgrounds (R407). -/
def backgrounds : List Nat :=
  [0x0000000000000000, 0x5555555555555555, 0x3333333333333333, 0x0F0F0F0F0F0F0F0F, 0x00FF00FF00FF00FF,
   0x0000FFFF0000FFFF, 0x00000000FFFFFFFF]

/-- The expected signature of a unit of `n` words of `lanes` lanes (R408). -/
def expectSig (alg bgs n lanes : Nat) : Nat :=
  ((maskBits 7 bgs).flatMap fun k => (marchReads alg).map fun e => (backgrounds.getD k 0, e)).foldl (fun sig x =>
    misrN (n * x.2.1 * lanes) sig (if x.2.2 then 2 ^ 64 - 1 - x.1 else x.1)) 0

/-- Words and lanes of a unit of TARGET 0 to 4 (R403). -/
def unitShape (target : Nat) : Nat × Nat :=
  match target with
  | 0 => (10240, 4)
  | 1 => (8192, 8)
  | 2 => (32768, 8)
  | 3 => (262144, 32)
  | _ => (24576, 8)

/-- Instances of a target (R403). -/
def targetUnits (target : Nat) : Nat :=
  match target with
  | 0 => 2080
  | 1 => 64
  | 2 => 10
  | 3 => 1
  | _ => 8

/-! ### Faults -/

/-- A Sieve fault in the log, in the lowest entry with SOURCE 0 (R419). -/
def State.logSieve (s : State) (addr src bank : Nat) : State :=
  match (List.range 8).find? fun n => s.fld (aSieve (0x104 + 16 * n)) 16 3 = 0 with
  | none => s
  | some n =>
    let a := aSieve (0x100 + 16 * n)
    let s := (s.setReg a (addr % 2 ^ 32)).setReg (a + 4) (addr / 2 ^ 32 % 2 ^ 16 + src * 2 ^ 16 + bank * 2 ^ 20)
    (s.setReg (a + 8) (s.clocks.cyc % 2 ^ 32)).setReg (a + 12) (s.clocks.cyc / 2 ^ 32 % 2 ^ 16)

/-- The record of a failed unit or slice (R413, R418, R434): DETAIL is the device address of the failing word where it has one,
else its offset in the unit (log entry 16). -/
def State.sieveRecord (s : State) (detail : Nat) : State :=
  s.raise { kind := 0x0033, block := 0x0090, inst := 0, detail := detail } (some .sieve)

/-! ### SIEVE_RUN -/

/-- A run as its job keeps it. -/
structure Run where
  target : Nat
  first : Nat
  count : Nat
  base : Nat
  size : Nat
  alg : Nat
  bgs : Nat

/-- The controllers that hold part of an external range: all of its tier, by whole stripes (R409). -/
def Run.tier (r : Run) : Tier := tierNamed (r.target - 5)

/-- The units of a run, ascending. -/
def Run.units (r : Run) : List Nat :=
  if 5 ≤ r.target then r.tier.ctls else (List.range r.count).map fun i => r.first + i

/-- Words and lanes of each unit of a run; the stored form of an external word has 9 lanes (R408). -/
def Run.shape (r : Run) : Nat × Nat := if 5 ≤ r.target then (r.size / r.tier.stripe * 64, 9) else unitShape r.target

/-- The failing units of a run, in ascending order. -/
def Run.fails (r : Run) (env : Env) : List UnitFail :=
  r.units.filterMap fun u => env.unitFails.find? fun e => e.unit = u

/-- The signature of a run and the expected one (R409). -/
def Run.sigs (r : Run) (env : Env) : Nat × Nat :=
  let e := expectSig r.alg r.bgs r.shape.1 r.shape.2
  (r.units.foldl (fun sig u => misr sig (match (r.fails env).find? fun x => x.unit = u with
      | some x => x.sig
      | none => e)) 0,
   r.units.foldl (fun sig _ => misr sig e) 0)

/-- The device range of a logical bank. -/
def bankRange (b : Nat) : Nat × Nat := (b * bankBytes, bankBytes)

/-- Entries that touch a range leave: programs by their slots and named descriptors, held entries by their stage (R412). -/
def State.dropTouched (s : State) (g : Nat × Nat) : State :=
  let hit (p : Program) : Bool :=
    ((p.ranges ++ protectOf p.addr p.slots (s.parsePrefix p.addr p.slots).2).any fun q => overlaps q g)
  let keep := s.programs.filter fun p => !hit p
  let held (e : Nat × Session) : Bool := match e.2.held with
    | some k => overlaps (k.stage, k.slots * e.2.slotBytes) g
    | none => false
  let s := ((s.sessions.filter held).map fun e => e.1).foldl State.dropHeld s
  { s with programs := keep }

/-- The tested Granary banks lose their contents and read as zero (R411, R412). -/
def State.eraseBanks (s : State) (units : List Nat) : State :=
  let banks := (List.range 2048).filter fun b => units.contains (s.sieve.phys b)
  let s := banks.foldl (fun s b => s.dropTouched (bankRange b)) s
  banks.foldl (fun s b => s.zero (bankRange b).1 (bankRange b).2) s

/-- A failed bank in use: its logical bank moves to the lowest free spare, which is zeroed (R413); whether it moved. -/
def State.replaceBank (s : State) (p : Nat) : Bool × State :=
  match s.sieve.logical p, s.sieve.spares.head? with
  | some b, some sp => (true, { (s.zero (bankRange b).1 (bankRange b).2) with sieve := s.sieve.move b sp })
  | _, _ => (false, s)

/-- The outcome of a failed unit that needs no spare (R413). -/
def State.markUnit (s : State) (target : Nat) (e : UnitFail) : State :=
  match target with
  | 0 => { s with sieve := s.sieve.fail e.unit }
  | 1 => s.setFld (aMill e.unit 4) 0 1 1
  | 2 => s.setFld (aFurrow e.unit 4) 0 1 1
  | _ => s

/-- A failed unit recorded, counted and logged (R413). -/
def State.noteUnit (s : State) (target : Nat) (e : UnitFail) : State :=
  let addr := match target, s.sieve.logical e.unit with
    | 0, some b => b * bankBytes + e.addr
    | _, _ => e.addr
  ((s.sieveRecord addr).logSieve e.addr 1 (if target = 0 then e.unit else 0)).bump (aSieve 0x54)

/-- What the tested units of a run hold while the march runs, and after the device cuts it short, is a free value: the march
destroys it as it goes, and the spec states no contents before the units are zeroed (R411, R412, log entry 116). Programs and
held entries that touch a tested bank go. -/
def State.sieveOpen (s : State) (r : Run) : State :=
  let v := s.takeFree
  if r.target = 0 then
    let banks := (List.range 2048).filter fun b => r.units.contains (s.sieve.phys b)
    let s := banks.foldl (fun s b => s.dropTouched (bankRange b)) v.2
    banks.foldl (fun s b => s.poke (bankRange b).1 (le bankBytes v.1)) s
  else if 5 ≤ r.target then v.2.poke r.base (le r.size v.1)
  else s

/-- SIEVE_RUN (R410, R412): the march begins on the tested units. -/
def doSieveRun (h : ReqHdr) (b : SieveB) (x : Option (Nat × Nat × Nat)) (s : State) : State :=
  let d := aSieve 0x10
  let o := x.getD (s.fld d 0 1, s.fld d 8 7, 0)
  let ext := decide (5 ≤ b.target)
  let t := tierNamed (b.target - 5)
  let n := targetUnits b.target
  let inT : Bool := t.base ≤ b.base && b.base < t.base + t.size
  s.serve h (.sieveRun h b (some o)) []
    [inRange 0 b.target 0 6, rsvZero 1 b.rsv1,
     need (if ext then b.first = 0 else b.first < n) (fRange 4 b.first),
     need (if ext then b.count = 0 else b.first + b.count ≤ n) (fRange 8 b.count), rsvZero 12 b.rsv2,
     need (if ext then !inT || b.base % t.stripe = 0 else b.base = 0) (fRange 16 b.base),
     need (!ext || inT || b.size = 0) (fAddr 16 b.base),
     need (b.target ≠ 5 || !s.cacheClash b.base b.size) (fRange 16 b.base),
     need (if ext then b.size % t.stripe = 0 else b.size = 0) (fRange 24 b.size),
     need (!ext || b.size = 0 || inOneTier t b.base b.size) (fAddr 24 (t.base + t.size)),
     inRange 32 o.1 0 1, inRange 33 o.2.1 1 0x7F, rsvZero 34 o.2.2] []
    (if ext then b.size = 0 else b.count = 0) fun s =>
    (s.sieveOpen ⟨b.target, b.first, b.count, b.base, b.size, o.1, o.2.1⟩).setJob h 0x0701 (.sieveRun h b (some o))
      (.sieveRun b.target b.first b.count b.base b.size o.1 o.2.1)

/-- The reply of SIEVE_RUN (R414). -/
def Run.reply (r : Run) (env : Env) (repaired : Nat) : List Byte :=
  let fs := r.fails env
  let sg := r.sigs env
  be 4 r.units.length ++ be 4 fs.length ++ be 2 repaired ++ be 2 (min 64 fs.length) ++ be 4 0 ++ be 8 sg.1 ++ be 8 sg.2
    ++ (fs.take 64).flatMap fun e => be 2 e.unit ++ be 1 e.bg ++ be 1 e.element ++ be 4 0 ++ be 8 e.addr ++ be 8 e.sig ++ be 8 0

/-- SIEVE_RUN has run (R411 to R414): tested units are zero, failed ones handled, the reply sent. -/
def finishSieveRun (h : ReqHdr) (r : Run) (env : Env) (s : State) : State :=
  let fs := r.fails env
  let s := fs.foldl (fun s e => s.noteUnit r.target e) s
  let s := if r.target = 0 then s.eraseBanks r.units else if 5 ≤ r.target then s.zero r.base r.size else s
  let s := fs.foldl (fun s e => s.markUnit r.target e) s
  let m := if r.target = 0 then
      fs.foldl (fun (x : Nat × State) e => let y := x.2.replaceBank e.unit; (x.1 + b2n y.1, y.2)) (0, s)
    else (0, s)
  let s := (m.2.bump (aSieve 0x50)).bump (aSieve 0x58) m.1
  s.reply h 0x0701 (if fs = [] then stOk else stDegraded) (r.reply env m.1)

/-! ### Periodic slices -/

/-- SIEVE_PERIODIC (R415). -/
def doSievePeriodic (h : ReqHdr) (enable rsv : Nat) (x : Option (Nat × Nat × Nat × Nat)) (s : State) : State :=
  let d := aSieve 0x14
  let o := x.getD (s.fld d 0 16, s.fld d 16 16, s.fld (aSieve 0x10) 1 1, 0)
  s.serve h (.sievePeriodic h enable rsv x) []
    [inRange 0 enable 0 7, rsvZero 1 rsv, inRange 4 o.1 1 60000, inRange 6 o.2.1 10 65535, inRange 8 o.2.2.1 0 1,
     rsvZero 9 o.2.2.2] [] false fun s =>
    ({ s with sieve := { s.sieve with enable := enable, granaryMs := o.1, extUs := o.2.1, alg := o.2.2.1, noSpare := false } }).reply
      h 0x0702 stOk

/-- The states in which slices run (R415). -/
def State.slicing (s : State) : Bool := s.dev = .config || s.dev = .ready || s.dev = .run || s.dev = .idle

/-- A SIEVE_RUN is in progress. -/
def State.sieving (s : State) : Bool :=
  s.anyJob fun j => match j.kind with
    | .sieveRun _ _ _ _ _ _ _ => true
    | _ => false

/-- GRANARY_SLICE (R416, R418): the next logical bank moves to the lowest free spare, and its old bank is marched; one
with a failing word is marked failed. The signature of a failing march is a free value. -/
def doGranarySlice (failAt : Option Nat) (s : State) : State :=
  let v := s.sieve
  if !bitOf v.enable 0 || !s.slicing || s.sieving then s
  else
    match v.spares.head? with
    | none => { s with sieve := { v with noSpare := true } }
    | some sp =>
      let old := v.phys v.next
      let e := expectSig v.alg 1 10240 4
      let addr := v.next * bankBytes
      let v := { (v.move v.next sp) with next := (v.next + 1) % 2048, expect := e, noSpare := false }
      match failAt with
      | none => ({ s with sieve := { v with sig := e } }).bump (aSieve 0x40)
      | some off =>
        let f := s.takeFree
        let v := v.fail old
        let s : State := { f.2 with sieve := { v with sig := f.1 % 2 ^ 64, noSpare := v.spares.isEmpty } }
        (((s.bump (aSieve 0x40)).bump (aSieve 0x44)).sieveRecord (addr + off)).logSieve off 2 old

/-- The device address of a local address of a controller (R270, R323). -/
def deviceAddr (ctl l : Nat) : Nat :=
  if ctl < 8 then Tier.loft.base + l / 0x1000 * 0x8000 + ctl * 0x1000 + l % 0x1000
  else Tier.silo.base + l / 0x1000 * 0x20000 + (ctl - 8) * 0x1000 + l % 0x1000

/-- The 4 KiB pages of a controller (R403). -/
def ctlPages (ctl : Nat) : Nat := if ctl < 8 then 8388608 else 12582912

/-- EXTERNAL_SLICE (R417, R418): the next page of a controller; its merge entries are flushed first. A word that cannot keep
its stored form is reported as uncorrectable by its next reader. -/
def doExternalSlice (ctl : Nat) (failAt : Option Nat) (s : State) : State :=
  if 40 ≤ ctl || !bitOf s.sieve.enable (if ctl < 8 then 1 else 2) || !s.slicing || !s.memory.trained then s
  else
    let page := (look s.sieve.pages ctl).getD 0
    let a := deviceAddr ctl (page * 0x1000)
    let s := (s.memory.merge.filter fun m => a ≤ m.word && m.word < a + 0x1000).foldl (fun s m => (s.flushEntry m).stepFlushFails m.owner) s
    let s : State := { s with sieve := { s.sieve with pages := putD 0 s.sieve.pages ctl ((page + 1) % ctlPages ctl) } }
    let s := s.bump (aSieve 0x48)
    match failAt with
    | none => s
    | some off =>
      let w := a + off % 0x1000 / 64 * 64
      (((s.setErr { word := w, poison := true }).bump (aSieve 0x4C)).sieveRecord w).logSieve w 3 0

end Sys2Proof.Machine
end

