-- ==== Sys2Proof/Machine/Power.lean ====
section
/-!
DEFINITION. Supply, pins, reset and device states (02, 05; R24 to R34, R107, R108), power states and wakes (R390 to R395,
R457), supply events (R396 to R400), temperatures, bands, throttle and thermal shutdown (R37, R380 to R389), POWER_STATE
and THERMAL_READ (R392, R401).
-/
namespace Sys2Proof.Machine

/-! ### Reset and shutdown -/

/-- Registers that keep their values through a reset or a shutdown until the next BOOT: those of the Lantern's own domain
(R31, R402). -/
def keptReg (a : Nat) : Bool := (aLantern 0 ≤ a && a < aSieve 0) || aLedger 0 ≤ a

/-- Every block except the Lantern and the Ledger loses its state (R27, R31); the uptime goes on, and the fuses stay (R5),
some of them programmed where a FW_LOAD_END is cut short (R426). -/
def State.unpower (s0 : State) (d : DState) (rails : Bool) : State :=
  let s := s0.cutBurn
  { State.reset with
    pending := s.pending
    dev := d
    clocks := { tick := s.clocks.tick }
    regs := s.regs.filter fun r => keptReg r.1
    net := { sent := s.net.sent }
    ledger := s.ledger
    lantern := { s.lantern with
      railsUp := rails, vaneBroken := [], entry := none, waking := none, wakeAt := none, dozeDue := false, save := none,
      hold := none, sleptFrom := .ready, softDue := false, fault := none }
    hasp := { svnBits := s.hasp.svnBits, revoked := s.hasp.revoked }
    free := s.free }

/-- The record of a part of the Lantern. -/
def lanternRecord (kind detail : Nat) (status : Nat := 0) : Record :=
  { kind := kind, status := status, block := 0x0080, inst := 0, detail := detail }

/-! ### The supply input (R24, R26, R454) -/

/-- A whole number of volts in the unit of a magnitude, 1/256 V. -/
def volts (v : Nat) : Nat := 256 * v

/-- One unit of a magnitude in nV. -/
def unitNV : Nat := 3906250

/-- The reverse-blocking switch is open: the input has fallen below the bulk (R454). -/
def Lantern.blocked (l : Lantern) : Bool := decide (l.input * unitNV < l.bulk)

/-- The monitored rail in 1/256 V (R454): the bulk while the reverse-blocking switch is open, else the input. -/
def Lantern.rail (l : Lantern) : Nat := if l.blocked then l.bulk / unitNV else l.input

/-- What the supply monitor reads now: the monitored rail within the monitor's 0.3 V, and within the further 0.2 V of R454
while the rail follows the input (R26, R454, log entry 19). -/
def State.supplyNow (s : State) : Nat :=
  let tol : Int := if s.lantern.blocked then 76 else 127
  let err := max (-tol) (min tol (Config.supplyError s.ledger.bootCount s.clocks.tick))
  min 65535 ((s.lantern.rail : Int) + err).toNat

/-- The monitor reads a magnitude (R454): down to it the bulk has fallen, and the input lies anywhere below, a free value;
or it has been read above the bulk, and is the input. -/
def State.supplyRead (s : State) (m : Nat) : State :=
  if m * unitNV ≤ s.lantern.bulk then
    let v := s.takeFree
    { v.2 with lantern := { v.2.lantern with input := v.1 % (m + 1), bulk := m * unitNV } }
  else { s with lantern := { s.lantern with input := m } }

/-- The supply has come above 40.0 V (R26): a rail that stood no higher now reads an input above it, up to the 72 V of R24,
a free value. -/
def State.supplyRises (s : State) : State :=
  if volts 40 < s.lantern.rail then s
  else
    let v := s.takeFree
    v.2.supplyRead (volts 40 + 1 + v.1 % volts 32)

/-- The supply has come below 28.0 V (R26): a rail that stood no lower is now a free value below it. -/
def State.supplyGone (s : State) : State :=
  if s.lantern.rail < volts 28 then s
  else
    let v := s.takeFree
    v.2.supplyRead (v.1 % volts 28)

/-- The bulk after one Lantern tick (R454): above the input it falls as the load draws on it, V1² - V2² = 2 P t / C with
t = 250 ns and C = 2.8 mF, until it meets the input; below the input it rises with the charging current, I t / C, until
it meets it. -/
def Lantern.bulkAfter (l : Lantern) (watts milliamps : Nat) : Nat :=
  let vin := l.input * unitNV
  if vin < l.bulk then max vin (Nat.sqrt (l.bulk * l.bulk - watts * 10 ^ 18 / 5600))
  else min vin (l.bulk + milliamps * 625 / 7)

/-- One Lantern tick of the input stage (R26, R454): the bulk follows the input, and the monitor samples the rail. The load
is at most 540 W, and 5 W while the main rails are down (R14, R455); the charging current at most 10 A (R24). -/
def State.supplyTick (s : State) : Lantern :=
  let l := s.lantern
  let watts := min (if l.railsUp then 540 else 5) (Config.loadAt s.ledger.bootCount s.clocks.tick)
  { l with
    bulk := l.bulkAfter watts (min 10000 (Config.inrushAt s.ledger.bootCount s.clocks.tick))
    sampled := true }

/-- The main rails are sequenced (R455): once both pins have a confirmed level and HWSD_N is high, which is the model's
moment for it (log entry 105); RESET_N low keeps them up (R31). -/
def State.sequenceRails (s : State) : State :=
  if s.dev = .lantern ∧ s.lantern.resetN.isSome ∧ s.lantern.hwsdN = some true then
    { s with lantern := { s.lantern with railsUp := true } }
  else s

/-- The device leaves SHUTDOWN once the supply is good, both pins and the internal HWSD_N are high, and no Ledger write is
under way (R28, R33, R388). In LANTERN its main rails are sequenced (R28, R455, log entry 105). -/
def State.tryLeave (s : State) : State :=
  let l := s.lantern
  if s.dev = .shutdown ∧ l.supplyOk ∧ l.resetN = some true ∧ l.hwsdN = some true ∧ !l.internalHwsd ∧ s.ledger.writing.isNone then
    { s with dev := .lantern, lantern := { l with shutCause := none, railsUp := true } }
  else s

/-- A safe shutdown (R27, R32): every domain except the Lantern loses its power. -/
def State.shutDown (s : State) (cause : ShutCause) : State :=
  let t := s.unpower .shutdown false
  { t with lantern := { t.lantern with shutCause := some cause } }

/-- The start condition is confirmed (R26, R28): from OFF the soft start begins; in SHUTDOWN after a reset level the device
goes on to LANTERN. -/
def doStartCondition (s : State) : State :=
  let r := s.supplyRises
  let t : State := { r with lantern := { r.lantern with supplyOk := true } }
  if s.dev = .off then t else if s.dev = .shutdown ∧ !s.lantern.supplyOk then t.tryLeave else s

/-- The crystal is stable (R30, R107, R402): the device is in LANTERN, the uptime counts from 0, and no pin has a confirmed
level. The bulk is charged to the input (R24). -/
def doCrystalStable (s : State) : State :=
  if s.dev = .off ∧ s.lantern.supplyOk then
    { s with
      dev := .lantern
      clocks := {}
      lantern := { resetN := none, hwsdN := none, railsUp := false, input := s.lantern.input, bulk := s.lantern.input * unitNV } }
  else s

/-- The entry to BOOT (R5, R31, R109, R437): every register at its after-power-up value, BOOT_COUNT raised. The Lantern
keeps watching (R31): the times of thermal shutdowns (R388), a channel found critical (R387) and the supply go on. -/
def doBootEntry (s : State) : State :=
  let l := s.lantern
  if s.dev = .lantern ∧ l.resetN = some true ∧ l.hwsdN = some true ∧ !l.internalHwsd then
    let t := s.unpower .boot true
    { t with
      regs := []
      ledger := { t.ledger with bootCount := (t.ledger.bootCount + 1) % 2 ^ 32 }
      lantern := { shutTimes := l.shutTimes, critical := l.critical, input := l.input, bulk := l.bulk } }
  else s

/-- Every domain but the Lantern is reset, which holds the device in LANTERN with its rails powered (R31, R107). -/
def State.resetBy (s : State) (kind detail : Nat) : State :=
  (s.raise (lanternRecord kind detail) (some .lantern)).unpower .lantern true

/-- RESET_N low takes effect (R31, R33, R107). A first level after power-up is no reset (R30). -/
def State.resetLow (s : State) (first : Bool) : State :=
  if s.dev = .shutdown then s else if first ∧ s.dev = .lantern then s.sequenceRails else s.resetBy 0x0002 0

/-- HWSD_N low takes effect (R32, R34, R107): SHUTDOWN. At a power-up no record is written, and LANTERN is left although
RESET_N may have no level yet (R34 against R30, log entry 94). In SHUTDOWN it changes nothing: no second record is written
and the cause stands (log entry 106). -/
def State.hwsdLow (s : State) (first : Bool) : State :=
  if s.dev = .shutdown then s
  else if first ∧ s.dev = .lantern then s.shutDown .hwsd
  else (s.raise (lanternRecord 0x0005 0) (some .lantern)).shutDown .hwsd

/-- The internal HWSD_N of a thermal shutdown is asserted (R387, R388): SHUTDOWN; the third within 60 minutes blocks the
restart. It is asserted in SHUTDOWN too, where a pin or the supply was first (log entry 137). -/
def State.thermalLow (s : State) : State :=
  if s.lantern.critical.isNone then s
  else
    let now := s.uptime
    let times := (s.lantern.shutTimes.filter fun t => decide (now < t + 3600000)) ++ [now]
    let s := s.bump (aLantern 0x120)
    let blocked := decide (3 ≤ times.length)
    let s := if blocked then s.raise (lanternRecord 0x0043 0) (some .lantern) else s
    let t := s.shutDown .thermal
    { t with lantern := { t.lantern with internalHwsd := true, shutTimes := times, restartBlocked := blocked, critical := none } }

/-- The reset of GLOBAL.CTL.SOFT_RESET (R31, R106) and of the firmware watchdog (R108); neither acts in OFF and SHUTDOWN
(R107). -/
def State.softLow (s : State) (kind detail : Nat) : State :=
  if s.dev = .off ∨ s.dev = .shutdown then s else s.resetBy kind detail

/-- A pin or reset action taken. -/
def State.pinAct (s : State) : PinAction → State
  | .resetLow first => s.resetLow first
  | .hwsdLow first => s.hwsdLow first
  | .thermalHwsd => s.thermalLow
  | .softReset => s.softLow 0x0002 1
  | .fwWatchdog => s.softLow 0x0003 0

/-- A pin or reset action: it waits for a Ledger write under way (R33, R438). -/
def State.pinOrDefer (s : State) (a : PinAction) : State :=
  if s.ledger.writing.isSome then { s with ledger := { s.ledger with deferred := s.ledger.deferred ++ [a] } } else s.pinAct a

/-- RESET_N_ASSERTED (R30, R31): a change of the confirmed level; no effect in OFF. The level is confirmed at once; what
follows from it waits for a Ledger write under way (R33). -/
def doResetNAsserted (s : State) : State :=
  if s.dev = .off ∨ s.lantern.resetN = some false then s
  else ({ s with lantern := { s.lantern with resetN := some false } } : State).pinOrDefer (.resetLow s.lantern.resetN.isNone)

/-- HW_SHUTDOWN (R32, R33). -/
def doHwShutdown (s : State) : State :=
  if s.dev = .off ∨ s.lantern.hwsdN = some false then s
  else ({ s with lantern := { s.lantern with hwsdN := some false } } : State).pinOrDefer (.hwsdLow s.lantern.hwsdN.isNone)

/-- A pin asserted and released in SHUTDOWN releases an internal HWSD_N that no restart will release (R388). -/
def State.releaseInternal (s : State) : State :=
  if s.dev = .shutdown ∧ (s.lantern.restartBlocked ∨ !bitOf (s.reg (aLantern 4)) 2) then
    { s with lantern := { s.lantern with internalHwsd := false, restartBlocked := false } }
  else s

/-- RESET_N_RELEASED (R31, R33): BOOT follows with BOOT_ENTRY. -/
def doResetNReleased (s : State) : State :=
  if s.dev = .off ∨ s.lantern.resetN = some true then s
  else
    let t : State := { s with lantern := { s.lantern with resetN := some true } }
    (if s.lantern.resetN = some false then t.releaseInternal else t).tryLeave.sequenceRails

/-- HWSD_N_RELEASED (R32, R33). -/
def doHwsdNReleased (s : State) : State :=
  if s.dev = .off ∨ s.lantern.hwsdN = some true then s
  else
    let t : State := { s with lantern := { s.lantern with hwsdN := some true } }
    (if s.lantern.hwsdN = some false then t.releaseInternal else t).tryLeave.sequenceRails

/-- SOFT_RESET (R106): 1 has been written to GLOBAL.CTL.SOFT_RESET and the reply of that write has left. -/
def doSoftReset (s : State) : State :=
  ({ s with lantern := { s.lantern with softDue := false } } : State).pinOrDefer .softReset

/-- FW_WATCHDOG (R108): from CONFIG onwards, while the Reeve firmware runs. -/
def doFwWatchdog (s : State) : State :=
  if s.dev.column.isNone ∨ s.dev = .boot ∨ !s.hasp.running then s else s.pinOrDefer .fwWatchdog

/-- POWER_LOSS (R26, R27, R28): the reset level, below 35.0 V. A critical temperature of the same tick is named by the same record (R399): its
channel stands above the magnitude (log entry 17). -/
def doPowerLoss (magnitude : Nat) (s : State) : State :=
  if s.dev = .off ∨ volts 35 ≤ magnitude then s
  else
    let s := s.supplyRead magnitude
    let hot := s.lantern.critical.filter fun c => c.2 = s.clocks.tick
    let s : State := if hot.isSome then
        { s with ledger := { s.ledger with waiting := s.ledger.waiting.filter fun r => !(r.kind = 0x0042) } } else s
    let detail := magnitude % 65536 + 65536 * ((hot.map fun c => c.1).getD 0)
    let t := (s.raise (lanternRecord 0x0004 detail) (some .lantern)).shutDown .supply
    { t with lantern := { t.lantern with supplyOk := false, lossAt := some s.clocks.tick } }

/-- LANTERN_OFF (R26, R438): a write under way is cut short, waiting records are lost, and only the Ledger and the fuses
stay. -/
def doLanternOff (s : State) : State :=
  let s := s.supplyGone
  if s.dev = .off then { s with lantern := { s.lantern with supplyOk := false } }
  else
    let t := s.tearWrite.unpower .off false
    { t with
      regs := []
      clocks := {}
      ledger := { t.ledger with waiting := [], writing := none, deferred := [], perSecond := [] }
      lantern :=
        { supplyOk := false, resetN := none, hwsdN := none, railsUp := false, input := s.lantern.input, bulk := s.lantern.bulk } }

/-- LEDGER_WRITE_COMPLETE (R33, R438): the record is stored, and what waited for it follows. -/
def doLedgerWriteComplete (s : State) : State :=
  if s.ledger.writing.isNone then s
  else
    let s := s.storeWrite
    let acts := s.ledger.deferred
    let s : State := { s with ledger := { s.ledger with deferred := [] } }
    (acts.foldl State.pinAct s).tryLeave

/-! ### NIGHT: the save range (R393) -/

/-- Bytes of memory copied as they lie, unlisted bytes as zero, without check bits. -/
def State.copyCells (s : State) (src dst n : Nat) : State :=
  let m := s.memory
  let kept := m.cells.filter fun c => !(dst ≤ c.1 && c.1 < dst + n)
  let moved := m.cells.filter fun c => src ≤ c.1 && c.1 < src + n
  { s with memory := { m with cells := moved.foldl (fun l c => put l (c.1 - src + dst) c.2) kept } }

/-- The first word of a Loft range that an armed flip applies to (R338). -/
def State.flipTarget (s : State) (a n : Nat) : Option Nat :=
  match s.memory.flipLoft with
  | none => none
  | some f =>
    ((List.range (n / 0x8000 + 2)).map fun i => max a ((a / 0x8000 + i) * 0x8000)).find? fun w =>
      decide (w < a + n) && (s.classOf w).1 = f.entry

/-- The save range written into the Loft: a word with a byte of bad parity will read as uncorrectable (R393). -/
def State.nightSave (s : State) (base dest n : Nat) : State :=
  let bad := ((s.memory.badParity.filter fun x => base ≤ x && x < base + n).map fun x => (x - base) / 64 * 64 + dest).eraseDups
  let s := s.copyCells base dest n
  let s : State := { s with memory := { s.memory with errs := s.memory.errs.filter fun e => !(dest ≤ e.word && e.word < dest + n) } }
  let s := bad.foldl (fun s w => s.setErr { word := w, poison := true }) s
  (match s.flipTarget dest n with
   | some w => s.applyFlip w
   | none => s).uncheck dest n

/-- A Loft word read back on restore: an uncorrectable one is written with bad parity and counted with SOURCE 0 (R334, R393). -/
def State.restoreWord (base dest : Nat) (s : State) (w : Nat) : State :=
  let g := w - dest + base
  match s.readWord w 0 with
  | (some data, s) => s.poke g data
  | (none, s) => { s with memory := { s.memory with badParity := s.memory.badParity ++ (List.range 64).map fun i => g + i } }

/-- On wake the save range is restored, and every other Granary byte is zero with valid parity (R393). -/
def State.nightRestore (s : State) : State :=
  match s.lantern.save with
  | none => s.zero 0 0x28000000
  | some (base, dest, n) =>
    let bad := (s.memory.errs.filter fun e => dest ≤ e.word && e.word < dest + n).map fun e => e.word
    let s := (s.zero 0 0x28000000).copyCells dest base n
    let s := bad.foldl (State.restoreWord base dest) s
    { s with lantern := { s.lantern with save := none } }

/-- A range lies wholly inside the save range. -/
def insideSave (base n : Nat) (r : Nat × Nat) : Bool := base ≤ r.1 && r.1 + r.2 ≤ base + n

/-- The slots and named descriptors of a registered program (R393). -/
def State.programRanges (s : State) (p : Program) : List (Nat × Nat) :=
  protectOf p.addr p.slots (s.parsePrefix p.addr p.slots).2

/-- Entry into NIGHT begins (R392, R393): held entries and programs outside the save range go, the range is saved, and the
Granary loses its contents. A change out of DOZE counts in WAKES (R391). -/
def State.enterNight (s : State) (base dest n : Nat) : State :=
  let s := if s.dev = .doze then s.bump (aLantern 0x128) else s
  let s := s.beginEntry .night
  let out := s.sessions.filter fun e => match e.2.held with
    | some k => !insideSave base n (k.stage, k.slots * e.2.slotBytes)
    | none => false
  let s := out.foldl (fun s e => s.dropHeld e.1) s
  let s : State := { s with programs := s.programs.filter fun p => (s.programRanges p).all (insideSave base n) }
  let s := s.nightSave base dest n
  { s with lantern := { s.lantern with save := some (base, dest, n) } }

/-! ### Wakes (R391, R394, R395, R457) -/

/-- Commands that wait end with a failure, where one applies to their job. -/
def State.failJobs (s : State) (p : Job → Option Failure) : State :=
  s.lanes.foldl (fun s l => match l.job with
    | some j => match p j with
      | some f => s.failReply j.hdr j.opcode f
      | none => s
    | none => s) s

/-- The device sleeps. -/
def State.asleep (s : State) : Bool := s.dev = .doze || s.dev = .night

/-- A wake begins: the loops restart (R348, R352, R394). -/
def State.beginWake (s : State) (target : DState) : State :=
  ({ s with lantern := { s.lantern with waking := some ⟨target, s.dev⟩ } }).vaneRestart

/-- The state that a waiting command wakes the device to (R391): POWER_STATE its own target, a command marked W the state
slept from. -/
def State.wakeTarget (s : State) : Option DState :=
  let jobs := s.lanes.filterMap fun l => l.job.map fun j => j.kind
  let named := jobs.findSome? fun k => match k with
    | .powerEntry 0 _ _ _ _ => some DState.ready
    | .powerEntry 1 _ _ _ _ => some DState.idle
    | _ => none
  match named with
  | some d => some d
  | none => if jobs.any fun k => k = .waitWake then some s.lantern.sleptFrom else none

/-- WAKE (R391, R394): it begins once no entry is under way (R392), and not under a supply warning (R398). -/
def doWake (s : State) : State :=
  if !s.asleep ∨ s.lantern.entry.isSome ∨ s.lantern.waking.isSome ∨ s.lantern.warn then s
  else match s.wakeTarget with
    | some d => s.beginWake d
    | none => s

/-- WAKE_TIMER (R392): the device wakes to READY; while a supply warning lasts it does not wake (R398). -/
def doWakeTimer (s : State) : State :=
  if s.lantern.wakeAt.isNone ∨ s.lantern.entry.isSome ∨ s.lantern.waking.isSome then s
  else
    let s : State := { s with lantern := { s.lantern with wakeAt := none } }
    if s.asleep ∧ !s.lantern.warn then s.beginWake .ready else s

/-- A source that failed on the wake is replaced by the strongest spare that comes up; with none left its Furrow cannot be lit
(R356, R357, R359, R394). The reason code of such an exchange is not stated and is a free value. -/
def State.replaceFailed (failed : List Nat) (n : Nat) : Nat → State → State
  | 0, s => s
  | k + 1, s =>
    match s.strongest s.freeSpares with
    | some sp =>
      if failed.contains sp then
        State.replaceFailed failed n k ((s.modSource sp fun x => { x with role := 2, warming := false }).bump (aSources 0x30))
      else
        let v := s.takeFree
        (v.2.exchange ⟨n, some sp, 0, false, none⟩ sp (v.1 % 5)).modSource sp fun x => { x with locked := true }
    | none =>
      let f := (s.source n).furrow
      (s.modSource n fun x => { x with role := 2, locked := false }).furrowLostFault f

/-- The sources of a wake (R394): those that lock are in service again; the others are replaced. -/
def State.relock (s : State) (failed : List Nat) : State :=
  let act := (List.range 20).filter fun n => (s.source n).role = 0
  let s := act.foldl (fun s n => if failed.contains n then s else s.modSource n fun x => { x with locked := true }) s
  (act.filter failed.contains).foldl (fun s n => State.replaceFailed failed n 20 s) s

/-- A wake reaches its state (R391, R393, R394): counted, the Granary restored after NIGHT, the sources locked, the Winnow
runs of the active Furrows due (R369). -/
def State.finishWake (s : State) (failed : List Nat) : State :=
  match s.lantern.waking with
  | none => s
  | some w =>
    let s := if w.src = .night then s.nightRestore else s
    let s : State := { s with dev := w.target, lantern := { s.lantern with waking := none, wakeAt := none } }
    let s := s.bump (aLantern 0x128)
    if w.target = .doze then s
    else (s.activeFurrows.foldl State.markDue s).relock failed

/-- A wake ends without success: the device stays in the state it was waking from, with the loops of that state (R394, R398,
R457). -/
def State.dropWake (s : State) : State :=
  let v := s.vane.sleep (s.dev = .doze)
  { s with lantern := { s.lantern with waking := none }, vane := v }

/-! ### POWER_STATE (R392) -/

/-- The device state of a TARGET code. -/
def targetState (t : Nat) : DState := if t = 0 then .ready else if t = 1 then .idle else if t = 2 then .doze else .night

/-- POWER_STATE has reached its target: the wake timer counts from the reply (R392). -/
def State.powerDone (s : State) (j : Job) (t wakeAfter : Nat) : State :=
  let at_ := if 2 ≤ t ∧ wakeAfter ≠ 0 then some (s.clocks.tick + wakeAfter * 4000000) else none
  ({ s with lantern := { s.lantern with wakeAt := at_ } }).reply j.hdr j.opcode stOk

/-- One POWER_STATE goes on as far as it can: it ends in its target state, begins the change to it, or waits for an entry or
a wake under way, and before DOZE or NIGHT for a test (R391, R392, R398, R457, log entry 115). -/
def State.powerGo (s : State) (j : Job) (t wakeAfter base dest n : Nat) : State :=
  let d := targetState t
  if s.lantern.entry.isSome ∨ s.lantern.waking.isSome then s
  else if s.dev = d then s.powerDone j t wakeAfter
  else if s.testing ∧ 2 ≤ t then s
  else if s.dev = .ready ∨ s.dev = .idle then
    if t = 0 then ({ s with dev := .ready }).powerDone j t wakeAfter
    else if t = 3 then s.enterNight base dest n
    else s.beginEntry d
  else if s.dev = .doze ∧ t = 3 then s.enterNight base dest n
  else if s.dev = .night ∧ t = 2 then s.beginWake .doze
  else if s.asleep then
    (if s.lantern.warn then s.failReply j.hdr j.opcode { status := stSupplyFault } else s.beginWake d)
  else s.failReply j.hdr j.opcode { status := stWrongState }

/-- Every POWER_STATE that waits goes on. -/
def State.powerNext (s : State) : State :=
  s.lanes.foldl (fun s l => match l.job with
    | some j => match j.kind with
      | .powerEntry t w b d n => s.powerGo j t w b d n
      | _ => s
    | none => s) s

/-- The expert values of a basic POWER_STATE: the LANTERN registers (R6, R392). -/
def State.powerDefaults (s : State) : PowerX where
  wakeAfterS := s.fld (aLantern 0xE4) 0 17
  saveBase := s.reg (aLantern 0xE8)
  saveDest := s.reg (aLantern 0xF0) + s.fld (aLantern 0xF4) 0 16 * 2 ^ 32
  saveBytes := s.reg (aLantern 0xEC)

/-- The field checks of POWER_STATE; those of the save range apply to TARGET 3 (R6, R392). -/
def State.powerChecks (s : State) (t r : Nat) (y : PowerX) : List (Option Failure) :=
  let night (c : Option Failure) : Option Failure := if t = 3 ∧ y.saveBytes ≠ 0 then c else none
  [inRange 0 t 0 3, rsvZero 1 r, inRange 4 y.wakeAfterS 0 86400,
   need (y.saveBase % 256 = 0) (fRange 8 y.saveBase),
   night (need (inOneTier .granary y.saveBase y.saveBytes) (fAddr 8 (max y.saveBase 0x28000000))),
   need (y.saveDest % 256 = 0) (fRange 16 y.saveDest),
   night (need (inOneTier .loft y.saveDest y.saveBytes)
     (fAddr 16 (if y.saveDest < Tier.loft.base then y.saveDest else max y.saveDest (Tier.loft.base + Tier.loft.size)))),
   night (need (!s.cacheClash y.saveDest y.saveBytes) (fRange 16 y.saveDest)),
   need (y.saveBytes ≤ 0x28000000 && y.saveBytes % 256 = 0) (fRange 24 y.saveBytes)]

/-- POWER_STATE (R392). -/
def doPowerState (h : ReqHdr) (t r : Nat) (x : Option PowerX) (s : State) : State :=
  let y := orReg x s.powerDefaults
  let cmd := Instr.powerState h t r x
  s.serve h cmd [] (s.powerChecks t r y) [] (s.dev = targetState t) fun s =>
    let k := JobKind.powerEntry t y.wakeAfterS y.saveBase y.saveDest y.saveBytes
    (s.setJob h 0x0601 cmd k).powerGo ⟨h, 0x0601, cmd, k⟩ t y.wakeAfterS y.saveBase y.saveDest y.saveBytes

/-- AUTO_IDLE (R391): no step runs or is queued. -/
def doAutoIdle (s : State) : State :=
  let queued := s.lanes.any fun l =>
    (l.queue.any fun r => r.opcode = 0x0403) || (match l.job with | some j => j.opcode = 0x0403 | none => false)
  if s.dev = .ready ∧ s.lantern.entry = none ∧ s.steps = [] ∧ !queued ∧ bitOf (s.reg (aLantern 4)) 0 then s.beginEntry .idle
  else s

/-- An entry into a power state is complete (R392, R457): the commands that waited for it go on. Commands marked W that wait
in IDLE are run again in `Sys2Proof/Machine/Start.lean`. -/
def State.entryComplete (s : State) : State :=
  match s.lantern.entry, s.lantern.waking with
  | some _, _ => ({ s with lantern := { s.lantern with entry := none } } : State).powerNext
  | none, some w => if w.target = .doze then (s.finishWake []).powerNext else s
  | none, none => s

/-- HEAT_LIMIT_TIMEOUT (R114, R394, R457): ENGINE_START, or the commands that the wake serves, end with STALL_TIMEOUT, CAUSE
4, and the heaters are switched off. -/
def doHeatLimit (s : State) : State :=
  match if s.dev = .config then s.lanes.findSome? fun l => l.job.bind fun j => match j.kind with
      | .engineStart _ _ _ => some j.hdr
      | _ => none else none with
  | some h =>
    let r := s.heatFailure
    r.2.failEngineStart h r.1
  | none =>
    match s.lantern.waking with
    | none => s
    | some w =>
      let r := s.heatFailure
      let s : State := { r.2 with lantern := { r.2.lantern with waking := none } }
      let serves (j : Job) : Bool := match j.kind with
        | .waitWake => decide (w.target ≠ DState.doze)
        | .powerEntry t _ _ _ _ => if w.target = .doze then t = 2 else t < 2
        | _ => false
      ((s.failJobs fun j => if serves j then some r.1 else none).vaneStop).powerNext

/-! ### Supply events (R396 to R400) -/

/-- A confirmed supply warning, the monitor's reading below 39.0 V (R26): SUPPLY_HOLD begins in READY, RUN and IDLE; in DOZE and NIGHT wakes end with SUPPLY_FAULT
(R398); in BOOT, CONFIG and FAULT it is only told and counted (R400), and it pauses ENGINE_START (R115). -/
def doSupplyHold (magnitude : Nat) (s : State) : State :=
  if s.lantern.warn ∨ s.dev = .off ∨ volts 39 ≤ magnitude then s
  else
    let s := s.supplyRead magnitude
    let s : State := { s with lantern := { s.lantern with warn := true } }
    let told (kind ctr : Nat) : State := (s.raise (lanternRecord kind (magnitude % 65536)) (some .lantern)).bump (aLantern ctr)
    match s.dev with
    | .ready | .run | .idle =>
      let s := told 0x0050 0x110
      { s with lantern := { s.lantern with hold := some s.clocks.tick } }
    | .doze | .night =>
      let s := told 0x0052 0x12C
      let s := match s.lantern.waking with
        | some w => if w.target = DState.doze then s else s.dropWake
        | none => s
      s.failJobs fun j => match j.kind with
        | .waitWake => some { status := stSupplyFault }
        | .powerEntry t _ _ _ _ => if t < 2 then some { status := stSupplyFault } else none
        | _ => none
    | .boot | .config | .fault => told 0x0050 0x12C
    | _ => s

/-- The restore condition (R397, R398, R400): a hold ends, its milliseconds are counted, and dispatch resumes; an ENGINE_START
goes on (R115). -/
def doSupplyRestore (s : State) : State :=
  if !s.lantern.warn then s
  else
    let r := s.supplyRises
    let t : State := ({ r with lantern := { r.lantern with warn := false, hold := none } } : State).resumeHeat
    match s.lantern.hold with
    | some t0 => (t.bump (aLantern 0x118) ((s.clocks.tick - t0) / 4000)).settle
    | none => t

/-- A MARGIN_TEST or SIEVE_RUN ends with a failure, and an ENGINE_STOP that waited for it (log entry 115). -/
def State.cutTests (s : State) (f : Failure) : State :=
  s.lanes.foldl (fun s l => match l.job with
    | some j => (match j.kind with
      | .marginTest _ _ _ => s.failReply j.hdr j.opcode f
      | .sieveRun t a c b n g k => (s.sieveOpen ⟨t, a, c, b, n, g, k⟩).failReply j.hdr j.opcode f
      | .waitWake => if j.opcode = 0x0502 then s.failReply j.hdr j.opcode f else s
      | _ => s)
    | none => s) s

/-- SUPPLY_FAULT (R398): 50 ms have passed without a restore: steps end and hold their lanes, tests are cut short, and the
device enters DOZE once no step runs; an ENGINE_START that waits ends (R115). -/
def doSupplyFault (magnitude : Nat) (s : State) : State :=
  if !s.lantern.warn then s
  else if s.lantern.hold.isSome then
    let s := s.supplyRead magnitude
    let s : State := { s with lantern := { s.lantern with hold := none } }
    let s := (s.raise (lanternRecord 0x0051 (magnitude % 65536) stSupplyFault) (some .lantern)).bump (aLantern 0x114)
    let s := (s.endAllSteps { status := stSupplyFault }).cutTests { status := stSupplyFault }
    ({ s with lantern := { s.lantern with dozeDue := true } } : State).dozeIfDue
  else if s.dev ≠ .config then s
  else
    match s.lanes.findSome? fun l => l.job.bind fun j => match j.kind with
        | .engineStart _ _ _ => some j.hdr
        | _ => none with
    | some h => s.failEngineStart h { status := stSupplyFault }
    | none => s

/-! ### Temperatures (R37, R380 to R389) -/

/-- A channel with one more conversion, the last four kept (R380). -/
def Channel.add (c : Channel) (v : Conv) : Channel := { c with conv := (v :: c.conv).take 4 }

/-- The reading of a thermistor input: its last conversion (R36). -/
def Channel.now (c : Channel) : Option Int :=
  match c.conv with
  | .value q :: _ => some q
  | _ => none

/-- The thermistor input with a number. -/
def State.therm (s : State) (n : Nat) : Channel := s.lantern.therms.getD n {}

/-- A thermistor input is enabled (R38). -/
def State.thermOn (s : State) (n : Nat) : Bool := bitOf (s.reg (aLantern 0x10)) n

/-- The hot band of one Furrow (R384). -/
def State.hotBand (s : State) (f : Nat) : State :=
  let lim : Int := s.fld (aLantern 0x18) 0 8 * 256
  match s.tempOf f with
  | none => s
  | some q =>
    let on := s.lantern.hot.contains f
    if on ∧ q ≤ lim - 768 then { s with lantern := { s.lantern with hot := s.lantern.hot.filter fun x => x ≠ f } }
    else if !on ∧ lim ≤ q then { s with lantern := { s.lantern with hot := s.lantern.hot ++ [f] } }
    else s

/-- The photonic band that a reading gives after another (R385). -/
def bandAfter (old : Nat) (q warm top : Int) : Nat :=
  if top ≤ q ∨ (old = 2 ∧ top - 768 ≤ q) then 2 else if warm ≤ q ∨ (1 ≤ old ∧ warm - 768 ≤ q) then 1 else 0

/-- The photonic band (R385, R386): the bias table follows it; P2 raises the throttle to level 2 and tells of its entry. -/
def State.photonicBand (s : State) : State :=
  match s.highest [10, 11, 12, 13] with
  | none => s
  | some q =>
    let old := s.lantern.pBand
    let new := bandAfter old q (s.fld (aLantern 0x18) 8 8 * 256) (s.fld (aLantern 0x18) 16 8 * 256)
    let s : State := { s with lantern := { s.lantern with
      pBand := new, throttle := if new = 2 then max 2 s.lantern.throttle else s.lantern.throttle } }
    let s := if (old = 0) ≠ (new = 0) ∧ (s.engine ∨ s.engineStarting) then s.applyBias else s
    if old ≠ 2 ∧ new = 2 then s.raise (lanternRecord 0x0041 (q88 q)) (some .lantern) else s

/-- The alert of one thermistor input (R389). -/
def State.thermAlert (s : State) (n : Nat) : State :=
  let lim := asSigned 16 (s.fld (aLantern (0x20 + 4 * n)) 0 16)
  let set (b : Bool) (s : State) : State :=
    { s with lantern := { s.lantern with therms := setAt s.lantern.therms n { s.therm n with alerted := b } } }
  match (s.therm n).now with
  | none => s
  | some q =>
    if !s.thermOn n ∨ lim = 0x7FFF ∨ (s.therm n).broken.isSome then s
    else if lim ≤ q ∧ !(s.therm n).alerted then
      set true (s.raise (lanternRecord 0x0044 (n * 65536 + q88 q)) (some .lantern))
    else if q ≤ lim - 768 then set false s
    else s

/-- TEMP_CONVERSION (R380, R384, R385, R389): one conversion of each channel and input given. -/
def doTempConversion (conv therm : List Conv) (s : State) : State :=
  if s.dev = .off then s
  else
    let add (cs : List Channel) (vs : List Conv) : List Channel := cs.zipIdx.map fun c => match vs[c.2]? with
      | some v => c.1.add v
      | none => c.1
    let s : State := { s with lantern := { s.lantern with diodes := add s.lantern.diodes conv, therms := add s.lantern.therms therm } }
    let s := (List.range 10).foldl State.hotBand s
    let s := s.photonicBand
    (List.range (min 8 therm.length)).foldl State.thermAlert s

/-- A channel meets a condition of R381: 1 open, 2 short, 3 a deviation from the median of at least two trustworthy
neighbours. -/
def State.diodeFault (s : State) (n cause : Nat) : Bool :=
  match cause with
  | 1 => (s.diode n).conv.head? = some .opened
  | 2 => (s.diode n).conv.head? = some .shorted
  | 3 =>
    decide (2 ≤ ((neighbours n).filter s.trusted).length) && match (s.diode n).reading, s.neighbourMedian n with
      | some q, some m => decide (s.fld (aLantern 0x14) 24 8 * 256 < (q - m).natAbs)
      | _, _ => false
  | _ => false

/-- Trustworthy zone sensors of a reticle field (R382). -/
def State.zonesTrusted (s : State) (k : Nat) : Nat := (List.range 4).countP fun i => !s.lantern.vaneBroken.contains (3292 + 4 * k + i)

/-- A zone sensor reads more than DEV_C, in Q16.16 °C, from the median of the trustworthy other zone sensors of its reticle field
that the last sample read, of which there are at least two (R381, R382). -/
def State.zoneDeviates (s : State) (k : Nat) : Bool :=
  let near := ((List.range 4).map fun i => 3292 + (k - 3292) / 4 * 4 + i).filter fun z => z ≠ k && !s.lantern.vaneBroken.contains z
  let q := near.filterMap fun z => look s.vane.zones z
  isDieZone k && decide (2 ≤ q.length) && match look s.vane.zones k, median q with
    | some y, some m => decide (s.fld (aLantern 0x14) 24 8 * 65536 < (y - m).natAbs)
    | _, _ => false

/-- A Vane sensor meets a condition of R382: open, short, or for a zone sensor a deviation. -/
def State.vaneFault (s : State) (k cause : Nat) : Bool :=
  s.vaneLevel ≠ 0 && !s.lantern.vaneBroken.contains k && (cause = 1 || cause = 2 || (cause = 3 && s.zoneDeviates k))

/-- Too few trustworthy sensors remain (R383). -/
def State.sensorsLost (s : State) : Bool :=
  decide ((List.range 10).countP s.trusted < 6) || decide ([10, 11, 12, 13].countP s.trusted < 2)
    || (s.vaneLevel ≠ 0 && (List.range 4).any fun k => s.zonesTrusted k < 2)

/-- A sensor has become broken: recorded, counted, and SENSOR_LOST judged (R381, R383). -/
def State.sensorOut (s : State) (detail : Nat) : State :=
  let s := (s.raise (lanternRecord 0x0040 detail) (some .lantern)).bump (aLantern 0x124)
  if s.sensorsLost ∧ s.dev.column.isSome ∧ s.dev ≠ .fault then
    s.enterFault { status := stSensorLost, block := 0x0080, inst := 0, detail := detail } (some .lantern)
  else s

/-- SENSOR_BROKEN (R381, R382): the condition has held for 100 ms. -/
def doSensorBroken (which : SensorId) (cause : Nat) (s : State) : State :=
  if s.dev = .off then s
  else match which with
    | .diode n =>
      if n < 32 ∧ s.trusted n ∧ s.diodeFault n cause then
        let c := { s.diode n with broken := some cause }
        ({ s with lantern := { s.lantern with diodes := setAt s.lantern.diodes n c } } : State).sensorOut n
      else s
    | .vane k =>
      if s.vaneFault k cause then
        ({ s with lantern := { s.lantern with vaneBroken := s.lantern.vaneBroken ++ [k] } } : State).sensorOut (0x10000 + k)
      else s

/-- THERMISTOR_BROKEN (R37, R38): an enabled input open or short for 100 ms. It is no channel of R381 (log entry 18). -/
def doThermistorBroken (n cause : Nat) (s : State) : State :=
  let c := s.therm n
  let holds := (cause = 1 ∧ c.conv.head? = some .opened) ∨ (cause = 2 ∧ c.conv.head? = some .shorted)
  if s.dev = .off ∨ 8 ≤ n ∨ !s.thermOn n ∨ c.broken.isSome ∨ ¬ holds then s
  else { s with lantern := { s.lantern with therms := setAt s.lantern.therms n { c with broken := some cause } } }

/-- THROTTLE_LEVEL_STEP (R386): 5 ms above THROTTLE_C, or 20 ms below it. -/
def doThrottleStep (s : State) : State :=
  let lim : Int := s.fld (aLantern 0x14) 0 8 * 256
  match s.highest (List.range 10) with
  | none => s
  | some q =>
    let floor := if s.lantern.pBand = 2 then 2 else 0
    let t := s.lantern.throttle
    let new := if lim ≤ q then min 4 (t + 1) else if q < lim - 768 then max floor (t - 1) else t
    if s.dev = .off then s else { s with lantern := { s.lantern with throttle := new } }

/-- A trustworthy channel whose last two conversions reach CRIT_C (R387). -/
def State.isCritical (s : State) (ch : Nat) : Bool :=
  let lim : Int := s.fld (aLantern 0x14) 8 8 * 256
  decide (ch < 32) && s.trusted ch && match (s.diode ch).conv with
    | .value a :: .value b :: _ => decide (lim ≤ a) && decide (lim ≤ b)
    | _ => false

/-- THERMAL_SHUTDOWN (R387): a channel is critical. The optics go off, steps end, the device enters FAULT, and one record
names the channel and its reading; the internal HWSD_N follows. After a reset level of the same tick the record of that one
names the channel (R399); else a channel that becomes critical in SHUTDOWN has no effect (log entry 137). -/
def doThermalShutdown (ch : Nat) (s : State) : State :=
  if s.dev = .off ∨ s.lantern.critical.isSome ∨ !s.isCritical ch then s
  else if s.dev = .shutdown then
    if s.lantern.lossAt = some s.clocks.tick then
      { s with
        lantern := { s.lantern with critical := some (ch, s.clocks.tick) }
        ledger := { s.ledger with waiting := s.ledger.waiting.map fun r =>
          if r.kind = 0x0004 ∧ r.detail < 65536 then { r with detail := r.detail + 65536 * ch } else r } }
    else s
  else
    let q := ((s.diode ch).reading).getD 0
    let s : State := { s with lantern := { s.lantern with critical := some (ch, s.clocks.tick) } }
    let s := s.raise (lanternRecord 0x0042 (ch * 65536 + q88 q) stThermalShutdown) (some .lantern)
    if s.dev.column.isNone then s
    else
      s.toFault { status := stThermalShutdown, block := 0x0080, inst := 0, detail := ch }

/-- INTERNAL_HWSD_ASSERT (R387): 1 ms after a channel became critical. -/
def doInternalHwsd (s : State) : State :=
  if s.lantern.critical.isNone ∨ s.dev = .off then s else s.pinOrDefer .thermalHwsd

/-- AUTO_RESTART (R388): every trustworthy channel has read below RESTART_C for 10 s. -/
def doAutoRestart (s : State) : State :=
  let lim : Int := s.fld (aLantern 0x14) 16 8 * 256
  let cool := ((List.range 32).filter s.trusted).all fun n => match (s.diode n).reading with
    | some q => decide (q < lim)
    | none => false
  if s.dev = .shutdown ∧ s.lantern.internalHwsd ∧ !s.lantern.restartBlocked ∧ bitOf (s.reg (aLantern 4)) 2 ∧ cool then
    ({ s with lantern := { s.lantern with internalHwsd := false } } : State).tryLeave
  else s

/-! ### THERMAL_READ (R401) -/

/-- TEMP of DIODE_n: 0x8000 if broken, 0 before a conversion (R401, R402). -/
def State.diodeTemp (s : State) (n : Nat) : Nat :=
  if s.trusted n then (((s.diode n).reading).map q88).getD 0 else 0x8000

/-- An input is marked broken: never while it is disabled (R38). -/
def State.thermBroken (s : State) (n : Nat) : Option Nat := if s.thermOn n then (s.therm n).broken else none

/-- The reading of input n in THERMAL_READ: 0x8000 if disabled, open, short or broken (R401). -/
def State.thermTemp (s : State) (n : Nat) : Nat :=
  let c := s.therm n
  if !s.thermOn n ∨ c.broken.isSome then 0x8000
  else match c.conv with
    | [] => 0
    | .value q :: _ => q88 q
    | _ => 0x8000

/-- TEMP of THERM_n: its after-power-up value 0 until the input's first conversion, then 0x8000 if broken or disabled, else
the reading (R402, log entry 85). -/
def State.thermShown (s : State) (n : Nat) : Nat := if (s.therm n).conv = [] then 0 else s.thermTemp n

/-- THERMAL_READ. -/
def doThermalRead (h : ReqHdr) (s : State) : State :=
  s.serve h (.thermalRead h) [] [] [] false fun s =>
    s.reply h 0x0602 stOk
      ((List.range 32).flatMap (fun n => be 2 (s.diodeTemp n)) ++ (List.range 8).flatMap (fun n => be 2 (s.thermTemp n))
        ++ be 4 (maskOf ((List.range 32).filter fun n => !s.trusted n))
        ++ be 1 (maskOf ((List.range 8).filter fun n => (s.thermBroken n).isSome))
        ++ be 1 s.lantern.throttle ++ be 2 (maskOf ((List.range 10).filter s.lantern.hot.contains)) ++ be 1 s.lantern.pBand
        ++ be 1 s.dev.code ++ be 2 s.supplyNow ++ be 4 (s.uptime % 2 ^ 32))

end Sys2Proof.Machine
end

