-- ==== Sys2Proof/Machine/Registers.lean ====
section
/-!
DEFINITION. What the configuration registers show: the stored word, or what another piece of state gives it; the class of
a Furrow's present symbol (R171); and what one access does (R7, R172, R447 to R452, the COUNT_CTL and LOG_CLEAR rows).
-/
namespace Sys2Proof.Machine

/-! ### What the registers show -/

/-- A live counter of 48 bits, or a signature of 64, by the address of its _LO register (R172, R452, R456). -/
def State.pairAt (s : State) (p : Place) : Option Nat :=
  let lo := p.b.base + p.inst * p.b.stride + p.off
  let cyc := some (s.clocks.cyc % 2 ^ 48)
  match p.b.blk, p.off with
  | .reaper, 0x40 => cyc
  | .reaper, 0x48 => some (s.ctr lo)
  | .reaper, 0x50 => some (s.ctr lo)
  | .furrow, o =>
    if o = 0x80 then some (s.clocks.sym % 2 ^ 48)
    else if o = 0x70 ∨ o = 0x78 ∨ (0x30 ≤ o ∧ o < 0x70 ∧ o % 8 = 0) then some (s.ctr lo) else none
  | .tally, 0x20 => cyc
  | .tally, 0x28 => some (s.ctr lo)
  | .tally, 0x30 => some (s.ctr lo)
  | .mill, 0x14 => cyc
  | .gleaner, 0x14 => cyc
  | .gleaner, 0x20 => some (s.ctr lo)
  | .gleaner, 0x28 => some (s.ctr lo)
  | .memctl, 0x130 => cyc
  | .vane, 0x90 => some (s.clocks.samples % 2 ^ 48)
  | .lantern, 0x100 => some (s.uptime % 2 ^ 48)
  | .sieve, 0x28 => some (s.sieve.sig % 2 ^ 64)
  | .sieve, 0x30 => some (s.sieve.expect % 2 ^ 64)
  | .sieve, 0x38 => cyc
  | _, _ => none

/-- GLOBAL registers that show other state (R106). -/
def State.showGlobal (s : State) (off w : Nat) : Nat :=
  let wd := s.watchdog
  match off with
  | 0x008 => s.dev.code + 16 * b2n s.engine + 32 * b2n s.degraded
  | 0x010 => maskOf ((List.range 16).filter fun l => (s.lane l).held.isSome)
  | 0x014 => wd.period + w / 2 ^ 24 % 2 * 2 ^ 24 + 2 ^ 31 * b2n wd.armedAt.isSome
  | 0x018 => (wd.armedAt.map fun t => wd.period - (s.clocks.tick - t) / 4000).getD 0
  | _ => w

/-- WALONG registers that show other state. -/
def State.showWalong (s : State) (off w : Nat) : Nat :=
  if off = 0x008 then w / 2 * 2 + b2n s.net.link
  else if off = 0x010 then ownMac / 2 ^ 32
  else if off = 0x014 then ownMac % 2 ^ 32
  else if 0x080 ≤ off ∧ off < 0x0C0 then (s.lane ((off - 0x080) / 4)).e
  else if 0x0C0 ≤ off ∧ off < 0x100 then (s.lane ((off - 0x0C0) / 4)).b
  else w

/-- REAPER registers that show other state (R222). -/
def State.showReaper (s : State) (off w : Nat) : Nat :=
  let pieces := s.steps.flatMap fun t => t.fetches.flatMap fun f => f.pieces
  match off with
  | 0x008 =>
    b2n (s.tagsInUse ≠ []) + 2 * b2n (s.steps.any fun t => t.stopAt = some t.ahead && !t.teardown) + 4 * b2n (pieces.any fun p => p.spec)
      + 8 * b2n (s.steps.any fun t => t.teardown)
  | 0x028 => w / 2 ^ 16 * 2 ^ 16 + s.tagsInUse.length % 2 ^ 14
  | 0x02C => pieces.length * 256 / 1024
  | _ => w

/-- The route in force (R182): that of the step on the engines, else slot by slot. -/
def State.routeNow (s : State) : List Nat :=
  match s.reaper.holder.bind s.stepOf with
  | some t => t.route
  | none => List.range 8

/-- THRESHER registers that show other state (R196); only active slots count (R181, R301). -/
def State.showThresher (s : State) (off w : Nat) : Nat :=
  let r := s.routeNow
  let act (n : Nat) : Bool := s.engine && (s.furrowOf n).isSome
  match off with
  | 0x008 =>
    let gs := ((List.range 8).filter act).map fun n => r.getD n 0
    b2n (gs.eraseDups.length < gs.length) + 2 * b2n (s.clocks.tick < s.reaper.switchAt) + 4 * gs.eraseDups.length
  | 0x010 => (r.zipIdx.map fun g => g.1 * 8 ^ g.2).sum
  | 0x018 => ((List.range 8).map fun n => (if s.engine then (s.furrowOf n).getD 0xF else 0xF) * 16 ^ n).sum
  | _ => w

/-- NOW of FURROW.STATUS (R176): 15 where no symbol is classed; while symbols that were sent still last, their class. -/
def State.symbolNow (s : State) (f : Nat) : Nat :=
  let x := s.furrow f
  if s.dev = .run ∧ x.role = 0 then (if 0 < x.symbols then x.sending else s.stallClass f) else 15

/-- FURROW registers that show other state (R176). -/
def State.showFurrow (s : State) (f off w : Nat) : Nat :=
  let x := s.furrow f
  match off with
  | 0x008 =>
    x.role + 4 * x.slot + 32 * b2n x.litB + 64 * b2n x.bayA.isSome + 128 * b2n x.bayB.isSome + 256 * b2n x.fill.isSome
      + 512 * b2n (s.lantern.hot.contains f) + 1024 * b2n (s.vaneLevel = 2 && !s.furrowLost f) + w / 2048 % 2 * 2048
      + 4096 * s.symbolNow f
  | 0x018 =>
    let l := s.sourcesOf f
    l.getD 0 0x1F + 256 * l.getD 1 0x1F
  | 0x01C => ((x.tileIn x.litB).map fun t => t.check).getD 0 + 256 * (x.rot % 2 ^ 24)
  | _ => w

/-- The slots of an EPILOGUE that runs: it waits for no earlier record, and its clip decision has not been made (R236,
R240). -/
def Step.convertingSlots (t : Step) : List Nat :=
  t.live.flatMap fun v => match v.op with
    | .epilogue r => if t.live.any (fun w => decide (w.idx < v.idx) && r.waitsFor t w) then [] else r.slots
    | _ => []

/-- Rows of a chain that wait at a slot for the member before it (R231, R246). -/
def Step.chainWaits (t : Step) (slot : Nat) : Bool :=
  t.joins.any fun j => j.slot = slot && j.own.isSome && j.inc.isNone && (maskBits 8 j.mask).head? ≠ some slot
    && ((t.joinStream j.mask slot).map fun e => e.2.join) = some 1

/-- TALLY registers that show other state (R246). -/
def State.showTally (s : State) (n off w : Nat) : Nat :=
  let x := s.furrow n
  match off with
  | 0x008 =>
    b2n (x.passes.any fun p => p.started) + 2 * b2n (x.role = 0 && s.steps.any fun t => t.convertingSlots.contains x.slot)
      + 4 * b2n (x.role = 0 && s.steps.any fun t => t.chainWaits x.slot)
      + w / 8 % 2 * 8
  | 0x010 => w / 2 ^ 16 * 2 ^ 16 + s.stagingUse n % 2 ^ 13
  | _ => w

/-- Slots in a join in progress (R247). -/
def Step.chained (t : Step) : Nat :=
  t.live.foldl (fun m v => match v.op with
    | .stream r => if v.started ∧ r.join ≠ 0 then m ||| r.chainMask else m
    | _ => m) 0

/-- WINDROW registers that show other state (R247). -/
def State.showWindrow (s : State) (off w : Nat) : Nat :=
  if off = 0x008 then s.steps.foldl (fun m t => m ||| t.chained) 0 % 256 else w

/-- The operator that runs on a Mill: of the first MILL_OP dispatched to it and not complete (R250, R269). -/
def State.millRuns (s : State) (m : Nat) : Option Nat :=
  s.steps.findSome? fun t => t.live.findSome? fun v => match v.op with
    | .millOp r => if (s.effective r).contains m then some r.op else none
    | _ => none

/-- MILL registers that show other state (R269). -/
def State.showMill (s : State) (m off w : Nat) : Nat :=
  if off = 0x008 then
    let packing := m % 8 = 0 && ((s.furrowOf (m / 8)).map fun f => (s.furrow f).fill.isSome).getD false
    b2n (s.millRuns m).isSome + 2 * b2n packing + w / 4 % 2 * 4 + 16 * (s.millRuns m).getD 0
  else w

/-- A GLEAN record runs on a Gleaner: it is dispatched and not complete (R291). -/
def State.gleanRuns (s : State) (g : Nat) : Bool :=
  s.steps.any fun t => t.live.any fun v => match v.op with
    | .glean r => decide (g < r.kvHeads)
    | _ => false

/-- The selected session (R291). -/
def State.selected (s : State) : Nat := s.fld (aGleaner 0 0x60) 0 8

/-- Slots staged by a running step or held (R291). -/
def State.stagedSlots (s : State) (n : Nat) : Nat :=
  match s.steps.findSome? fun t => look t.staged n with
  | some k => k
  | none => s.heldSlots n

/-- GLEANER registers that show other state (R291). A commit is one step, so that COMMITTING reads 0 (log entry 83). -/
def State.showGleaner (s : State) (g off w : Nat) : Nat :=
  let n := s.selected
  match off with
  | 0x008 => b2n (s.gleanRuns g)
  | 0x064 => ((s.session n).map fun x => x.n).getD 0
  | 0x068 => ((s.session n).map Session.tMax).getD 0
  | 0x06C =>
    match s.session n with
    | none => 0
    | some x => 1 + 2 * b2n x.held.isSome + 4 * b2n (s.sessionInStep n) + 16 * (s.stagedSlots n % 16)
  | _ => w

/-- The tier of a controller. -/
def ctlTier (c : Nat) : Tier := if c < 8 then .loft else .silo

/-- MEMCTL registers that show other state (R339). -/
def State.showMemctl (s : State) (c off w : Nat) : Nat :=
  let full := (List.range 16).all fun n => bitOf (s.reg (aMemctl c (0x200 + 16 * n))) 0
  if off = 0x008 then
    b2n s.memory.trained + 2 * b2n s.selfRefresh + w / 4 % 4 * 4 + 16 * b2n (look s.memory.scrubNext c).isSome
      + 32 * b2n (s.flipOf (ctlTier c)).isSome + 64 * b2n (s.memory.flipFired.contains c) + 128 * b2n full
  else if 0x010 ≤ off ∧ off < 0x110 then
    let r := (s.regions (ctlTier c)).getD ((off - 0x010) / 16) {}
    let o := (off - 0x010) % 16
    if o = 0 then r.base else if o = 4 then r.size else if o = 8 then b2n r.en + 2 * r.cls else w
  else w

/-- The Vane's window: the entry of the selected slot in the selected bank (R362). -/
def State.showWindow (e : LoopEntry) (off : Nat) : Nat :=
  let p (i : Int) : Nat := ofSigned 32 i
  match off with
  | 0x020 =>
    e.kind + 4 * b2n e.enable + 8 * b2n e.lockWatch + 16 * b2n e.ffSupply + 32 * b2n e.ffAccel + 64 * e.actSrc
      + 256 * e.lockN + 65536 * e.relockN
  | 0x024 => e.sensor + 65536 * e.actuator
  | 0x040 => e.sh 0 + 256 * e.sh 1 + 65536 * e.sh 2
  | 0x044 => e.sh 3 + 256 * e.sh 4 + 65536 * e.sh 5
  | 0x048 => p e.outMin
  | 0x04C => p e.outMax
  | 0x050 => p e.vmax
  | 0x054 => p e.amax
  | 0x058 => p e.jmax
  | 0x05C => p e.lockTol
  | 0x060 => p e.target
  | _ => if 0x028 ≤ off ∧ off < 0x040 then p (e.k ((off - 0x028) / 4)) else 0

/-- The Vane's state registers: the running state of the selected slot (R362). -/
def State.showSlot (x : LoopState) (e : LoopEntry) (off : Nat) : Nat :=
  let p (i : Int) : Nat := ofSigned 32 i
  match off with
  | 0x070 => p x.sp
  | 0x074 => p x.yPrev
  | 0x078 => p x.u
  | 0x07C => p x.i
  | 0x080 => p x.v
  | 0x084 => p x.a
  | 0x088 =>
    b2n x.winner + 2 * b2n x.sat + 4 * b2n x.miss + 8 * b2n (e.enable && e.lockWatch && !x.lost) + 16 * b2n (e.enable && e.lockWatch && x.lost)
      + 32 * b2n (e.enable && x.sp ≠ e.target)
  | _ => 0

/-- VANE registers that show other state (R362). -/
def State.showVane (s : State) (off w : Nat) : Nat :=
  let v := s.vane
  let n := s.fld (aVane 0x14) 0 12
  let win := entryIn (if bitOf (s.reg (aVane 0x14)) 16 then v.standby else v.active) n
  if off = 0x008 then
    let anyLost := v.slots.any fun e => e.2.lost && (entryIn v.active e.1).lockWatch && s.slotRuns e.1
    b2n (s.vaneLevel ≠ 0) + 2 * b2n v.bankBActive + 4 * b2n v.swapPending + 8 * b2n v.throttled + 16 * b2n anyLost
  else if off = 0x010 then v.active.countP fun e => e.2.enable
  else if off = 0x01C then w % 256 + 256 * v.duty
  else if 0x020 ≤ off ∧ off < 0x064 then State.showWindow win off
  else if 0x070 ≤ off ∧ off < 0x08C then State.showSlot ((look v.slots n).getD { lost := false }) (entryIn v.active n) off
  else if off = 0x0B0 then ofSigned 32 v.supply
  else w

/-- SOURCES registers that show other state (R363). -/
def State.showSources (s : State) (off w : Nat) : Nat :=
  let some_ (p : Source → Bool) : Nat := b2n (s.sources.any p)
  if off = 0x008 then
    min 4 (s.sources.countP fun x => x.role = 1 && x.ready)
      + 8 * b2n (s.exchanges.any fun e => (e.into.map fun n => (s.source n).ready).getD false)
      + 16 * some_ (fun x => x.role = 0 && decide (1 ≤ x.fade)) + 32 * some_ (fun x => x.role = 0 && x.fade = 2)
      + 64 * some_ fun x => x.warming
  else if 0x100 ≤ off ∧ off < 0x240 then
    let x := s.source ((off - 0x100) / 16)
    match (off - 0x100) % 16 with
    | 0 =>
      x.role + 16 * (x.furrow % 16) + 256 * x.fade + 1024 * b2n x.locked + 2048 * b2n x.ready + 4096 * b2n x.warming
    | 4 => q88 x.power
    | 8 => q88 x.cal
    | _ => q88 x.fadeDb
  else w

/-- The fit that DET_SEL selects (R378). -/
def State.selectedFit (s : State) : Option DetFit :=
  let a := aWinnow 0x60
  let f := s.win (s.fld a 12 4)
  let which := s.fld a 16 4
  let set := if which < 8 then ((look f.points which).map fun e => e.fits).getD []
    else if which = 8 then f.current else f.pending.getD []
  fitOf set (s.fld a 0 11)

/-- WINNOW registers that show other state (R378). -/
def State.showWinnow (s : State) (off w : Nat) : Nat :=
  let live (f : Nat) : Bool := (s.win f).run.isSome
  if off = 0x008 then maskOf ((List.range 10).filter live) + 1024 * b2n ((s.fitting.map fun f => s.inGap f).getD false)
  else if off = 0x064 then (s.selectedFit.map fun p => q88 p.ofs).getD 0
  else if off = 0x068 then (s.selectedFit.map fun p => p.rcp % 65536).getD 0
  else if off = 0x06C then (s.selectedFit.map fun p => p.guard % 256).getD 0
  else if 0x100 ≤ off ∧ off < 0x1A0 ∧ (off - 0x100) % 16 = 0 then
    let f := (off - 0x100) / 16
    maskOf ((List.range 8).filter fun k => (look (s.win f).points k).isSome) + 256 * b2n (s.win f).due + 512 * b2n (live f)
  else w

/-- TEMP, BROKEN and CAUSE of a channel or input (R402). -/
def channelWord (temp : Nat) (broken : Option Nat) : Nat := temp + 65536 * b2n broken.isSome + 131072 * broken.getD 0

/-- LANTERN registers that show other state (R402). -/
def State.showLantern (s : State) (off w : Nat) : Nat :=
  let l := s.lantern
  if off = 0x008 then
    b2n l.hold.isSome + 2 * b2n l.warn + 4 * l.throttle + 32 * l.pBand
      + 128 * b2n (l.vaneBroken ≠ [] || l.diodes.any fun c => c.broken.isSome) + 256 * b2n l.restartBlocked
      + 512 * b2n l.wakeAt.isSome
  else if 0x040 ≤ off ∧ off < 0x0C0 then
    channelWord (s.diodeTemp ((off - 0x040) / 4)) (s.diode ((off - 0x040) / 4)).broken
  else if 0x0C0 ≤ off ∧ off < 0x0E0 then
    channelWord (s.thermShown ((off - 0x0C0) / 4)) (s.thermBroken ((off - 0x0C0) / 4))
  else if off = 0x0F8 then if s.lantern.sampled then s.supplyNow else 0
  else w

/-- SIEVE registers that show other state (R419). A slice takes no time in this model. -/
def State.showSieve (s : State) (off w : Nat) : Nat :=
  let v := s.sieve
  match off with
  | 0x008 => b2n s.sieving + 2 * (v.enable % 8) + 32 * b2n v.noSpare
  | 0x01C => v.phys (s.fld (aSieve 0x18) 0 11)
  | 0x020 => v.spares.length + 65536 * v.failed.length
  | 0x024 => v.next % 2048
  | _ => w

/-- HASP registers that show other state (R430); LIFECYCLE is 2, as of every shipped module (R421, log entry 138). -/
def State.showHasp (s : State) (off w : Nat) : Nat :=
  let x := s.hasp
  if off = 0x008 then 2 + 4 * b2n x.running + 8 * b2n x.load.isSome + w / 16 % 4 * 16 + 64 * b2n s.fwLoading
  else if off = 0x010 then fusedSvn x.svnBits
  else if off = 0x014 then maskOf ((List.range 4).filter fun k => Config.keyHash k ≠ 0) + 16 * boolBits x.revoked
  else if off = 0x018 then x.keySlot
  else if off = 0x01C then x.fwVersion
  else if off = 0x020 then x.fwSvn
  else if off = 0x024 then (x.load.map fun l => l.total).getD 0
  else if off = 0x028 then (x.load.map fun l => l.bytes.length).getD 0
  else if 0x030 ≤ off ∧ off < 0x060 then fieldAt x.measurement (off - 0x030) 4
  else if off = 0x060 then Config.serial.toNat / 2 ^ 32
  else if off = 0x064 then Config.serial.toNat % 2 ^ 32
  else if off = 0x07C then x.reportSeq
  else w

/-- LEDGER registers that show other state (R444). -/
def State.showLedger (s : State) (off w : Nat) : Nat :=
  match off with
  | 0x008 => b2n s.ledger.writing.isSome + 2 * b2n s.ledger.wrapped + 4 * b2n (s.alertN = some true)
  | 0x010 => s.ledger.nextSeq
  | 0x014 => s.ledger.oldest
  | 0x018 => s.ledger.bootCount
  | 0x01C => s.alertCause
  | 0x024 => s.events.next
  | 0x028 => s.events.oldest
  | _ => w

/-- What a register of a block shows over its stored word. -/
def State.shown (s : State) (p : Place) (w : Nat) : Nat :=
  match p.b.blk with
  | .global => s.showGlobal p.off w
  | .walong => s.showWalong p.off w
  | .reaper => s.showReaper p.off w
  | .thresher => s.showThresher p.off w
  | .furrow => s.showFurrow p.inst p.off w
  | .tally => s.showTally p.inst p.off w
  | .windrow => s.showWindrow p.off w
  | .mill => s.showMill p.inst p.off w
  | .gleaner => s.showGleaner p.inst p.off w
  | .memctl => s.showMemctl p.inst p.off w
  | .vane => s.showVane p.off w
  | .sources => s.showSources p.off w
  | .winnow => s.showWinnow p.off w
  | .lantern => s.showLantern p.off w
  | .sieve => s.showSieve p.off w
  | .hasp => s.showHasp p.off w
  | .ledger => s.showLedger p.off w

/-- ID, at offset 0 of every instance (R446). -/
def Place.idWord (p : Place) : Nat := p.inst + 2 ^ 16 + p.b.type * 2 ^ 24

/-- The blocks that are powered down in DOZE and NIGHT (R74, R390, log entry 122). -/
def sleepers : List Blk := [.furrow, .thresher, .reaper, .tally, .windrow, .mill, .gleaner, .sources, .winnow]

/-- The block of an address is powered down. -/
def State.blockDown (s : State) (a : Nat) : Bool :=
  s.down.isSome && match placeOf a with
    | some p => sleepers.contains p.b.blk
    | none => false

/-- The state as the registers of the blocks that are powered down show it: as it was when they stopped (R74). -/
def State.whenStopped (s : State) : State :=
  match s.down with
  | none => s
  | some d => { s with
      dev := d.dev, sessions := d.sessions, vane := { s.vane with slots := d.slots }
      lantern := { s.lantern with hot := d.hot, waking := none } }

/-- What a read of an address gives (R74, R446 to R452): ID, a live counter, what the register shows, or 0 where none is. -/
def State.readReg (s : State) (a : Nat) : Nat :=
  match placeOf a with
  | none => 0
  | some p =>
    if p.off = 0 then p.idWord
    else
      match regAt a with
      | none => 0
      | some (p, _, _) =>
        match s.pairAt p with
        | some v => v % 2 ^ 32
        | none => (if s.blockDown a then s.whenStopped else s).shown p (s.reg a) % 2 ^ 32

/-! ### What one access does -/

/-- LO_READ_COPIES_HI (R172, R452): the upper bits of a pair are copied for the next read of _HI. -/
def doLoReadCopiesHi (a : Nat) (s : State) : State :=
  match (placeOf a).bind s.pairAt with
  | some v => s.setReg (a + 4) (v / 2 ^ 32)
  | none => s

/-- RC_COUNTER_READ (R7, R86): the RC fields of a register are cleared by its read. -/
def doRcCounterRead (a : Nat) (s : State) : State :=
  match regAt a with
  | none => s
  | some (_, r, _) => (r.flds.filter fun f => f.acc = .rc).foldl (fun s f => s.setFld a f.lo f.w 0) s

/-- Everything one register's read by CFG_READ changes. -/
def State.afterRead (s : State) (a : Nat) : State := doRcCounterRead a (doLoReadCopiesHi a s)

/-- The legal values of a field (R84). -/
def Fld.ok (f : Fld) (w : Nat) : Bool :=
  let v := bitsOf w f.lo f.w
  match f.legal with
  | .any => true
  | .rng lo hi => lo ≤ v && v ≤ hi
  | .srng lo hi => decide (lo ≤ asSigned f.w v) && decide (asSigned f.w v ≤ hi)

/-- A word with the RW fields of another in place of its own (R450). -/
def mergeRw (flds : List Fld) (old v : Nat) : Nat :=
  (flds.filter fun f => f.acc = .rw).foldl
    (fun n f => n - bitsOf n f.lo f.w * 2 ^ f.lo + bitsOf v f.lo f.w * 2 ^ f.lo) old

/-- A value written to a register of a block that is powered down waits until the block starts again (R74). -/
def State.writeLater (s : State) (a v : Nat) : State :=
  { s with down := s.down.map fun d => { d with writes := d.writes ++ [(a, v % 2 ^ 32)] } }

/-- REGISTER_WRITE (R74, R450): RW fields are stored; other fields and reserved bits are ignored. SESS_LEN has a behaviour
of its own (R291). -/
def doRegisterWrite (a v : Nat) (s : State) : State :=
  match regAt a with
  | none => s
  | some (_, r, _) =>
    if s.blockDown a then s.writeLater a v
    else if a = aGleaner 0 0x64 then s
    else s.setReg a (mergeRw r.flds (s.reg a) v)

/-- A register's word with the values that wait for its block to start. -/
def State.late (s : State) (a base : Nat) : Nat :=
  match s.down, regAt a with
  | some d, some (_, r, _) => d.writes.foldl (fun w e => if e.1 = a then mergeRw r.flds w e.2 else w) base
  | _, _ => base

/-- The class counters of a Furrow, by the offset of each _LO register (R171, R176). -/
def classOffsets : List Nat := (List.range 8).map (fun n => 0x30 + 8 * n) ++ [0x70, 0x78]

/-- FURROW_COUNT_CLEAR (R172). -/
def doFurrowCountClear (f : Nat) (s : State) : State :=
  if 10 ≤ f then s else classOffsets.foldl (fun s o => s.clear48 (aFurrow f o)) s

/-- REAPER_COUNT_CLEAR (R222). -/
def doReaperCountClear (s : State) : State := (s.clear48 (aReaper 0x48)).clear48 (aReaper 0x50)

/-- TALLY_COUNT_CLEAR (R246). -/
def doTallyCountClear (t : Nat) (s : State) : State :=
  if 10 ≤ t then s else (s.clear48 (aTally t 0x28)).clear48 (aTally t 0x30)

/-- GLEANER_COUNT_CLEAR (R291). -/
def doGleanerCountClear (g : Nat) (s : State) : State :=
  if 8 ≤ g then s else (s.clear48 (aGleaner g 0x20)).clear48 (aGleaner g 0x28)

/-- Registers set to 0. -/
def State.zeroRegs (s : State) (l : List Nat) : State := l.foldl (fun s a => s.setReg a 0) s

/-- The words of a log of `n` entries of 16 bytes. -/
def logWords (a n : Nat) : List Nat := (List.range (4 * n)).map fun i => a + 4 * i

/-- CE_LOG_CLEAR (R335). -/
def doCeLogClear (c : Nat) (s : State) : State :=
  if 40 ≤ c then s
  else
    let s := s.zeroRegs (logWords (aMemctl c 0x200) 16)
    { s with memory := { s.memory with ceOverflowed := s.memory.ceOverflowed.filter fun x => x ≠ c } }

/-- UE_LOG_CLEAR (R335). -/
def doUeLogClear (c : Nat) (s : State) : State := if 40 ≤ c then s else s.zeroRegs (logWords (aMemctl c 0x300) 4)

/-- SIEVE_LOG_CLEAR (R419). -/
def doSieveLogClear (s : State) : State := s.zeroRegs (logWords (aSieve 0x100) 8)

/-- ALERT_LATCH_CLEAR (R441). -/
def doAlertLatchClear (s : State) : State := { s with lantern := { s.lantern with latch := false } }

/-- A value that SESS_LEN accepts for a session (R291). -/
def State.sessLenOk (s : State) (n v : Nat) : Bool :=
  match s.session n with
  | some x => x.held.isNone && decide (v ≤ x.tMax)
  | none => false

/-- SESS_LEN_WRITE (R291): the committed length of the selected session. -/
def doSessLenWrite (v : Nat) (s : State) : State :=
  let n := s.selected
  if s.sessLenOk n v then (match s.session n with
    | some x => s.setSession n { x with n := v }
    | none => s)
  else s

/-- The shares of a preset (R206), in units of 2.5 %; 3 is CUSTOM. -/
def presetShares (preset : Nat) (infer : List Nat) (custom : Nat) : List Nat :=
  match preset with
  | 0 => infer
  | 1 => [12, 4, 24]
  | 2 => [24, 12, 4]
  | _ => [bitsOf custom 0 6, bitsOf custom 8 6, bitsOf custom 16 6]

/-- SPLIT_TAKES_EFFECT (R206, R207). -/
def doSplitTakesEffect (s : State) : State :=
  let a := aReaper 0x10
  { s with reaper := { s.reaper with
    shares := presetShares (s.fld a 0 2) [32, 5, 3] (s.reg (aReaper 0x14))
      ++ presetShares (s.fld a 2 2) [28, 10, 2] (s.reg (aReaper 0x18)) } }

end Sys2Proof.Machine
end

