-- ==== Sys2Proof/Machine/CfgCmds.lean ====
section
/-!
DEFINITION. CFG_READ, CFG_WRITE and CFG_WRITE_MASKED (04, 21; R73, R76, R83 to R86, R448 to R452).
-/
namespace Sys2Proof.Machine

/-! ### The checks of R67, orders 3 to 5 -/

/-- The blocks that CFG_READ reaches in BOOT (R73). -/
def bootReads : List Blk := [.global, .walong, .lantern, .hasp, .ledger]

/-- The blocks that a write reaches in BOOT and FAULT (R73). -/
def limitedWrites : List Blk := [.global, .walong]

/-- The blocks that ENGINE_START keeps from being written (R116). -/
def engineBlocks : List Blk := [.furrow, .thresher, .vane, .sources, .winnow]

/-- An address lies in a span of one of these blocks. -/
def inBlocks (l : List Blk) (a : Nat) : Bool :=
  match placeOf a with
  | some p => l.contains p.b.blk
  | none => false

/-- The addresses of a range of `n` registers. -/
def regRange (a n : Nat) : List Nat := (List.range n).map fun i => a + 4 * i

/-- The span check of R448: ADDR in a span, and the last register in the same one. A range of no register is its ADDR. -/
def spanChecks (a n : Nat) : List (Option Failure) :=
  let same : Bool := match placeOf a, placeOf (a + 4 * (n - 1)) with
    | some p, some q => p.b.base + p.inst * p.b.stride = q.b.base + q.inst * q.b.stride
    | _, _ => false
  [need (placeOf a).isSome (fRange 0 a), need same (fRange 4 n)]

/-- A register is fixed while a task runs (R76). -/
def fixedReg (a : Nat) : Bool :=
  match regAt a with
  | some (_, r, _) => r.fixed
  | none => false

/-- A register is one of WINNOW.POINT_0 to POINT_7. -/
def isPoint (a : Nat) : Bool := aWinnow 0x30 ≤ a && a ≤ aWinnow 0x4C

/-- The checks before the fields of a read of `n` registers (R73, R448). -/
def State.readGuards (s : State) (a n : Nat) : List (Option Failure) :=
  wrongUnless (s.dev ≠ .boot || inBlocks bootReads a) :: spanChecks a n

/-- The checks before the fields of a write of `n` registers (R73, R116, R448, R76, R378). -/
def State.writeGuards (s : State) (a n : Nat) : List (Option Failure) :=
  [wrongUnless (!(s.dev = .boot || s.dev = .fault) || inBlocks limitedWrites a),
   wrongUnless (!(s.engineStarting && inBlocks engineBlocks a))] ++ spanChecks a n
    ++ [wrongUnless (!(s.dev = .run && (regRange a n).any fixedReg)),
        wrongUnless (s.dev = .config || !(regRange a n).any isPoint)]

/-! ### The values of a write (R84, R450, R451) -/

/-- The word a register will hold once a command's writes are made. -/
def State.wordAfter (s : State) (ws : List (Nat × Nat)) (a : Nat) : Nat :=
  match look ws a, regAt a with
  | some v, some (_, r, _) => mergeRw r.flds (s.late a (s.reg a)) v
  | _, _ => s.late a (s.reg a)

/-- Points in order around a written one (R378): above the one before, below the one after. -/
def State.pointOk (s : State) (ws : List (Nat × Nat)) (k : Nat) : Bool :=
  let p (k : Nat) : Int := asSigned 16 (s.wordAfter ws (aWinnow (0x30 + 4 * k)))
  (k = 0 || decide (p (k - 1) < p k)) && (7 ≤ k || decide (p k < p (k + 1)))

/-- The rule that joins several fields or registers of a write, as the value that breaks it: VLAN and prefixes (WALONG
registers), the shares (R206), FADE (R363), HOT (R402), POINT_k (R378), SESS_LEN (R291). -/
def State.crossFault (s : State) (ws : List (Nat × Nat)) (a v : Nat) : Option Nat :=
  let bad (c : Bool) (x : Nat) : Option Nat := if c then some x else none
  let prefixBad (top : Nat) : Option Nat :=
    bad (top < bitsOf v 0 8 || (bitOf v 8 && bitsOf v 0 8 = 0)) (bitsOf v 0 8)
  let sharesBad : Option Nat := bad (bitsOf v 0 6 + bitsOf v 8 6 + bitsOf v 16 6 ≠ 40) (bitsOf v 0 6)
  if a = aWalong 0x18 then bad (bitOf v 16 && !(1 ≤ bitsOf v 0 12 && bitsOf v 0 12 ≤ 4094)) (bitsOf v 0 12)
  else if a = aWalong 0x20 then prefixBad 31
  else if a = aWalong 0x40 then prefixBad 127
  else if a = aReaper 0x14 ∨ a = aReaper 0x18 then sharesBad
  else if a = aSources 0x14 then
    bad (asSigned 16 (bitsOf v 0 16) ≤ asSigned 16 (bitsOf v 16 16)) (bitsOf v 16 16)
  else if a = aLantern 0x18 then bad (bitsOf v 16 8 ≤ bitsOf v 8 8) (bitsOf v 16 8)
  else if isPoint a then bad (!s.pointOk ws ((a - aWinnow 0x30) / 4)) (bitsOf v 0 16)
  else if a = aGleaner 0 0x64 then bad (!s.sessLenOk (bitsOf (s.wordAfter ws (aGleaner 0 0x60)) 0 8) v) v
  else none

/-- The check of one written value: each RW field against its legal values, then the joint rules (R84). -/
def State.valueCheck (s : State) (ws : List (Nat × Nat)) (field a v : Nat) : Option Failure :=
  match regAt a with
  | none => none
  | some (_, r, _) =>
    match r.flds.find? fun f => f.acc = .rw && !f.ok v with
    | some f => some (fRange field (bitsOf v f.lo f.w))
    | none => (s.crossFault ws a v).map (fRange field)

/-! ### What a write does -/

/-- What a block's clear register, the soft reset or the alert latch does when 1 is written to it (R106, R172, R222, R246,
R291, R335, R419, R441, R450). -/
def State.writeAction (s : State) (a v : Nat) : State :=
  match placeOf a with
  | none => s
  | some p =>
    let on := bitOf v 0
    match p.b.blk, p.off with
    | .global, 0x004 => if on then { s with lantern := { s.lantern with softDue := true } } else s
    | .furrow, 0x024 => if on then doFurrowCountClear p.inst s else s
    | .reaper, 0x058 => if on then doReaperCountClear s else s
    | .tally, 0x048 => if on then doTallyCountClear p.inst s else s
    | .gleaner, 0x030 => if on then doGleanerCountClear p.inst s else s
    | .memctl, 0x12C =>
      let s := if on then doCeLogClear p.inst s else s
      if bitOf v 1 then doUeLogClear p.inst s else s
    | .sieve, 0x05C => if on then doSieveLogClear s else s
    | .ledger, 0x01C => if bitOf v 2 then doAlertLatchClear s else s
    | _, _ => s

/-- Thermistor inputs that a write has disabled lose the mark of a broken one: a disabled input has none (R38). -/
def State.thermChanged (s : State) : State :=
  { s with lantern := { s.lantern with
      therms := s.lantern.therms.zipIdx.map fun c => if s.thermOn c.2 then c.1 else { c.1 with broken := none } } }

/-- All the writes of one command (R451): values first, then SESS_LEN of the session selected after them, then the actions
in ascending order, and what changed addresses and thermistor enables bring about (R38, R50). What goes to a block that is
powered down only waits (R74). -/
def State.writeAll (s : State) (ws : List (Nat × Nat)) : State :=
  let t := ws.foldl (fun s w => doRegisterWrite w.1 w.2 s) s
  let ws := ws.filter fun w => !s.blockDown w.1
  let t := match look ws (aGleaner 0 0x64) with
    | some v => doSessLenWrite v t
    | none => t
  let t := ws.foldl (fun s w => s.writeAction w.1 w.2) t
  let t := if ws.any fun w => w.1 = aLantern 0x10 then t.thermChanged else t
  if ws.any fun w => aWalong 0 ≤ w.1 ∧ w.1 < aWalong 0x80 then s.netChanged t else t

/-- The blocks that were powered down start again, and the values written meanwhile take effect in the order in which they
were written (R74, R86). -/
def State.restartBlocks (s : State) : State :=
  match s.down with
  | none => s
  | some d => d.writes.foldl (fun s w => s.writeAll [w]) { s with down := none }

/-- The word that CFG_WRITE_MASKED writes (R85): the old RW bits outside MASK, VALUE within it. A value that waits for the
block to start counts as old (log entry 122). -/
def State.maskedWord (s : State) (a mask value : Nat) : Nat :=
  let old := match regAt a with
    | none => 0
    | some (_, r, _) => mergeRw r.flds 0 (s.late a (s.readReg a))
  old - (old &&& mask) + (value &&& mask)

/-! ### The commands -/

/-- The field checks CFG_READ and CFG_WRITE share (R83, R84). -/
def cfgFields (a n rsv : Nat) : List (Option Failure) := [need (a % 4 = 0) (fRange 0 a), inRange 4 n 0 256, rsvZero 6 rsv]

/-- The registers of a range read one at a time, ascending (R83, R86, R452). -/
def readAll : List Nat → State → List Byte × State
  | [], s => ([], s)
  | a :: t, s =>
    let v := s.readReg a
    let r := readAll t (s.afterRead a)
    (be 4 v ++ r.1, r.2)

/-- CFG_READ (R83). -/
def doCfgRead (h : ReqHdr) (a n rsv : Nat) (s : State) : State :=
  s.serve h (.cfgRead h a n rsv) (s.readGuards a n) (cfgFields a n rsv) [] (n = 0) fun s =>
    let r := readAll (regRange a n) s
    r.2.reply h 0x0101 stOk r.1

/-- CFG_WRITE (R84, R451). -/
def doCfgWrite (h : ReqHdr) (a rsv : Nat) (values : List Nat) (s : State) : State :=
  let n := values.length
  let ws := (regRange a n).zip (values.map fun v => v % 2 ^ 32)
  s.serve h (.cfgWrite h a rsv values) (s.writeGuards a n)
    (cfgFields a n rsv ++ ws.zipIdx.map fun w => s.valueCheck ws (8 + 4 * w.2) w.1.1 w.1.2) [] (n = 0) fun s =>
    (s.writeAll ws).reply h 0x0102 stOk

/-- CFG_WRITE_MASKED (R85). A merged value outside a field's legal values is refused as in CFG_WRITE, with FIELD 8, the
offset of VALUE, which is the model's choice: R85 states none (log entry 114). -/
def doCfgWriteMasked (h : ReqHdr) (a mask value : Nat) (s : State) : State :=
  let v := s.maskedWord a (mask % 2 ^ 32) (value % 2 ^ 32)
  s.serve h (.cfgWriteMasked h a mask value) (s.writeGuards a 1)
    [need (a % 4 = 0) (fRange 0 a), s.valueCheck [(a, v)] 8 a v] [] false fun s =>
    (s.writeAll [(a, v)]).reply h 0x0103 stOk

end Sys2Proof.Machine
end

