-- ==== Sys2Proof/Machine/Counters.lean ====
section
/-!
DEFINITION. COUNTERS_READ (20; R442): the seven counter sets, read and cleared.
-/
namespace Sys2Proof.Machine

/-- One value of a counter set: the counters it sums, by address; a 48-bit one by its _LO register. -/
abbrev CounterSum := List Nat

/-- The counters of each of several instances of a block, in order. -/
def perInst (n : Nat) (addr : Nat → Nat → Nat) (offs : List Nat) : List CounterSum :=
  (List.range n).flatMap fun i => offs.map fun o => [addr i o]

/-- One sum over all instances of a block for each counter. -/
def sumInst (n : Nat) (addr : Nat → Nat → Nat) (offs : List Nat) : List CounterSum :=
  offs.map fun o => (List.range n).map fun i => addr i o

/-- The counters of a single block. -/
def oneInst (addr : Nat → Nat) (offs : List Nat) : List CounterSum := offs.map fun o => [addr o]

/-- The values of a set in order (R442). -/
def counterSet (n : Nat) : List CounterSum :=
  match n with
  | 0 =>
    oneInst aLantern [0x100] ++ perInst 10 aFurrow [0x80] ++ oneInst aReaper [0x40] ++ perInst 10 aTally [0x20]
      ++ perInst 64 aMill [0x14] ++ perInst 8 aGleaner [0x14] ++ perInst 40 aMemctl [0x130] ++ oneInst aSieve [0x38]
      ++ oneInst aVane [0x90]
  | 1 => perInst 10 aFurrow classOffsets
  | 2 => perInst 10 aFurrow [0x90, 0x94, 0x98, 0x9C, 0xA0]
  | 3 => perInst 40 aMemctl [0x110, 0x114, 0x118, 0x128, 0x124]
  | 4 =>
    oneInst aVane [0x98, 0x9C, 0xA0, 0xA8] ++ oneInst aSources [0x28, 0x2C, 0x20, 0x24, 0x30]
      ++ oneInst aWinnow [0x70, 0x74, 0x78, 0x50] ++ oneInst aLantern [0x110, 0x114, 0x118, 0x11C, 0x124]
  | 5 => oneInst aWalong [0x100, 0x104, 0x108, 0x10C, 0x110, 0x114, 0x118, 0x11C, 0x120, 0x124, 0x128]
  | _ =>
    perInst 10 aTally [0x38, 0x3C, 0x40] ++ sumInst 64 aMill [0x24, 0x28, 0x2C, 0x34, 0x44]
      ++ sumInst 8 aGleaner [0x38, 0x3C, 0x40, 0x44] ++ oneInst aReaper [0x60, 0x6C, 0x70, 0x78]

/-- The width of a set's values. -/
def counterWidth (n : Nat) : Nat := if n ≤ 1 then 8 else 4

/-- One counter's value: the whole 48 bits of a pair, else the register. -/
def State.counter (s : State) (a : Nat) : Nat :=
  match (placeOf a).bind s.pairAt with
  | some v => v
  | none => s.readReg a

/-- One value of a set: a single counter as it is, a sum saturating at 0xFFFF_FFFF (R442). -/
def State.counterSum (s : State) (l : CounterSum) : Nat :=
  match l with
  | [a] => s.counter a
  | l => min 0xFFFFFFFF (l.map s.counter).sum

/-- The counters of a set cleared (R442): class counters per Furrow, the others as their RC fields. -/
def State.clearSet (s : State) (n : Nat) : State :=
  if n = 0 then s
  else if n = 1 then (List.range 10).foldl (fun s f => doFurrowCountClear f s) s
  else (counterSet n).flatten.foldl (fun s a => doRcCounterRead a s) s

/-- The reply of COUNTERS_READ: head and values (R442). -/
def State.counterBytes (s : State) (n : Nat) : List Byte :=
  let w := counterWidth n
  be 1 n ++ be 1 w ++ be 2 (counterSet n).length ++ be 4 0 ++ be 8 (s.uptime % 2 ^ 48)
    ++ (counterSet n).flatMap fun l => be w (s.counterSum l)

/-- COUNTERS_READ (R442). -/
def doCountersRead (h : ReqHdr) (set clear rsv : Nat) (s : State) : State :=
  s.serve h (.countersRead h set clear rsv) []
    [inRange 0 set 0 6, need (clear = 0 || (clear = 1 && set ≠ 0)) (fRange 1 clear), rsvZero 2 rsv] [] false fun s =>
    let data := s.counterBytes set
    (if clear = 1 then s.clearSet set else s).reply h 0x0903 stOk data

end Sys2Proof.Machine
end

