-- ==== Sys2Proof/Machine/Start.lean ====
section
/-!
DEFINITION. How the Reeve starts a request (R58, R67, R69), what the end of a command that took time does
(COMMAND_COMPLETION), and how commands that waited for a wake or a test go on (R72, R125, R391, R394, R412).
-/
namespace Sys2Proof.Machine

/-- A host command starts: the chapter's own meaning; an event is no command. -/
def startHost : Instr → State → State
  | .identify h => doIdentify h
  | .ping h d => doPing h d
  | .setNet h a p r x => doSetNet h a p r x
  | .hostWatchdog h p x => doHostWatchdog h p x
  | .cfgRead h a n r => doCfgRead h a n r
  | .cfgWrite h a r vs => doCfgWrite h a r vs
  | .cfgWriteMasked h a m v => doCfgWriteMasked h a m v
  | .memWrite h a r d => doMemWrite h a r d
  | .memRead h a n r => doMemRead h a n r
  | .memFill h a n p => doMemFill h a n p
  | .memCopy h a b n => doMemCopy h a b n
  | .regionSet h b x => doRegionSet h b x
  | .programLoad h a n r => doProgramLoad h a n r
  | .programCheck h a => doProgramCheck h a
  | .sessionOpen h b x => doSessionOpen h b x
  | .sessionClose h n r => doSessionClose h n r
  | .stepRun h p t b r x => doStepRun h p t b r x
  | .taskCancel h l r q => doTaskCancel h l r q
  | .laneResume h => doLaneResume h
  | .sessionCommit h n c => doSessionCommit h n c
  | .sessionRollback h n r => doSessionRollback h n r
  | .taskStatus h l r q => doTaskStatus h l r q
  | .engineStart h x => doEngineStart h x
  | .engineStop h => doEngineStop h
  | .marginTest h x => doMarginTest h x
  | .winnowRun h m r x => doWinnowRun h m r x
  | .vaneLoopSet h n r t x => doVaneLoopSet h n r t x
  | .vaneBankSwap h => doVaneBankSwap h
  | .sourceSpare h a b r => doSourceSpare h a b r
  | .powerState h t r x => doPowerState h t r x
  | .thermalRead h => doThermalRead h
  | .sieveRun h b x => doSieveRun h b x
  | .sievePeriodic h e r x => doSievePeriodic h e r x
  | .eccFlipArm h b => doEccFlipArm h b
  | .fwLoadBegin h t r => doFwLoadBegin h t r
  | .fwLoadData h o d => doFwLoadData h o d
  | .fwLoadEnd h => doFwLoadEnd h
  | .attest h n => doAttest h n
  | .certRead h => doCertRead h
  | .ledgerRead h f c r => doLedgerRead h f c r
  | .ledgerClear h u => doLedgerClear h u
  | .countersRead h a c r => doCountersRead h a c r
  | .eventsRead h f c r => doEventsRead h f c r
  | _ => id

/-- COMMAND_START (R58, R67, R69): the oldest request of a lane whose earlier commands are complete with every effect. One that an intake
check refused, or that ended while it waited, is answered; a length that fits no form is BAD_LENGTH. -/
def doCommandStart (lane : Nat) (s : State) : State :=
  let ln := s.lane lane
  if s.netPending lane then s
  else match ln.job, ln.queue with
  | none, r :: rest =>
    let s := s.setLane lane { ln with queue := rest }
    match r.early with
    | some f => s.failReply r.hdr r.opcode f
    | none =>
      match parseRequest r.hdr r.opcode r.payload with
      | some cmd => startHost cmd s
      | none => s.failReply r.hdr r.opcode { status := stBadLength, detail := r.payload.length }
  | _, _ => s

/-- Commands that waited for a wake, an entry or a test start again, in lane order. -/
def State.resumeWaiting (s : State) : State :=
  if s.asleep ∨ s.lantern.entry.isSome then s
  else s.lanes.foldl (fun s l => match l.job with
    | some j => if j.kind = .waitWake then startHost j.cmd s else s
    | none => s) s

/-- WAKE_COMPLETE (R74, R391, R394): the device is in the state it wakes to, and what waited for it goes on. A wake from NIGHT
to DOZE ends with POWER_ENTRY_COMPLETE (R457). -/
def doWakeComplete (failed : List Nat) (s : State) : State :=
  match s.lantern.waking with
  | some w => if w.target = .doze then s else ((s.restartBlocks.finishWake failed).powerNext).resumeWaiting
  | none => s

/-- POWER_ENTRY_COMPLETE (R392, R457). -/
def doPowerEntryComplete (s : State) : State :=
  if s.lantern.entry.isSome ∨ s.lantern.waking.isSome then s.entryComplete.resumeWaiting else s

/-- A test has ended: what waited for it goes on, and a DOZE that was due begins (R103, R125, R412, log entry 115). -/
def State.testEnded (s : State) : State := s.resumeWaiting.dozeIfDue.powerNext

/-- COMMAND_COMPLETION (R105): the running command of a lane finishes its work and its reply leaves. A command that FAULT has
cut short ends with the failure of that FAULT (R71, log entry 82); one that waits for another event goes on waiting. -/
def doCommandCompletion (lane : Nat) (env : Env) (s : State) : State :=
  match (s.lane lane).job with
  | none => s
  | some j =>
    let cut (s : State) : State := s.failReply j.hdr j.opcode (s.lantern.fault.getD { status := stWrongState })
    match j.kind with
    | .finish st p => s.reply j.hdr j.opcode st p
    | .fail f => s.failReply j.hdr j.opcode f
    | .waitWake => if s.asleep ∨ s.lantern.entry.isSome then s else startHost j.cmd s
    | .engineStart q m _ =>
      if s.dev ≠ .config then cut s else if s.lantern.warn then s else finishEngineStart j.hdr q m env s
    | .marginTest q r m => if s.dev = .fault then cut s else (finishMarginTest j.hdr q r m env s).testEnded
    | .sieveRun t f c b n a g =>
      let r : Run := ⟨t, f, c, b, n, a, g⟩
      if s.dev = .fault then cut (s.sieveOpen r) else (finishSieveRun j.hdr r env s).testEnded
    | .fwLoadEnd => if s.dev = .boot then finishFwLoadEnd j.hdr env s else cut s
    | .winnowWait m => s.reply j.hdr j.opcode stOk (s.winnowReply m)
    | .powerEntry t w b d n => if s.dev = .fault then cut s else s.powerGo j t w b d n
    | .bankSwap => if s.vaneLevel = 0 then (if s.vane.swapPending then s.swapBanks else s).answerSwaps else s
    | .sourceSpare _ => if s.dev = .fault then s.endExchanges else s
    | .step => s
    | .cancelWait _ _ => s

end Sys2Proof.Machine
end

