-- ==== Sys2Proof/Machine/CompletionEvents.lean ====
section
/-!
DEFINITION. The meanings of the completions, the Ledger and the resolution cache (03, 04, 20): one per row of the
table, each over the named operations of its chapter.
-/
namespace Sys2Proof.Machine

/-- LEDGER_WRITE (R438). A waiting record is written to the Ledger, taking its LEDGER_SEQ when the write begins. -/
def execLedgerWrite (s : State) : Host.Outcome State Fault Refusal :=
  .next (doLedgerWrite s)

/-- COMMAND_COMPLETION (R105). A command that took time (ENGINE_START, FW_LOAD_END, MARGIN_TEST, SIEVE_RUN,
REGION_SET, MEM_FILL, MEM_COPY, LEDGER_CLEAR and the like) finishes its work, applies its final state change and hands
its reply to the MAC. -/
def execCommandCompletion (lane : Nat) (env : Env) (s : State) : Host.Outcome State Fault Refusal :=
  .next (doCommandCompletion lane env s)

/-- POWER_ENTRY_COMPLETE (R392). An entry into IDLE, DOZE or NIGHT, begun by POWER_STATE, the host watchdog or a
supply fault, reaches its target state and releases the commands marked W that waited for it. -/
def execPowerEntryComplete (s : State) : Host.Outcome State Fault Refusal :=
  .next (doPowerEntryComplete s)

/-- LEDGER_WRITE_COMPLETE (R438). A Ledger record write of up to 400 µs finishes, which lets the next waiting record
begin and releases any RESET_N or HWSD_N action deferred behind it. -/
def execLedgerWriteComplete (s : State) : Host.Outcome State Fault Refusal :=
  .next (doLedgerWriteComplete s)

/-- RESOLUTION_CACHE_AGEING (R49). An entry of the 64-entry address-resolution cache reaches its ageing time of 300 s
and is dropped, so the next EVENT packet must resolve the address again. -/
def execResolutionCacheAgeing (ip : Nat) (s : State) : Host.Outcome State Fault Refusal :=
  .next (doCacheAgeing ip s)

end Sys2Proof.Machine
end

