-- ==== Sys2Proof/Machine/ConfigCommands.lean ====
section
/-!
DEFINITION. The meanings of the commands of administration and configuration, and what one register access does (04, 21): one per row of the
table, each over the named operations of its chapter.
-/
namespace Sys2Proof.Machine

/-- IDENTIFY (R80). Unsequenced command that returns part, state, firmware version, uptime and boot count at once, in
any lane and any state with the port up. -/
def execIdentify (h : ReqHdr) (s : State) : Host.Outcome State Fault Refusal :=
  .next (doIdentify h s)

/-- PING (R81). Unsequenced command that echoes its payload unchanged with status OK. -/
def execPing (h : ReqHdr) (data : List Byte) (s : State) : Host.Outcome State Fault Refusal :=
  .next (doPing h data s)

/-- SET_NET (R82). Writes the IPv4 and IPv6 addresses, prefixes, gateways and VLAN settings together. -/
def execSetNet (h : ReqHdr) (addr : Nat) (prefixLen : Nat) (rsv : Nat) (x : Option SetNetX) (s : State) : Host.Outcome State Fault Refusal :=
  .next (s.hostCommand h (.setNet h addr prefixLen rsv x) (doSetNet h addr prefixLen rsv x))

/-- HOST_WATCHDOG (R102). Arms the host watchdog and restarts its timer, or disarms it when PERIOD_MS is 0. -/
def execHostWatchdog (h : ReqHdr) (periodMs : Nat) (x : Option (Nat × Nat)) (s : State) : Host.Outcome State Fault Refusal :=
  .next (s.hostCommand h (.hostWatchdog h periodMs x) (doHostWatchdog h periodMs x))

/-- CFG_READ (R83). Reads COUNT consecutive configuration registers inside one span. -/
def execCfgRead (h : ReqHdr) (addr : Nat) (count : Nat) (rsv : Nat) (s : State) : Host.Outcome State Fault Refusal :=
  .next (s.hostCommand h (.cfgRead h addr count rsv) (doCfgRead h addr count rsv))

/-- CFG_WRITE (R84). Checks every value and then writes COUNT consecutive registers, all taking effect in the same
cycle. -/
def execCfgWrite (h : ReqHdr) (addr : Nat) (rsv : Nat) (values : List Nat) (s : State) : Host.Outcome State Fault Refusal :=
  .next (s.hostCommand h (.cfgWrite h addr rsv values) (doCfgWrite h addr rsv values))

/-- CFG_WRITE_MASKED (R85). Performs an atomic read-merge-write of one register under a mask. -/
def execCfgWriteMasked (h : ReqHdr) (addr : Nat) (mask : Nat) (value : Nat) (s : State) : Host.Outcome State Fault Refusal :=
  .next (s.hostCommand h (.cfgWriteMasked h addr mask value) (doCfgWriteMasked h addr mask value))

/-- REGISTER_WRITE (R450). Write of a value to a configuration register that has no behaviour of its own: RW fields
are stored, and RO, RC and reserved bits are ignored. -/
def execRegisterWrite (addr : Nat) (value : Nat) (s : State) : Host.Outcome State Fault Refusal :=
  .next (doRegisterWrite addr value s)

/-- RC_COUNTER_READ (R7). A read of an RC counter returns its value and then clears it to 0. -/
def execRcCounterRead (addr : Nat) (s : State) : Host.Outcome State Fault Refusal :=
  .next (doRcCounterRead addr s)

/-- LO_READ_COPIES_HI (R172). A read of the _LO register of a 48-bit or 64-bit pair copies the high bits into _HI, so
that a following read of _HI is consistent. -/
def execLoReadCopiesHi (addr : Nat) (s : State) : Host.Outcome State Fault Refusal :=
  .next (doLoReadCopiesHi addr s)

/-- SOFT_RESET (R106). Writing 1 to GLOBAL.CTL.SOFT_RESET resets the device as RESET_N does, once the reply to the
write has been handed to the MAC. -/
def execSoftReset (s : State) : Host.Outcome State Fault Refusal :=
  .next (doSoftReset s)

/-- FURROW_COUNT_CLEAR (R172). Writing 1 to FURROW.COUNT_CTL.CLEAR sets all class counters of the Furrow to 0 at once.
-/
def execFurrowCountClear (f : Nat) (s : State) : Host.Outcome State Fault Refusal :=
  .next (doFurrowCountClear f s)

/-- REAPER_COUNT_CLEAR (R222). Writing 1 to REAPER.COUNT_CTL.CLEAR clears BYTES and CHANNEL_BYTES. -/
def execReaperCountClear (s : State) : Host.Outcome State Fault Refusal :=
  .next (doReaperCountClear s)

/-- TALLY_COUNT_CLEAR (R246). Writing 1 to TALLY.COUNT_CTL.CLEAR clears ROWS and CONVERTED. -/
def execTallyCountClear (t : Nat) (s : State) : Host.Outcome State Fault Refusal :=
  .next (doTallyCountClear t s)

/-- GLEANER_COUNT_CLEAR (R291). Writing 1 to GLEANER.COUNT_CTL.CLEAR clears LOFT_BYTES and VISITS. -/
def execGleanerCountClear (g : Nat) (s : State) : Host.Outcome State Fault Refusal :=
  .next (doGleanerCountClear g s)

/-- CE_LOG_CLEAR (R335). Bit 0 of MEMCTL.LOG_CLEAR clears the correctable-error log. -/
def execCeLogClear (ctl : Nat) (s : State) : Host.Outcome State Fault Refusal :=
  .next (doCeLogClear ctl s)

/-- UE_LOG_CLEAR (R335). Bit 1 of MEMCTL.LOG_CLEAR clears the uncorrectable-error log. -/
def execUeLogClear (ctl : Nat) (s : State) : Host.Outcome State Fault Refusal :=
  .next (doUeLogClear ctl s)

/-- SIEVE_LOG_CLEAR (R419). Writing 1 to SIEVE.LOG_CLEAR clears the Sieve fault log. -/
def execSieveLogClear (s : State) : Host.Outcome State Fault Refusal :=
  .next (doSieveLogClear s)

/-- ALERT_LATCH_CLEAR (R441). Writing 1 to LEDGER.ALERT_CAUSE.LATCH clears the alert latch. -/
def execAlertLatchClear (s : State) : Host.Outcome State Fault Refusal :=
  .next (doAlertLatchClear s)

/-- SESS_LEN_WRITE (R291). Sets the committed length N of the selected session after checking that the session is
open, has no held entries, and that the value does not exceed SESS_CAP. -/
def execSessLenWrite (value : Nat) (s : State) : Host.Outcome State Fault Refusal :=
  .next (doSessLenWrite value s)

/-- SPLIT_TAKES_EFFECT (R207). A written bandwidth-split preset or custom share takes effect at the next 1 µs
boundary. -/
def execSplitTakesEffect (s : State) : Host.Outcome State Fault Refusal :=
  .next (doSplitTakesEffect s)

end Sys2Proof.Machine
end

