-- ==== Sys2Proof/Machine/EngineCommands.lean ====
section
/-!
DEFINITION. The meanings of the commands about engines, loops, sources, power and self-test (05, 14 to 18): one per row of the
table, each over the named operations of its chapter.
-/
namespace Sys2Proof.Machine

/-- ENGINE_START (R113). Heats the photonic die, locks the sources and rings, runs the margin test, makes the
assignment and enters READY. -/
def execEngineStart (h : ReqHdr) (x : Option (Nat × Nat × Nat)) (s : State) : Host.Outcome State Fault Refusal :=
  .next (s.hostCommand h (.engineStart h x) (doEngineStart h x))

/-- ENGINE_STOP (R124). Switches off sources, modulator drivers and heaters, releases the routes and enters CONFIG. -/
def execEngineStop (h : ReqHdr) (s : State) : Host.Outcome State Fault Refusal :=
  .next (s.hostCommand h (.engineStop h) (doEngineStop h))

/-- MARGIN_TEST (R125). Tests all Furrows and sources, reports the results, and reassigns them when REASSIGN is 1. -/
def execMarginTest (h : ReqHdr) (x : Option (Nat × Nat × Nat)) (s : State) : Host.Outcome State Fault Refusal :=
  .next (s.hostCommand h (.marginTest h x) (doMarginTest h x))

/-- WINNOW_RUN (R377). Marks Winnow runs due for the named Furrows and optionally waits for them to finish. -/
def execWinnowRun (h : ReqHdr) (mask : Nat) (rsv : Nat) (x : Option (Nat × Nat)) (s : State) : Host.Outcome State Fault Refusal :=
  .next (s.hostCommand h (.winnowRun h mask rsv x) (doWinnowRun h mask rsv x))

/-- VANE_LOOP_SET (R350). Writes one Vane loop slot: its TARGET in both banks, or a whole entry into the standby bank
or both banks. -/
def execVaneLoopSet (h : ReqHdr) (slot : Nat) (rsv : Nat) (target : Int) (x : Option LoopX) (s : State) : Host.Outcome State Fault Refusal :=
  .next (s.hostCommand h (.vaneLoopSet h slot rsv target x) (doVaneLoopSet h slot rsv target x))

/-- VANE_BANK_SWAP (R351). Swaps the active and standby Vane coefficient banks at the next sample boundary. -/
def execVaneBankSwap (h : ReqHdr) (s : State) : Host.Outcome State Fault Refusal :=
  .next (s.hostCommand h (.vaneBankSwap h) (doVaneBankSwap h))

/-- SOURCE_SPARE (R360). Pre-warms a spare source for an active source and arms their exchange on command. -/
def execSourceSpare (h : ReqHdr) (source : Nat) (spare : Nat) (rsv : Nat) (s : State) : Host.Outcome State Fault Refusal :=
  .next (s.hostCommand h (.sourceSpare h source spare rsv) (doSourceSpare h source spare rsv))

/-- POWER_STATE (R392). Moves the device to READY, IDLE, DOZE or NIGHT, saving a Granary range to the Loft for NIGHT.
-/
def execPowerState (h : ReqHdr) (target : Nat) (rsv : Nat) (x : Option PowerX) (s : State) : Host.Outcome State Fault Refusal :=
  .next (s.hostCommand h (.powerState h target rsv x) (doPowerState h target rsv x))

/-- THERMAL_READ (R401). Returns every temperature reading, the bands, the throttle level, the supply magnitude and
the uptime. -/
def execThermalRead (h : ReqHdr) (s : State) : Host.Outcome State Fault Refusal :=
  .next (s.hostCommand h (.thermalRead h) (doThermalRead h))

/-- SIEVE_RUN (R410). Tests the chosen memory units destructively with a march and repairs failing Granary banks from
spares. -/
def execSieveRun (h : ReqHdr) (b : SieveB) (x : Option (Nat × Nat × Nat)) (s : State) : Host.Outcome State Fault Refusal :=
  .next (s.hostCommand h (.sieveRun h b x) (doSieveRun h b x))

/-- SIEVE_PERIODIC (R415). Starts or stops periodic Granary and external Sieve slices. -/
def execSievePeriodic (h : ReqHdr) (enable : Nat) (rsv : Nat) (x : Option (Nat × Nat × Nat × Nat)) (s : State) : Host.Outcome State Fault Refusal :=
  .next (s.hostCommand h (.sievePeriodic h enable rsv x) (doSievePeriodic h enable rsv x))

/-- ECC_FLIP_ARM (R338). Arms one corruption of the stored form of the next eligible word written in a tier, or
disarms it. -/
def execEccFlipArm (h : ReqHdr) (b : FlipB) (s : State) : Host.Outcome State Fault Refusal :=
  .next (s.hostCommand h (.eccFlipArm h b) (doEccFlipArm h b))

end Sys2Proof.Machine
end

