-- ==== Sys2Proof/Machine/LoopEvents.lean ====
section
/-!
DEFINITION. The meanings of the events of the Vane, the sources and the Winnow (15, 16): one per row of the
table, each over the named operations of its chapter.
-/
namespace Sys2Proof.Machine

/-- VANE_SAMPLE (R342). Every 10 µs all enabled loop slots read sensors, run the control law and profile, and drive
actuators. -/
def execVaneSample (inp : VaneInput) (s : State) : Host.Outcome State Fault Refusal :=
  .next (doVaneSample inp s)

/-- SOURCE_FADE_CHECK (R355). Each millisecond the averaged source power sets its fade state, warning or critical. -/
def execSourceFadeCheck (powers : List (Nat × Int)) (s : State) : Host.Outcome State Fault Refusal :=
  .next (doSourceFadeCheck powers s)

/-- SPARE_READY (R356). A pre-warmed spare holds its match for 1 ms and becomes ready for exchange. -/
def execSpareReady (n : Nat) (s : State) : Host.Outcome State Fault Refusal :=
  .next (doSpareReady n s)

/-- PREWARM_TIMEOUT (R356). A spare not ready within 100 ms is marked failed, and the next spare is tried. -/
def execPrewarmTimeout (n : Nat) (s : State) : Host.Outcome State Fault Refusal :=
  .next (doPrewarmTimeout n s)

/-- WINNOW_RUN_DUE (R369). A Furrow's temperature has moved by TRIGGER, or another cause applies, and a Winnow run
becomes due. -/
def execWinnowRunDue (f : Nat) (s : State) : Host.Outcome State Fault Refusal :=
  .next (doWinnowRunDue f s)

/-- WINNOW_COLLECTION_END (R370). Collection ends when enough levels have samples or COLLECT.MS passes. -/
def execWinnowCollectionEnd (f : Nat) (pattern : List (Nat × List LevelStat)) (s : State) : Host.Outcome State Fault Refusal :=
  .next (doWinnowCollectionEnd f pattern s)

/-- WINNOW_FIT_SLICE (R375). In a gap, the fit engine fits 64 detectors of a run. -/
def execWinnowFitSlice (s : State) : Host.Outcome State Fault Refusal :=
  .next (doWinnowFitSlice s)

/-- WINNOW_RUN_COMPLETE (R374). A run is applied to its point entry or discarded whole. -/
def execWinnowRunComplete (f : Nat) (s : State) : Host.Outcome State Fault Refusal :=
  .next (doWinnowRunComplete f s)

/-- INTERP_SET_WRITE (R368). A new interpolated decision set is written to the quantiser and becomes current at the
next bay swap. -/
def execInterpSetWrite (f : Nat) (s : State) : Host.Outcome State Fault Refusal :=
  .next (doInterpSetWrite f s)

end Sys2Proof.Machine
end

