-- ==== Sys2Proof/Machine/MemoryCommands.lean ====
section
/-!
DEFINITION. The meanings of the memory commands, and the events of the memory controllers and the Sieve (04, 14, 18): one per row of the
table, each over the named operations of its chapter.
-/
namespace Sys2Proof.Machine

/-- MEM_WRITE (R87). Writes LENGTH bytes of data at a device address. -/
def execMemWrite (h : ReqHdr) (addr : Nat) (rsv : Nat) (data : List Byte) (s : State) : Host.Outcome State Fault Refusal :=
  .next (s.hostCommand h (.memWrite h addr rsv data) (doMemWrite h addr rsv data))

/-- MEM_READ (R88). Returns up to 65,536 bytes from a device address, fragmented when the reply does not fit one
packet. -/
def execMemRead (h : ReqHdr) (addr : Nat) (length : Nat) (rsv : Nat) (s : State) : Host.Outcome State Fault Refusal :=
  .next (s.hostCommand h (.memRead h addr length rsv) (doMemRead h addr length rsv))

/-- MEM_FILL (R89). Writes an 8-byte pattern repeatedly over a range. -/
def execMemFill (h : ReqHdr) (addr : Nat) (length : Nat) (pattern : List Byte) (s : State) : Host.Outcome State Fault Refusal :=
  .next (s.hostCommand h (.memFill h addr length pattern) (doMemFill h addr length pattern))

/-- MEM_COPY (R90). Copies LENGTH bytes between non-overlapping ranges. -/
def execMemCopy (h : ReqHdr) (src : Nat) (dst : Nat) (length : Nat) (s : State) : Host.Outcome State Fault Refusal :=
  .next (s.hostCommand h (.memCopy h src dst length) (doMemCopy h src dst length))

/-- REGION_SET (R328). Writes one region-table entry of a tier and converts or zero-fills the affected words. -/
def execRegionSet (h : ReqHdr) (b : RegionB) (x : Option (Nat × Nat)) (s : State) : Host.Outcome State Fault Refusal :=
  .next (s.hostCommand h (.regionSet h b x) (doRegionSet h b x))

/-- MERGE_FLUSH_TIMER (R330). A merge-buffer entry with no write for 2 µs is flushed by read-modify-write. -/
def execMergeFlushTimer (ctl : Nat) (word : Nat) (s : State) : Host.Outcome State Fault Refusal :=
  .next (doMergeFlushTimer ctl word s)

/-- PATROL_SCRUB (R336). Each controller reads its KEEP words in order once per scrub period, correcting errors. -/
def execPatrolScrub (ctl : Nat) (word : Nat) (s : State) : Host.Outcome State Fault Refusal :=
  .next (doPatrolScrub ctl word s)

/-- REFRESH_BAND_UPDATE (R337). Each millisecond the DRAM indication and the diode set the refresh band of a
controller. -/
def execRefreshBandUpdate (ctl : Nat) (dram : Option Nat) (s : State) : Host.Outcome State Fault Refusal :=
  .next (doRefreshBandUpdate ctl dram s)

/-- GRANARY_SLICE (R416). Every GRANARY_MS a logical bank migrates to a free spare and its old physical bank is
marched. -/
def execGranarySlice (failAt : Option Nat) (s : State) : Host.Outcome State Fault Refusal :=
  .next (doGranarySlice failAt s)

/-- EXTERNAL_SLICE (R417). Every EXT_US a controller transparently marches the next 4 KiB page. -/
def execExternalSlice (ctl : Nat) (failAt : Option Nat) (s : State) : Host.Outcome State Fault Refusal :=
  .next (doExternalSlice ctl failAt s)

end Sys2Proof.Machine
end

