-- ==== Sys2Proof/Machine/PowerEvents.lean ====
section
/-!
DEFINITION. The meanings of the events of supply, pins, reset, temperature and power states (02, 05, 17): one per row of the
table, each over the named operations of its chapter.
-/
namespace Sys2Proof.Machine

/-- START_CONDITION_CONFIRMED (R26). The supply has stayed above 40.0 V for 1 ms: soft start and Lantern start from
OFF, or LANTERN from SHUTDOWN. -/
def execStartConditionConfirmed (s : State) : Host.Outcome State Fault Refusal :=
  .next (doStartCondition s)

/-- CRYSTAL_STABLE (R107). The Lantern crystal becomes stable, the device enters LANTERN, and pin sampling begins. -/
def execCrystalStable (s : State) : Host.Outcome State Fault Refusal :=
  .next (doCrystalStable s)

/-- BOOT_ENTRY (R109). With the main rails good, the boot ROM ready and both pins confirmed high, the device enters
BOOT and BOOT_COUNT rises. -/
def execBootEntry (s : State) : Host.Outcome State Fault Refusal :=
  .next (doBootEntry s)

/-- SUPPLY_HOLD (R396). A confirmed supply warning in READY, RUN or IDLE stops work at passes and Gates and powers
down to the Idle level. -/
def execSupplyHold (magnitude : Nat) (s : State) : Host.Outcome State Fault Refusal :=
  .next (doSupplyHold magnitude s)

/-- SUPPLY_RESTORE (R397). The restore condition is confirmed, the hold ends, and dispatch resumes within 20 µs. -/
def execSupplyRestore (s : State) : Host.Outcome State Fault Refusal :=
  .next (doSupplyRestore s)

/-- SUPPLY_FAULT (R398). The supply is not restored within 50 ms of a warning: running steps end with SUPPLY_FAULT and
the device enters DOZE. -/
def execSupplyFault (magnitude : Nat) (s : State) : Host.Outcome State Fault Refusal :=
  .next (doSupplyFault magnitude s)

/-- POWER_LOSS (R27). A confirmed reset supply level removes power from all domains except the Lantern and enters
SHUTDOWN. -/
def execPowerLoss (magnitude : Nat) (s : State) : Host.Outcome State Fault Refusal :=
  .next (doPowerLoss magnitude s)

/-- LANTERN_OFF (R26). The supply falls below 28.0 V, the Lantern stops, and the device enters OFF. -/
def execLanternOff (s : State) : Host.Outcome State Fault Refusal :=
  .next (doLanternOff s)

/-- RESET_N_ASSERTED (R31). A confirmed low level on RESET_N resets every block except the Lantern and the Ledger and
enters LANTERN. -/
def execResetNAsserted (s : State) : Host.Outcome State Fault Refusal :=
  .next (doResetNAsserted s)

/-- RESET_N_RELEASED (R31). A confirmed release of RESET_N takes the device through LANTERN to BOOT with after-power-
up settings. -/
def execResetNReleased (s : State) : Host.Outcome State Fault Refusal :=
  .next (doResetNReleased s)

/-- HW_SHUTDOWN (R32). A confirmed low level on HWSD_N causes a safe shutdown into SHUTDOWN with power kept applied.
-/
def execHwShutdown (s : State) : Host.Outcome State Fault Refusal :=
  .next (doHwShutdown s)

/-- HWSD_N_RELEASED (R33). Once HWSD_N and RESET_N are both confirmed high, the device leaves SHUTDOWN through LANTERN
to BOOT. -/
def execHwsdNReleased (s : State) : Host.Outcome State Fault Refusal :=
  .next (doHwsdNReleased s)

/-- FW_WATCHDOG (R108). Firmware silent for 100 ms makes the Lantern write a record and reset the device as RESET_N
does. -/
def execFwWatchdog (s : State) : Host.Outcome State Fault Refusal :=
  .next (doFwWatchdog s)

/-- HOST_WATCHDOG_EXPIRY (R103). The host watchdog expires, cancels every step, holds those lanes, and optionally
enters DOZE. -/
def execHostWatchdogExpiry (s : State) : Host.Outcome State Fault Refusal :=
  .next (doHostWatchdogExpiry s)

/-- TEMP_CONVERSION (R380). Every 250 µs each diode channel is converted and averaged. -/
def execTempConversion (conv : List Conv) (therm : List Conv) (s : State) : Host.Outcome State Fault Refusal :=
  .next (doTempConversion conv therm s)

/-- SENSOR_BROKEN (R381). A channel that deviates or reads open or short for 100 ms is marked broken. -/
def execSensorBroken (which : SensorId) (cause : Nat) (s : State) : Host.Outcome State Fault Refusal :=
  .next (doSensorBroken which cause s)

/-- THERMISTOR_BROKEN (R37). An enabled thermistor input held open or short for 100 ms is marked broken. -/
def execThermistorBroken (n : Nat) (cause : Nat) (s : State) : Host.Outcome State Fault Refusal :=
  .next (doThermistorBroken n cause s)

/-- THROTTLE_LEVEL_STEP (R386). The junction throttle level rises every 5 ms above THROTTLE_C and falls every 20 ms
below it. -/
def execThrottleLevelStep (s : State) : Host.Outcome State Fault Refusal :=
  .next (doThrottleStep s)

/-- THERMAL_SHUTDOWN (R387). A critical channel switches off the optics, ends steps, enters FAULT and asserts the
internal HWSD_N after 1 ms. -/
def execThermalShutdown (ch : Nat) (s : State) : Host.Outcome State Fault Refusal :=
  .next (doThermalShutdown ch s)

/-- INTERNAL_HWSD_ASSERT (R387). 1 ms after a critical reading the internal HWSD_N causes a safe shutdown. -/
def execInternalHwsdAssert (s : State) : Host.Outcome State Fault Refusal :=
  .next (doInternalHwsd s)

/-- AUTO_RESTART (R388). All channels below RESTART_C for 10 s release the internal HWSD_N. -/
def execAutoRestart (s : State) : Host.Outcome State Fault Refusal :=
  .next (doAutoRestart s)

/-- AUTO_IDLE (R391). No step runs for IDLE_DELAY, and the device enters IDLE. -/
def execAutoIdle (s : State) : Host.Outcome State Fault Refusal :=
  .next (doAutoIdle s)

/-- WAKE_TIMER (R392). The wake timer expires, and the device wakes to READY. -/
def execWakeTimer (s : State) : Host.Outcome State Fault Refusal :=
  .next (doWakeTimer s)

/-- WAKE (R394). A wake from DOZE or NIGHT restarts loops and sources and returns to the state slept from. -/
def execWake (s : State) : Host.Outcome State Fault Refusal :=
  .next (doWake s)

/-- WAKE_COMPLETE (R395). The sources are locked and the rings ready, and the device reaches READY or IDLE. -/
def execWakeComplete (failed : List Nat) (s : State) : Host.Outcome State Fault Refusal :=
  .next (doWakeComplete failed s)

/-- HEAT_LIMIT_TIMEOUT (R114). The photonic die has not reached 96 °C within HEAT_LIMIT_S, and the command ends with
STALL_TIMEOUT. -/
def execHeatLimitTimeout (s : State) : Host.Outcome State Fault Refusal :=
  .next (doHeatLimit s)

end Sys2Proof.Machine
end

