-- ==== Sys2Proof/Machine/ProgramCommands.lean ====
section
/-!
DEFINITION. The meanings of the commands about programs, sessions, steps and lanes (04, 12, 13): one per row of the
table, each over the named operations of its chapter.
-/
namespace Sys2Proof.Machine

/-- PROGRAM_LOAD (R302). Registers a range of record slots as an unchecked program, removing entries that overlap it.
-/
def execProgramLoad (h : ReqHdr) (addr : Nat) (slots : Nat) (rsv : Nat) (s : State) : Host.Outcome State Fault Refusal :=
  .next (s.hostCommand h (.programLoad h addr slots rsv) (doProgramLoad h addr slots rsv))

/-- PROGRAM_CHECK (R303). Checks a registered program's records and descriptors and marks the program checked if they
pass. -/
def execProgramCheck (h : ReqHdr) (addr : Nat) (s : State) : Host.Outcome State Fault Refusal :=
  .next (s.hostCommand h (.programCheck h addr) (doProgramCheck h addr))

/-- SESSION_OPEN (R92). Opens a hardware session over a Loft range with its shape, seed, K/V format and rounding mode.
-/
def execSessionOpen (h : ReqHdr) (b : SessOpenB) (x : Option (Nat × Nat × Nat)) (s : State) : Host.Outcome State Fault Refusal :=
  .next (s.hostCommand h (.sessionOpen h b x) (doSessionOpen h b x))

/-- SESSION_CLOSE (R93). Closes a session and discards its staged entries. -/
def execSessionClose (h : ReqHdr) (session : Nat) (rsv : Nat) (s : State) : Host.Outcome State Fault Refusal :=
  .next (s.hostCommand h (.sessionClose h session rsv) (doSessionClose h session rsv))

/-- STEP_RUN (R94). Runs a checked program once for the sessions of a step table. -/
def execStepRun (h : ReqHdr) (program : Nat) (table : Nat) (batch : Nat) (rsv : Nat) (x : Option StepRunX) (s : State) : Host.Outcome State Fault Refusal :=
  .next (s.hostCommand h (.stepRun h program table batch rsv x) (doStepRun h program table batch rsv x))

/-- TASK_CANCEL (R96). Ends a running or queued STEP_RUN with CANCELLED and holds its lane. -/
def execTaskCancel (h : ReqHdr) (lane : Nat) (rsv : Nat) (seq : Nat) (s : State) : Host.Outcome State Fault Refusal :=
  .next (s.hostCommand h (.taskCancel h lane rsv seq) (doTaskCancel h lane rsv seq))

/-- LANE_RESUME (R98). Releases the hold on the lane the command is sent in. -/
def execLaneResume (h : ReqHdr) (s : State) : Host.Outcome State Fault Refusal :=
  .next (s.hostCommand h (.laneResume h) (doLaneResume h))

/-- SESSION_COMMIT (R99). Commits the oldest COUNT held entries of a session in token order and discards the rest. -/
def execSessionCommit (h : ReqHdr) (session : Nat) (count : Nat) (s : State) : Host.Outcome State Fault Refusal :=
  .next (s.hostCommand h (.sessionCommit h session count) (doSessionCommit h session count))

/-- SESSION_ROLLBACK (R100). Discards every staged entry of a session. -/
def execSessionRollback (h : ReqHdr) (session : Nat) (rsv : Nat) (s : State) : Host.Outcome State Fault Refusal :=
  .next (s.hostCommand h (.sessionRollback h session rsv) (doSessionRollback h session rsv))

/-- TASK_STATUS (R101). Reports the state, status and progress of a command identified by lane and sequence. -/
def execTaskStatus (h : ReqHdr) (lane : Nat) (rsv : Nat) (seq : Nat) (s : State) : Host.Outcome State Fault Refusal :=
  .next (s.hostCommand h (.taskStatus h lane rsv seq) (doTaskStatus h lane rsv seq))

end Sys2Proof.Machine
end

