-- ==== Sys2Proof/Machine/SecurityCommands.lean ====
section
/-!
DEFINITION. The meanings of the commands of the Hasp, the Ledger and the counters (19, 20): one per row of the
table, each over the named operations of its chapter.
-/
namespace Sys2Proof.Machine

/-- FW_LOAD_BEGIN (R423). Discards any image under assembly and starts a new one of TOTAL_LEN bytes. -/
def execFwLoadBegin (h : ReqHdr) (totalLen : Nat) (rsv : Nat) (s : State) : Host.Outcome State Fault Refusal :=
  .next (s.hostCommand h (.fwLoadBegin h totalLen rsv) (doFwLoadBegin h totalLen rsv))

/-- FW_LOAD_DATA (R423). Writes a chunk of the image under assembly at OFFSET. -/
def execFwLoadData (h : ReqHdr) (offset : Nat) (data : List Byte) (s : State) : Host.Outcome State Fault Refusal :=
  .next (s.hostCommand h (.fwLoadData h offset data) (doFwLoadData h offset data))

/-- FW_LOAD_END (R424). Verifies the image, programs the fuses, starts the firmware and enters CONFIG. -/
def execFwLoadEnd (h : ReqHdr) (s : State) : Host.Outcome State Fault Refusal :=
  .next (s.hostCommand h (.fwLoadEnd h) (doFwLoadEnd h))

/-- ATTEST (R428). Signs a report of the running firmware with the identity key over the host's nonce. -/
def execAttest (h : ReqHdr) (nonce : List Byte) (s : State) : Host.Outcome State Fault Refusal :=
  .next (s.hostCommand h (.attest h nonce) (doAttest h nonce))

/-- CERT_READ (R427). Returns the device certificate and the intermediate certificate. -/
def execCertRead (h : ReqHdr) (s : State) : Host.Outcome State Fault Refusal :=
  .next (s.hostCommand h (.certRead h) (doCertRead h))

/-- LEDGER_READ (R439). Returns Ledger records starting from a Ledger number. -/
def execLedgerRead (h : ReqHdr) (first : Nat) (count : Nat) (rsv : Nat) (s : State) : Host.Outcome State Fault Refusal :=
  .next (s.hostCommand h (.ledgerRead h first count rsv) (doLedgerRead h first count rsv))

/-- LEDGER_CLEAR (R440). Erases every Ledger record numbered below UP_TO. -/
def execLedgerClear (h : ReqHdr) (upTo : Nat) (s : State) : Host.Outcome State Fault Refusal :=
  .next (s.hostCommand h (.ledgerClear h upTo) (doLedgerClear h upTo))

/-- COUNTERS_READ (R442). Reads one counter set, optionally clearing its RC counters in the same action. -/
def execCountersRead (h : ReqHdr) (set : Nat) (clear : Nat) (rsv : Nat) (s : State) : Host.Outcome State Fault Refusal :=
  .next (s.hostCommand h (.countersRead h set clear rsv) (doCountersRead h set clear rsv))

/-- EVENTS_READ (R436). Returns events from the event ring starting from a number. -/
def execEventsRead (h : ReqHdr) (first : Nat) (count : Nat) (rsv : Nat) (s : State) : Host.Outcome State Fault Refusal :=
  .next (s.hostCommand h (.eventsRead h first count rsv) (doEventsRead h first count rsv))

end Sys2Proof.Machine
end

