-- ==== Sys2Proof/Machine/StepEvents.lean ====
section
/-!
DEFINITION. The meanings of the events of running steps (07 to 13): one per row of the
table, each over the named operations of its chapter.
-/
namespace Sys2Proof.Machine

/-- RECORD_DISPATCH (R311). The Reeve dispatches the next program record of a step to its engine in program order. -/
def execRecordDispatch (lane : Nat) (s : State) : Host.Outcome State Fault Refusal :=
  .next (doRecordDispatch lane s)

/-- BAY_LOAD (R296). A BAY_LOAD record has the packers load activation columns into the older bay of the named slots.
-/
def execBayLoad (lane : Nat) (rec : Nat) (s : State) : Host.Outcome State Fault Refusal :=
  .next (doBayLoad lane rec s)

/-- BAY_LOAD_COMPLETE (R156). A bay load finishes writing all 68 positions after 1.0 or 1.3 µs. -/
def execBayLoadComplete (furrow : Nat) (s : State) : Host.Outcome State Fault Refusal :=
  .next (doBayLoadComplete furrow s)

/-- STREAM (R297). A STREAM record runs one pass of weight row chunks through the members of a group into their sums.
-/
def execStream (lane : Nat) (rec : Nat) (s : State) : Host.Outcome State Fault Refusal :=
  .next (doStream lane rec s)

/-- PASS_START (R159). A pass begins, swapping the lit bay when its tile lies in the other bay. -/
def execPassStart (furrow : Nat) (light : Bool) (s : State) : Host.Outcome State Fault Refusal :=
  .next (doPassStart furrow light s)

/-- ROW_CHUNK_DECISION (R163). 80 ns after a row chunk's last symbol it is confirmed and released to the Tally, or it
is replayed or aborts the task. -/
def execRowChunkDecision (furrow : Nat) (devs : List SampleDev) (s : State) : Host.Outcome State Fault Refusal :=
  .next (doRowChunkDecision furrow devs s)

/-- ROW_CHUNK_REPLAY (R166). A replayed row chunk is sent again from the look-ahead buffer at the next row-chunk
boundary. -/
def execRowChunkReplay (furrow : ReplayEv) (s : State) : Host.Outcome State Fault Refusal :=
  .next (doRowChunkReplay furrow s)

/-- ROW_CHUNK_ARRIVAL (R180). A row chunk reaches the encoder and its planes are sent as symbols 40 ns later. -/
def execRowChunkArrival (lane : Nat) (rec : Nat) (leader : ArrivalEv) (s : State) : Host.Outcome State Fault Refusal :=
  .next (doRowChunkArrival lane rec leader s)

/-- MCAST_CREDIT (R192). Every member gives credit, and the shared multicast stream advances one row chunk. -/
def execMcastCredit (lane : Nat) (rec : Nat) (leader : Nat) (s : State) : Host.Outcome State Fault Refusal :=
  .next (doMcastCredit lane rec leader s)

/-- MCAST_TIMEOUT (R194). The multicast timer reaches MCAST_LIMIT and the task aborts, naming the slow member. -/
def execMcastTimeout (lane : Nat) (rec : Nat) (leader : Nat) (s : State) : Host.Outcome State Fault Refusal :=
  .next (doMcastTimeout lane rec leader s)

/-- STALL_TIMEOUT (R173). A Furrow's stall timer reaches STALL_LIMIT_MS and the step aborts. -/
def execStallTimeout (furrow : Nat) (cause : Nat) (s : State) : Host.Outcome State Fault Refusal :=
  .next (doStallTimeout furrow cause s)

/-- TASK_ABORT (R219). The first abort that reaches the Reeve ends a step with its status, holds its lane, and
discards its staged work. -/
def execTaskAbort (lane : Nat) (s : State) : Host.Outcome State Fault Refusal :=
  .next (doTaskAbort lane s)

/-- TEARDOWN_COMPLETE (R221). The step's last read has returned or timed out, and the ending reply may leave. -/
def execTeardownComplete (lane : Nat) (s : State) : Host.Outcome State Fault Refusal :=
  .next (doTeardownComplete lane s)

/-- WINDROW_HOP (R234). A member sends a row of sums to the next member of a chain or tree join. -/
def execWindrowHop (lane : Nat) (rec : Nat) (s : State) : Host.Outcome State Fault Refusal :=
  .next (doWindrowHop lane rec s)

/-- EPILOGUE (R237). An EPILOGUE record converts a sum array into the layer output with scale, Tithe, row scale, bias
and activation. -/
def execEpilogue (lane : Nat) (rec : Nat) (s : State) : Host.Outcome State Fault Refusal :=
  .next (doEpilogue lane rec s)

/-- CLIP_DECISION (R240). After every slot has converted, the clipped share is judged, and an A16 re-run follows when
enabled. -/
def execClipDecision (lane : Nat) (rec : Nat) (s : State) : Host.Outcome State Fault Refusal :=
  .next (doClipDecision lane rec s)

/-- MILL_OP (R248). A MILL_OP record runs a built-in operator over its items on the Mills of its effective mask. -/
def execMillOp (lane : Nat) (rec : Nat) (s : State) : Host.Outcome State Fault Refusal :=
  .next (doMillOp lane rec s)

/-- GLEAN (R280). A GLEAN record appends K/V rows to the stage and computes attention on all eight Gleaners. -/
def execGlean (lane : Nat) (rec : Nat) (s : State) : Host.Outcome State Fault Refusal :=
  .next (doGlean lane rec s)

/-- COPY (R301). A COPY record has the Reaper run its TARGET 3 descriptors as streams that write memory. -/
def execCopy (lane : Nat) (rec : Nat) (s : State) : Host.Outcome State Fault Refusal :=
  .next (doCopy lane rec s)

/-- ROUTE (R185). A ROUTE record replaces the route in force at the Gate before it. -/
def execRoute (lane : Nat) (rec : Nat) (s : State) : Host.Outcome State Fault Refusal :=
  .next (doRoute lane rec s)

/-- DEP (R313). A DEP is dispatched when record AFTER completes, releasing the records behind it. -/
def execDep (lane : Nat) (rec : Nat) (s : State) : Host.Outcome State Fault Refusal :=
  .next (doDep lane rec s)

/-- DEP_TIMEOUT (R313). A DEP that waits longer than GATE_LIMIT_MS aborts the task with GATE_TIMEOUT. -/
def execDepTimeout (lane : Nat) (s : State) : Host.Outcome State Fault Refusal :=
  .next (doDepTimeout lane s)

/-- GATE_OPEN (R314). A GATE opens when all earlier records are complete and every Furrow has confirmed its last pass.
-/
def execGateOpen (lane : Nat) (s : State) : Host.Outcome State Fault Refusal :=
  .next (doGateOpen lane s)

/-- GATE_TIMEOUT (R314). A Gate not open GATE_LIMIT_MS after its dispatch aborts the task. -/
def execGateTimeout (lane : Nat) (s : State) : Host.Outcome State Fault Refusal :=
  .next (doGateTimeout lane s)

/-- END (R310). The END record opens like a Gate, builds the reply entries, commits K/V and completes the step. -/
def execEndRecord (lane : Nat) (s : State) : Host.Outcome State Fault Refusal :=
  .next (doEndRecord lane s)

/-- READ_TAG_RETURN (R204). Data of a Reaper read returns and is written into the look-ahead buffer, freeing its tag.
-/
def execReadTagReturn (tag : TagEv) (s : State) : Host.Outcome State Fault Refusal :=
  .next (doReadTagReturn tag s)

/-- TAG_TIMEOUT (R205). A read not returned within TAG_TIMEOUT has its tag reclaimed and its lines marked. -/
def execTagTimeout (tag : Nat) (s : State) : Host.Outcome State Fault Refusal :=
  .next (doTagTimeout tag s)

end Sys2Proof.Machine
end

