-- ==== Sys2Proof/Machine/TransportEvents.lean ====
section
/-!
DEFINITION. The meanings of the events of the Ethernet port and the Walong endpoint (03): one per row of the
table, each over the named operations of its chapter.
-/
namespace Sys2Proof.Machine

/-- ETHERNET_FRAME_RECEIVE (R43). A received frame is filtered by length, FCS, address and VLAN, and is dropped or
passed on. -/
def execEthernetFrameReceive (frame : List Byte) (s : State) : Host.Outcome State Fault Refusal :=
  .next (doEthernetFrame frame s)

/-- PAUSE_FRAME_RECEIVE (R44). A received PAUSE or PFC frame is counted and discarded. -/
def execPauseFrameReceive (s : State) : Host.Outcome State Fault Refusal :=
  .next (doPause s)

/-- ARP_REQUEST_RECEIVE (R45). An ARP request for the device's IPv4 address is answered. -/
def execArpRequestReceive (target : Nat) (senderIp : Nat) (senderMac : Nat) (s : State) : Host.Outcome State Fault Refusal :=
  .next (doArpRequest target senderIp senderMac s)

/-- ND_SOLICITATION_RECEIVE (R50). A neighbour solicitation for one of the device's addresses is answered with an
advertisement. -/
def execNdSolicitationReceive (target : Nat) (senderIp : Nat) (senderMac : Nat) (s : State) : Host.Outcome State Fault Refusal :=
  .next (doNdSolicitation target senderIp senderMac s)

/-- ICMP_ECHO_REQUEST (R48). An echo request is answered, within the rate limit, while ICMP_ECHO_EN is 1. -/
def execIcmpEchoRequest (src : NetAddr) (dst : Nat) (ident : Nat) (seq : Nat) (data : List Byte) (s : State) : Host.Outcome State Fault Refusal :=
  .next (doIcmpEcho src dst ident seq data s)

/-- WALONG_PACKET_RECEIVE (R57). A UDP datagram to port 18607 passes the intake checks, its acknowledgement is
processed, and it is classified against the lane window. -/
def execWalongPacketReceive (src : NetAddr) (payload : List Byte) (s : State) : Host.Outcome State Fault Refusal :=
  .next (doWalongPacket src payload s)

/-- COMMAND_START (R69). The next accepted command of a lane starts once every effect of the preceding command is
complete, and the Reeve makes its checks at that moment. -/
def execCommandStart (lane : Nat) (s : State) : Host.Outcome State Fault Refusal :=
  .next (doCommandStart lane s)

/-- ACK_DELAY_EXPIRY (R62). A command still running after ACK_DELAY causes a repeated ACK_ONLY carrying its sequence.
-/
def execAckDelayExpiry (lane : Nat) (seq : Nat) (s : State) : Host.Outcome State Fault Refusal :=
  .next (doAckDelay lane seq s)

/-- SET_NET_APPLY (R52). After its reply leaves, SET_NET's addresses take effect, with gratuitous ARP, DAD and an
unsolicited NA for new addresses. -/
def execSetNetApply (s : State) : Host.Outcome State Fault Refusal :=
  .next (doSetNetApply s)

/-- ARP_PROBE_TIMER (R50). ARP probes for the IPv4 link-local address are sent 200 ms apart, and a conflict sets the
DUP bit. -/
def execArpProbeTimer (conflict : Bool) (s : State) : Host.Outcome State Fault Refusal :=
  .next (doArpProbe conflict s)

/-- DAD_COMPLETE (R50). Duplicate address detection for an IPv6 address completes, and the address is used or marked
DUP. -/
def execDadComplete (which : AddrKind) (conflict : Bool) (s : State) : Host.Outcome State Fault Refusal :=
  .next (doDadComplete which conflict s)

/-- ADDRESS_RESOLUTION_RETRY (R49). Address resolution for the event destination retries once per second, up to 3
times. -/
def execAddressResolutionRetry (s : State) : Host.Outcome State Fault Refusal :=
  .next (doResolutionRetry s)

/-- EVENT_PACKET_SEND (R66). A waiting event is sent as an EVENT packet once EVENT_GAP has passed, or it is counted as
dropped. -/
def execEventPacketSend (s : State) : Host.Outcome State Fault Refusal :=
  .next (doEventSend s)

/-- LINK_UP (R53). The Ethernet link comes up: DAD and the ARP probe are repeated and a LINK_UP record is raised. -/
def execLinkUp (s : State) : Host.Outcome State Fault Refusal :=
  .next (doLinkUp s)

/-- LINK_DOWN (R53). The Ethernet link goes down, and commands continue with their replies retained. -/
def execLinkDown (s : State) : Host.Outcome State Fault Refusal :=
  .next (doLinkDown s)

end Sys2Proof.Machine
end

