-- ==== Sys2Proof/Machine/Dispatch.lean ====
section
/-!
DEFINITION. The meaning of each row of the table: one arm per constructor, each one call.
-/
namespace Sys2Proof.Machine

def exec (i : Instr) (s : State) : Host.Outcome State Fault Refusal :=
  match i with
  | .identify h => Sys2Proof.Machine.execIdentify h s
  | .ping h data => Sys2Proof.Machine.execPing h data s
  | .setNet h addr prefixLen rsv x => Sys2Proof.Machine.execSetNet h addr prefixLen rsv x s
  | .hostWatchdog h periodMs x => Sys2Proof.Machine.execHostWatchdog h periodMs x s
  | .cfgRead h addr count rsv => Sys2Proof.Machine.execCfgRead h addr count rsv s
  | .cfgWrite h addr rsv values => Sys2Proof.Machine.execCfgWrite h addr rsv values s
  | .cfgWriteMasked h addr mask value => Sys2Proof.Machine.execCfgWriteMasked h addr mask value s
  | .registerWrite addr value => Sys2Proof.Machine.execRegisterWrite addr value s
  | .rcCounterRead addr => Sys2Proof.Machine.execRcCounterRead addr s
  | .loReadCopiesHi addr => Sys2Proof.Machine.execLoReadCopiesHi addr s
  | .softReset => Sys2Proof.Machine.execSoftReset s
  | .furrowCountClear f => Sys2Proof.Machine.execFurrowCountClear f s
  | .reaperCountClear => Sys2Proof.Machine.execReaperCountClear s
  | .tallyCountClear t => Sys2Proof.Machine.execTallyCountClear t s
  | .gleanerCountClear g => Sys2Proof.Machine.execGleanerCountClear g s
  | .ceLogClear ctl => Sys2Proof.Machine.execCeLogClear ctl s
  | .ueLogClear ctl => Sys2Proof.Machine.execUeLogClear ctl s
  | .sieveLogClear => Sys2Proof.Machine.execSieveLogClear s
  | .alertLatchClear => Sys2Proof.Machine.execAlertLatchClear s
  | .sessLenWrite value => Sys2Proof.Machine.execSessLenWrite value s
  | .splitTakesEffect => Sys2Proof.Machine.execSplitTakesEffect s
  | .memWrite h addr rsv data => Sys2Proof.Machine.execMemWrite h addr rsv data s
  | .memRead h addr length rsv => Sys2Proof.Machine.execMemRead h addr length rsv s
  | .memFill h addr length pattern => Sys2Proof.Machine.execMemFill h addr length pattern s
  | .memCopy h src dst length => Sys2Proof.Machine.execMemCopy h src dst length s
  | .regionSet h b x => Sys2Proof.Machine.execRegionSet h b x s
  | .programLoad h addr slots rsv => Sys2Proof.Machine.execProgramLoad h addr slots rsv s
  | .programCheck h addr => Sys2Proof.Machine.execProgramCheck h addr s
  | .sessionOpen h b x => Sys2Proof.Machine.execSessionOpen h b x s
  | .sessionClose h session rsv => Sys2Proof.Machine.execSessionClose h session rsv s
  | .stepRun h program table batch rsv x => Sys2Proof.Machine.execStepRun h program table batch rsv x s
  | .taskCancel h lane rsv seq => Sys2Proof.Machine.execTaskCancel h lane rsv seq s
  | .laneResume h => Sys2Proof.Machine.execLaneResume h s
  | .sessionCommit h session count => Sys2Proof.Machine.execSessionCommit h session count s
  | .sessionRollback h session rsv => Sys2Proof.Machine.execSessionRollback h session rsv s
  | .taskStatus h lane rsv seq => Sys2Proof.Machine.execTaskStatus h lane rsv seq s
  | .engineStart h x => Sys2Proof.Machine.execEngineStart h x s
  | .engineStop h => Sys2Proof.Machine.execEngineStop h s
  | .marginTest h x => Sys2Proof.Machine.execMarginTest h x s
  | .winnowRun h mask rsv x => Sys2Proof.Machine.execWinnowRun h mask rsv x s
  | .vaneLoopSet h slot rsv target x => Sys2Proof.Machine.execVaneLoopSet h slot rsv target x s
  | .vaneBankSwap h => Sys2Proof.Machine.execVaneBankSwap h s
  | .sourceSpare h source spare rsv => Sys2Proof.Machine.execSourceSpare h source spare rsv s
  | .powerState h target rsv x => Sys2Proof.Machine.execPowerState h target rsv x s
  | .thermalRead h => Sys2Proof.Machine.execThermalRead h s
  | .sieveRun h b x => Sys2Proof.Machine.execSieveRun h b x s
  | .sievePeriodic h enable rsv x => Sys2Proof.Machine.execSievePeriodic h enable rsv x s
  | .eccFlipArm h b => Sys2Proof.Machine.execEccFlipArm h b s
  | .fwLoadBegin h totalLen rsv => Sys2Proof.Machine.execFwLoadBegin h totalLen rsv s
  | .fwLoadData h offset data => Sys2Proof.Machine.execFwLoadData h offset data s
  | .fwLoadEnd h => Sys2Proof.Machine.execFwLoadEnd h s
  | .attest h nonce => Sys2Proof.Machine.execAttest h nonce s
  | .certRead h => Sys2Proof.Machine.execCertRead h s
  | .ledgerRead h first count rsv => Sys2Proof.Machine.execLedgerRead h first count rsv s
  | .ledgerClear h upTo => Sys2Proof.Machine.execLedgerClear h upTo s
  | .countersRead h set clear rsv => Sys2Proof.Machine.execCountersRead h set clear rsv s
  | .eventsRead h first count rsv => Sys2Proof.Machine.execEventsRead h first count rsv s
  | .ethernetFrameReceive frame => Sys2Proof.Machine.execEthernetFrameReceive frame s
  | .pauseFrameReceive => Sys2Proof.Machine.execPauseFrameReceive s
  | .arpRequestReceive target senderIp senderMac => Sys2Proof.Machine.execArpRequestReceive target senderIp senderMac s
  | .ndSolicitationReceive target senderIp senderMac => Sys2Proof.Machine.execNdSolicitationReceive target senderIp senderMac s
  | .icmpEchoRequest src dst ident seq data => Sys2Proof.Machine.execIcmpEchoRequest src dst ident seq data s
  | .walongPacketReceive src payload => Sys2Proof.Machine.execWalongPacketReceive src payload s
  | .commandStart lane => Sys2Proof.Machine.execCommandStart lane s
  | .ackDelayExpiry lane seq => Sys2Proof.Machine.execAckDelayExpiry lane seq s
  | .setNetApply => Sys2Proof.Machine.execSetNetApply s
  | .arpProbeTimer conflict => Sys2Proof.Machine.execArpProbeTimer conflict s
  | .dadComplete which conflict => Sys2Proof.Machine.execDadComplete which conflict s
  | .addressResolutionRetry => Sys2Proof.Machine.execAddressResolutionRetry s
  | .eventPacketSend => Sys2Proof.Machine.execEventPacketSend s
  | .linkUp => Sys2Proof.Machine.execLinkUp s
  | .linkDown => Sys2Proof.Machine.execLinkDown s
  | .startConditionConfirmed => Sys2Proof.Machine.execStartConditionConfirmed s
  | .crystalStable => Sys2Proof.Machine.execCrystalStable s
  | .bootEntry => Sys2Proof.Machine.execBootEntry s
  | .supplyHold magnitude => Sys2Proof.Machine.execSupplyHold magnitude s
  | .supplyRestore => Sys2Proof.Machine.execSupplyRestore s
  | .supplyFault magnitude => Sys2Proof.Machine.execSupplyFault magnitude s
  | .powerLoss magnitude => Sys2Proof.Machine.execPowerLoss magnitude s
  | .lanternOff => Sys2Proof.Machine.execLanternOff s
  | .resetNAsserted => Sys2Proof.Machine.execResetNAsserted s
  | .resetNReleased => Sys2Proof.Machine.execResetNReleased s
  | .hwShutdown => Sys2Proof.Machine.execHwShutdown s
  | .hwsdNReleased => Sys2Proof.Machine.execHwsdNReleased s
  | .fwWatchdog => Sys2Proof.Machine.execFwWatchdog s
  | .hostWatchdogExpiry => Sys2Proof.Machine.execHostWatchdogExpiry s
  | .recordDispatch lane => Sys2Proof.Machine.execRecordDispatch lane s
  | .bayLoad lane rec => Sys2Proof.Machine.execBayLoad lane rec s
  | .bayLoadComplete furrow => Sys2Proof.Machine.execBayLoadComplete furrow s
  | .stream lane rec => Sys2Proof.Machine.execStream lane rec s
  | .passStart furrow light => Sys2Proof.Machine.execPassStart furrow light s
  | .rowChunkDecision furrow devs => Sys2Proof.Machine.execRowChunkDecision furrow devs s
  | .rowChunkReplay furrow => Sys2Proof.Machine.execRowChunkReplay furrow s
  | .rowChunkArrival lane rec leader => Sys2Proof.Machine.execRowChunkArrival lane rec leader s
  | .mcastCredit lane rec leader => Sys2Proof.Machine.execMcastCredit lane rec leader s
  | .mcastTimeout lane rec leader => Sys2Proof.Machine.execMcastTimeout lane rec leader s
  | .stallTimeout furrow cause => Sys2Proof.Machine.execStallTimeout furrow cause s
  | .taskAbort lane => Sys2Proof.Machine.execTaskAbort lane s
  | .teardownComplete lane => Sys2Proof.Machine.execTeardownComplete lane s
  | .windrowHop lane rec => Sys2Proof.Machine.execWindrowHop lane rec s
  | .epilogue lane rec => Sys2Proof.Machine.execEpilogue lane rec s
  | .clipDecision lane rec => Sys2Proof.Machine.execClipDecision lane rec s
  | .millOp lane rec => Sys2Proof.Machine.execMillOp lane rec s
  | .glean lane rec => Sys2Proof.Machine.execGlean lane rec s
  | .copy lane rec => Sys2Proof.Machine.execCopy lane rec s
  | .route lane rec => Sys2Proof.Machine.execRoute lane rec s
  | .dep lane rec => Sys2Proof.Machine.execDep lane rec s
  | .depTimeout lane => Sys2Proof.Machine.execDepTimeout lane s
  | .gateOpen lane => Sys2Proof.Machine.execGateOpen lane s
  | .gateTimeout lane => Sys2Proof.Machine.execGateTimeout lane s
  | .endRecord lane => Sys2Proof.Machine.execEndRecord lane s
  | .readTagReturn tag => Sys2Proof.Machine.execReadTagReturn tag s
  | .tagTimeout tag => Sys2Proof.Machine.execTagTimeout tag s
  | .mergeFlushTimer ctl word => Sys2Proof.Machine.execMergeFlushTimer ctl word s
  | .patrolScrub ctl word => Sys2Proof.Machine.execPatrolScrub ctl word s
  | .refreshBandUpdate ctl dram => Sys2Proof.Machine.execRefreshBandUpdate ctl dram s
  | .granarySlice failAt => Sys2Proof.Machine.execGranarySlice failAt s
  | .externalSlice ctl failAt => Sys2Proof.Machine.execExternalSlice ctl failAt s
  | .vaneSample inp => Sys2Proof.Machine.execVaneSample inp s
  | .sourceFadeCheck powers => Sys2Proof.Machine.execSourceFadeCheck powers s
  | .spareReady n => Sys2Proof.Machine.execSpareReady n s
  | .prewarmTimeout n => Sys2Proof.Machine.execPrewarmTimeout n s
  | .winnowRunDue f => Sys2Proof.Machine.execWinnowRunDue f s
  | .winnowCollectionEnd f pattern => Sys2Proof.Machine.execWinnowCollectionEnd f pattern s
  | .winnowFitSlice => Sys2Proof.Machine.execWinnowFitSlice s
  | .winnowRunComplete f => Sys2Proof.Machine.execWinnowRunComplete f s
  | .interpSetWrite f => Sys2Proof.Machine.execInterpSetWrite f s
  | .tempConversion conv therm => Sys2Proof.Machine.execTempConversion conv therm s
  | .sensorBroken which cause => Sys2Proof.Machine.execSensorBroken which cause s
  | .thermistorBroken n cause => Sys2Proof.Machine.execThermistorBroken n cause s
  | .throttleLevelStep => Sys2Proof.Machine.execThrottleLevelStep s
  | .thermalShutdown ch => Sys2Proof.Machine.execThermalShutdown ch s
  | .internalHwsdAssert => Sys2Proof.Machine.execInternalHwsdAssert s
  | .autoRestart => Sys2Proof.Machine.execAutoRestart s
  | .autoIdle => Sys2Proof.Machine.execAutoIdle s
  | .wakeTimer => Sys2Proof.Machine.execWakeTimer s
  | .wake => Sys2Proof.Machine.execWake s
  | .wakeComplete failed => Sys2Proof.Machine.execWakeComplete failed s
  | .heatLimitTimeout => Sys2Proof.Machine.execHeatLimitTimeout s
  | .ledgerWrite => Sys2Proof.Machine.execLedgerWrite s
  | .commandCompletion lane env => Sys2Proof.Machine.execCommandCompletion lane env s
  | .powerEntryComplete => Sys2Proof.Machine.execPowerEntryComplete s
  | .ledgerWriteComplete => Sys2Proof.Machine.execLedgerWriteComplete s
  | .resolutionCacheAgeing ip => Sys2Proof.Machine.execResolutionCacheAgeing ip s

end Sys2Proof.Machine
end

