-- ==== Sys2Proof/Machine/Tick.lean ====
section
/-!
DEFINITION. What one Lantern tick of 250 ns does when no command waits: the free-running counters (R456), the class of
every symbol clock (R171, R177), the bulk and the supply monitor's sample (R26, R454), the throttle's milliseconds (R386), and a soft reset
whose reply has left (R106).
-/
namespace Sys2Proof.Machine

/-- The 1.6 GHz clock runs (R456). -/
def State.cycleRuns (s : State) : Bool :=
  match s.dev with
  | .boot | .config | .ready | .run | .idle | .fault => true
  | _ => false

/-- The symbol clock runs (R177, R456): from the start of ENGINE_START, stopped in DOZE, NIGHT and FAULT, and running again
once a wake to READY or IDLE starts the source loops. -/
def State.symbolRuns (s : State) : Bool :=
  match s.dev with
  | .config => s.engineStarting
  | .ready | .run | .idle => s.engine
  | .doze | .night => s.engine && (match s.lantern.waking with
    | some w => decide (w.target ≠ .doze)
    | none => false)
  | _ => false

/-- Nothing advances the stall timers: a supply hold, or the wait of a step's first record for a forced exchange (R358,
R396). -/
def State.stallHeld (s : State) : Bool :=
  s.lantern.hold.isSome || (s.exchanges.any fun e => e.forced) && (s.reaper.holder.bind s.stepOf).any fun t => t.next = 0

/-- The symbol clocks of one tick of a Furrow that nothing was sent in go to its stall class, and to its stall timer except
in SUPPLY_HOLD and GATE_WAIT; symbols beyond the tick are carried to the next (R171, R173, log entries 20 and 49). -/
def State.classTick (s : State) (f : Nat) : State :=
  let n := (s.furrow f).symbols
  let c := s.stallClass f
  let run := if c = 6 ∨ c = 7 ∨ s.stallHeld then 0 else 3500 - n
  let s' := s.modFurrow f fun x =>
    { x with symbols := n - 3500, stall := x.stall + run, cause := if 0 < run then c else x.cause }
  s'.bump48 (aFurrow f (0x30 + 8 * c)) (3500 - n)

/-- One tick: 400 electronic cycles and 3,500 symbol clocks long (R456, log entry 21). -/
def State.tick (s : State) : State :=
  if s.dev = .off then s
  else
    let s := if s.lantern.softDue then doSoftReset s else s
    let s : State := { s with lantern := s.supplyTick }
    let t := s.clocks.tick + 1
    let s : State := { s with clocks := { s.clocks with
      tick := t
      cyc := s.clocks.cyc + (if s.cycleRuns then 400 else 0)
      sym := s.clocks.sym + (if s.symbolRuns then 3500 else 0) } }
    let s := if s.dev = .run then s.activeFurrows.foldl State.classTick s else s
    if t % 4000 = 0 ∧ 1 ≤ s.lantern.throttle then s.bump (aLantern 0x11C) else s

end Sys2Proof.Machine
end

