-- ==== Sys2Proof/WellFormed.lean ====
section
/-!
DEFINITION. Well-formed commands and events: every operand of a host command fits its field of the layout (R54, R75),
the expert-only fields are there exactly when the header says so, and every event names a part that the device has.
-/
namespace Sys2Proof

/-- A number fits a field of `n` bytes. -/
def fits (n v : Nat) : Bool := decide (v < 256 ^ n)

/-- An integer fits a 32-bit two's complement field. -/
def fitsS (i : Int) : Bool := decide (-(2 : Int) ^ 31 ≤ i) && decide (i < (2 : Int) ^ 31)

/-- A source or destination address (R49). -/
def NetAddr.wf (a : NetAddr) : Bool :=
  decide (a.ip < if a.v6 then 2 ^ 128 else 2 ^ 32) && fits 6 a.mac && fits 2 a.port && fits 1 a.tclass
    && decide (a.own < if a.v6 then 2 ^ 128 else 2 ^ 32)

/-- A request header: one of 16 lanes, and fields within R54. -/
def ReqHdr.wf (h : ReqHdr) : Bool := decide (h.lane < 16) && fits 4 h.seq && fits 4 h.tag && h.src.wf

/-- The header of a command without an expert form (R75). -/
def ReqHdr.basic (h : ReqHdr) : Bool := h.wf && !h.expert

/-- The header of a command with an expert form, whose expert-only fields are there as it says (R75). -/
def ReqHdr.both {α : Type} (h : ReqHdr) (x : Option α) (ok : α → Bool) : Bool :=
  h.wf && match x with
    | some y => h.expert && ok y
    | none => !h.expert

/-- SET_NET, expert-only (R82). -/
def SetNetX.wf (x : SetNetX) : Bool :=
  fits 4 x.gw4 && fits 16 x.ip6 && fits 1 x.pfx6 && fits 1 x.vlanEn && fits 2 x.vid && fits 1 x.pcp && fits 3 x.rsv
    && fits 16 x.gw6

/-- VANE_LOOP_SET, expert-only (R350): six coefficients and six shifts. -/
def LoopX.wf (x : LoopX) : Bool :=
  fits 1 x.write && fits 1 x.cfg && fits 1 x.lockN && fits 1 x.relockN && fits 2 x.sensor && fits 2 x.actuator
    && decide (x.coef.length = 6) && x.coef.all fitsS && decide (x.shifts.length = 6) && x.shifts.all (fits 1)
    && fits 2 x.rsv && fits 4 x.outMin && fits 4 x.outMax && fits 4 x.vmax && fits 4 x.amax && fits 4 x.jmax
    && fits 4 x.lockTol

/-- SESSION_OPEN, basic (R92). -/
def SessOpenB.wf (b : SessOpenB) : Bool :=
  fits 2 b.session && fits 2 b.layers && fits 2 b.kvHeads && fits 2 b.headDim && fits 8 b.kvBase && fits 8 b.kvBytes
    && fits 8 b.seed

/-- REGION_SET, basic (R328). -/
def RegionB.wf (b : RegionB) : Bool :=
  fits 1 b.tier && fits 1 b.entry && fits 1 b.cls && fits 1 b.enable && fits 4 b.rsv && fits 8 b.base && fits 8 b.size

/-- POWER_STATE, expert-only (R392). -/
def PowerX.wf (x : PowerX) : Bool := fits 4 x.wakeAfterS && fits 8 x.saveBase && fits 8 x.saveDest && fits 4 x.saveBytes

/-- SIEVE_RUN, basic (R410). -/
def SieveB.wf (b : SieveB) : Bool :=
  fits 1 b.target && fits 3 b.rsv1 && fits 4 b.first && fits 4 b.count && fits 4 b.rsv2 && fits 8 b.base && fits 8 b.size

/-- ECC_FLIP_ARM (R338). -/
def FlipB.wf (b : FlipB) : Bool :=
  fits 1 b.tier && fits 1 b.entry && fits 1 b.pattern && fits 1 b.checkMask && fits 4 b.rsv && fits 8 b.symbolMask

/-- STEP_RUN, expert-only (R94). -/
def StepRunX.wf (x : StepRunX) : Bool := fits 1 x.stallMs && fits 1 x.gateMs && fits 1 x.priority && fits 1 x.commitMode

/-- The sensor of a SENSOR_BROKEN event (R381, R382). -/
def SensorId.wf : SensorId → Bool
  | .diode n => decide (n < 32)
  | .vane n => decide (n < 3356)

/-- A command or event is well-formed. -/
def Instr.wf : Instr → Bool
  | .identify h => h.basic
  | .ping h d => h.basic && decide (d.length ≤ 8968)
  | .setNet h a p r x => h.both x SetNetX.wf && fits 4 a && fits 1 p && fits 3 r
  | .hostWatchdog h p x => h.both x (fun y => fits 1 y.1 && fits 3 y.2) && fits 4 p
  | .cfgRead h a n r => h.basic && fits 4 a && fits 2 n && fits 2 r
  | .cfgWrite h a r vs => h.basic && fits 4 a && fits 2 r && decide (vs.length ≤ 2240) && vs.all (fits 4)
  | .cfgWriteMasked h a m v => h.basic && fits 4 a && fits 4 m && fits 4 v
  | .registerWrite a v => fits 4 a && fits 4 v
  | .rcCounterRead a => fits 4 a
  | .loReadCopiesHi a => fits 4 a
  | .softReset => true
  | .furrowCountClear f => decide (f < 10)
  | .reaperCountClear => true
  | .tallyCountClear t => decide (t < 10)
  | .gleanerCountClear g => decide (g < 8)
  | .ceLogClear c => decide (c < 40)
  | .ueLogClear c => decide (c < 40)
  | .sieveLogClear => true
  | .alertLatchClear => true
  | .sessLenWrite v => fits 4 v
  | .splitTakesEffect => true
  | .memWrite h a r d => h.basic && fits 8 a && fits 4 r && decide (d.length ≤ 8952)
  | .memRead h a n r => h.basic && fits 8 a && fits 4 n && fits 4 r
  | .memFill h a n p => h.basic && fits 8 a && fits 8 n && decide (p.length = 8)
  | .memCopy h a b n => h.basic && fits 8 a && fits 8 b && fits 8 n
  | .regionSet h b x => h.both x (fun y => fits 1 y.1 && fits 7 y.2) && b.wf
  | .programLoad h a n r => h.basic && fits 8 a && fits 4 n && fits 4 r
  | .programCheck h a => h.basic && fits 8 a
  | .sessionOpen h b x => h.both x (fun y => fits 1 y.1 && fits 1 y.2.1 && fits 6 y.2.2) && b.wf
  | .sessionClose h n r => h.basic && fits 2 n && fits 2 r
  | .stepRun h p t b r x => h.both x StepRunX.wf && fits 8 p && fits 8 t && fits 2 b && fits 2 r
  | .taskCancel h l r q => h.basic && fits 1 l && fits 3 r && fits 4 q
  | .laneResume h => h.basic
  | .sessionCommit h n c => h.basic && fits 2 n && fits 2 c
  | .sessionRollback h n r => h.basic && fits 2 n && fits 2 r
  | .taskStatus h l r q => h.basic && fits 1 l && fits 3 r && fits 4 q
  | .engineStart h x => h.both x (fun y => fits 2 y.1 && fits 1 y.2.1 && fits 1 y.2.2)
  | .engineStop h => h.basic
  | .marginTest h x => h.both x (fun y => fits 2 y.1 && fits 1 y.2.1 && fits 1 y.2.2)
  | .winnowRun h m r x => h.both x (fun y => fits 1 y.1 && fits 3 y.2) && fits 2 m && fits 2 r
  | .vaneLoopSet h n r t x => h.both x LoopX.wf && fits 2 n && fits 2 r && fitsS t
  | .vaneBankSwap h => h.basic
  | .sourceSpare h a b r => h.basic && fits 1 a && fits 1 b && fits 2 r
  | .powerState h t r x => h.both x PowerX.wf && fits 1 t && fits 3 r
  | .thermalRead h => h.basic
  | .sieveRun h b x => h.both x (fun y => fits 1 y.1 && fits 1 y.2.1 && fits 6 y.2.2) && b.wf
  | .sievePeriodic h e r x =>
    h.both x (fun y => fits 2 y.1 && fits 2 y.2.1 && fits 1 y.2.2.1 && fits 3 y.2.2.2) && fits 1 e && fits 3 r
  | .eccFlipArm h b => h.basic && b.wf
  | .fwLoadBegin h t r => h.basic && fits 4 t && fits 4 r
  | .fwLoadData h o d => h.basic && fits 4 o && decide (d.length ≤ 8960)
  | .fwLoadEnd h => h.basic
  | .attest h n => h.basic && decide (n.length = 32)
  | .certRead h => h.basic
  | .ledgerRead h f c r => h.basic && fits 4 f && fits 2 c && fits 2 r
  | .ledgerClear h u => h.basic && fits 4 u
  | .countersRead h a c r => h.basic && fits 1 a && fits 1 c && fits 2 r
  | .eventsRead h f c r => h.basic && fits 4 f && fits 2 c && fits 2 r
  | .ethernetFrameReceive f => decide (f.length ≤ 9216)
  | .pauseFrameReceive => true
  | .arpRequestReceive t i m => fits 4 t && fits 4 i && fits 6 m
  | .ndSolicitationReceive t i m => fits 16 t && fits 16 i && fits 6 m
  | .icmpEchoRequest a d i q _ => a.wf && fits 16 d && fits 2 i && fits 2 q
  | .walongPacketReceive a _ => a.wf
  | .commandStart l => decide (l < 16)
  | .ackDelayExpiry l q => decide (l < 16) && fits 4 q
  | .setNetApply => true
  | .arpProbeTimer _ => true
  | .dadComplete _ _ => true
  | .addressResolutionRetry => true
  | .eventPacketSend => true
  | .linkUp => true
  | .linkDown => true
  | .startConditionConfirmed => true
  | .crystalStable => true
  | .bootEntry => true
  | .supplyHold v => fits 2 v
  | .supplyRestore => true
  | .supplyFault v => fits 2 v
  | .powerLoss v => fits 2 v
  | .lanternOff => true
  | .resetNAsserted => true
  | .resetNReleased => true
  | .hwShutdown => true
  | .hwsdNReleased => true
  | .fwWatchdog => true
  | .hostWatchdogExpiry => true
  | .recordDispatch l => decide (l < 16)
  | .bayLoad l _ => decide (l < 16)
  | .bayLoadComplete f => decide (f < 10)
  | .stream l _ => decide (l < 16)
  | .passStart f _ => decide (f < 10)
  | .rowChunkDecision f _ => decide (f < 10)
  | .rowChunkReplay f => decide (f.furrow < 10)
  | .rowChunkArrival l _ g => decide (l < 16) && decide (g.leader < 8)
  | .mcastCredit l _ g => decide (l < 16) && decide (g < 8)
  | .mcastTimeout l _ g => decide (l < 16) && decide (g < 8)
  | .stallTimeout f c => decide (f < 10) && decide (c < 8)
  | .taskAbort l => decide (l < 16)
  | .teardownComplete l => decide (l < 16)
  | .windrowHop l _ => decide (l < 16)
  | .epilogue l _ => decide (l < 16)
  | .clipDecision l _ => decide (l < 16)
  | .millOp l _ => decide (l < 16)
  | .glean l _ => decide (l < 16)
  | .copy l _ => decide (l < 16)
  | .route l _ => decide (l < 16)
  | .dep l _ => decide (l < 16)
  | .depTimeout l => decide (l < 16)
  | .gateOpen l => decide (l < 16)
  | .gateTimeout l => decide (l < 16)
  | .endRecord l => decide (l < 16)
  | .readTagReturn _ => true
  | .tagTimeout _ => true
  | .mergeFlushTimer c _ => decide (c < 40)
  | .patrolScrub c _ => decide (c < 40)
  | .refreshBandUpdate c _ => decide (c < 40)
  | .granarySlice _ => true
  | .externalSlice c _ => decide (c < 40)
  | .vaneSample i => fitsS i.supply && (i.meas.all fun m => fitsS m.2) && decide (i.millAct ≤ 65536)
  | .sourceFadeCheck ps => ps.all fun p => decide (p.1 < 20)
  | .spareReady n => decide (n < 20)
  | .prewarmTimeout n => decide (n < 20)
  | .winnowRunDue f => decide (f < 10)
  | .winnowCollectionEnd f _ => decide (f < 10)
  | .winnowFitSlice => true
  | .winnowRunComplete f => decide (f < 10)
  | .interpSetWrite f => decide (f < 10)
  | .tempConversion cs ts => decide (cs.length = 32) && decide (ts.length = 8)
  | .sensorBroken w c => w.wf && decide (1 ≤ c) && decide (c ≤ 3)
  | .thermistorBroken n c => decide (n < 8) && decide (1 ≤ c) && decide (c ≤ 2)
  | .throttleLevelStep => true
  | .thermalShutdown n => decide (n < 32)
  | .internalHwsdAssert => true
  | .autoRestart => true
  | .autoIdle => true
  | .wakeTimer => true
  | .wake => true
  | .wakeComplete ns => ns.all fun n => decide (n < 20)
  | .heatLimitTimeout => true
  | .ledgerWrite => true
  | .commandCompletion l _ => decide (l < 16)
  | .powerEntryComplete => true
  | .ledgerWriteComplete => true
  | .resolutionCacheAgeing _ => true

end Sys2Proof
end

