-- ==== Sys2Proof/Safety.lean ====
section
/-!
DEFINITION. What the statements about this model are said with: the canonical form of the stored lists, the invariant
that every step keeps, and the terms of a command's life (its lane takes it, serves it at once, and answers it).
-/
namespace Sys2Proof.Machine

/-! ### Canonical form -/

/-- The keys of a keyed list rise strictly. -/
def risingFrom {β : Type} : Option Nat → List (Nat × β) → Bool
  | _, [] => true
  | b, (k, _) :: t => (match b with | none => true | some a => decide (a < k)) && risingFrom (some k) t

/-- A keyed list in its one canonical form: keys rise strictly, and no entry equals what an unlisted key reads as. -/
def canonical {β : Type} [DecidableEq β] (dflt : Nat → β) (l : List (Nat × β)) : Bool :=
  risingFrom none l && l.all fun e => !decide (e.2 = dflt e.1)

/-- The memory's bytes are in canonical form: an unlisted byte reads as 0 (R111). -/
def Memory.wf (m : Memory) : Bool := canonical (fun _ => 0) m.cells

/-- A lane's window holds at most 256 commands (R58). -/
def Lane.windowOk (l : Lane) : Prop := l.e < 2 ^ 32 ∧ l.b < 2 ^ 32 ∧ seqDiff l.e l.b ≤ 256

/-- The invariant of the model: memory, registers, counters and the Granary's bank map in canonical form, sessions by
rising number; 16 lanes, each within its window (R58); two region tables of 16 entries (R327); 10 Furrows, 20 sources
and the Winnow's 10 Furrows (01); at most 64 registered programs (R302). -/
structure State.Inv (s : State) : Prop where
  memory : s.memory.wf = true
  regs : canonical (fun a => BitVec.ofNat 32 (resetWord a)) s.regs = true
  ctrs : canonical (fun _ => 0) s.ctrs = true
  lanes : s.lanes.length = 16
  windows : ∀ l ∈ s.lanes, l.windowOk
  furrows : s.furrows.length = 10
  sources : s.sources.length = 20
  winnow : s.winnow.length = 10
  sessions : risingFrom none s.sessions = true
  banks : canonical (fun b => b) s.sieve.map = true
  loftRegions : s.memory.loftRegions.length = 16
  siloRegions : s.memory.siloRegions.length = 16
  programs : s.programs.length ≤ 64

/-! ### The life of a command -/

/-- The lane of a request is free, waits for no SET_NET to take effect, is not held, and takes the request as its next one
(R52, R58, R59, R69, R71). -/
def State.takesNext (s : State) (h : ReqHdr) : Prop :=
  s.lanes.length = 16 ∧ h.lane < 16 ∧ (s.lane h.lane).job = none ∧ (s.lane h.lane).queue = [] ∧
    (s.lane h.lane).held = none ∧ h.seq = (s.lane h.lane).e ∧ seqDiff (s.lane h.lane).e (s.lane h.lane).b < 256 ∧
    s.netPending h.lane = false

/-- A request of an opcode starts at once in a state that accepts it (R67, R72). -/
def State.servesNow (s : State) (h : ReqHdr) (op : Nat) : Prop := s.takesNext h ∧ legality op s.dev = .y

/-- The command of a request has ended: its lane runs nothing, and its reply is retained for the host (R61, R64). -/
def State.answered (t : State) (h : ReqHdr) (op status : Nat) (payload : List Byte) : Prop :=
  (t.lane h.lane).job = none ∧
    { hdr := h, opcode := op, status := status, payload := payload : Reply } ∈ (t.lane h.lane).replies

/-- The command of a request runs in its lane, with what it still waits for. -/
def State.running (t : State) (h : ReqHdr) (op : Nat) (cmd : Instr) (k : JobKind) : Prop :=
  (t.lane h.lane).job = some ⟨h, op, cmd, k⟩

/-- The memories hold no error, no bad parity, no waiting merge entry, no armed flip and no mark of a failed flush: what has
been written is what is read (R325, R326, R330, R338). -/
def State.quiet (s : State) : Prop :=
  s.memory.errs = [] ∧ s.memory.badParity = [] ∧ s.memory.merge = [] ∧ s.memory.flipLoft = none ∧
    s.memory.flipSilo = none ∧ s.memory.flushFails = []

/-- What the engines change while they work on dispatched records: registers and counters, records on their way, memory, the
Winnow's statistics, the Furrows, the steps, the Reaper, and free values taken. The device state, the lanes with their
commands and replies, the sessions, the programs, the port, power, loops, sources, Hasp and Sieve are as before. -/
def State.onlyEngines (s t : State) : Prop :=
  t = { s with
    regs := t.regs, ctrs := t.ctrs, events := t.events, ledger := t.ledger, memory := t.memory, winnow := t.winnow
    furrows := t.furrows, steps := t.steps, reaper := t.reaper, free := t.free }

/-- The step of a lane, once there, ends with a failure found in a record. -/
def State.fails (t : State) (lane : Nat) (f : Failure) (rec : Nat) : Prop :=
  (t.stepOf lane).map Step.failure = some (some (f, rec))

/-- A record raised at this moment is the newest of the event ring (R435). -/
def State.lastEvent (t : State) (kind detail : Nat) : Prop :=
  (t.events.ring.getLast?.map fun r => (r.kind, r.detail)) = some (kind, detail)

/-- The Lantern holds every other domain in reset: registers outside its own domain at their after-power-up values, lanes and
working state gone, time, Ledger and fuses kept, with those that a FW_LOAD_END cut short has programmed (R31, R106, R426). -/
def State.wiped (s t : State) : Prop :=
  (∀ a, keptReg a = false → t.reg a = resetWord a) ∧ (∀ l, l < 16 → t.lane l = {}) ∧ t.sessions = [] ∧ t.programs = [] ∧
    t.steps = [] ∧ t.engine = false ∧ t.net.link = false ∧ t.clocks.tick = s.clocks.tick ∧ t.ledger.entries = s.ledger.entries ∧
    t.hasp.svnBits = s.cutBurn.hasp.svnBits ∧ t.hasp.revoked = s.cutBurn.hasp.revoked

/-- No lane runs a command or has one waiting. -/
def State.noCommands (s : State) : Prop := ∀ l ∈ s.lanes, l.job = none ∧ l.queue = []

/-- Every running command is that of its own lane. -/
def State.jobsHome (s : State) : Prop := ∀ l j, (s.lane l).job = some j → j.hdr.lane = l

/-- No lane but one runs a command. -/
def State.onlyJob (s : State) (l : Nat) : Prop := s.lanes.length = 16 ∧ ∀ k, k ≠ l → (s.lane k).job = none

/-- Everything but the lanes and the frames sent is as before. -/
def State.sameBut (s t : State) : Prop := { t with lanes := s.lanes, net := { t.net with sent := s.net.sent } } = s

end Sys2Proof.Machine
end

