-- ==== Sys2Proof/Certificates/Slice0/Obligations.lean ====
section
/-!
DEFINITION. The statements about the model, one proposition each. A docstring names the rules of the manual a statement
formalises, or the log entry of a choice of the model it rests on.
-/
open Sys2Proof Sys2Proof.Machine

/-! ### Steps, reset, invariant, layouts -/

/-- A step of a state with a command at the front of its queue is that command's meaning on the state with the rest.
-/
def Obligations.StepRunsFrontCommand : Prop :=
  ∀ (s : State) (c : Instr), step { s with pending := c :: s.pending } = exec c s

/-- With no command waiting a step is one Lantern tick of 250 ns (the model's choice, log entry 21): the uptime
counter advances, the electronic clock by 400 cycles and the symbol clocks by 3,500 where they run, the supply monitor
samples and the bulk moves towards the input, never past it (R454), and outside OFF and RUN, with no soft reset due
and the throttle at level 0, nothing else changes. -/
def Obligations.IdleStepIsOneTick : Prop :=
  ∀ s : State, s.pending = [] → s.dev ≠ .off → s.dev ≠ .run → s.lantern.softDue = false → s.lantern.throttle = 0 →
    step s = .next { s with
      lantern := s.supplyTick
      clocks := { s.clocks with
        tick := s.clocks.tick + 1
        cyc := s.clocks.cyc + (if s.cycleRuns then 400 else 0)
        sym := s.clocks.sym + (if s.symbolRuns then 3500 else 0) } } ∧
    ∃ v, s.supplyTick = { s.lantern with bulk := v, sampled := true } ∧
      (s.lantern.input * unitNV < s.lantern.bulk → s.lantern.input * unitNV ≤ v ∧ v ≤ s.lantern.bulk) ∧
      (s.lantern.bulk ≤ s.lantern.input * unitNV → s.lantern.bulk ≤ v ∧ v ≤ s.lantern.input * unitNV)

/-- After power-up the device is in BOOT with every register at its after-power-up value (R5), every lane at E = B = 0
without a retained reply (R109), and nothing waiting. -/
def Obligations.ResetState : Prop :=
  State.reset.dev = .boot ∧ State.reset.pending = [] ∧ (∀ a, State.reset.reg a = resetWord a) ∧
    (∀ l, l < 16 → State.reset.lane l = {}) ∧ (∀ a, State.reset.byteAt a = 0) ∧
    (∀ t, (State.reset.regions t).length = 16) ∧ State.reset.steps = [] ∧ State.reset.sessions = []

/-- The invariant holds after reset. -/
def Obligations.ResetMeetsInvariant : Prop := State.reset.Inv

/-- Every step keeps the invariant: memory, registers and counters in canonical form, sixteen lanes within their
windows of 256 (R58), and the Furrows, sources and Winnow parts that the device has. -/
def Obligations.StepKeepsInvariant : Prop := ∀ s t : State, s.Inv → step s = .next t → t.Inv

/-- The layouts agree (R2, R54, R67, R75): the request bytes of every well-formed host command, read back under its
opcode, are that command with every operand. -/
def Obligations.RequestsReadBack : Prop :=
  ∀ (c : Instr) (h : ReqHdr) (op : Nat), c.wf = true → hdrOf c = some h → opcodeOf c = some op →
    parseRequest h op (requestBytes c) = some c

/-! ### The life of a command in its lane -/

/-- A request taken as the next of its lane raises E by one (R59); its reply leaves once from the source it came from,
carries the new E, frees the lane and is retained (R54, R58, R61). Nothing else changes. As bytes a packet is 32
header bytes, big-endian, then the payload, and its last header word is the CRC-32C of both with those four bytes
taken as 0 (R2, R54, R55). -/
def Obligations.ReplySentAndRetained : Prop :=
  ∀ (s : State) (h : ReqHdr) (op st : Nat) (data : List Byte), s.takesNext h → data.length ≤ 8968 →
    let t := (s.accept h).reply h op st data
    t.answered h op st data ∧ (t.lane h.lane).e = ((s.lane h.lane).e + 1) % 2 ^ 32 ∧ s.sameBut t ∧
      (∀ l, l ≠ h.lane → t.lane l = s.lane l) ∧
      t.net.sent = s.net.sent ++ (if s.portUp then
        [⟨s.vlanTag, .walong ⟨h.src, 1, h.lane, h.seq, ((s.lane h.lane).e + 1) % 2 ^ 32, opcodeField op h.expert, st, h.tag, data⟩⟩]
        else []) ∧
      ∀ k : WPacket, k.payload.length ≤ 8968 → k.bytes.length = 32 + k.payload.length ∧ fieldAt k.bytes 0 2 = 0x574C ∧
        fieldAt k.bytes 2 1 = 1 ∧ fieldAt k.bytes 6 2 = k.payload.length ∧ fieldAt k.bytes 8 4 = k.seq % 2 ^ 32 ∧
        fieldAt k.bytes 12 4 = k.ack % 2 ^ 32 ∧ fieldAt k.bytes 18 2 = k.status % 2 ^ 16 ∧ k.bytes.drop 32 = k.payload ∧
        fieldAt k.bytes 28 4 = (crc32c (k.bytes.take 28 ++ [0, 0, 0, 0] ++ k.bytes.drop 32)).toNat

/-- What a lane answers or queues without starting it: held after an abort it answers LANE_HELD, DETAIL the sequence
of the aborted command, to every command but IDENTIFY, PING, LANE_RESUME, TASK_CANCEL and TASK_STATUS (R67 check 2,
R71); a command that the device state does not accept ends with WRONG_STATE and nothing else changes (R67 check 3,
R72); while an earlier command has not ended the next waits behind it (R58, R69). -/
def Obligations.LaneRefusesOrQueues : Prop :=
  ∀ (s : State) (c : Instr) (h : ReqHdr) (op : Nat), hdrOf c = some h → opcodeOf c = some op → op ≠ 0x0001 → op ≠ 0x0002 →
    s.dev.column ≠ none →
    (∀ q, servedWhenHeld op = false → h.lane < 16 → s.busy h.lane = false → (s.lane h.lane).held = some q →
      exec c s = .next ((s.accept h).failReply h op { status := stLaneHeld, detail := q })) ∧
    (s.takesNext h → legality op s.dev = .n → exec c s
      = .next ((s.accept h).reply h op stWrongState (Failure.bytes { status := stWrongState, detail := s.dev.code }))) ∧
    (h.lane < 16 → s.busy h.lane = true → exec c s = .next ((s.accept h).enqueue ⟨h, op, requestBytes c, none⟩))

/-- COMMAND_START begins the oldest request of a free lane (R58, R69): the command its bytes spell, a failure that
intake already gave it, or BAD_LENGTH where its length fits no form (R67 check 1). While a SET_NET of the lane waits
to take effect nothing starts in it (R69). -/
def Obligations.CommandStartTakesOldest : Prop :=
  ∀ (s : State) (l : Nat) (r : Req) (rest : List Req), (s.lane l).job = none → (s.lane l).queue = r :: rest →
    (s.netPending l = true → exec (.commandStart l) s = .next s) ∧ (s.netPending l = false →
    let s' := s.setLane l { s.lane l with queue := rest }
    (∀ f, r.early = some f → exec (.commandStart l) s = .next (s'.failReply r.hdr r.opcode f)) ∧
    (∀ c, r.early = none → parseRequest r.hdr r.opcode r.payload = some c → exec (.commandStart l) s = .next (startHost c s')) ∧
    (r.early = none → parseRequest r.hdr r.opcode r.payload = none →
      exec (.commandStart l) s = .next (s'.failReply r.hdr r.opcode { status := stBadLength, detail := r.payload.length })))

/-- IDENTIFY and PING are answered at once with OK in any lane with any SEQUENCE, held or not, while the port is up;
the reply carries that SEQUENCE and the lane's E, is not retained, and nothing else changes (R63). PING returns its
bytes unchanged (R81); IDENTIFY answers 40 bytes with the device's name, state and BOOT_COUNT (R80). -/
def Obligations.UnsequencedAnsweredAtOnce : Prop :=
  ∀ (s : State) (h : ReqHdr) (data : List Byte), s.portUp = true → data.length ≤ 8968 →
    let out (op : Nat) (p : List Byte) : State := { s with net := { s.net with sent := s.net.sent ++
      [⟨s.vlanTag, .walong ⟨h.src, 1, h.lane, h.seq, (s.lane h.lane).e, opcodeField op h.expert, 0, h.tag, p⟩⟩] } }
    exec (.ping h data) s = .next (out 0x0002 data) ∧ exec (.identify h) s = .next (out 0x0001 s.identifyBytes) ∧
      s.identifyBytes.length = 40 ∧ fieldAt s.identifyBytes 0 4 = 0x47393600 ∧ fieldAt s.identifyBytes 6 1 = s.dev.code ∧
      fieldAt s.identifyBytes 36 4 = s.ledger.bootCount % 2 ^ 32

/-- LANE_RESUME releases the hold of the lane it is sent in (R98); in a lane that is not held it leaves nothing to do.
-/
def Obligations.LaneResumeReleases : Prop :=
  ∀ (s : State) (h : ReqHdr), s.lanes.length = 16 → h.lane < 16 → s.busy h.lane = false → legality 0x0405 s.dev = .y →
    let a := s.accept h
    ((s.lane h.lane).held = none → exec (.laneResume h) s = .next (a.reply h 0x0405 stNothing)) ∧
    (∀ q, (s.lane h.lane).held = some q →
      exec (.laneResume h) s = .next ((a.setLane h.lane { a.lane h.lane with held := none }).reply h 0x0405 stOk) ∧
      ((a.setLane h.lane { a.lane h.lane with held := none }).lane h.lane).held = none)

/-! ### Administration and configuration (04, 21) -/

/-- SET_NET is answered from the old addresses, and its register writes wait for SET_NET_APPLY (R52, R82).
HOST_WATCHDOG arms the watchdog and restarts its timer, or disarms it with a PERIOD_MS of 0; the action of a basic
request is that of GLOBAL.WATCHDOG (R6, R102). -/
def Obligations.SetNetAndWatchdogCommands : Prop :=
  (∀ (s : State) (h : ReqHdr) (a p : Nat) (x : Option SetNetX), s.servesNow h 0x0003 →
    firstFailure (setNetChecks a p 0 (orReg x s.setNetDefaults)) = none →
    exec (.setNet h a p 0 x) s = .next (({ s.accept h with
      net := { s.net with pendingNet := s.net.pendingNet ++ [(h.lane, setNetWrites a p (orReg x s.setNetDefaults))] } }).reply
        h 0x0003 stOk)) ∧
  (∀ (s : State) (h : ReqHdr) (p : Nat) (x : Option Nat), s.servesNow h 0x0004 → (p = 0 ∨ (10 ≤ p ∧ p ≤ 600000)) →
    (∀ act, x = some act → act ≤ 1) →
    exec (.hostWatchdog h p (x.map fun act => (act, 0))) s = .next (({ s.accept h with
      watchdog := ⟨p, x.getD (s.fld (aGlobal 0x14) 24 1), if p = 0 then none else some s.clocks.tick⟩ }).reply h 0x0004 stOk))

/-- SET_NET_APPLY writes the addresses, prefixes, gateways and VLAN settings of the oldest SET_NET that waits together
and no other register but WALONG.STATUS; a new IPv4 address is told with a gratuitous ARP (R52, R82). -/
def Obligations.SetNetTakesEffect : Prop :=
  ∀ (s : State) (l a p : Nat) (y : SetNetX) (rest : List (Nat × List (Nat × Nat))), s.Inv → fits 4 a = true →
    fits 1 p = true → y.wf = true → s.net.pendingNet = (l, setNetWrites a p y) :: rest →
    ∃ t, exec .setNetApply s = .next t ∧ t.net.pendingNet = rest ∧ t.ip4Set = a ∧ t.ip6Set = y.ip6 ∧
      (∀ e ∈ setNetWrites a p y, t.reg e.1 = e.2) ∧
      (∀ b, b ∉ (setNetWrites a p y).map Prod.fst → b ≠ aWalong 8 → t.reg b = s.reg b) ∧
      (s.portUp = true → a ≠ 0 → a ≠ s.ip4Set → ∃ v, (⟨v, .gratuitousArp a⟩ : OutFrame) ∈ t.net.sent)

/-- CFG_READ returns COUNT registers from ADDR in ascending order, each as a read of it gives and with what that read
changes made before the next (R83, R86); a COUNT of 0 leaves nothing to do. -/
def Obligations.CfgReadReturnsRegisters : Prop :=
  ∀ (s : State) (h : ReqHdr) (a n : Nat), s.servesNow h 0x0101 → a % 4 = 0 → n ≤ 256 → firstFailure (spanChecks a n) = none →
    exec (.cfgRead h a n 0) s = .next (if n = 0 then (s.accept h).reply h 0x0101 stNothing
      else (readAll (regRange a n) (s.accept h)).2.reply h 0x0101 stOk (readAll (regRange a n) (s.accept h)).1) ∧
    (readAll (regRange a n) (s.accept h)).1.length = 4 * n

/-- CFG_WRITE and CFG_WRITE_MASKED check every value before they write any (R84, R85, R451): with all checks passed
every register is written and the command is answered; with a check failed nothing changes but the lane.
CFG_WRITE_MASKED writes (old AND NOT MASK) OR (VALUE AND MASK), where old holds the RW fields (R85). -/
def Obligations.CfgWritesCheckThenWrite : Prop :=
  (∀ (s : State) (h : ReqHdr) (a : Nat) (vs : List Nat), s.servesNow h 0x0102 → vs ≠ [] →
    let b := s.accept h
    let ws := (regRange a vs.length).zip (vs.map fun v => v % 2 ^ 32)
    let checks := b.writeGuards a vs.length
      ++ (cfgFields a vs.length 0 ++ ws.zipIdx.map fun w => b.valueCheck ws (8 + 4 * w.2) w.1.1 w.1.2)
    (firstFailure checks = none → exec (.cfgWrite h a 0 vs) s = .next ((b.writeAll ws).reply h 0x0102 stOk)) ∧
    (∀ f, firstFailure checks = some f → exec (.cfgWrite h a 0 vs) s = .next (b.failReply h 0x0102 f))) ∧
  (∀ (s : State) (h : ReqHdr) (a mask value : Nat), s.servesNow h 0x0103 → mask < 2 ^ 32 → value < 2 ^ 32 →
    let b := s.accept h
    let w := b.maskedWord a mask value
    let checks := b.writeGuards a 1 ++ [need (a % 4 = 0) (fRange 0 a), b.valueCheck [(a, w)] 8 a w]
    (firstFailure checks = none →
      exec (.cfgWriteMasked h a mask value) s = .next ((b.writeAll [(a, w)]).reply h 0x0103 stOk)) ∧
    (∀ f, firstFailure checks = some f → exec (.cfgWriteMasked h a mask value) s = .next (b.failReply h 0x0103 f)) ∧
    (∀ i, i < 32 → bitOf w i = if bitOf mask i then bitOf value i else
      (match regAt a with | some (_, r, _) => bitOf (mergeRw r.flds 0 (b.late a (b.readReg a))) i | none => false)))

/-- REGISTER_WRITE stores the RW fields of a register; RO, RC, W1C and WO fields, reserved bits and every other
register stay as they were (R450). A block that is powered down keeps the written word for its restart (R74), SESS_LEN
has a behaviour of its own (R291), and an address without a register is no write; each completes. -/
def Obligations.RegisterWriteStoresRwFields : Prop :=
  ∀ (s : State) (a v : Nat), (regAt a = none → exec (.registerWrite a v) s = .next s) ∧
    (∀ p r i, regAt a = some (p, r, i) → s.blockDown a = true → ∃ t, exec (.registerWrite a v) s = .next t ∧
      t = { s with down := t.down } ∧ (∀ b, t.reg b = s.reg b) ∧
      ∀ base, t.late a base = mergeRw r.flds (s.late a base) (v % 2 ^ 32)) ∧
    (a = aGleaner 0 0x64 → s.blockDown a = false → exec (.registerWrite a v) s = .next s) ∧
    (∀ p r i, s.Inv → regAt a = some (p, r, i) → s.blockDown a = false → a ≠ aGleaner 0 0x64 →
    ∃ t, exec (.registerWrite a v) s = .next t ∧ t = { s with regs := t.regs } ∧ (∀ b, b ≠ a → t.reg b = s.reg b) ∧
      ∀ f ∈ r.flds, bitsOf (t.reg a) f.lo f.w = if f.acc = .rw then bitsOf v f.lo f.w else bitsOf (s.reg a) f.lo f.w)

/-- A read of an RC register clears its RC fields and nothing else (R7, R86). A read of a _LO register copies the
upper bits of its pair into _HI, and nothing else changes (R172, R452). -/
def Obligations.CounterReadsChangeTheirRegister : Prop :=
  (∀ (s : State) (a : Nat) (p : Place) (r : RegDef) (i : Nat), s.Inv → regAt a = some (p, r, i) →
    ∃ t, exec (.rcCounterRead a) s = .next t ∧ t = { s with regs := t.regs } ∧ (∀ b, b ≠ a → t.reg b = s.reg b) ∧
      ∀ f ∈ r.flds, bitsOf (t.reg a) f.lo f.w = if f.acc = .rc then 0 else bitsOf (s.reg a) f.lo f.w) ∧
  (∀ (s : State) (a v : Nat) (p : Place), s.Inv → placeOf a = some p → s.pairAt p = some v → v < 2 ^ 64 →
    ∃ t, exec (.loReadCopiesHi a) s = .next t ∧ t = { s with regs := t.regs } ∧ t.reg (a + 4) = v / 2 ^ 32 ∧
      ∀ b, b ≠ a + 4 → t.reg b = s.reg b)

/-- The four COUNT_CTL.CLEAR actions: the class counters of a Furrow (R172), the byte counters of the Reaper (R222),
ROWS and CONVERTED of a Tally (R246), LOFT_BYTES and VISITS of a Gleaner (R291) become 0; every other counter stays.
-/
def Obligations.CountClearsZeroTheirCounters : Prop :=
  ∀ (s : State) (n : Nat), s.Inv →
    let clears (c : Instr) (l : List Nat) : Prop := ∃ t, exec c s = .next t ∧ t = { s with ctrs := t.ctrs } ∧
      (∀ a ∈ l, t.ctr a = 0) ∧ ∀ a, a ∉ l → t.ctr a = s.ctr a
    (n < 10 → clears (.furrowCountClear n) (classOffsets.map (aFurrow n))) ∧
    clears .reaperCountClear [aReaper 0x48, aReaper 0x50] ∧
    (n < 10 → clears (.tallyCountClear n) [aTally n 0x28, aTally n 0x30]) ∧
    (n < 8 → clears (.gleanerCountClear n) [aGleaner n 0x20, aGleaner n 0x28])

/-- The log clears: every word of a controller's correctable-error log (R335), of its uncorrectable-error log (R335)
and of the Sieve's fault log (R419) becomes 0 and no other register changes; LEDGER.ALERT_CAUSE.LATCH clears the alert
latch (R441). -/
def Obligations.LogClearsEmptyTheirLogs : Prop :=
  ∀ (s : State) (c : Nat), s.Inv → c < 40 →
    let clears (i : Instr) (l : List Nat) : Prop := ∃ t, exec i s = .next t ∧
      (∀ a ∈ l, t.reg a = 0) ∧ (∀ a, a ∉ l → t.reg a = s.reg a) ∧
      t = { s with regs := t.regs, memory := { s.memory with ceOverflowed := t.memory.ceOverflowed } }
    clears (.ceLogClear c) (logWords (aMemctl c 0x200) 16) ∧ clears (.ueLogClear c) (logWords (aMemctl c 0x300) 4) ∧
      clears .sieveLogClear (logWords (aSieve 0x100) 8) ∧
      exec .alertLatchClear s = .next { s with lantern := { s.lantern with latch := false } }

/-- A write to SESS_LEN sets the committed length of the selected open session that holds no entries, up to SESS_CAP;
else it changes nothing (R291). A written bandwidth split takes effect with the presets of R206 or the custom shares
(R206, R207); the split is all that changes. -/
def Obligations.SessLenAndSplitWrites : Prop :=
  (∀ (s : State) (v : Nat),
    (∀ x, s.session s.selected = some x → x.held = none → v ≤ x.tMax →
      exec (.sessLenWrite v) s = .next (s.setSession s.selected { x with n := v }) ∧
        (s.setSession s.selected { x with n := v }).session s.selected = some { x with n := v }) ∧
    ((s.session s.selected = none ∨ ∃ x, s.session s.selected = some x ∧ (x.held ≠ none ∨ x.tMax < v)) →
      exec (.sessLenWrite v) s = .next s)) ∧
  (∀ s : State, ∃ l, exec .splitTakesEffect s = .next { s with reaper := { s.reaper with shares := l } } ∧ l.length = 6 ∧
    let custom (a : Nat) : List Nat := [s.fld a 0 6, s.fld a 8 6, s.fld a 16 6]
    (s.fld (aReaper 0x10) 0 2 = 0 → l.take 3 = [32, 5, 3]) ∧ (s.fld (aReaper 0x10) 2 2 = 0 → l.drop 3 = [28, 10, 2]) ∧
    (s.fld (aReaper 0x10) 0 2 = 1 → l.take 3 = [12, 4, 24]) ∧ (s.fld (aReaper 0x10) 2 2 = 1 → l.drop 3 = [12, 4, 24]) ∧
    (s.fld (aReaper 0x10) 0 2 = 2 → l.take 3 = [24, 12, 4]) ∧ (s.fld (aReaper 0x10) 2 2 = 2 → l.drop 3 = [24, 12, 4]) ∧
    (s.fld (aReaper 0x10) 0 2 = 3 → l.take 3 = custom (aReaper 0x14)) ∧
    (s.fld (aReaper 0x10) 2 2 = 3 → l.drop 3 = custom (aReaper 0x18)))

/-! ### Memories and the Sieve (04, 14, 18) -/

/-- Where no error, waiting merge entry or armed flip stands, MEM_WRITE stores its bytes at ascending addresses and
changes no other byte, in each of the three tiers (R87, R321, R330), and is answered OK. -/
def Obligations.MemWriteStoresItsBytes : Prop :=
  ∀ (s : State) (h : ReqHdr) (a : Nat) (d : List Byte), s.Inv → s.quiet → s.servesNow h 0x0201 → d ≠ [] → d.length ≤ 8952 →
    inTier a d.length = true →
    ∃ t, exec (.memWrite h a 0 d) s = .next t ∧ t.answered h 0x0201 stOk [] ∧ t.quiet ∧
      (∀ i, i < d.length → t.byteAt (a + i) = d.getD i 0) ∧ (∀ b, b < a ∨ a + d.length ≤ b → t.byteAt b = s.byteAt b)

/-- Where no error, waiting merge entry or armed flip stands, MEM_READ returns the stored bytes and changes nothing
but its lane (R88, R111). In a FAULT entered from BOOT no memory has been trained (R109, R111), and the read ends with
WRONG_STATE, which is the model's reading (log entry 2). -/
def Obligations.MemReadReturnsBytes : Prop :=
  ∀ (s : State) (h : ReqHdr) (a n : Nat), s.quiet → s.servesNow h 0x0202 → (s.hasp.running = true ∨ s.dev ≠ .fault) →
    1 ≤ n → n ≤ 65536 → inTier a n = true →
    exec (.memRead h a n 0) s = .next ((s.accept h).reply h 0x0202 stOk (s.bytesAt a n))

/-- MEM_FILL repeats its 8-byte pattern over a range from byte 0 of the pattern (R89), and MEM_COPY copies a range to
one that does not overlap it (R90); no other byte changes, and each waits with status OK for COMMAND_COMPLETION
(R105). No error, waiting merge entry or armed flip stands before. -/
def Obligations.FillAndCopyWriteTheirRange : Prop :=
  ∀ (s : State) (h : ReqHdr) (a b n : Nat) (p : List Byte), s.Inv → s.quiet → 1 ≤ n → n ≤ 2 ^ 30 → inTier a n = true →
    inTier b n = true →
    (s.servesNow h 0x0203 → ∃ t, exec (.memFill h b n p) s = .next t ∧
      t.running h 0x0203 (.memFill h b n p) (.finish stOk []) ∧ (∀ i, i < n → t.byteAt (b + i) = p.getD (i % 8) 0) ∧
      ∀ x, x < b ∨ b + n ≤ x → t.byteAt x = s.byteAt x) ∧
    (s.servesNow h 0x0204 → (a + n ≤ b ∨ b + n ≤ a) → ∃ t, exec (.memCopy h a b n) s = .next t ∧
      t.running h 0x0204 (.memCopy h a b n) (.finish stOk []) ∧ (∀ i, i < n → t.byteAt (b + i) = s.byteAt (a + i)) ∧
      ∀ x, x < b ∨ b + n ≤ x → t.byteAt x = s.byteAt x)

/-- A MEM_WRITE outside every tier, or across the end of one, is refused with ADDR_RANGE and nothing is written (R87,
R322). A Granary word with bad parity ends MEM_READ with MEM_UNCORRECTABLE, which holds its lane (R71, R91, R326). -/
def Obligations.FailingAccessesAreAnswered : Prop :=
  (∀ (s : State) (h : ReqHdr) (a : Nat) (d : List Byte), s.servesNow h 0x0201 → d ≠ [] → inTier a d.length = false →
    exec (.memWrite h a 0 d) s = .next ((s.accept h).failReply h 0x0201 (fAddr 0 (firstOutside a)))) ∧
  (∀ (s : State) (h : ReqHdr) (a n x : Nat), s.servesNow h 0x0202 → (s.hasp.running = true ∨ s.dev ≠ .fault) → 1 ≤ n → n ≤ 65536 → a + n ≤ 0x28000000 →
    x ∈ s.memory.badParity → a ≤ x → x < a + n →
    ∃ t w, exec (.memRead h a n 0) s = .next t ∧ w % 64 = 0 ∧ (t.lane h.lane).held = some h.seq ∧
      t.answered h 0x0202 stMemUncorrectable (Failure.bytes { status := stMemUncorrectable, detail := w }) ∧
      ∀ b, t.byteAt b = s.byteAt b)

/-- Under class KEEP a word with one to four bytes in error is corrected; under TEND one with at most one bit in error
in each 8-byte group is, and one with two bits in a group is uncorrectable; under BRIEF one with a wrong byte parity
is uncorrectable (R325). -/
def Obligations.ClassesCorrectWhatTheyPromise : Prop :=
  ∀ (e : WordErr), e.poison = false →
    (1 ≤ e.bytesWrong → e.bytesWrong ≤ 4 → e.outcome 0 = .corrected) ∧
    ((∃ k, k < 8 ∧ e.groupBits k = 1) → (∀ k, k < 8 → e.groupBits k ≤ 1) → e.outcome 1 = .corrected) ∧
    ((∃ k, k < 8 ∧ e.groupBits k = 2) → e.outcome 1 = .uncorrectable) ∧
    (∀ i, i < 64 → e.parityWrong i = true → e.outcome 2 = .uncorrectable)

/-- MERGE_FLUSH_TIMER writes a merge-buffer entry to its word: the bytes it holds, and no other (R330, R332). -/
def Obligations.MergeTimerFlushes : Prop :=
  ∀ (s : State) (m : MergeEntry), s.Inv → s.memory.merge = [m] → s.memory.errs = [] → s.memory.flipLoft = none →
    s.memory.flipSilo = none → s.memory.flushFails = [] → m.word % 64 = 0 → (∀ b ∈ m.bytes, b.1 < 64) →
    risingFrom none m.bytes = true →
    ∃ t, exec (.mergeFlushTimer m.ctl m.word) s = .next t ∧ t.memory.merge = [] ∧
      (∀ o, o < 64 → t.byteAt (m.word + o) = (look m.bytes o).getD (s.byteAt (m.word + o))) ∧
      ∀ x, x < m.word ∨ m.word + 64 ≤ x → t.byteAt x = s.byteAt x

/-- REGION_SET writes one entry of a tier's region table and no other, keeps every byte with MODE 0, and with MODE 1
sets an enabled entry's range to zero and no other byte, and disarms the tier's flip (R327, R328, R338). -/
def Obligations.RegionSetWritesOneEntry : Prop :=
  ∀ (s : State) (h : ReqHdr) (tier n cls base size mode : Nat), s.Inv → s.quiet → s.servesNow h 0x0205 → h.expert = true →
    tier ≤ 1 → 1 ≤ n → n ≤ 15 → cls ≤ 2 → mode ≤ 1 → 1 ≤ size →
    (base + size) * (tierNamed tier).stripe ≤ (tierNamed tier).size →
    let T := tierNamed tier
    let lo := T.base + base * T.stripe
    ∃ t, exec (.regionSet h ⟨tier, n, cls, 1, 0, lo, size * T.stripe⟩ (some (mode, 0))) s = .next t ∧
      (t.regions T).getD n {} = ⟨base, size, cls, true⟩ ∧ (∀ k, k ≠ n → (t.regions T).getD k {} = (s.regions T).getD k {}) ∧
      t.running h 0x0205 (.regionSet h ⟨tier, n, cls, 1, 0, lo, size * T.stripe⟩ (some (mode, 0))) (.finish stOk []) ∧
      (∀ x, t.byteAt x = if mode = 1 ∧ lo ≤ x ∧ x < lo + size * T.stripe then 0 else s.byteAt x) ∧
      t.flipOf T = none

/-- ECC_FLIP_ARM arms one corruption of a tier's enabled region entry; the next whole word written there is stored
with PATTERN in each selected byte, and the flip is spent (R338). -/
def Obligations.FlipFiresOnce : Prop :=
  ∀ (s : State) (h : ReqHdr) (f : Flip) (tier : Nat), s.servesNow h 0x0703 → tier ≤ 1 → f.entry ≤ 15 →
    ((s.regions (tierNamed tier)).getD f.entry {}).en = true → 1 ≤ f.pattern → f.pattern ≤ 255 → (f.checkMask ≠ 0 ∨ f.symbolMask ≠ 0) →
    (∃ t, exec (.eccFlipArm h ⟨tier, f.entry, f.pattern, f.checkMask, 0, f.symbolMask⟩) s = .next t ∧
      t.answered h 0x0703 stOk [] ∧ t.flipOf (tierNamed tier) = some f ∧ t.memory.flipFired = [] ∧
      ∀ x, t.byteAt x = s.byteAt x) ∧
    ∀ (u : State) (w : Nat) (d : List Byte), u.memory.errs = [] → u.flipOf ((tierOf w).getD .loft) = some f →
      (u.classOf w).1 = f.entry → ((f.err w).data ≠ [] ∨ (f.err w).check ≠ []) →
      (u.writeWord w d).flipOf ((tierOf w).getD .loft) = none ∧ (u.writeWord w d).errOf w = some (f.err w) ∧
        (u.writeWord w d).memory.flipFired = [ctlOf w]

/-- PATROL_SCRUB that reaches a KEEP word with a correctable error corrects it and counts it in SCRUB_CORRECTED (R333,
R336); reading the last KEEP word completes a pass, counted in SCRUB_PASSES (R336). REFRESH_BAND_UPDATE sets the band
of a controller to the higher of the diode's and the DRAM's own, to what one of them gives where the other is absent,
and to band 2 with neither (R337). -/
def Obligations.ControllersScrubAndRefresh : Prop :=
  (∀ (s : State) (ctl w : Nat) (e : WordErr), s.Inv → s.memory.errs = [e] → e.word = w → e.poison = false →
    1 ≤ e.bytesWrong → e.bytesWrong ≤ 4 → (s.classOf w).2 = 0 → ctl < 40 → ctlOf w = ctl → w % 64 = 0 →
    (tierOf w = some .loft ∨ tierOf w = some .silo) → bitOf (s.reg (aMemctl ctl 4)) 0 = true → s.memory.trained = true →
    s.selfRefresh = false → s.frozen (aMemctl ctl 0x118) = false → s.reg (aMemctl ctl 0x118) < 0xFFFFFFFF →
    (look s.memory.scrubNext ctl).getD 0 ≤ localOf w →
    ∃ t, exec (.patrolScrub ctl w) s = .next t ∧ t.memory.errs = [] ∧ t.memory.cells = s.memory.cells ∧
      t.reg (aMemctl ctl 0x118) = s.reg (aMemctl ctl 0x118) + 1 ∧
      (localOf w + 64 ≠ s.scrubEnd ((tierOf w).getD .silo) → t.reg (aMemctl ctl 0x11C) = s.reg (aMemctl ctl 0x11C)) ∧
      (localOf w + 64 = s.scrubEnd ((tierOf w).getD .silo) → s.frozen (aMemctl ctl 0x11C) = false →
        t.reg (aMemctl ctl 0x11C) = min (s.reg (aMemctl ctl 0x11C) + 1) 0xFFFFFFFF)) ∧
  (∀ (s : State) (ctl : Nat), ctl < 40 → s.memory.trained = true → s.selfRefresh = false →
    let set (b : Nat) : State := s.setFld (aMemctl ctl 8) 2 2 b
    let old := s.fld (aMemctl ctl 8) 2 2
    (s.trusted (packageChannel ctl) = false → ∀ b, b ≤ 3 → exec (.refreshBandUpdate ctl (some b)) s = .next (set b)) ∧
    (s.trusted (packageChannel ctl) = false → exec (.refreshBandUpdate ctl none) s = .next (set 2)) ∧
    (∀ q, s.trusted (packageChannel ctl) = true → (s.diode (packageChannel ctl)).reading = some q →
      exec (.refreshBandUpdate ctl none) s = .next (set (refreshBand old q)) ∧
      ∀ b, b ≤ 3 → exec (.refreshBandUpdate ctl (some b)) s = .next (set (max (refreshBand old q) b))))

/-- GRANARY_SLICE moves the next logical bank to the lowest free spare, marches its old physical bank, marks it failed
where a word fails, and keeps every byte of memory and every other bank's place (R404, R416, R418). EXTERNAL_SLICE
marches the next page of a controller and keeps every byte; a word that fails reads as uncorrectable from then on
(R417, R418). -/
def Obligations.PeriodicSlicesMarch : Prop :=
  (∀ (s : State) (sp : Nat) (failAt : Option Nat), s.Inv → bitOf s.sieve.enable 0 = true → s.slicing = true → s.sieving = false →
    s.sieve.spares.head? = some sp →
    ∃ t, exec (.granarySlice failAt) s = .next t ∧ t.sieve.phys s.sieve.next = sp ∧
      (∀ b, b ≠ s.sieve.next → t.sieve.phys b = s.sieve.phys b) ∧ t.sieve.next = (s.sieve.next + 1) % 2048 ∧
      t.memory = s.memory ∧ (failAt = none → t.sieve.failed = s.sieve.failed ∧ t.sieve.sig = t.sieve.expect) ∧
      (failAt ≠ none → s.sieve.phys s.sieve.next ∈ t.sieve.failed)) ∧
  (∀ (s : State) (ctl : Nat) (failAt : Option Nat), ctl < 40 → bitOf s.sieve.enable (if ctl < 8 then 1 else 2) = true →
    s.slicing = true → s.memory.trained = true → s.memory.merge = [] →
    let page := (look s.sieve.pages ctl).getD 0
    ∃ t, exec (.externalSlice ctl failAt) s = .next t ∧ t.memory.cells = s.memory.cells ∧
      t.sieve.pages = putD 0 s.sieve.pages ctl ((page + 1) % ctlPages ctl) ∧ (failAt = none → t.memory = s.memory) ∧
      ∀ off, failAt = some off →
        t.errOf (deviceAddr ctl (page * 0x1000) + off % 0x1000 / 64 * 64)
          = some { word := deviceAddr ctl (page * 0x1000) + off % 0x1000 / 64 * 64, poison := true })

/-- SIEVE_RUN of Granary banks starts its march, which leaves every byte outside the tested banks as it was (R410,
R411); of the tested banks nothing is said until it ends (log entry 116). SIEVE_PERIODIC sets the periodic slices
(R415). -/
def Obligations.SieveCommandsStart : Prop :=
  ∀ (s : State) (h : ReqHdr) (e first count g x alg bgs : Nat),
    (s.servesNow h 0x0701 → h.expert = true → first + count ≤ 2080 → 1 ≤ count → alg ≤ 1 → 1 ≤ bgs → bgs ≤ 0x7F →
      let r := ((s.accept h).sieveOpen ⟨0, first, count, 0, 0, alg, bgs⟩)
      exec (.sieveRun h ⟨0, 0, first, count, 0, 0, 0⟩ (some (alg, bgs, 0))) s
        = .next (r.setJob h 0x0701 (.sieveRun h ⟨0, 0, first, count, 0, 0, 0⟩ (some (alg, bgs, 0)))
            (.sieveRun 0 first count 0 0 alg bgs)) ∧
        (s.Inv → s.sieve.map = [] → ∀ b, b < first * 0x50000 ∨ (first + count) * 0x50000 ≤ b → r.byteAt b = s.byteAt b)) ∧
    (s.servesNow h 0x0702 → h.expert = true → e ≤ 7 → 1 ≤ g → g ≤ 60000 → 10 ≤ x → x ≤ 65535 → alg ≤ 1 →
      exec (.sievePeriodic h e 0 (some (g, x, alg, 0))) s = .next (({ s.accept h with
        sieve := { s.sieve with enable := e, granaryMs := g, extUs := x, alg := alg, noSpare := false } }).reply h 0x0702 stOk))

/-- A SIEVE_RUN of Granary banks that all pass leaves them zero and every other byte as it was (R411, R414). -/
def Obligations.SieveRunZeroesTestedBanks : Prop :=
  ∀ (s : State) (j : Job) (l first count alg bgs : Nat) (env : Env), s.Inv → l < 16 → (s.lane l).job = some j → j.hdr.lane = l →
    j.kind = .sieveRun 0 first count 0 0 alg bgs → s.dev = .config → env.unitFails = [] → s.sieve.map = [] →
    (∀ k, k < 16 → k ≠ l → (s.lane k).job = none) →
    ∃ t, exec (.commandCompletion l env) s = .next t ∧ (t.lane l).job = none ∧
      ∀ b, t.byteAt b = if first * 0x50000 ≤ b ∧ b < (first + count) * 0x50000 ∧ b < 2048 * 0x50000 then 0 else s.byteAt b

/-! ### Programs, sessions, steps (04, 12, 13) -/

/-- PROGRAM_LOAD registers its range unchecked, in place of the entries it overlaps, in a table of 64 (R302).
PROGRAM_CHECK marks the program checked and answers what its checks found (R303), or marks it unchecked and answers
the first failure. -/
def Obligations.ProgramsRegisterAndCheck : Prop :=
  (∀ (s : State) (h : ReqHdr) (a n : Nat) (rest : List Program), s.servesNow h 0x0301 → a % 64 = 0 → 1 ≤ n → n ≤ 65536 →
    a + 64 * n ≤ 0x28000000 → (s.accept h).makeRoom a n = some rest →
    exec (.programLoad h a n 0) s
        = .next (({ s.accept h with programs := rest ++ [⟨a, n, false, []⟩] } : State).reply h 0x0301 stOk) ∧
      (∀ p ∈ rest, p ∈ s.programs ∧ overlaps (p.addr, 64 * p.slots) (a, 64 * n) = false) ∧
      (s.programs.length ≤ 64 → rest.length < 64)) ∧
  (∀ (s : State) (h : ReqHdr) (a : Nat) (p : Program), s.servesNow h 0x0302 → a % 64 = 0 → a < 0x28000000 →
    s.programAt a = some p →
    let b := s.accept h
    let marked (c : Bool) (rs : List (Nat × Nat)) : State :=
      { b with programs := b.programs.map fun q => if q.addr = a then { q with checked := c, ranges := rs } else q }
    (∀ rs d, b.checkProgram p = .pass rs d → exec (.programCheck h a) s = .next ((marked true rs).reply h 0x0302 stOk d)) ∧
    (∀ f, b.checkProgram p = .fail f → exec (.programCheck h a) s = .next ((marked false []).failReply h 0x0302 f)))

/-- SESSION_OPEN opens a session with its shape, N = 0 and nothing held (R92). SESSION_CLOSE ends it and
SESSION_ROLLBACK drops what it holds, N as it was (R93, R100). SESSION_COMMIT raises N by COUNT and leaves nothing
held (R99); without a stored error it answers OK. No other session changes. -/
def Obligations.SessionsOpenCommitClose : Prop :=
  (∀ (s : State) (h : ReqHdr) (b : SessOpenB) (fmt rnd : Nat), s.servesNow h 0x0401 → b.session ≤ 255 → 1 ≤ b.layers →
    b.layers ≤ 1024 → 1 ≤ b.kvHeads → b.kvHeads ≤ 128 → 32 ≤ b.headDim → b.headDim ≤ 256 → b.headDim % 32 = 0 →
    b.kvBase % 256 = 0 → 1 ≤ b.kvBytes → b.kvBytes % 256 = 0 → inOneTier .loft b.kvBase b.kvBytes = true →
    s.clashBut b.session b.kvBase b.kvBytes = false → s.session b.session = none → fmt ≤ 1 → rnd ≤ 1 →
    let x : Session := ⟨b.layers, b.kvHeads, b.headDim, b.kvBase, b.kvBytes, b.seed, fmt = 1, rnd = 1, 0, none⟩
    x.tMax ≠ 0 → exec (.sessionOpen h b (some (fmt, rnd, 0))) s
      = .next (((s.accept h).setSession b.session x).reply h 0x0401 stOk)) ∧
  (∀ (s : State) (h : ReqHdr) (n : Nat) (x : Session), s.Inv → n ≤ 255 → s.session n = some x →
    (s.accept h).sessionInStep n = false →
    let others (t : State) : Prop := ∀ k, k ≠ n → t.session k = s.session k
    (s.servesNow h 0x0402 → ∃ t, exec (.sessionClose h n 0) s = .next t ∧ t.answered h 0x0402 stOk [] ∧ t.session n = none ∧
      others t ∧ t.memory = s.memory) ∧
    (∀ k, x.held = some k → 1 ≤ k.slots →
      (s.servesNow h 0x0407 → ∃ t, exec (.sessionRollback h n 0) s = .next t ∧ t.answered h 0x0407 stOk [] ∧
        t.session n = some { x with held := none } ∧ others t ∧ t.memory = s.memory) ∧
      (∀ c, s.servesNow h 0x0406 → 1 ≤ c → c ≤ 9 → c ≤ k.slots → ∃ t st, exec (.sessionCommit h n c) s = .next t ∧
        t.answered h 0x0406 st [] ∧ (st = stOk ∨ st = stDegraded) ∧ (s.quiet → st = stOk) ∧
        t.session n = some { x with n := x.n + c, held := none } ∧ others t)))

/-- TASK_CANCEL ends a running STEP_RUN of another lane with CANCELLED, and marks a waiting one to end so in its turn;
with no such command it leaves nothing to do (R96, R97). TASK_STATUS reports state, status, record, Gates and replays,
and itself as running (R101). -/
def Obligations.TaskCancelAndStatus : Prop :=
  (∀ (s : State) (h : ReqHdr) (l q : Nat), s.servesNow h 0x0404 → l < 16 → l ≠ h.lane →
    let f : Failure := { status := stCancelled, detail := h.seq }
    let b := s.accept h
    (∀ j t, (s.lane l).job = some j → j.hdr.seq = q → j.opcode = 0x0403 → j.kind ≠ .waitWake → s.stepOf l = some t →
      t.failure = none → t.teardown = false →
      exec (.taskCancel h l 0 q) s
          = .next ((b.abortStep l f t.cur).setJob h 0x0404 (.taskCancel h l 0 q) (.cancelWait l q)) ∧
        (b.abortStep l f t.cur).fails l f t.cur) ∧
    (∀ r, (s.lane l).job = none → r ∈ (s.lane l).queue → r.hdr.seq = q → r.opcode = 0x0403 → r.early = none →
      exec (.taskCancel h l 0 q) s = .next ((b.setLane l { s.lane l with queue := (s.lane l).queue.map fun r =>
        if r.hdr.seq = q ∧ r.opcode = 0x0403 ∧ r.early = none then { r with early := some f } else r }).reply h 0x0404 stOk)) ∧
    ((s.lane l).job = none → (s.lane l).queue = [] → exec (.taskCancel h l 0 q) s = .next (b.reply h 0x0404 stNothing))) ∧
  (∀ (s : State) (h : ReqHdr) (l q : Nat), s.servesNow h 0x0408 → l < 16 →
    let r := (s.accept h).taskReport h l q
    exec (.taskStatus h l 0 q) s = .next ((s.accept h).reply h 0x0408 stOk
        (be 1 r.1 ++ be 1 0 ++ be 2 r.2.1 ++ be 4 r.2.2.1 ++ be 4 r.2.2.2.1 ++ be 4 r.2.2.2.2)) ∧
      (∀ j t, l ≠ h.lane → (s.lane l).job = some j → j.hdr.seq = q → s.stepOf l = some t →
        r = (2, 0, t.cur, t.gates, t.replays)) ∧
      (l = h.lane → q = h.seq → s.stepOf l = none → r = (2, 0, 0, 0, 0)))

/-- STEP_RUN that fails a check of R309 ends with that failure; else the step begins: the device is in RUN, its
columns stand at N + J of their sessions (R308), and it takes free engines (R316). While a test runs it waits (R125,
R412). -/
def Obligations.StepRunStartsAStep : Prop :=
  ∀ (s : State) (h : ReqHdr) (p a n : Nat) (x : StepRunX), s.servesNow h 0x0403 → p % 64 = 0 → p < 0x28000000 → a % 64 = 0 →
    1 ≤ n → n ≤ 512 → a + 64 + 16 * n ≤ 0x28000000 → 1 ≤ x.stallMs → x.stallMs ≤ 255 → 1 ≤ x.gateMs → x.gateMs ≤ 255 →
    x.priority ≤ 3 → x.commitMode ≤ 1 → s.stepOf h.lane = none →
    let b := s.accept h
    let cmd := Instr.stepRun h p a n 0 (some x)
    let t0 : Step := {
      lane := h.lane, order := 0, program := p, slots := ((b.programAt p).map fun q => q.slots).getD 0
      cols := b.tableCols a n, stallMs := x.stallMs, gateMs := x.gateMs, priority := x.priority, commitMode := x.commitMode }
    (b.testing = true → exec cmd s = .next (b.setJob h 0x0403 cmd .waitWake)) ∧
    (b.testing = false → ∀ f, b.startFailure t0 a = some f → exec cmd s = .next (b.failReply h 0x0403 f)) ∧
    (b.testing = false → b.startFailure t0 a = none → ∃ t u, exec cmd s = .next t ∧ t.running h 0x0403 cmd .step ∧
      t.dev = .run ∧ t.sessions = s.sessions ∧ t.stepOf h.lane = some u ∧ u.program = p ∧
      u.cols = (s.tableCols a n).map (fun c => { c with pos := ((s.session c.session).map fun y => y.n).getD 0 + c.j }) ∧
      (s.steps = [] → s.reaper.holder = none → t.reaper.holder = some h.lane))

/-! ### Engines, loops, power (05, 15, 16, 17) -/

/-- ENGINE_START runs, having touched the loop table and emptied the Winnow's point tables (R113, R366), with the
operands of the request or those of GLOBAL.ENGINE_DEF (R6, R126); at its end the assignment of R120 is in force: READY
with the engines on, degraded below eight active Furrows, or with fewer than MIN_FURROWS the fault of R123, the lane
not held by it (R71). -/
def Obligations.EngineStartMakesTheAssignment : Prop :=
  (∀ (s : State) (h : ReqHdr) (q m z : Nat) (x : Option (Nat × Nat × Nat)), s.servesNow h 0x0501 →
    (s.accept h).engineStarting = false → (x = some (q, m, z) ∨ (x = none ∧ s.engineOps none = (q, m, z))) →
    0x600 ≤ q → q ≤ 0xF00 → 1 ≤ m → m ≤ 8 → 5 ≤ z → z ≤ 40 →
    ∃ t, exec (.engineStart h x) s = .next t ∧ t = { (s.accept h).setJob h 0x0501 (.engineStart h x) (.engineStart q m z) with
      vane := t.vane, winnow := s.winnow.map fun w => { w with points := [] } }) ∧
  (∀ (s : State) (l q m z : Nat) (j : Job) (env : Env), s.Inv → l < 16 → (s.lane l).job = some j → j.hdr.lane = l →
    j.kind = .engineStart q m z → s.dev = .config → s.lantern.warn = false → s.jobsHome →
    let a := s.swapBanks.assignment env q false
    ∃ t, exec (.commandCompletion l env) s = .next t ∧ (t.lane l).job = none ∧
      (∀ f, f < 10 → m ≤ a.active.length → (t.furrow f).role = if f ∈ a.active then 0 else if f ∈ a.spares then 1 else 2) ∧
      (m ≤ a.active.length → t.dev = .ready ∧ t.engine = true ∧ t.degraded = decide (a.active.length < 8)) ∧
      (a.active.length < m → t.dev = .fault ∧ (t.lane l).held = (s.lane l).held))

/-- ENGINE_STOP enters CONFIG with sources, drives and bays off, roles, sessions and memory kept (R124); while a
MARGIN_TEST runs it waits, which is the model's choice (log entry 115). MARGIN_TEST abandons Winnow runs and runs;
with REASSIGN 0 it only reports (R125); FAULT ends it with the failure of that FAULT (the model's choice, log entry
82). -/
def Obligations.EngineStopAndMarginTest : Prop :=
  (∀ (s : State) (h : ReqHdr), s.servesNow h 0x0502 → (s.accept h).marginTesting = true →
    exec (.engineStop h) s = .next ((s.accept h).setJob h 0x0502 (.engineStop h) .waitWake)) ∧
  (∀ (s : State) (h : ReqHdr), s.servesNow h 0x0502 → (s.accept h).marginTesting = false →
    ∃ t, exec (.engineStop h) s = .next t ∧ t.answered h 0x0502 stOk [] ∧
    t.dev = .config ∧ t.engine = false ∧ t.memory = s.memory ∧ t.sessions = s.sessions ∧ t.programs = s.programs ∧
    t.vane.drives = [] ∧ t.exchanges = [] ∧ (∀ x ∈ t.sources, x.locked = false) ∧
    (∀ x ∈ t.furrows, x.bayA = none ∧ x.bayB = none ∧ x.fill = none) ∧
    (t.furrows.map fun x => (x.role, x.slot)) = (s.furrows.map fun x => (x.role, x.slot)) ∧
    (t.sources.map fun x => (x.role, x.furrow)) = (s.sources.map fun x => (x.role, x.furrow))) ∧
  (∀ (s : State) (h : ReqHdr) (q r : Nat), s.servesNow h 0x0504 → 0x600 ≤ q → q ≤ 0xF00 → r ≤ 1 →
    let b := s.accept h
    exec (.marginTest h (some (q, r, 0))) s
      = .next (b.abandonRuns.setJob h 0x0504 (.marginTest h (some (q, r, 0))) (.marginTest q r (b.fld (aGlobal 0x28) 16 4)))) ∧
  (∀ (s : State) (l q m : Nat) (j : Job) (env : Env), l < 16 → s.onlyJob l → (s.lane l).job = some j → j.hdr.lane = l →
    j.kind = .marginTest q 0 m → (s.dev = .fault → exec (.commandCompletion l env) s
        = .next (s.failReply j.hdr j.opcode (s.lantern.fault.getD { status := stWrongState }))) ∧
      ((s.dev = .ready ∨ s.dev = .idle) → s.lantern.dozeDue = false →
        ∃ t, exec (.commandCompletion l env) s = .next t ∧ (t.lane l).job = none ∧ t.furrows = s.furrows ∧
          t.sources = s.sources ∧ t.dev = s.dev))

/-- WINNOW_RUN marks the runs of the named Furrows due, and with WAIT 1 waits for them (R377). VANE_LOOP_SET writes
TARGET in both banks, or a whole entry into the standby bank (R350). VANE_BANK_SWAP waits for the sample that swaps
(R351). Both end with WRONG_STATE while ENGINE_START runs (R116). SOURCE_SPARE starts the pre-warm of the spare it
names (R360). -/
def Obligations.LoopAndSourceCommands : Prop :=
  (∀ (s : State) (h : ReqHdr) (mask w : Nat), s.Inv → s.servesNow h 0x0503 → mask < 1024 → w ≤ 1 →
    (∀ f ∈ maskBits 10 mask, (s.furrow f).role = 0) →
    ∃ t, exec (.winnowRun h mask 0 (some (w, 0))) s = .next t ∧
      (∀ f ∈ s.winnowNames mask, (t.win f).due = true) ∧ (∀ f, f ∉ s.winnowNames mask → t.win f = s.win f) ∧
      (w = 0 → t.answered h 0x0503 stOk []) ∧
      (w = 1 → t.running h 0x0503 (.winnowRun h mask 0 (some (w, 0)))
        (.winnowWait (((s.winnowNames mask).map fun f => 2 ^ f).sum)))) ∧
  (∀ (s : State) (h : ReqHdr) (n : Nat) (target : Int) (y : LoopX), s.servesNow h 0x0505 →
    firstFailure (loopChecks n 0 y) = none →
    let v := s.vane
    let b := s.accept h
    (b.engineStarting = true → exec (.vaneLoopSet h n 0 target (some y)) s
      = .next (b.failReply h 0x0505 { status := stWrongState })) ∧
    (b.engineStarting = false →
    (y.write = 0 → exec (.vaneLoopSet h n 0 target (some y)) s = .next (({ b with vane := { v with
        bankA := put v.bankA n { entryIn v.bankA n with target := target }
        bankB := put v.bankB n { entryIn v.bankB n with target := target } } } : State).reply h 0x0505 stOk)) ∧
    (y.write = 1 → v.swapPending = false → ∃ t, exec (.vaneLoopSet h n 0 target (some y)) s = .next t ∧
      t.answered h 0x0505 stOk [] ∧ t.vane.active = v.active ∧
      ∀ k, entryIn t.vane.standby k = if k = n then loopEntryOf target y else entryIn v.standby k))) ∧
  (∀ (s : State) (h : ReqHdr), s.servesNow h 0x0506 →
    ((s.accept h).engineStarting = true → exec (.vaneBankSwap h) s
      = .next ((s.accept h).failReply h 0x0506 { status := stWrongState })) ∧
    ((s.accept h).engineStarting = false → (s.accept h).vaneLevel ≠ 0 → exec (.vaneBankSwap h) s
      = .next (({ s.accept h with vane := { s.vane with swapPending := true } } : State).setJob h 0x0506
        (.vaneBankSwap h) .bankSwap))) ∧
  (∀ (s : State) (h : ReqHdr) (a b : Nat), s.servesNow h 0x0507 → a ≤ 19 → b ≤ 19 → (s.source a).role = 0 →
    (s.source b).role = 1 → (∀ e ∈ s.exchanges, e.out ≠ a ∧ e.into ≠ some b) →
    ∃ t, exec (.sourceSpare h a b 0) s = .next t ∧ t.running h 0x0507 (.sourceSpare h a b 0) (.sourceSpare a) ∧
      t.exchanges = s.exchanges ++ [⟨a, some b, 0, false, some h.lane⟩] ∧ (t.source b).warming = true ∧
      (∀ n, n ≠ b → t.source n = s.source n) ∧ t.memory = s.memory)

/-- POWER_STATE from READY enters IDLE or DOZE: the state is reported at once, and the reply waits for the entry
(R392); with DOZE, which waits for a running test (log entry 115), the sources go off and exchanges end (R361).
THERMAL_READ answers 96 bytes, with diodes, thermistors, the broken inputs among the enabled ones (R38), throttle
level, photonic band, state and uptime at their offsets (R401). -/
def Obligations.PowerStateAndThermalRead : Prop :=
  (∀ (s : State) (h : ReqHdr) (k : Nat) (y : PowerX), s.servesNow h 0x0601 → s.jobsHome → s.dev = .ready → s.lantern.entry = none →
    s.lantern.waking = none → (k = 1 ∨ k = 2 ∧ s.testing = false) → firstFailure (s.powerChecks k 0 y) = none →
    ∃ t, exec (.powerState h k 0 (some y)) s = .next t ∧ t.dev = targetState k ∧ t.lantern.entry = some ⟨targetState k⟩ ∧
      t.lantern.sleptFrom = .ready ∧ t.sessions = s.sessions ∧
      t.running h 0x0601 (.powerState h k 0 (some y)) (.powerEntry k y.wakeAfterS y.saveBase y.saveDest y.saveBytes) ∧
      (k = 2 → (∀ x ∈ t.sources, x.locked = false) ∧ t.exchanges = [] ∧ t.lantern.hold = none)) ∧
  (∀ (s : State) (h : ReqHdr), s.servesNow h 0x0602 → ∃ p, exec (.thermalRead h) s = .next ((s.accept h).reply h 0x0602 stOk p) ∧
    p.length = 96 ∧ (∀ n, n < 32 → fieldAt p (2 * n) 2 = s.diodeTemp n % 2 ^ 16) ∧
    (∀ n, n < 8 → fieldAt p (64 + 2 * n) 2 = s.thermTemp n % 2 ^ 16) ∧
    fieldAt p 84 1 = maskOf ((List.range 8).filter fun n => s.thermOn n && (s.therm n).broken.isSome) ∧ fieldAt p 85 1 = s.lantern.throttle % 256 ∧
    fieldAt p 88 1 = s.lantern.pBand % 256 ∧ fieldAt p 89 1 = s.dev.code ∧ fieldAt p 92 4 = s.uptime % 2 ^ 32)

/-! ### Security and diagnostics (19, 20) -/

/-- The load of a firmware image (R423, R424, R426): FW_LOAD_BEGIN empties it, FW_LOAD_DATA writes its bytes at their
offset, FW_LOAD_END checks it. An image that fails is discarded and BOOT stays as it is, its fuses too (R110); one
that passes starts: CONFIG, memory zero and trained (R111). A FW_LOAD_END that finds the device out of BOOT ends with
a failure and starts nothing (R107, log entry 82). The fused key hashes are opaque, so that no concrete image is known
to pass. -/
def Obligations.FirmwareLoads : Prop :=
  (∀ (s : State) (h : ReqHdr) (n : Nat), s.servesNow h 0x0801 → (s.accept h).fwLoading = false → 4384 ≤ n → n ≤ 16777504 →
    exec (.fwLoadBegin h n 0) s
      = .next (({ s.accept h with hasp := { s.hasp with load := some ⟨n, []⟩ } } : State).reply h 0x0801 stOk)) ∧
  (∀ (s : State) (h : ReqHdr) (l : Load) (o : Nat) (d : List Byte), s.servesNow h 0x0802 → (s.accept h).fwLoading = false →
    s.hasp.load = some l → d ≠ [] → d.length ≤ 8960 → o + d.length ≤ l.total →
    exec (.fwLoadData h o d) s = .next (({ s.accept h with
        hasp := { s.hasp with load := some ⟨l.total, loadBytes l.bytes o d⟩ } } : State).reply h 0x0802 stOk) ∧
      ∀ a, look (loadBytes l.bytes o d) a = if o ≤ a ∧ a < o + d.length then d[a - o]? else look l.bytes a) ∧
  (∀ (s : State) (h : ReqHdr), s.servesNow h 0x0803 → (s.accept h).fwLoading = false → s.hasp.load ≠ none →
    exec (.fwLoadEnd h) s = .next ((s.accept h).setJob h 0x0803 (.fwLoadEnd h) .fwLoadEnd)) ∧
  (∀ (s : State) (l : Nat) (j : Job) (env : Env) (x : Load), s.lanes.length = 16 → l < 16 → (s.lane l).job = some j →
    j.hdr.lane = l → j.kind = .fwLoadEnd → s.hasp.load = some x →
    (s.dev ≠ .boot → exec (.commandCompletion l env) s
      = .next (s.failReply j.hdr j.opcode (s.lantern.fault.getD { status := stWrongState }))) ∧
    (s.dev = .boot → ∃ t, exec (.commandCompletion l env) s = .next t ∧ (t.lane l).job = none ∧ t.hasp.load = none ∧
      (imageFailure s.hasp.svnBits s.hasp.revoked x ≠ none → t.dev = s.dev ∧ t.hasp = { s.hasp with load := none } ∧
        t.memory = s.memory) ∧
      (imageFailure s.hasp.svnBits s.hasp.revoked x = none → t.dev = .config ∧ t.hasp.running = true ∧
        t.memory.trained = true ∧ (∀ a, t.byteAt a = 0) ∧
        t.hasp.measurement = sha384 ((x.bytes.map fun b => b.2).take 192))))

/-- The reports (R427 to R429, R436, R439, R440, R442): ATTEST signs the report of its start and counts it; CERT_READ,
LEDGER_READ, EVENTS_READ and COUNTERS_READ answer what they list; LEDGER_CLEAR erases the records numbered below
UP_TO. -/
def Obligations.ReportsAnswer : Prop :=
  ∀ (s : State) (h : ReqHdr), let b := s.accept h
    (s.servesNow h 0x0804 → ∀ nonce, nonce.length = 32 → s.hasp.measurement.length = 48 →
      let r := b.reportHead nonce
      let g := ecdsaSign Config.identityKey.toNat (sha384 r)
      r.length = 224 ∧ exec (.attest h nonce) s = .next ((({ b with
        hasp := { b.hasp with reportSeq := (b.hasp.reportSeq + 1) % 2 ^ 32 } } : State).bump (aHasp 0x74)).reply h 0x0804 stOk
          (r ++ be 48 g.1 ++ be 48 g.2))) ∧
    (s.servesNow h 0x0805 → exec (.certRead h) s = .next (b.reply h 0x0805 stOk (be 2 2 ++ be 2 0
      ++ be 2 (Config.cert 0).length ++ Config.cert 0 ++ be 2 (Config.cert 1).length ++ Config.cert 1))) ∧
    (s.servesNow h 0x0901 → ∀ first n, 1 ≤ n → n ≤ 128 → (∀ e ∈ s.ledger.entries, e.torn = none) →
      let l := s.ledger
      let picked := (l.entries.filter fun e => first ≤ e.record.ledgerSeq).take n
      ∃ t, exec (.ledgerRead h first n 0) s = .next t ∧ t.ledger = l ∧ t.answered h 0x0901 stOk (be 4 l.oldest
        ++ be 4 l.nextSeq ++ be 4 l.bootCount ++ be 2 picked.length ++ be 2 0 ++ picked.flatMap fun e => e.record.bytes)) ∧
    (s.servesNow h 0x0902 → ∀ u, u ≠ 0 → ∃ t, exec (.ledgerClear h u) s = .next t ∧
      t.running h 0x0902 (.ledgerClear h u) (.finish stOk []) ∧ t.ledger = { s.ledger with
        entries := s.ledger.entries.filter fun e => decide (u ≠ 0xFFFFFFFF) && decide (u ≤ e.record.ledgerSeq) }) ∧
    (s.servesNow h 0x0903 → ∀ n, n ≤ 6 →
      exec (.countersRead h n 0 0) s = .next (b.reply h 0x0903 stOk (b.counterBytes n)) ∧
      (1 ≤ n → exec (.countersRead h n 1 0) s = .next ((b.clearSet n).reply h 0x0903 stOk (b.counterBytes n))) ∧
      (s.Inv → ∀ f o, f < 10 → o ∈ classOffsets → (b.clearSet 1).ctr (aFurrow f o) = 0)) ∧
    (s.servesNow h 0x0904 → ∀ first n, 1 ≤ n → n ≤ 128 →
      let picked := (s.events.ring.filter fun r => decide (first ≤ r.eventSeq)).take n
      exec (.eventsRead h first n 0) s = .next (b.reply h 0x0904 stOk (be 4 s.events.oldest ++ be 4 s.events.next
        ++ be 4 (s.reg (aWalong 0x128)) ++ be 2 picked.length ++ be 2 0 ++ picked.flatMap Record.bytes)))

/-! ### The port and the endpoint (03) -/

/-- A frame with a wrong check sequence is counted in RX_FCS and changes nothing else; a good PAUSE or PFC frame is
counted, any other MAC control frame and one outside the MAC filter are filtered, an ARP request for an own address is
answered (R42 to R45, R48). ARP requests, neighbour solicitations and echo requests are answered for own addresses,
echoes up to 1,000 in a second. -/
def Obligations.ReceivedFrames : Prop :=
  (∀ (s : State) (f : List Byte), s.portUp = true → 64 ≤ f.length → f.length ≤ 9216 →
    let good := (crc32 (f.take (f.length - 4))).toNat = ofLe (f.drop (f.length - 4))
    (¬ good → exec (.ethernetFrameReceive f) s = .next (s.bump (aWalong 0x100))) ∧
    (good → fieldAt f 12 2 = 0x8808 → exec (.ethernetFrameReceive f) s
      = .next (s.bump (if fieldAt f 14 2 = 0x0001 ∨ fieldAt f 14 2 = 0x0101 then aWalong 0x124 else aWalong 0x104))) ∧
    (good → fieldAt f 12 2 ≠ 0x8808 → fieldAt f 12 2 ≠ 0x8100 → s.macAccepts (fieldAt f 0 6) (fieldAt f 12 2) = false →
      exec (.ethernetFrameReceive f) s = .next (s.bump (aWalong 0x104))) ∧
    (good → fieldAt f 0 6 = 0xFFFFFFFFFFFF → fieldAt f 12 2 = 0x0806 → bitOf (s.reg (aWalong 0x18)) 16 = false →
      fieldAt f 20 2 = 1 → s.own4.contains (fieldAt f 38 4) = true →
      exec (.ethernetFrameReceive f) s = .next (s.send (.arpReply (fieldAt f 38 4) (fieldAt f 28 4) (fieldAt f 22 6))))) ∧
  (∀ s : State, s.portUp = true → exec .pauseFrameReceive s = .next (s.bump (aWalong 0x124))) ∧
  (∀ (s : State) (ip sip mac : Nat), s.portUp = true →
    exec (.arpRequestReceive ip sip mac) s = .next (if s.own4.contains ip then s.send (.arpReply ip sip mac) else s) ∧
    exec (.ndSolicitationReceive ip sip mac) s = .next (if s.own6.contains ip then
      s.send (if sip = 0 then .neighbourAdvert ip allNodes allNodesMac else .neighbourAdvert ip sip mac) else s)) ∧
  (∀ (s : State) (src : NetAddr) (dst i q : Nat) (d : List Byte), s.portUp = true → bitOf (s.reg (aWalong 4)) 0 = true →
    d.length ≤ 1024 → (if src.v6 then s.own6 else s.own4).contains dst = true →
    let n := if s.net.echoSecond = s.uptime / 1000 then s.net.echoCount else 0
    exec (.icmpEchoRequest src dst i q d) s = .next (if n < 1000 then
      ({ s with net := { s.net with echoSecond := s.uptime / 1000, echoCount := n + 1 } } : State).send (.echoReply src dst i q d)
      else s))

/-- A Walong packet of a good header (R54, R55, R57): its ACKNOWLEDGE is taken, then the next request of its lane is
queued and E raised, and a duplicate's retained reply is sent again to where the duplicate came from (R58, R59, R61).
A packet with a wrong CRC is only counted. ACK_DELAY sends an ACK_ONLY for a running command (R62). -/
def Obligations.WalongIntake : Prop :=
  (∀ (s : State) (src : NetAddr) (p : List Byte), s.portUp = true → 32 ≤ p.length → p.length ≤ 9000 →
    fieldAt p 0 2 = 0x574C → fieldAt p 2 1 = 1 → 32 + fieldAt p 6 2 = p.length →
    let good := (crc32c (p.take 28 ++ [0, 0, 0, 0] ++ p.drop 32)).toNat = fieldAt p 28 4
    (¬ good → exec (.walongPacketReceive src p) s = .next (s.bump (aWalong 0x10C))) ∧
    (good → fieldAt p 3 1 = 0 → fieldAt p 5 1 = 0 → fieldAt p 18 2 = 0 → fieldAt p 24 4 = 0 → s.lanes.length = 16 →
      ∀ l, l = fieldAt p 4 1 → l < 16 → fieldAt p 16 2 ≠ 1 → fieldAt p 16 2 ≠ 2 →
      opcodeKnown (fieldAt p 16 2 % 0x8000) (bitOf (fieldAt p 16 2) 15) = true →
      let a := s.processAck l (fieldAt p 12 4)
      let h : ReqHdr := ⟨l, fieldAt p 8 4, fieldAt p 20 4, bitOf (fieldAt p 16 2) 15, src⟩
      (fieldAt p 8 4 = (s.lane l).e → seqDiff (a.lane l).e (a.lane l).b < 256 →
        exec (.walongPacketReceive src p) s = .next (a.setLane l { a.lane l with
          e := ((s.lane l).e + 1) % 2 ^ 32
          queue := (s.lane l).queue ++ [⟨h, fieldAt p 16 2 % 0x8000, p.drop 32, none⟩] })) ∧
      (∀ r, seqDiff (fieldAt p 8 4) (a.lane l).b < seqDiff (a.lane l).e (a.lane l).b →
        (a.lane l).replies.find? (fun r => r.hdr.seq = fieldAt p 8 4) = some r →
        exec (.walongPacketReceive src p) s
          = .next ((a.bump (aWalong 0x110)).sendReply { r with hdr := { r.hdr with src := src } })))) ∧
  (∀ (s : State) (l : Nat) (j : Job), (s.lane l).job = some j →
    seqDiff j.hdr.seq (s.lane l).b < seqDiff (s.lane l).e (s.lane l).b →
    exec (.ackDelayExpiry l j.hdr.seq) s = .next (s.sendAckOnly j.hdr.src l j.hdr.seq j.hdr.tag))

/-- The address timers (R50): a probe interval sends the next of three probes, then takes the address, and a conflict
sets its DUP bit instead (its third interval is log entry 7); duplicate address detection takes an address or sets its
bit. A retry asks again three times, then drops the event that waits for the address (R49, R66); an EVENT packet
leaves for a known address, or is dropped while the destination is off (R65, R66). What the cache learns stays in it
(R49). LINK_UP raises one record, LINK_DOWN keeps the lanes (R53), and an aged entry is gone. -/
def Obligations.AddressesLinkAndEvents : Prop :=
  (∀ (s : State) (n : Nat), s.net.arpProbes = some n →
    (∃ t, exec (.arpProbeTimer true) s = .next t ∧ t.net = { s.net with arpProbes := none, ll4Ok := false } ∧
      t = (({ s with net := t.net } : State).setFld (aWalong 8) 2 1 1)) ∧
    (n < 3 → exec (.arpProbeTimer false) s
      = .next (({ s with net := { s.net with arpProbes := some (n + 1) } } : State).send (.arpProbe linkLocal4))) ∧
    (3 ≤ n → ∃ t, exec (.arpProbeTimer false) s = .next t ∧ t.net = { s.net with arpProbes := none, ll4Ok := true })) ∧
  (∀ (s : State) (c : Bool), s.dev.column ≠ none →
    (∃ t, exec (.dadComplete .ipv6ll c) s = .next t ∧ t.net = { s.net with ll6Ok := !c, dadLl := false } ∧
      t = ({ s with net := t.net } : State).setFld (aWalong 8) 1 1 (b2n c)) ∧
    (∃ t, exec (.dadComplete .ipv4ll c) s = .next t ∧ t.net = { s.net with ll4Ok := !c, arpProbes := none } ∧
      t = ({ s with net := t.net } : State).setFld (aWalong 8) 2 1 (b2n c)) ∧
    (∃ t, exec (.dadComplete .ipv6 c) s = .next t ∧ t.net = { s.net with ip6Ok := !c, dad6 := false } ∧
      t = ({ s with net := t.net } : State).setFld (aWalong 8) 3 1 (b2n c)) ∧
    (∃ t, exec (.dadComplete .ipv4 c) s = .next t ∧ t.net = { s.net with ip4Ok := !c } ∧
      t = ({ s with net := t.net } : State).setFld (aWalong 8) 4 1 (b2n c))) ∧
  (∀ (s : State) (r : Resolution), s.net.resolution = some r →
    (r.tries < 3 → ∃ t, exec .addressResolutionRetry s = .next t ∧ t.net.resolution = some ⟨r.ip, r.tries + 1, r.event⟩ ∧
      t.events = s.events) ∧
    (3 ≤ r.tries → ∃ t, exec .addressResolutionRetry s = .next t ∧ t.net.resolution = none ∧
      t.events.unsent = (if (s.events.unsent.head?.map fun e => e.eventSeq) = some r.event then s.events.unsent.drop 1
        else s.events.unsent)) ∧
    ∀ mac, look (s.learn r.ip mac).net.cache r.ip = some mac ∧ (s.learn r.ip mac).net.resolution = none ∧
      (s.net.cache.length ≤ 64 → (s.learn r.ip mac).net.cache.length ≤ 64)) ∧
  (∀ (s : State) (r : Record) (rest : List Record), s.events.unsent = r :: rest →
    (bitOf (s.reg (aWalong 0x60)) 17 = false →
      exec .eventPacketSend s = .next (({ s with
        events := { s.events with unsent := rest }, net := { s.net with resolution := none } } : State).bump (aWalong 0x128))) ∧
    (∀ hop mac, bitOf (s.reg (aWalong 0x60)) 17 = true → s.fld (aWalong 0x60) 0 16 ≠ 0 → s.portUp = true →
      s.eventHop = some hop → look s.net.cache hop = some mac → ∃ t k, exec .eventPacketSend s = .next t ∧
      t.events = { s.events with unsent := rest } ∧ t.net = { s.net with sent := s.net.sent ++ [⟨s.vlanTag, .walong k⟩] } ∧
      k.payload = r.bytes ∧ k.seq = r.eventSeq ∧ k.dst.mac = mac ∧ k.flags = 4)) ∧
  (∀ s : State, s.dev.column ≠ none → s.net.link = false → ∃ t, exec .linkUp s = .next t ∧ t.net.link = true ∧
    t.lastEvent 1 0 ∧ t.lanes = s.lanes) ∧
  (∀ s : State, exec .linkDown s = .next { s with net := { s.net with link := false } }) ∧
  (∀ (s : State) (ip : Nat), risingFrom none s.net.cache = true → ∃ t, exec (.resolutionCacheAgeing ip) s = .next t ∧
    look t.net.cache ip = none ∧ (∀ k, k ≠ ip → look t.net.cache k = look s.net.cache k) ∧
    t = { s with net := { s.net with cache := t.net.cache } })

/-! ### Supply, pins and reset (02, 05, 17) -/

/-- A soft reset, RESET_N and the firmware watchdog reset every domain but the Lantern, which holds the device in
LANTERN, and leave a record (R31, R106, R108). HWSD_N enters SHUTDOWN (R32). Released pins lead on: RESET_N stays in
LANTERN for BOOT, HWSD_N leaves SHUTDOWN (R28, R33), and the main rails are powered from there on (R455). -/
def Obligations.ResetsKeepTheLantern : Prop :=
  (∀ s : State, s.dev.column ≠ none → s.ledger.writing = none →
    let back (t : State) (kind detail : Nat) : Prop := t.dev = .lantern ∧ s.wiped t ∧
      ∃ r ∈ t.ledger.waiting, r.kind = kind ∧ r.detail = detail
    (∃ t, exec .softReset s = .next t ∧ back t 2 1) ∧
    (s.lantern.resetN ≠ some false → ∃ t, exec .resetNAsserted s = .next t ∧ back t 2 0 ∧ t.lantern.resetN = some false) ∧
    (s.dev ≠ .boot → s.hasp.running = true → ∃ t, exec .fwWatchdog s = .next t ∧ back t 3 0 ∧ t.lantern.latch = true) ∧
    (s.lantern.hwsdN ≠ some false → ∃ t, exec .hwShutdown s = .next t ∧ t.dev = .shutdown ∧ s.wiped t ∧
      t.lantern.hwsdN = some false ∧ t.lantern.shutCause = some .hwsd ∧ t.lantern.railsUp = false ∧
      ∃ r ∈ t.ledger.waiting, r.kind = 5)) ∧
  (∀ s : State, s.dev = .lantern → s.lantern.resetN = some false →
    exec .resetNReleased s = .next { s with lantern := { s.lantern with
      resetN := some true, railsUp := s.lantern.railsUp || decide (s.lantern.hwsdN = some true) } }) ∧
  (∀ s : State, s.dev = .shutdown → s.lantern.hwsdN = some false → s.lantern.supplyOk = true →
    s.lantern.resetN = some true → s.lantern.internalHwsd = false → s.ledger.writing = none →
    ∃ t, exec .hwsdNReleased s = .next t ∧ t.dev = .lantern ∧ t.lantern.hwsdN = some true ∧ t.lantern.railsUp = true ∧
      t.ledger = s.ledger)

/-- From OFF a start condition, above 40.0 V, and a stable crystal lead to LANTERN with the uptime at 0 and no pin
confirmed (R26, R30, R402), and BOOT_ENTRY to BOOT with every register at its after-power-up value, BOOT_COUNT raised
and what the Lantern watches kept (R5, R31, R109, R437). POWER_LOSS, below 35.0 V, enters SHUTDOWN and names the
magnitude in its record (R26, R27); LANTERN_OFF keeps the Ledger and the fuses (R26, R438). -/
def Obligations.PowerUpAndPowerLoss : Prop :=
  (∀ s : State, s.dev = .off → ∃ t, exec .startConditionConfirmed s = .next t ∧ t.lantern.supplyOk = true ∧
    volts 40 < t.lantern.rail ∧ t = { s with lantern := t.lantern, free := t.free }) ∧
  (∀ s : State, s.dev = .off → s.lantern.supplyOk = true → ∃ t, exec .crystalStable s = .next t ∧ t.dev = .lantern ∧
    t.clocks = {} ∧ t.lantern.resetN = none ∧ t.lantern.hwsdN = none ∧ t.lantern.railsUp = false ∧
    t.ledger = s.ledger ∧ t.hasp = s.hasp) ∧
  (∀ s : State, s.dev = .lantern → s.lantern.resetN = some true → s.lantern.hwsdN = some true →
    s.lantern.internalHwsd = false → ∃ t, exec .bootEntry s = .next t ∧ t.dev = .boot ∧ s.wiped t ∧
    (∀ a, t.reg a = resetWord a) ∧ t.ledger.bootCount = (s.ledger.bootCount + 1) % 2 ^ 32 ∧ t.lantern.railsUp = true ∧
    t.lantern.critical = s.lantern.critical ∧ t.lantern.shutTimes = s.lantern.shutTimes) ∧
  (∀ (s : State) (m : Nat), volts 35 ≤ m → exec (.powerLoss m) s = .next s) ∧
  (∀ (s : State) (m : Nat), s.dev ≠ .off → m < volts 35 → ∃ t, exec (.powerLoss m) s = .next t ∧ t.dev = .shutdown ∧
    (s.supplyRead m).wiped t ∧ t.lantern.rail = m ∧
    t.lantern.supplyOk = false ∧ t.lantern.shutCause = some .supply ∧
    ∃ r ∈ t.ledger.waiting, r.kind = 4 ∧ r.detail % 65536 = m % 65536) ∧
  (∀ s : State, s.dev ≠ .off → s.ledger.writing = none → ∃ t, exec .lanternOff s = .next t ∧ t.dev = .off ∧
    t.ledger.entries = s.ledger.entries ∧ t.ledger.nextSeq = s.ledger.nextSeq ∧ t.ledger.bootCount = s.ledger.bootCount ∧
    t.ledger.waiting = [] ∧ t.sessions = [] ∧
    (s.fwLoading = false → t.hasp.svnBits = s.hasp.svnBits ∧ t.hasp.revoked = s.hasp.revoked))

/-- A supply warning, below 39.0 V, holds dispatch in READY, RUN and IDLE, and its restore above 40.0 V ends it (R26,
R396, R397); without a restore every step that has no status yet ends with SUPPLY_FAULT, and the device enters DOZE
once none runs (R398). The host watchdog disarms itself and ends the steps with CANCELLED, with ACTION 1 on the way to
DOZE (R103), for which a running test is waited for (log entry 115). -/
def Obligations.SupplyAndWatchdogEvents : Prop :=
  (∀ (s : State) (m : Nat), s.lantern.warn = false → m < volts 39 → (s.dev = .ready ∨ s.dev = .run ∨ s.dev = .idle) →
    ∃ t, exec (.supplyHold m) s = .next t ∧ t.dev = s.dev ∧ t.lantern.warn = true ∧
      t.lantern.hold = some s.clocks.tick ∧ t.lastEvent 0x50 (m % 65536) ∧ t.steps = s.steps ∧ t.lanes = s.lanes) ∧
  (∀ s : State, s.lantern.warn = true → ∃ t, exec .supplyRestore s = .next t ∧ t.dev = s.dev ∧ t.lantern.warn = false ∧
    t.lantern.hold = none ∧ t.lanes = s.lanes ∧ volts 40 < t.lantern.rail ∧
    (s.lantern.hold = none → t = { s with lantern := t.lantern, vane := t.vane, free := t.free })) ∧
  (∀ (s : State) (m : Nat), s.lantern.warn = true → s.lantern.hold ≠ none →
    ∃ t, exec (.supplyFault m) s = .next t ∧ t.lantern.hold = none ∧
      (s.steps = [] → (s.dev = .ready ∨ s.dev = .idle) → s.jobsHome → t.dev = .doze ∧ t.lantern.entry = some ⟨.doze⟩) ∧
      (s.steps ≠ [] → t.dev = s.dev ∧ t.lantern.dozeDue = true ∧ ∀ x, s.stepOf x.lane = some x → x.failure = none → x.teardown = false →
        t.fails x.lane { status := stSupplyFault } x.cur)) ∧
  (∀ s : State, s.watchdog.armedAt ≠ none → (s.dev = .ready ∨ s.dev = .run ∨ s.dev = .idle) →
    ∃ t, exec .hostWatchdogExpiry s = .next t ∧ t.watchdog = { s.watchdog with armedAt := none } ∧
      (s.watchdog.action = 1 → s.steps = [] → s.dev ≠ .run → s.testing = false → t.dev = .doze) ∧
      (s.steps ≠ [] → t.dev = s.dev ∧ t.lantern.dozeDue = (s.lantern.dozeDue || decide (s.watchdog.action = 1)) ∧
        ∀ x, s.stepOf x.lane = some x → x.failure = none → x.teardown = false →
          t.fails x.lane { status := stCancelled, detail := 0xFFFFFFFF } x.cur) ∧
      t.lantern.latch = true)

/-! ### Running steps (07 to 13) -/

/-- RECORD_DISPATCH gives the next record to its engine, or passes it where its condition is false (R311, R315); DEP
goes on once its record is complete, and after GATE_LIMIT_MS aborts (R313). A GATE or END that is left alone opens or
names what it waits for (R314), and stays closed while the throttle holds it or a part inserted there settles (R187,
R386); ROUTE sets the groups of the active slots (R182, R301); COPY is taken up in program order (R198). -/
def Obligations.DispatchAndGates : Prop :=
  (∀ (s : State) (lane : Nat) (t : Step) (op : PRec) (ds : List Desc) (c : Bool), s.stepOf lane = some t → s.works t = true →
    t.restore = [] → t.atGate = false → s.readRec t t.next = .ok op ds → (∀ r, op ≠ .dep r) → s.dispatchHeld t op = false →
    t.condHolds op.cond = some c →
    let b := s.atRecord lane
    let u := if c then b.dispatch t op else b.modStep lane fun x => { x.leaveGate s.clocks.tick with next := x.next + op.size }
    exec (.recordDispatch lane) s = .next u.settle ∧ u = { s with steps := u.steps } ∧
      (u.stepOf lane).map (fun x => (x.cur, x.next)) = some (t.next, t.next + op.size) ∧
      (c = true → ∃ v, (u.stepOf lane).map (fun x => x.live) = some (t.live ++ [v]) ∧ v.idx = t.next ∧ v.op = op)) ∧
  (∀ (s : State) (lane : Nat) (t : Step) (r : DepR) (ds : List Desc), s.stepOf lane = some t → s.works t = true → t.restore = [] →
    t.atGate = false → s.readRec t t.next = .ok (.dep r) ds →
    (s.dispatchHeld t (.dep r) = false → t.isDone r.after = true → exec (.dep lane t.next) s
      = .next ((((s.atRecord lane).modStep lane fun x => { x.leaveGate s.clocks.tick with next := x.next + 1 }).matchSpec lane).settle)) ∧
    (t.isDone r.after = false → exec (.dep lane t.next) s = .next (s.atRecord lane)) ∧
    (s.lantern.hold = none → t.cur = t.next → ∀ v, t.liveAt r.after = some v →
      let f := gateTimeoutFailure t.next (s.engineOf t v)
      exec (.depTimeout lane) s = .next (s.abortStep lane f t.next) ∧ (s.abortStep lane f t.next).fails lane f t.next)) ∧
  (∀ (s : State) (lane : Nat) (t : Step) (v : Live), s.stepOf lane = some t → s.works t = true →
    (∀ hold, v.op = .gate hold → s.gateReady t = some v →
      let a := s.armGate t
      let g := a.modStep lane fun x => x.openGate v.idx a.clocks.tick
      (a.gateOpens lane = false → exec (.gateOpen lane) s = .next a) ∧
      (a.gateOpens lane = true → exec (.gateOpen lane) s
        = .next (if hold = false ∧ g.outranked t = true then g.yieldEngines t else g).settle) ∧
      (s.exchanges = [] → s.lantern.throttle = 0 → t.gateAt = none → s.reaper.switchAt ≤ t.since → a.gateOpens lane = true)) ∧
    (t.live.find? (fun w => w.op.kind = 6 || w.op.kind = 10) = some v → s.lantern.hold = none →
      let engines := (t.live.filter fun w => w.idx ≠ v.idx).map (s.engineOf t)
        ++ (if v.op.kind = 10 ∧ !t.fetches.isEmpty then [(0x02, 0)] else [])
      (engines ≠ [] ∨ (t.gateAt ≠ none ∧ s.inserting t = true)) →
      let f := gateTimeoutFailure v.idx (firstEngine engines)
      exec (.gateTimeout lane) s = .next (s.abortStep lane f v.idx) ∧ (s.abortStep lane f v.idx).fails lane f v.idx) ∧
    (∀ tokens, v.op = .fin tokens → s.gateReady t = some v → let a := s.armGate t
      exec (.endRecord lane) s = .next (if a.gateOpens lane = true then a.finishStep t v.idx tokens else a)) ∧
    (∀ gs, v.op = .route gs → t.liveAt v.idx = some v → (∀ w ∈ t.live, v.idx ≤ w.idx) → ∃ w : State,
      let new := s.newRoute t.route gs
      exec (.route lane v.idx) s = .next (w.modStep lane fun x => { x.complete v.idx with route := new }).settle ∧
        w = { s with regs := w.regs, ctrs := w.ctrs, furrows := w.furrows } ∧ (t.route = new → w = s)) ∧
    (v.op.kind = 8 → t.liveAt v.idx = some v → v.started = false → t.reaperBehind v.idx = false → s.lantern.hold = none →
      exec (.copy lane v.idx) s
        = .next ((s.ensureFetch t v.idx).modStep lane fun x => x.modLive v.idx fun w => { w with started := true }).settle))

/-- An END that opens with COMMIT_MODE 1 ends its step: the reply leaves, the sessions hold what was staged, the
engines are given up, and the device is in READY (R95, R286, R310, R316). -/
def Obligations.EndCompletesTheStep : Prop :=
  ∀ (s : State) (t : Step) (v : Live) (tokens : Nat) (j : Job), s.Inv → s.jobsHome → s.quiet → s.steps = [t] → t.lane < 16 →
    s.dev = .run → (s.lane t.lane).job = some j → s.lantern.dozeDue = false → s.exchanges = [] → t.commitMode = 1 →
    s.gateReady t = some v → (s.armGate t).gateOpens t.lane = true → v.op = .fin tokens →
    ∃ e, exec (.endRecord t.lane) s = .next e ∧ e.steps = [] ∧ e.dev = .ready ∧ (e.lane t.lane).job = none ∧
      (seqDiff j.hdr.seq (s.lane t.lane).b < seqDiff (s.lane t.lane).e (s.lane t.lane).b →
        ∃ r ∈ (e.lane t.lane).replies, r.hdr = j.hdr ∧ r.status = stOk ∧ r.payload = s.stepReply t tokens) ∧
      e.reaper.holder = none ∧ e.memory = s.memory ∧
      (∀ n x, n ∈ t.sessions → s.session n = some x → e.session n = some { x with held := some ⟨t.stageOf n, t.width n⟩ }) ∧
      ∀ n, n ∉ t.sessions → e.session n = s.session n

/-- BAY_LOAD_COMPLETE puts the tile into its bay, and LOAD_NS shows the time that its load took (R156, R384).
PASS_START of a pass whose tile is lit begins it with the current decision set; a swap that brings no light aborts
with STALL_TIMEOUT (R159, R162, R174). MCAST_CREDIT moves the next row chunk into every member's buffer once all give
credit (R192); a member that withholds it too long aborts, unless every one that does waits for a lock (R194), or a
stall timer runs out too (R195); a stall timer that has run out aborts with the class of its last symbol (R173). -/
def Obligations.LoadsPassesAndTimeouts : Prop :=
  (∀ (s : State) (f : Nat) (b : BayFill), s.furrows.length = 10 → f < 10 → (s.furrow f).fill = some b →
    ∃ u : State, exec (.bayLoadComplete f) s = .next u.settle ∧ u.furrow f
        = { s.furrow f with fill := none, bayA := if b.intoB then (s.furrow f).bayA else some b.tile,
                            bayB := if b.intoB then some b.tile else (s.furrow f).bayB } ∧
      (s.Inv → u.reg (aFurrow f 0x20) = b.ns % 2 ^ 32) ∧
      (∀ g, g ≠ f → u.furrow g = s.furrow g) ∧ u = { s with furrows := u.furrows, regs := u.regs, steps := u.steps }) ∧
  (∀ (s : State) (f : Nat) (p : Pass) (t : Step) (b light : Bool), s.furrows.length = 10 → f < 10 →
    (s.furrow f).nextPass = some p → s.stepOf p.lane = some t → (s.furrow f).bayOf t.order p.tile = some b →
    s.works t = true → (s.furrow f).unlocked = false → (s.furrow f).replays = [] → s.lantern.hold = none →
    let swap := (s.furrow f).fresh || decide (b ≠ (s.furrow f).litB)
    (swap = false → ∃ u, exec (.passStart f light) s = .next u ∧ u = { s with furrows := u.furrows } ∧
      (u.furrow f).passOf p.lane p.record = ((s.furrow f).passOf p.lane p.record).map fun q =>
        { q with started := true, fits := (s.win f).current }) ∧
    (swap = true → light = false → ∃ u, exec (.passStart f light) s = .next u ∧ u = { s with regs := u.regs, steps := u.steps } ∧
      u.fails p.lane { status := stStallTimeout, block := 0x10, inst := f, cause := 1, detail := t.cur } t.cur) ∧
    (swap = true → light = true → ∃ u, exec (.passStart f light) s = .next u ∧ (u.furrow f).litB = b ∧
      (u.furrow f).fresh = false ∧ ∀ g, g ≠ f → u.furrow g = s.furrow g)) ∧
  (∀ (s : State) (lane rec : Nat) (t : Step) (r : StreamR), s.furrows.length = 10 → s.stepOf lane = some t → s.works t = true →
    t.runningStream rec = some r → 2 ≤ (s.passesOf lane rec).length →
    (∃ u, exec (.mcastCredit lane rec r.slot) s = .next u ∧ u = { s with furrows := u.furrows, steps := u.steps } ∧
      let k := (((s.passesOf lane rec).map fun m => m.2.fed).max?).getD 0
      (∀ f, t.fetchOf rec = some f → f.chunkAt k 0 0 ≠ .wait → k < f.code.2.2 →
        (s.passesOf lane rec).all (fun m => s.givesCredit t.order lane rec m.1) = true →
        ∀ m ∈ s.passesOf lane rec, ((u.furrow m.1).passOf lane rec).map (fun p => p.fed) = some (k + 1))) ∧
    ((∀ m ∈ s.passesOf lane rec, (s.furrow m.1).withheld = none ∨ s.stallClass m.1 = 4) →
      exec (.mcastTimeout lane rec r.slot) s = .next s) ∧
    (∀ f, s.lantern.hold = none → s.slowMember ((s.passesOf lane rec).map fun m => m.1) = some f →
      (∃ m ∈ s.passesOf lane rec, (s.furrow m.1).withheld ≠ none ∧ s.stallClass m.1 ≠ 4) →
      ∃ u, exec (.mcastTimeout lane rec r.slot) s = .next u ∧ u = { s with regs := u.regs, steps := u.steps } ∧
        (s.activeFurrows.find? (s.stallDue t) = none →
          u.fails lane { status := stMcastTimeout, block := 0x10, inst := f } rec) ∧
        ∀ g, s.activeFurrows.find? (s.stallDue t) = some g → u.fails lane
          { status := stStallTimeout, block := 0x10, inst := g, cause := (s.furrow g).cause, detail := t.cur } t.cur)) ∧
  (∀ (s : State) (lane f cause : Nat) (t : Step), s.reaper.holder = some lane → s.stepOf lane = some t → s.works t = true →
    (s.stallDue t f = true → (s.furrow f).cause = cause →
      ∃ u, exec (.stallTimeout f cause) s = .next u ∧ u = { s with regs := u.regs, steps := u.steps } ∧
        u.fails lane { status := stStallTimeout, block := 0x10, inst := f, cause := cause, detail := t.cur } t.cur) ∧
    (s.stallDue t f = false → exec (.stallTimeout f cause) s = .next s))

/-- BAY_LOAD begins a load on a slot that can take one, into the older bay, and waits where none can (R155 to R158,
R311); a STREAM is taken up in program order with a pass on every member, once its index lists have been read (R184,
R297, R311); its next row chunk goes to every member that can take it (R179, R180, R192), and one whose block
sequences differ aborts (R189). -/
def Obligations.StreamsAndRowChunks : Prop :=
  (∀ (s : State) (lane rec : Nat) (t : Step) (v : Live) (r : BayLoadR), s.stepOf lane = some t → s.works t = true →
    t.restore = [] → t.liveAt rec = some v → v.op = .bayLoad r → s.lantern.hold = none →
    ∃ u, exec (.bayLoad lane rec) s = .next u ∧ s.onlyEngines u ∧
      (s.loadSlots t rec v.todo = [] → u = s) ∧ u.memory = s.memory ∧
      (∀ slot f, s.loadSlots t rec v.todo = [(slot, f)] → s.memory.badParity = [] → f < 10 → s.furrows.length = 10 →
        ∃ tile, u.furrow f = { s.furrow f with
            fill := some ⟨(s.furrow f).olderB, tile, s.loadNs f⟩, rot := ((s.furrow f).rot + 1) % 2 ^ 24, loads := (s.furrow f).loads + 1 } ∧
          tile.record = rec ∧ tile.part = r.part)) ∧
  (∀ (s : State) (lane rec : Nat) (t : Step) (v : Live) (r : StreamR) (f : Fetch), s.stepOf lane = some t → s.works t = true →
    t.restore = [] → t.liveAt rec = some v → v.op = .stream r → v.started = false → s.lantern.hold = none →
    (∀ w ∈ t.live, w.idx < rec → w.op.kind ≠ 9 ∧ ((w.op.kind = 2 ∨ w.op.kind = 8) → w.started = true)) →
    let b := (s.ensureFetch t rec).settle
    (b.stepOf lane).bind (fun x => x.fetchOf rec) = some f →
    (f.ready = false → exec (.stream lane rec) s = .next b) ∧
    (∀ x, f.ready = true → f.fault = some x → exec (.stream lane rec) s = .next (b.abortStep lane x rec)) ∧
    (f.ready = true → f.fault = none → exec (.stream lane rec) s = .next (b.startStream t v r f).settle)) ∧
  (∀ (s : State) (lane rec : Nat) (t : Step) (r : StreamR) (f : Fetch) (ev : ArrivalEv),
    s.stepOf lane = some t → s.works t = true → t.runningStream rec = some r → t.fetchOf rec = some f →
    s.passesOf lane rec ≠ [] → r.slot = ev.leader →
    exec (.rowChunkArrival lane rec ev) s
        = .next (((s.passesOf lane rec).foldl (fun s m => s.arriveOn lane rec ev m.1) s).checkEnd lane rec r.slot).settle ∧
      ∀ g p, s.passesOf lane rec = [(g, p)] →
        (∀ bytes e z, s.canTake lane rec g = true → f.chunkAt p.sent ev.expOff ev.zpOff = .chunk bytes e z → p.sent + 1 < p.total →
          exec (.rowChunkArrival lane rec ev) s = .next ((((s.encode f.code.2.1 bytes).sendOn lane rec g p.sent f.code.2.1
            bytes e z).noteDelivered lane rec (p.sent + 1)).settle)) ∧
        (∀ zp want got, p.started = true → p.sent < p.total → f.chunkAt p.sent ev.expOff ev.zpOff = .skew zp want got →
          exec (.rowChunkArrival lane rec ev) s = .next (s.skew lane rec ev.leader zp want got).settle ∧
            (s.skew lane rec ev.leader zp want got).fails lane
              { status := stStreamSkew, block := 3, inst := ev.leader, detail := want % 65536 * 65536 + got % 65536 } rec))

/-- A row chunk whose samples are all decided and agree is confirmed; an ambiguous one counts once in AMBIGUOUS and is
queued to be sent again (R163, R165, R176), and a second check mismatch aborts (R164). One with a wrong count is never
summed (R16); that it stands as a check mismatch is the model's reading (log entry 128). Samples that return their
true counts are decided and agree. A replay sends the row chunk of a STREAM with one member again (R166); a skew on
the same boundary goes first (R191), and a replay's bay swap that brings no light aborts (R174). -/
def Obligations.DecisionsAndReplays : Prop :=
  (∀ (s : State) (f : Nat) (devs : List SampleDev) (c : Chunk) (rest : List Chunk) (t : Step) (p : Pass) (tile : Tile) (r : StreamR),
    (s.furrow f).sent = c :: rest → s.stepOf c.lane = some t → (s.furrow f).passOf c.lane c.record = some p →
    ((s.furrow f).bayOf t.order p.tile).bind (s.furrow f).tileIn = some tile → t.streamAt c.record = some r → s.works t = true →
    let a := s.attempt f p tile c devs
    (a.ambiguous = false → a.mismatch = none → a.wrong = none →
      exec (.rowChunkDecision f devs) s = .next (s.confirm f p c r.part a).settle) ∧
    (∀ x, a.ambiguous = false → a.mismatch = none → a.wrong = some x →
      exec (.rowChunkDecision f devs) s = .next (s.refuse f tile c false (some x))) ∧
    (a.ambiguous = true → a.mismatch = none → c.tries < 4 → exec (.rowChunkDecision f devs) s
      = .next ((s.bump (aFurrow f 0x90)).queueReplay f c)) ∧
    (∀ x, a.ambiguous = false → a.mismatch = some x → c.mismatched = true → ∃ u, exec (.rowChunkDecision f devs) s = .next u ∧
      u.fails c.lane { status := stCheckMismatch, block := 0x10, inst := f, detail := c.record } c.record)) ∧
  (∀ (s : State) (f : Nat) (p : Pass) (tile : Tile) (c : Chunk) (devs : List SampleDev), devs = [] →
    (s.attempt f p tile c devs).ambiguous = false ∧ (s.attempt f p tile c devs).mismatch = none ∧
      (s.attempt f p tile c devs).wrong = none) ∧
  (∀ (s : State) (f : Nat) (dark : List Nat) (c : Chunk) (rest : List Chunk) (t : Step) (p : Pass), s.furrows.length = 10 →
    f < 10 → (s.furrow f).replays = c :: rest → s.stepOf c.lane = some t → s.works t = true →
    s.passesOf c.lane c.record = [(f, p)] → (s.furrow f).unlocked = false →
    (∀ rec zp want got, s.skewNow t f = some (rec, zp, want, got) → let n := ((t.streamAt rec).map fun r => r.slot).getD 0
      ∃ u, exec (.rowChunkReplay ⟨f, dark⟩) s = .next u ∧ u = { s with regs := u.regs, steps := u.steps } ∧
        u.fails c.lane { status := stStreamSkew, block := 3, inst := n, detail := want % 65536 * 65536 + got % 65536 } rec) ∧
    (s.skewNow t f = none → (s.farReplay t f p).isSome = true → dark.contains f = true →
      ∃ u, exec (.rowChunkReplay ⟨f, dark⟩) s = .next u ∧ u = { s with regs := u.regs, steps := u.steps } ∧
        u.fails c.lane { status := stStallTimeout, block := 0x10, inst := f, cause := 1, detail := t.cur } t.cur) ∧
    (s.skewNow t f = none → ((s.farReplay t f p).isSome && dark.contains f) = false →
    ∃ u, exec (.rowChunkReplay ⟨f, dark⟩) s = .next u ∧ (u.stepOf c.lane).map (fun x => x.replays) = some (t.replays + 1) ∧
      (u.furrow f).sent.length = (s.furrow f).sent.length + 1 ∧ (∀ g, g ≠ f → u.furrow g = s.furrow g) ∧ u.memory = s.memory))

/-- The first abort of a step tears it down: its records leave, its lane is held, and every Furrow drops its counts
and marks its bays empty (R71, R169, R219, R220); once nothing is in flight the reply leaves and the step is gone
(R221). -/
def Obligations.AbortsTearDown : Prop :=
  (∀ (s : State) (lane rec : Nat) (t : Step) (f : Failure) (j : Job), s.lanes.length = 16 → lane < 16 → s.stepOf lane = some t →
    t.failure = some (f, rec) → t.teardown = false → (s.lane lane).job = some j → s.jobsHome →
    ∃ u, exec (.taskAbort lane) s = .next u ∧ (u.lane lane).held = some j.hdr.seq ∧
      (∃ x, u.stepOf lane = some x ∧ x.teardown = true ∧ x.live = [] ∧ x.waits = [] ∧ x.joins = [] ∧ x.failure = t.failure) ∧
      (s.reaper.holder = some lane → ∀ x ∈ u.furrows, x.bayA = none ∧ x.bayB = none ∧ x.passes = [] ∧ x.sent = [])) ∧
  (∀ (s : State) (lane rec : Nat) (t : Step) (f : Failure) (j : Job), s.lanes.length = 16 → s.jobsHome → lane < 16 →
    s.steps = [t] → t.lane = lane → t.failure = some (f, rec) → t.teardown = true → s.inFlight t = false →
    (s.lane lane).job = some j → s.dev = .run → s.exchanges = [] →
    ∃ u, exec (.teardownComplete lane) s = .next u ∧ u.steps = [] ∧ (u.lane lane).job = none ∧
      (s.lantern.dozeDue = false → u.dev = .ready) ∧ (s.lantern.dozeDue = true → s.testing = false → u.dev = .doze))

/-- The events of dispatched records change only the engines and what they write: registers, counters, records raised,
memory, Winnow statistics, Furrows, steps, the Reaper and free values. The lanes, the sessions, the programs, the
device state, the port, power, loops, sources, Hasp and Sieve are as before (R155 to R316). -/
def Obligations.RecordsTouchOnlyTheEngines : Prop :=
  ∀ (s : State) (lane rec tag f : Nat) (b : Bool) (devs : List SampleDev) (e : TagEv) (arr : ArrivalEv) (rep : ReplayEv),
    let only (c : Instr) : Prop := ∃ u, exec c s = .next u ∧ s.onlyEngines u
    only (.millOp lane rec) ∧ only (.glean lane rec) ∧ only (.epilogue lane rec) ∧ only (.clipDecision lane rec) ∧
      only (.windrowHop lane rec) ∧ only (.readTagReturn e) ∧ only (.tagTimeout tag) ∧ only (.stream lane rec) ∧
      only (.copy lane rec) ∧ only (.route lane rec) ∧ only (.dep lane rec) ∧ only (.depTimeout lane) ∧ only (.gateTimeout lane) ∧
      only (.recordDispatch lane) ∧ only (.bayLoad lane rec) ∧ only (.bayLoadComplete f) ∧ only (.passStart f b) ∧
      only (.rowChunkArrival lane rec arr) ∧ only (.rowChunkDecision f devs) ∧ only (.rowChunkReplay rep) ∧
      only (.mcastCredit lane rec f) ∧ only (.mcastTimeout lane rec f) ∧ only (.stallTimeout f tag)

/-- The records that compute: an EPILOGUE leaves its clipped count for CLIP_DECISION, which completes it, with a
re-run in A16 where the limit is passed, and writes its outcome word (R239 to R241); MILL_OP and GLEAN complete unless
a read aborts them (R248, R280); WINDROW_HOP passes a row on or combines it (R231). A returned read keeps its data or
marks its line, one that is too late loses its tag, and data that comes back for such a tag is dropped (R204, R205,
R216). -/
def Obligations.ComputingRecordsComplete : Prop :=
  (∀ (s : State) (lane rec : Nat) (t : Step) (v : Live) (r : EpilogueR), s.stepOf lane = some t → t.liveAt rec = some v →
    v.op = .epilogue r → s.works t = true →
    let exceeds (c limit : Nat) : Prop := limit * (r.rows * r.columns) < c * 65536
    let done (w : State) (word : Nat) (wide : Bool) : State := ((w.writeMem (.lane lane) r.outcome (le 4 word)).modStep lane
      fun y => { y.complete rec with clips := (rec, wide) :: y.clips }).settle
    (v.started = false → (∀ w ∈ t.live, w.idx < rec → r.waitsFor t w = false) → s.epiBad r = none →
      ∃ u x limit, exec (.epilogue lane rec) s = .next u ∧ (u.stepOf lane).bind (fun y => y.liveAt rec) = some x ∧
        x.started = true ∧ x.clipped = some (((s.epiWrite lane r (s.epiOut r)).1.map clippedCount).sum, limit) ∧
        (r.flag 5 = true → limit = r.clipLimit)) ∧
    (∀ c limit, v.clipped = some (c, limit) →
      (¬ exceeds c limit → exec (.clipDecision lane rec) s = .next (done s (256 * min c (2 ^ 24 - 1)) false)) ∧
      (exceeds c limit → (r.outFmt ≠ 0 ∨ r.flag 4 = false) →
        exec (.clipDecision lane rec) s = .next (done s (2 + 256 * min c (2 ^ 24 - 1)) false)) ∧
      (exceeds c limit → r.outFmt = 0 → r.flag 4 = true → let w := s.epiRerun lane rec r
        exec (.clipDecision lane rec) s
          = .next (done w.2 (3 + 4 * b2n (decide (w.1 ≠ 0)) + 256 * min c (2 ^ 24 - 1)) true)))) ∧
  (∀ (s : State) (lane rec : Nat) (t : Step) (v : Live), s.stepOf lane = some t → t.liveAt rec = some v → s.works t = true →
    (∀ r, v.op = .millOp r → s.millBusy t rec (s.effective r) = false →
      let mills := s.effective r
      let n := r.itemCount t
      let b := State.runItems t rec r mills (List.range n)
        (((List.range (min n mills.length)).map (millOf mills)).foldl (fun s m => s.setReg (aMill m 0x10) rec) s)
      ∀ u, b.stepOf lane = some u → (u.failure ≠ none → exec (.millOp lane rec) s = .next b) ∧
        (u.failure = none → exec (.millOp lane rec) s
          = .next ((if r.op = 0x0A then b.runRouter t r mills else b).modStep lane fun y => y.complete rec).settle)) ∧
    (∀ r, v.op = .glean r → (∀ w ∈ t.live, w.idx < rec → w.op.kind ≠ 5) →
      let b := ((List.range 8).foldl (fun s g => s.setReg (aGleaner g 0x10) rec) s).gleanWork t rec r
      (b.1 = none → exec (.glean lane rec) s = .next b.2) ∧
      (b.1 ≠ none → exec (.glean lane rec) s = .next (b.2.modStep lane fun y => y.complete rec).settle)) ∧
    (∀ r, t.runningStream rec = some r → r.join ≠ 0 →
      let b := if r.join = 1 then s.chainHop lane rec r.chainMask r.slot else s.treeHop lane r.chainMask
      exec (.windrowHop lane rec) s
        = .next (((b.checkJoin lane rec r.chainMask).freeWaits lane).finishStreams lane).settle)) ∧
  (∀ (s : State) (tag : Nat), tag ∈ s.reaper.reclaimed → exec (.readTagReturn ⟨tag, true⟩) s = .next
    (({ s with reaper := { s.reaper with reclaimed := dropFirst tag s.reaper.reclaimed } } : State).bump (aReaper 0x7C)).settle) ∧
  (∀ (s : State) (tag : Nat) (t : Step) (f : Fetch) (p : Piece), s.holderOfTag tag = some (t, f, p) → t.teardown = false →
    p.isList = false →
    let r := s.readMem 2 p.addr 256
    (∀ d, r.1 = (d, none) → exec (.readTagReturn ⟨tag, false⟩) s
      = .next (r.2.modPiece t.lane tag fun q => some { q with tag := none, data := d }).settle) ∧
    (∀ d w, r.1 = (d, some w) → p.spec = false → exec (.readTagReturn ⟨tag, false⟩) s
      = .next ((r.2.noteFault p.addr 1 false false).modPiece t.lane tag fun q =>
        some { q with tag := none, fault := some (reaperMark w) }).settle) ∧
    (∃ u : State, exec (.tagTimeout tag) s = .next u.settle ∧ u.reaper.reclaimed = s.reaper.reclaimed ++ [tag] ∧
      u = { s with regs := u.regs, reaper := u.reaper, steps := u.steps }))

/-! ### Loops, temperatures and power states by themselves (15, 16, 17), the Ledger, completions -/

/-- A Vane sample is counted, swaps the banks where a swap waits, and keeps every output within its limits (R344,
R351). A source's fade is judged by its average power against its calibrated power (R355); a ready spare takes the
place of a source (R357), a late one is marked failed (R356). A due Winnow run starts, ends its collection at the mean
temperature, is fitted slice by slice in the gaps of its Furrow, and is applied or discarded (R369 to R375);
INTERP_SET_WRITE makes the interpolated set pending (R368). -/
def Obligations.LoopEvents : Prop :=
  (∀ (s : State) (inp : VaneInput), s.vaneLevel ≠ 0 → ∃ t, exec (.vaneSample inp) s = .next t ∧
    t.clocks = { s.clocks with samples := s.clocks.samples + 1 } ∧ t.vane.supply = inp.supply ∧ t.vane.swapPending = false ∧
    t.vane.bankBActive = (s.vane.bankBActive != s.vane.swapPending) ∧ t.memory = s.memory ∧ t.dev = s.dev) ∧
  (∀ (e : LoopEntry) (x moved : LoopState) (y vs now : Int), e.outMin ≤ e.outMax →
    let u := (Sys2Proof.Machine.control e x moved y vs now).st.u
    e.outMin ≤ u ∧ u ≤ e.outMax) ∧
  (∀ (s : State) (n : Nat) (p : Int), s.sources.length = 20 → n < 20 → s.vaneLevel = 2 → (s.source n).role = 0 →
    let q := meanPower ((p :: (s.source n).powers).take (max 1 (s.fld (aSources 0x18) 0 10)))
    ∃ t, exec (.sourceFadeCheck [(n, p)]) s = .next t ∧ (t.source n).power = q ∧ (t.source n).fadeDb = q - (s.source n).cal ∧
      (t.source n).fade = fadeState (asSigned 16 (s.fld (aSources 0x14) 0 16)) (asSigned 16 (s.fld (aSources 0x14) 16 16))
        (q - (s.source n).cal) (s.source n).fade) ∧
  (∀ (s : State) (n : Nat), s.sources.length = 20 → n < 20 → (s.source n).warming = true →
    (s.exchanges = [] → exec (.spareReady n) s
      = .next (s.modSource n fun x => { x with warming := false, ready := true, locked := true })) ∧
    (∀ e, s.exchanges = [e] → e.into = some n → e.lane = none → e.out < 20 → e.out ≠ n → s.steps = [] →
      ∃ t, exec (.spareReady n) s = .next t ∧ t.exchanges = [] ∧ (t.source n).role = 0 ∧
        (t.source n).furrow = (s.source e.out).furrow ∧ (t.source e.out).role = 2 ∧
        ∀ k, k ≠ n → k ≠ e.out → t.source k = s.source k) ∧
    (s.exchanges = [] → ∃ t, exec (.prewarmTimeout n) s = .next t ∧ (t.source n).role = 2 ∧ (t.source n).warming = false ∧
      ∀ k, k ≠ n → t.source k = s.source k)) ∧
  (∀ (s : State) (f : Nat), s.winnow.length = 10 → f < 10 →
    let others (t : State) : Prop := ∀ g, g ≠ f → t.win g = s.win g
    (∀ live, s.winnowTrigger f = false → s.runMode = some live → (s.win f).due = true → (s.win f).run = none →
      (s.furrow f).role = 0 → exec (.winnowRunDue f) s = .next (s.modWin f fun w =>
        { w with due := false, run := some ⟨s.furrowTemp f, none, live, [], 0, [], [], w.dueAt, []⟩ })) ∧
    (∀ r pat, (s.win f).run = some r → r.fitTemp = none → ∃ t, exec (.winnowCollectionEnd f pat) s = .next t ∧
      (t.win f).run = some { r with
        fitTemp := some ((r.startTemp + s.furrowTemp f) / 2), stats := if r.live then r.stats else pat
        now := (s.win f).current } ∧ others t) ∧
    (s.fitting = some f → s.inGap f = false → exec .winnowFitSlice s = .next s) ∧
    (∀ r, s.fitting = some f → s.inGap f = true → (s.win f).run = some r → ∃ t x, exec .winnowFitSlice s = .next t ∧ (t.win f).run = some x ∧
      x.slice = r.slice + 1 ∧ x.stats = r.stats ∧ others t) ∧
    (∀ r q, (s.win f).run = some r → r.fitTemp = some q → 17 ≤ r.slice → s.Inv →
      ∃ t, exec (.winnowRunComplete f) s = .next t ∧ (t.win f).run = none ∧ others t ∧
        (s.fld (aWinnow 0x24) 0 11 < r.rejected.length → (t.win f).outcome = 2 ∧ (t.win f).points = (s.win f).points) ∧
        (r.rejected.length ≤ s.fld (aWinnow 0x24) 0 11 → (t.win f).outcome = 1 ∧ (t.win f).tLast = some q)) ∧
    ((s.win f).tInterp = none → (s.win f).points ≠ [] → ∃ t, exec (.interpSetWrite f) s = .next t ∧ others t ∧
      (t.win f).pending = some (setAtTemp (s.furrowTemp f) (s.win f).entries) ∧ (t.win f).tInterp = some (s.furrowTemp f)))

/-- Temperatures and what follows from them: a conversion joins its channel (R380), a sensor whose condition holds
becomes broken (R381), a thermistor input too (R37), the throttle level steps (R386). A critical channel puts the
device into FAULT, the internal HWSD_N into SHUTDOWN (R387), and AUTO_RESTART leads back to LANTERN (R388). -/
def Obligations.TemperatureEvents : Prop :=
  (∀ (s : State) (conv therm : List Conv), s.dev ≠ .off → ∃ t, exec (.tempConversion conv therm) s = .next t ∧
    t.dev = s.dev ∧ ∀ n v, n < s.lantern.diodes.length → conv[n]? = some v → (t.diode n).conv = (v :: (s.diode n).conv).take 4) ∧
  (∀ (s : State) (n c : Nat), s.dev ≠ .off → n < 32 → s.trusted n = true → s.diodeFault n c = true →
    ∃ t, exec (.sensorBroken (.diode n) c) s = .next t ∧ t.trusted n = false ∧ (∀ k, k ≠ n → t.diode k = s.diode k) ∧
      (t.dev = s.dev ∨ t.dev = .fault)) ∧
  (∀ (s : State) (k c : Nat), s.dev ≠ .off → s.vaneFault k c = true →
    ∃ t, exec (.sensorBroken (.vane k) c) s = .next t ∧ t.lantern.vaneBroken = s.lantern.vaneBroken ++ [k]) ∧
  (∀ (s : State) (n c : Nat), s.dev ≠ .off → n < 8 → s.thermOn n = true → (s.therm n).broken = none →
    ((c = 1 ∧ (s.therm n).conv.head? = some .opened) ∨ (c = 2 ∧ (s.therm n).conv.head? = some .shorted)) →
    exec (.thermistorBroken n c) s = .next { s with lantern := { s.lantern with
      therms := setAt s.lantern.therms n { s.therm n with broken := some c } } }) ∧
  (∀ (s : State) (q : Int), s.dev ≠ .off → s.highest (List.range 10) = some q →
    let lim : Int := s.fld (aLantern 0x14) 0 8 * 256
    let level (n : Nat) : State := { s with lantern := { s.lantern with throttle := n } }
    (lim ≤ q → exec .throttleLevelStep s = .next (level (min 4 (s.lantern.throttle + 1)))) ∧
    (q < lim - 768 → exec .throttleLevelStep s
      = .next (level (max (if s.lantern.pBand = 2 then 2 else 0) (s.lantern.throttle - 1))))) ∧
  (∀ (s : State) (ch : Nat), s.dev.column ≠ none → s.lantern.critical = none → s.isCritical ch = true →
    ∃ t, exec (.thermalShutdown ch) s = .next t ∧ t.dev = .fault ∧ t.lantern.critical = some (ch, s.clocks.tick) ∧
      t.vane.drives = [] ∧ t.lantern.entry = none ∧ t.lantern.waking = none ∧ (∃ r ∈ t.ledger.waiting, r.kind = 0x42)) ∧
  (∀ s : State, s.lantern.critical ≠ none → s.dev ≠ .shutdown → s.dev ≠ .off → s.ledger.writing = none →
    ∃ t, exec .internalHwsdAssert s = .next t ∧ t.dev = .shutdown ∧ t.lantern.internalHwsd = true ∧ s.wiped t ∧
      t.lantern.shutCause = some .thermal ∧ t.lantern.critical = none) ∧
  (∀ s : State, s.dev = .shutdown → s.lantern.internalHwsd = true → s.lantern.restartBlocked = false →
    bitOf (s.reg (aLantern 4)) 2 = true → (∀ n, n < 32 → s.trusted n = true → ∃ q, (s.diode n).reading = some q ∧
      q < s.fld (aLantern 0x14) 16 8 * 256) → s.lantern.supplyOk = true → s.lantern.resetN = some true →
    s.lantern.hwsdN = some true → s.ledger.writing = none → ∃ t, exec .autoRestart s = .next t ∧ t.dev = .lantern ∧
    t.lantern.internalHwsd = false ∧ t.ledger = s.ledger)

/-- The power states by themselves: AUTO_IDLE enters IDLE (R391); the wake timer wakes to READY, a waiting command to
the state slept from (R391, R392); a finished wake relocks the active sources and makes their runs due (R394); a
finished entry answers the POWER_STATE that waits for it (R392); a heat-up that takes too long ends ENGINE_START,
stops the drives and holds its lane (R114). -/
def Obligations.PowerStateEvents : Prop :=
  (∀ s : State, s.dev = .ready → s.lantern.entry = none → s.steps = [] → s.noCommands → bitOf (s.reg (aLantern 4)) 0 = true →
    ∃ t, exec .autoIdle s = .next t ∧ t.dev = .idle ∧ t.lantern.entry = some ⟨.idle⟩ ∧ t.lantern.sleptFrom = .ready ∧
      t = { s with dev := t.dev, lantern := t.lantern }) ∧
  (∀ s : State, (s.dev = .doze ∨ s.dev = .night) → s.lantern.entry = none → s.lantern.waking = none → s.lantern.warn = false →
    (s.lantern.wakeAt ≠ none → ∃ t, exec .wakeTimer s = .next t ∧ t.lantern.waking = some ⟨.ready, s.dev⟩ ∧
      t.lantern.wakeAt = none ∧ t.dev = s.dev) ∧
    (∀ d, s.wakeTarget = some d → ∃ t, exec .wake s = .next t ∧ t.lantern.waking = some ⟨d, s.dev⟩ ∧ t.dev = s.dev ∧
      t = { s with lantern := t.lantern, vane := t.vane })) ∧
  (∀ (s : State) (d : DState), s.Inv → s.noCommands → s.lantern.waking = some ⟨d, .doze⟩ → (d = .ready ∨ d = .idle) →
    ∃ t, exec (.wakeComplete []) s = .next t ∧ t.dev = d ∧ t.lantern.waking = none ∧
      (∀ n, n < 20 → (s.source n).role = 0 → (t.source n).locked = true) ∧ (∀ x, t.byteAt x = s.byteAt x) ∧
      (∀ f, f < 10 → (s.furrow f).role = 0 → (t.win f).due = true)) ∧
  (∀ (s : State) (l k w b d n : Nat) (j : Job) (e : PowerEntry), s.onlyJob l → l < 16 → (s.lane l).job = some j → j.hdr.lane = l →
    j.kind = .powerEntry k w b d n → s.lantern.entry = some e → s.lantern.waking = none → s.dev = targetState k →
    ∃ t, exec .powerEntryComplete s = .next t ∧ t.lantern.entry = none ∧ (t.lane l).job = none ∧ t.dev = s.dev ∧
      t.lantern.wakeAt = if 2 ≤ k ∧ w ≠ 0 then some (s.clocks.tick + w * 4000000) else none) ∧
  (∀ (s : State) (l q m z : Nat) (j : Job), s.onlyJob l → l < 16 → (s.lane l).job = some j → j.hdr.lane = l →
    j.kind = .engineStart q m z → s.dev = .config → ∃ t, exec .heatLimitTimeout s = .next t ∧ (t.lane l).job = none ∧
    (t.lane l).held = some j.hdr.seq ∧ t.vane.drives = [] ∧ t.dev = s.dev)

/-- A waiting record takes its LEDGER_SEQ when its write begins, POWER_LOSS first, and joins the ring of 2,048 when it
ends (R437, R438). COMMAND_COMPLETION sends the reply a finished command waits with (R105). -/
def Obligations.LedgerAndCompletions : Prop :=
  (∀ (s : State) (r : Record) (rest : List Record), s.dev ≠ .off → s.ledger.writing = none → s.ledger.waiting = r :: rest →
    (∀ x ∈ rest, x.kind ≠ 4) → ∃ t, exec .ledgerWrite s = .next t ∧ t.ledger = { s.ledger with
      waiting := rest, writing := some { r with ledgerSeq := s.ledger.nextSeq }, nextSeq := (s.ledger.nextSeq + 1) % 2 ^ 32 }) ∧
  (∀ (s : State) (x y : Record), s.dev ≠ .off → s.ledger.writing = none → s.ledger.waiting = [x, y] → x.kind ≠ 4 → y.kind = 4 →
    ∃ t, exec .ledgerWrite s = .next t ∧ t.ledger.waiting = [x] ∧
      t.ledger.writing = some { y with ledgerSeq := s.ledger.nextSeq }) ∧
  (∀ (s : State) (r : Record), s.dev ≠ .shutdown → s.ledger.writing = some r → s.ledger.deferred = [] →
    ∃ t, exec .ledgerWriteComplete s = .next t ∧ t.ledger.writing = none ∧ t.ledger.waiting = s.ledger.waiting ∧
      t.ledger.entries = (s.ledger.entries ++ [({ record := r } : LedgerEntry)]).drop (s.ledger.entries.length + 1 - 2048) ∧ t.dev = s.dev) ∧
  (∀ (s : State) (l : Nat) (j : Job) (env : Env), (s.lane l).job = some j →
    (∀ st p, j.kind = .finish st p → exec (.commandCompletion l env) s = .next (s.reply j.hdr j.opcode st p)) ∧
    (∀ f, j.kind = .fail f → exec (.commandCompletion l env) s = .next (s.failReply j.hdr j.opcode f)))
end

