-- ==== Sys2Proof/Laws/State.lean ====
section
/-!
SUPPORT. The small lemmas of State and its updates: what each named update changes and what it leaves, so that no proof
unfolds a record update.
-/
namespace Sys2Proof.Machine

/-! ### Lists by index -/

@[simp] theorem setAt_length {β : Type} (l : List β) (i : Nat) (v : β) : (setAt l i v).length = l.length := by
  induction l generalizing i with
  | nil => rfl
  | cons x t ih => cases i <;> simp [setAt, ih]

theorem setAt_getD {β : Type} (l : List β) (i j : Nat) (v d : β) :
    (setAt l i v).getD j d = if j = i ∧ i < l.length then v else l.getD j d := by
  induction l generalizing i j with
  | nil => simp [setAt]
  | cons x t ih =>
    cases i with
    | zero => cases j <;> simp [setAt]
    | succ i =>
      cases j with
      | zero => simp [setAt]
      | succ j => simpa [setAt] using ih i j

theorem mem_setAt {β : Type} {l : List β} {i : Nat} {v x : β} (h : x ∈ setAt l i v) : x = v ∨ x ∈ l := by
  induction l generalizing i with
  | nil => simp [setAt] at h
  | cons y t ih =>
    cases i with
    | zero =>
      simp only [setAt, List.mem_cons] at h
      rcases h with h | h
      · exact Or.inl h
      · exact Or.inr (by simp [h])
    | succ i =>
      simp only [setAt, List.mem_cons] at h
      rcases h with h | h
      · exact Or.inr (by simp [h])
      · rcases ih h with h | h
        · exact Or.inl h
        · exact Or.inr (by simp [h])

/-! ### Lanes -/

@[simp] theorem setLane_lanes_length (s : State) (l : Nat) (x : Lane) : (s.setLane l x).lanes.length = s.lanes.length := by
  simp [State.setLane]

theorem lane_setLane (s : State) (l k : Nat) (x : Lane) :
    (s.setLane l x).lane k = if k = l ∧ l < s.lanes.length then x else s.lane k := by
  unfold State.lane State.setLane; dsimp only; rw [setAt_getD]


/-! ### A register written leaves the other fields -/

@[simp] theorem setReg_pending (s : State) (a v : Nat) : (s.setReg a v).pending = s.pending := rfl
@[simp] theorem setReg_dev (s : State) (a v : Nat) : (s.setReg a v).dev = s.dev := rfl
@[simp] theorem setReg_engine (s : State) (a v : Nat) : (s.setReg a v).engine = s.engine := rfl
@[simp] theorem setReg_degraded (s : State) (a v : Nat) : (s.setReg a v).degraded = s.degraded := rfl
@[simp] theorem setReg_clocks (s : State) (a v : Nat) : (s.setReg a v).clocks = s.clocks := rfl
@[simp] theorem setReg_ctrs (s : State) (a v : Nat) : (s.setReg a v).ctrs = s.ctrs := rfl
@[simp] theorem setReg_lanes (s : State) (a v : Nat) : (s.setReg a v).lanes = s.lanes := rfl
@[simp] theorem setReg_net (s : State) (a v : Nat) : (s.setReg a v).net = s.net := rfl
@[simp] theorem setReg_events (s : State) (a v : Nat) : (s.setReg a v).events = s.events := rfl
@[simp] theorem setReg_ledger (s : State) (a v : Nat) : (s.setReg a v).ledger = s.ledger := rfl
@[simp] theorem setReg_memory (s : State) (a v : Nat) : (s.setReg a v).memory = s.memory := rfl
@[simp] theorem setReg_lantern (s : State) (a v : Nat) : (s.setReg a v).lantern = s.lantern := rfl
@[simp] theorem setReg_watchdog (s : State) (a v : Nat) : (s.setReg a v).watchdog = s.watchdog := rfl
@[simp] theorem setReg_hasp (s : State) (a v : Nat) : (s.setReg a v).hasp = s.hasp := rfl
@[simp] theorem setReg_vane (s : State) (a v : Nat) : (s.setReg a v).vane = s.vane := rfl
@[simp] theorem setReg_sources (s : State) (a v : Nat) : (s.setReg a v).sources = s.sources := rfl
@[simp] theorem setReg_exchanges (s : State) (a v : Nat) : (s.setReg a v).exchanges = s.exchanges := rfl
@[simp] theorem setReg_winnow (s : State) (a v : Nat) : (s.setReg a v).winnow = s.winnow := rfl
@[simp] theorem setReg_sieve (s : State) (a v : Nat) : (s.setReg a v).sieve = s.sieve := rfl
@[simp] theorem setReg_furrows (s : State) (a v : Nat) : (s.setReg a v).furrows = s.furrows := rfl
@[simp] theorem setReg_programs (s : State) (a v : Nat) : (s.setReg a v).programs = s.programs := rfl
@[simp] theorem setReg_sessions (s : State) (a v : Nat) : (s.setReg a v).sessions = s.sessions := rfl
@[simp] theorem setReg_steps (s : State) (a v : Nat) : (s.setReg a v).steps = s.steps := rfl
@[simp] theorem setReg_reaper (s : State) (a v : Nat) : (s.setReg a v).reaper = s.reaper := rfl
@[simp] theorem setReg_down (s : State) (a v : Nat) : (s.setReg a v).down = s.down := rfl
@[simp] theorem setReg_free (s : State) (a v : Nat) : (s.setReg a v).free = s.free := rfl

/-! ### A lane replaced leaves the other fields -/

@[simp] theorem setLane_pending (s : State) (l : Nat) (x : Lane) : (s.setLane l x).pending = s.pending := rfl
@[simp] theorem setLane_dev (s : State) (l : Nat) (x : Lane) : (s.setLane l x).dev = s.dev := rfl
@[simp] theorem setLane_engine (s : State) (l : Nat) (x : Lane) : (s.setLane l x).engine = s.engine := rfl
@[simp] theorem setLane_degraded (s : State) (l : Nat) (x : Lane) : (s.setLane l x).degraded = s.degraded := rfl
@[simp] theorem setLane_clocks (s : State) (l : Nat) (x : Lane) : (s.setLane l x).clocks = s.clocks := rfl
@[simp] theorem setLane_regs (s : State) (l : Nat) (x : Lane) : (s.setLane l x).regs = s.regs := rfl
@[simp] theorem setLane_ctrs (s : State) (l : Nat) (x : Lane) : (s.setLane l x).ctrs = s.ctrs := rfl
@[simp] theorem setLane_net (s : State) (l : Nat) (x : Lane) : (s.setLane l x).net = s.net := rfl
@[simp] theorem setLane_events (s : State) (l : Nat) (x : Lane) : (s.setLane l x).events = s.events := rfl
@[simp] theorem setLane_ledger (s : State) (l : Nat) (x : Lane) : (s.setLane l x).ledger = s.ledger := rfl
@[simp] theorem setLane_memory (s : State) (l : Nat) (x : Lane) : (s.setLane l x).memory = s.memory := rfl
@[simp] theorem setLane_lantern (s : State) (l : Nat) (x : Lane) : (s.setLane l x).lantern = s.lantern := rfl
@[simp] theorem setLane_watchdog (s : State) (l : Nat) (x : Lane) : (s.setLane l x).watchdog = s.watchdog := rfl
@[simp] theorem setLane_hasp (s : State) (l : Nat) (x : Lane) : (s.setLane l x).hasp = s.hasp := rfl
@[simp] theorem setLane_vane (s : State) (l : Nat) (x : Lane) : (s.setLane l x).vane = s.vane := rfl
@[simp] theorem setLane_sources (s : State) (l : Nat) (x : Lane) : (s.setLane l x).sources = s.sources := rfl
@[simp] theorem setLane_exchanges (s : State) (l : Nat) (x : Lane) : (s.setLane l x).exchanges = s.exchanges := rfl
@[simp] theorem setLane_winnow (s : State) (l : Nat) (x : Lane) : (s.setLane l x).winnow = s.winnow := rfl
@[simp] theorem setLane_sieve (s : State) (l : Nat) (x : Lane) : (s.setLane l x).sieve = s.sieve := rfl
@[simp] theorem setLane_furrows (s : State) (l : Nat) (x : Lane) : (s.setLane l x).furrows = s.furrows := rfl
@[simp] theorem setLane_programs (s : State) (l : Nat) (x : Lane) : (s.setLane l x).programs = s.programs := rfl
@[simp] theorem setLane_sessions (s : State) (l : Nat) (x : Lane) : (s.setLane l x).sessions = s.sessions := rfl
@[simp] theorem setLane_steps (s : State) (l : Nat) (x : Lane) : (s.setLane l x).steps = s.steps := rfl
@[simp] theorem setLane_reaper (s : State) (l : Nat) (x : Lane) : (s.setLane l x).reaper = s.reaper := rfl
@[simp] theorem setLane_down (s : State) (l : Nat) (x : Lane) : (s.setLane l x).down = s.down := rfl
@[simp] theorem setLane_free (s : State) (l : Nat) (x : Lane) : (s.setLane l x).free = s.free := rfl

/-! ### A session replaced leaves the other fields -/

@[simp] theorem setSession_pending (s : State) (n : Nat) (x : Session) : (s.setSession n x).pending = s.pending := rfl
@[simp] theorem setSession_dev (s : State) (n : Nat) (x : Session) : (s.setSession n x).dev = s.dev := rfl
@[simp] theorem setSession_engine (s : State) (n : Nat) (x : Session) : (s.setSession n x).engine = s.engine := rfl
@[simp] theorem setSession_degraded (s : State) (n : Nat) (x : Session) : (s.setSession n x).degraded = s.degraded := rfl
@[simp] theorem setSession_clocks (s : State) (n : Nat) (x : Session) : (s.setSession n x).clocks = s.clocks := rfl
@[simp] theorem setSession_regs (s : State) (n : Nat) (x : Session) : (s.setSession n x).regs = s.regs := rfl
@[simp] theorem setSession_ctrs (s : State) (n : Nat) (x : Session) : (s.setSession n x).ctrs = s.ctrs := rfl
@[simp] theorem setSession_lanes (s : State) (n : Nat) (x : Session) : (s.setSession n x).lanes = s.lanes := rfl
@[simp] theorem setSession_net (s : State) (n : Nat) (x : Session) : (s.setSession n x).net = s.net := rfl
@[simp] theorem setSession_events (s : State) (n : Nat) (x : Session) : (s.setSession n x).events = s.events := rfl
@[simp] theorem setSession_ledger (s : State) (n : Nat) (x : Session) : (s.setSession n x).ledger = s.ledger := rfl
@[simp] theorem setSession_memory (s : State) (n : Nat) (x : Session) : (s.setSession n x).memory = s.memory := rfl
@[simp] theorem setSession_lantern (s : State) (n : Nat) (x : Session) : (s.setSession n x).lantern = s.lantern := rfl
@[simp] theorem setSession_watchdog (s : State) (n : Nat) (x : Session) : (s.setSession n x).watchdog = s.watchdog := rfl
@[simp] theorem setSession_hasp (s : State) (n : Nat) (x : Session) : (s.setSession n x).hasp = s.hasp := rfl
@[simp] theorem setSession_vane (s : State) (n : Nat) (x : Session) : (s.setSession n x).vane = s.vane := rfl
@[simp] theorem setSession_sources (s : State) (n : Nat) (x : Session) : (s.setSession n x).sources = s.sources := rfl
@[simp] theorem setSession_exchanges (s : State) (n : Nat) (x : Session) : (s.setSession n x).exchanges = s.exchanges := rfl
@[simp] theorem setSession_winnow (s : State) (n : Nat) (x : Session) : (s.setSession n x).winnow = s.winnow := rfl
@[simp] theorem setSession_sieve (s : State) (n : Nat) (x : Session) : (s.setSession n x).sieve = s.sieve := rfl
@[simp] theorem setSession_furrows (s : State) (n : Nat) (x : Session) : (s.setSession n x).furrows = s.furrows := rfl
@[simp] theorem setSession_programs (s : State) (n : Nat) (x : Session) : (s.setSession n x).programs = s.programs := rfl
@[simp] theorem setSession_steps (s : State) (n : Nat) (x : Session) : (s.setSession n x).steps = s.steps := rfl
@[simp] theorem setSession_reaper (s : State) (n : Nat) (x : Session) : (s.setSession n x).reaper = s.reaper := rfl
@[simp] theorem setSession_down (s : State) (n : Nat) (x : Session) : (s.setSession n x).down = s.down := rfl
@[simp] theorem setSession_free (s : State) (n : Nat) (x : Session) : (s.setSession n x).free = s.free := rfl

/-! ### A source changed leaves the other fields -/

@[simp] theorem modSource_pending (s : State) (n : Nat) (g : Source → Source) : (s.modSource n g).pending = s.pending := rfl
@[simp] theorem modSource_dev (s : State) (n : Nat) (g : Source → Source) : (s.modSource n g).dev = s.dev := rfl
@[simp] theorem modSource_engine (s : State) (n : Nat) (g : Source → Source) : (s.modSource n g).engine = s.engine := rfl
@[simp] theorem modSource_degraded (s : State) (n : Nat) (g : Source → Source) : (s.modSource n g).degraded = s.degraded := rfl
@[simp] theorem modSource_clocks (s : State) (n : Nat) (g : Source → Source) : (s.modSource n g).clocks = s.clocks := rfl
@[simp] theorem modSource_regs (s : State) (n : Nat) (g : Source → Source) : (s.modSource n g).regs = s.regs := rfl
@[simp] theorem modSource_ctrs (s : State) (n : Nat) (g : Source → Source) : (s.modSource n g).ctrs = s.ctrs := rfl
@[simp] theorem modSource_lanes (s : State) (n : Nat) (g : Source → Source) : (s.modSource n g).lanes = s.lanes := rfl
@[simp] theorem modSource_net (s : State) (n : Nat) (g : Source → Source) : (s.modSource n g).net = s.net := rfl
@[simp] theorem modSource_events (s : State) (n : Nat) (g : Source → Source) : (s.modSource n g).events = s.events := rfl
@[simp] theorem modSource_ledger (s : State) (n : Nat) (g : Source → Source) : (s.modSource n g).ledger = s.ledger := rfl
@[simp] theorem modSource_memory (s : State) (n : Nat) (g : Source → Source) : (s.modSource n g).memory = s.memory := rfl
@[simp] theorem modSource_lantern (s : State) (n : Nat) (g : Source → Source) : (s.modSource n g).lantern = s.lantern := rfl
@[simp] theorem modSource_watchdog (s : State) (n : Nat) (g : Source → Source) : (s.modSource n g).watchdog = s.watchdog := rfl
@[simp] theorem modSource_hasp (s : State) (n : Nat) (g : Source → Source) : (s.modSource n g).hasp = s.hasp := rfl
@[simp] theorem modSource_vane (s : State) (n : Nat) (g : Source → Source) : (s.modSource n g).vane = s.vane := rfl
@[simp] theorem modSource_exchanges (s : State) (n : Nat) (g : Source → Source) : (s.modSource n g).exchanges = s.exchanges := rfl
@[simp] theorem modSource_winnow (s : State) (n : Nat) (g : Source → Source) : (s.modSource n g).winnow = s.winnow := rfl
@[simp] theorem modSource_sieve (s : State) (n : Nat) (g : Source → Source) : (s.modSource n g).sieve = s.sieve := rfl
@[simp] theorem modSource_furrows (s : State) (n : Nat) (g : Source → Source) : (s.modSource n g).furrows = s.furrows := rfl
@[simp] theorem modSource_programs (s : State) (n : Nat) (g : Source → Source) : (s.modSource n g).programs = s.programs := rfl
@[simp] theorem modSource_sessions (s : State) (n : Nat) (g : Source → Source) : (s.modSource n g).sessions = s.sessions := rfl
@[simp] theorem modSource_steps (s : State) (n : Nat) (g : Source → Source) : (s.modSource n g).steps = s.steps := rfl
@[simp] theorem modSource_reaper (s : State) (n : Nat) (g : Source → Source) : (s.modSource n g).reaper = s.reaper := rfl
@[simp] theorem modSource_down (s : State) (n : Nat) (g : Source → Source) : (s.modSource n g).down = s.down := rfl
@[simp] theorem modSource_free (s : State) (n : Nat) (g : Source → Source) : (s.modSource n g).free = s.free := rfl

/-! ### A Furrow changed leaves the other fields -/

@[simp] theorem modFurrow_pending (s : State) (f : Nat) (g : Furrow → Furrow) : (s.modFurrow f g).pending = s.pending := rfl
@[simp] theorem modFurrow_dev (s : State) (f : Nat) (g : Furrow → Furrow) : (s.modFurrow f g).dev = s.dev := rfl
@[simp] theorem modFurrow_engine (s : State) (f : Nat) (g : Furrow → Furrow) : (s.modFurrow f g).engine = s.engine := rfl
@[simp] theorem modFurrow_degraded (s : State) (f : Nat) (g : Furrow → Furrow) : (s.modFurrow f g).degraded = s.degraded := rfl
@[simp] theorem modFurrow_clocks (s : State) (f : Nat) (g : Furrow → Furrow) : (s.modFurrow f g).clocks = s.clocks := rfl
@[simp] theorem modFurrow_regs (s : State) (f : Nat) (g : Furrow → Furrow) : (s.modFurrow f g).regs = s.regs := rfl
@[simp] theorem modFurrow_ctrs (s : State) (f : Nat) (g : Furrow → Furrow) : (s.modFurrow f g).ctrs = s.ctrs := rfl
@[simp] theorem modFurrow_lanes (s : State) (f : Nat) (g : Furrow → Furrow) : (s.modFurrow f g).lanes = s.lanes := rfl
@[simp] theorem modFurrow_net (s : State) (f : Nat) (g : Furrow → Furrow) : (s.modFurrow f g).net = s.net := rfl
@[simp] theorem modFurrow_events (s : State) (f : Nat) (g : Furrow → Furrow) : (s.modFurrow f g).events = s.events := rfl
@[simp] theorem modFurrow_ledger (s : State) (f : Nat) (g : Furrow → Furrow) : (s.modFurrow f g).ledger = s.ledger := rfl
@[simp] theorem modFurrow_memory (s : State) (f : Nat) (g : Furrow → Furrow) : (s.modFurrow f g).memory = s.memory := rfl
@[simp] theorem modFurrow_lantern (s : State) (f : Nat) (g : Furrow → Furrow) : (s.modFurrow f g).lantern = s.lantern := rfl
@[simp] theorem modFurrow_watchdog (s : State) (f : Nat) (g : Furrow → Furrow) : (s.modFurrow f g).watchdog = s.watchdog := rfl
@[simp] theorem modFurrow_hasp (s : State) (f : Nat) (g : Furrow → Furrow) : (s.modFurrow f g).hasp = s.hasp := rfl
@[simp] theorem modFurrow_vane (s : State) (f : Nat) (g : Furrow → Furrow) : (s.modFurrow f g).vane = s.vane := rfl
@[simp] theorem modFurrow_sources (s : State) (f : Nat) (g : Furrow → Furrow) : (s.modFurrow f g).sources = s.sources := rfl
@[simp] theorem modFurrow_exchanges (s : State) (f : Nat) (g : Furrow → Furrow) : (s.modFurrow f g).exchanges = s.exchanges := rfl
@[simp] theorem modFurrow_winnow (s : State) (f : Nat) (g : Furrow → Furrow) : (s.modFurrow f g).winnow = s.winnow := rfl
@[simp] theorem modFurrow_sieve (s : State) (f : Nat) (g : Furrow → Furrow) : (s.modFurrow f g).sieve = s.sieve := rfl
@[simp] theorem modFurrow_programs (s : State) (f : Nat) (g : Furrow → Furrow) : (s.modFurrow f g).programs = s.programs := rfl
@[simp] theorem modFurrow_sessions (s : State) (f : Nat) (g : Furrow → Furrow) : (s.modFurrow f g).sessions = s.sessions := rfl
@[simp] theorem modFurrow_steps (s : State) (f : Nat) (g : Furrow → Furrow) : (s.modFurrow f g).steps = s.steps := rfl
@[simp] theorem modFurrow_reaper (s : State) (f : Nat) (g : Furrow → Furrow) : (s.modFurrow f g).reaper = s.reaper := rfl
@[simp] theorem modFurrow_down (s : State) (f : Nat) (g : Furrow → Furrow) : (s.modFurrow f g).down = s.down := rfl
@[simp] theorem modFurrow_free (s : State) (f : Nat) (g : Furrow → Furrow) : (s.modFurrow f g).free = s.free := rfl

/-! ### A step changed leaves the other fields -/

@[simp] theorem modStep_pending (s : State) (l : Nat) (g : Step → Step) : (s.modStep l g).pending = s.pending := rfl
@[simp] theorem modStep_dev (s : State) (l : Nat) (g : Step → Step) : (s.modStep l g).dev = s.dev := rfl
@[simp] theorem modStep_engine (s : State) (l : Nat) (g : Step → Step) : (s.modStep l g).engine = s.engine := rfl
@[simp] theorem modStep_degraded (s : State) (l : Nat) (g : Step → Step) : (s.modStep l g).degraded = s.degraded := rfl
@[simp] theorem modStep_clocks (s : State) (l : Nat) (g : Step → Step) : (s.modStep l g).clocks = s.clocks := rfl
@[simp] theorem modStep_regs (s : State) (l : Nat) (g : Step → Step) : (s.modStep l g).regs = s.regs := rfl
@[simp] theorem modStep_ctrs (s : State) (l : Nat) (g : Step → Step) : (s.modStep l g).ctrs = s.ctrs := rfl
@[simp] theorem modStep_lanes (s : State) (l : Nat) (g : Step → Step) : (s.modStep l g).lanes = s.lanes := rfl
@[simp] theorem modStep_net (s : State) (l : Nat) (g : Step → Step) : (s.modStep l g).net = s.net := rfl
@[simp] theorem modStep_events (s : State) (l : Nat) (g : Step → Step) : (s.modStep l g).events = s.events := rfl
@[simp] theorem modStep_ledger (s : State) (l : Nat) (g : Step → Step) : (s.modStep l g).ledger = s.ledger := rfl
@[simp] theorem modStep_memory (s : State) (l : Nat) (g : Step → Step) : (s.modStep l g).memory = s.memory := rfl
@[simp] theorem modStep_lantern (s : State) (l : Nat) (g : Step → Step) : (s.modStep l g).lantern = s.lantern := rfl
@[simp] theorem modStep_watchdog (s : State) (l : Nat) (g : Step → Step) : (s.modStep l g).watchdog = s.watchdog := rfl
@[simp] theorem modStep_hasp (s : State) (l : Nat) (g : Step → Step) : (s.modStep l g).hasp = s.hasp := rfl
@[simp] theorem modStep_vane (s : State) (l : Nat) (g : Step → Step) : (s.modStep l g).vane = s.vane := rfl
@[simp] theorem modStep_sources (s : State) (l : Nat) (g : Step → Step) : (s.modStep l g).sources = s.sources := rfl
@[simp] theorem modStep_exchanges (s : State) (l : Nat) (g : Step → Step) : (s.modStep l g).exchanges = s.exchanges := rfl
@[simp] theorem modStep_winnow (s : State) (l : Nat) (g : Step → Step) : (s.modStep l g).winnow = s.winnow := rfl
@[simp] theorem modStep_sieve (s : State) (l : Nat) (g : Step → Step) : (s.modStep l g).sieve = s.sieve := rfl
@[simp] theorem modStep_furrows (s : State) (l : Nat) (g : Step → Step) : (s.modStep l g).furrows = s.furrows := rfl
@[simp] theorem modStep_programs (s : State) (l : Nat) (g : Step → Step) : (s.modStep l g).programs = s.programs := rfl
@[simp] theorem modStep_sessions (s : State) (l : Nat) (g : Step → Step) : (s.modStep l g).sessions = s.sessions := rfl
@[simp] theorem modStep_reaper (s : State) (l : Nat) (g : Step → Step) : (s.modStep l g).reaper = s.reaper := rfl
@[simp] theorem modStep_down (s : State) (l : Nat) (g : Step → Step) : (s.modStep l g).down = s.down := rfl
@[simp] theorem modStep_free (s : State) (l : Nat) (g : Step → Step) : (s.modStep l g).free = s.free := rfl

/-! ### A Winnow entry changed leaves the other fields -/

@[simp] theorem modWin_pending (s : State) (f : Nat) (g : WinnowF → WinnowF) : (s.modWin f g).pending = s.pending := rfl
@[simp] theorem modWin_dev (s : State) (f : Nat) (g : WinnowF → WinnowF) : (s.modWin f g).dev = s.dev := rfl
@[simp] theorem modWin_engine (s : State) (f : Nat) (g : WinnowF → WinnowF) : (s.modWin f g).engine = s.engine := rfl
@[simp] theorem modWin_degraded (s : State) (f : Nat) (g : WinnowF → WinnowF) : (s.modWin f g).degraded = s.degraded := rfl
@[simp] theorem modWin_clocks (s : State) (f : Nat) (g : WinnowF → WinnowF) : (s.modWin f g).clocks = s.clocks := rfl
@[simp] theorem modWin_regs (s : State) (f : Nat) (g : WinnowF → WinnowF) : (s.modWin f g).regs = s.regs := rfl
@[simp] theorem modWin_ctrs (s : State) (f : Nat) (g : WinnowF → WinnowF) : (s.modWin f g).ctrs = s.ctrs := rfl
@[simp] theorem modWin_lanes (s : State) (f : Nat) (g : WinnowF → WinnowF) : (s.modWin f g).lanes = s.lanes := rfl
@[simp] theorem modWin_net (s : State) (f : Nat) (g : WinnowF → WinnowF) : (s.modWin f g).net = s.net := rfl
@[simp] theorem modWin_events (s : State) (f : Nat) (g : WinnowF → WinnowF) : (s.modWin f g).events = s.events := rfl
@[simp] theorem modWin_ledger (s : State) (f : Nat) (g : WinnowF → WinnowF) : (s.modWin f g).ledger = s.ledger := rfl
@[simp] theorem modWin_memory (s : State) (f : Nat) (g : WinnowF → WinnowF) : (s.modWin f g).memory = s.memory := rfl
@[simp] theorem modWin_lantern (s : State) (f : Nat) (g : WinnowF → WinnowF) : (s.modWin f g).lantern = s.lantern := rfl
@[simp] theorem modWin_watchdog (s : State) (f : Nat) (g : WinnowF → WinnowF) : (s.modWin f g).watchdog = s.watchdog := rfl
@[simp] theorem modWin_hasp (s : State) (f : Nat) (g : WinnowF → WinnowF) : (s.modWin f g).hasp = s.hasp := rfl
@[simp] theorem modWin_vane (s : State) (f : Nat) (g : WinnowF → WinnowF) : (s.modWin f g).vane = s.vane := rfl
@[simp] theorem modWin_sources (s : State) (f : Nat) (g : WinnowF → WinnowF) : (s.modWin f g).sources = s.sources := rfl
@[simp] theorem modWin_exchanges (s : State) (f : Nat) (g : WinnowF → WinnowF) : (s.modWin f g).exchanges = s.exchanges := rfl
@[simp] theorem modWin_sieve (s : State) (f : Nat) (g : WinnowF → WinnowF) : (s.modWin f g).sieve = s.sieve := rfl
@[simp] theorem modWin_furrows (s : State) (f : Nat) (g : WinnowF → WinnowF) : (s.modWin f g).furrows = s.furrows := rfl
@[simp] theorem modWin_programs (s : State) (f : Nat) (g : WinnowF → WinnowF) : (s.modWin f g).programs = s.programs := rfl
@[simp] theorem modWin_sessions (s : State) (f : Nat) (g : WinnowF → WinnowF) : (s.modWin f g).sessions = s.sessions := rfl
@[simp] theorem modWin_steps (s : State) (f : Nat) (g : WinnowF → WinnowF) : (s.modWin f g).steps = s.steps := rfl
@[simp] theorem modWin_reaper (s : State) (f : Nat) (g : WinnowF → WinnowF) : (s.modWin f g).reaper = s.reaper := rfl
@[simp] theorem modWin_down (s : State) (f : Nat) (g : WinnowF → WinnowF) : (s.modWin f g).down = s.down := rfl
@[simp] theorem modWin_free (s : State) (f : Nat) (g : WinnowF → WinnowF) : (s.modWin f g).free = s.free := rfl

/-! ### A free value taken leaves the other fields -/

@[simp] theorem takeFree_pending (s : State) : s.takeFree.2.pending = s.pending := rfl
@[simp] theorem takeFree_dev (s : State) : s.takeFree.2.dev = s.dev := rfl
@[simp] theorem takeFree_engine (s : State) : s.takeFree.2.engine = s.engine := rfl
@[simp] theorem takeFree_degraded (s : State) : s.takeFree.2.degraded = s.degraded := rfl
@[simp] theorem takeFree_clocks (s : State) : s.takeFree.2.clocks = s.clocks := rfl
@[simp] theorem takeFree_regs (s : State) : s.takeFree.2.regs = s.regs := rfl
@[simp] theorem takeFree_ctrs (s : State) : s.takeFree.2.ctrs = s.ctrs := rfl
@[simp] theorem takeFree_lanes (s : State) : s.takeFree.2.lanes = s.lanes := rfl
@[simp] theorem takeFree_net (s : State) : s.takeFree.2.net = s.net := rfl
@[simp] theorem takeFree_events (s : State) : s.takeFree.2.events = s.events := rfl
@[simp] theorem takeFree_ledger (s : State) : s.takeFree.2.ledger = s.ledger := rfl
@[simp] theorem takeFree_memory (s : State) : s.takeFree.2.memory = s.memory := rfl
@[simp] theorem takeFree_lantern (s : State) : s.takeFree.2.lantern = s.lantern := rfl
@[simp] theorem takeFree_watchdog (s : State) : s.takeFree.2.watchdog = s.watchdog := rfl
@[simp] theorem takeFree_hasp (s : State) : s.takeFree.2.hasp = s.hasp := rfl
@[simp] theorem takeFree_vane (s : State) : s.takeFree.2.vane = s.vane := rfl
@[simp] theorem takeFree_sources (s : State) : s.takeFree.2.sources = s.sources := rfl
@[simp] theorem takeFree_exchanges (s : State) : s.takeFree.2.exchanges = s.exchanges := rfl
@[simp] theorem takeFree_winnow (s : State) : s.takeFree.2.winnow = s.winnow := rfl
@[simp] theorem takeFree_sieve (s : State) : s.takeFree.2.sieve = s.sieve := rfl
@[simp] theorem takeFree_furrows (s : State) : s.takeFree.2.furrows = s.furrows := rfl
@[simp] theorem takeFree_programs (s : State) : s.takeFree.2.programs = s.programs := rfl
@[simp] theorem takeFree_sessions (s : State) : s.takeFree.2.sessions = s.sessions := rfl
@[simp] theorem takeFree_steps (s : State) : s.takeFree.2.steps = s.steps := rfl
@[simp] theorem takeFree_reaper (s : State) : s.takeFree.2.reaper = s.reaper := rfl
@[simp] theorem takeFree_down (s : State) : s.takeFree.2.down = s.down := rfl

/-! ### Accepting a request -/

@[simp] theorem accept_dev (s : State) (h : ReqHdr) : (s.accept h).dev = s.dev := by
  unfold State.accept; dsimp only; split <;> rfl
@[simp] theorem accept_engine (s : State) (h : ReqHdr) : (s.accept h).engine = s.engine := by
  unfold State.accept; dsimp only; split <;> rfl
@[simp] theorem accept_regs (s : State) (h : ReqHdr) : (s.accept h).regs = s.regs := by
  unfold State.accept; dsimp only; split <;> rfl
@[simp] theorem accept_ctrs (s : State) (h : ReqHdr) : (s.accept h).ctrs = s.ctrs := by
  unfold State.accept; dsimp only; split <;> rfl
@[simp] theorem accept_net (s : State) (h : ReqHdr) : (s.accept h).net = s.net := by
  unfold State.accept; dsimp only; split <;> rfl
@[simp] theorem accept_events (s : State) (h : ReqHdr) : (s.accept h).events = s.events := by
  unfold State.accept; dsimp only; split <;> rfl
@[simp] theorem accept_ledger (s : State) (h : ReqHdr) : (s.accept h).ledger = s.ledger := by
  unfold State.accept; dsimp only; split <;> rfl
@[simp] theorem accept_memory (s : State) (h : ReqHdr) : (s.accept h).memory = s.memory := by
  unfold State.accept; dsimp only; split <;> rfl
@[simp] theorem accept_lantern (s : State) (h : ReqHdr) : (s.accept h).lantern = s.lantern := by
  unfold State.accept; dsimp only; split <;> rfl
@[simp] theorem accept_clocks (s : State) (h : ReqHdr) : (s.accept h).clocks = s.clocks := by
  unfold State.accept; dsimp only; split <;> rfl
@[simp] theorem accept_watchdog (s : State) (h : ReqHdr) : (s.accept h).watchdog = s.watchdog := by
  unfold State.accept; dsimp only; split <;> rfl
@[simp] theorem accept_hasp (s : State) (h : ReqHdr) : (s.accept h).hasp = s.hasp := by
  unfold State.accept; dsimp only; split <;> rfl
@[simp] theorem accept_vane (s : State) (h : ReqHdr) : (s.accept h).vane = s.vane := by
  unfold State.accept; dsimp only; split <;> rfl
@[simp] theorem accept_sources (s : State) (h : ReqHdr) : (s.accept h).sources = s.sources := by
  unfold State.accept; dsimp only; split <;> rfl
@[simp] theorem accept_exchanges (s : State) (h : ReqHdr) : (s.accept h).exchanges = s.exchanges := by
  unfold State.accept; dsimp only; split <;> rfl
@[simp] theorem accept_winnow (s : State) (h : ReqHdr) : (s.accept h).winnow = s.winnow := by
  unfold State.accept; dsimp only; split <;> rfl
@[simp] theorem accept_sieve (s : State) (h : ReqHdr) : (s.accept h).sieve = s.sieve := by
  unfold State.accept; dsimp only; split <;> rfl
@[simp] theorem accept_furrows (s : State) (h : ReqHdr) : (s.accept h).furrows = s.furrows := by
  unfold State.accept; dsimp only; split <;> rfl
@[simp] theorem accept_programs (s : State) (h : ReqHdr) : (s.accept h).programs = s.programs := by
  unfold State.accept; dsimp only; split <;> rfl
@[simp] theorem accept_sessions (s : State) (h : ReqHdr) : (s.accept h).sessions = s.sessions := by
  unfold State.accept; dsimp only; split <;> rfl
@[simp] theorem accept_steps (s : State) (h : ReqHdr) : (s.accept h).steps = s.steps := by
  unfold State.accept; dsimp only; split <;> rfl
@[simp] theorem accept_reaper (s : State) (h : ReqHdr) : (s.accept h).reaper = s.reaper := by
  unfold State.accept; dsimp only; split <;> rfl
@[simp] theorem accept_free (s : State) (h : ReqHdr) : (s.accept h).free = s.free := by
  unfold State.accept; dsimp only; split <;> rfl
@[simp] theorem accept_pending (s : State) (h : ReqHdr) : (s.accept h).pending = s.pending := by
  unfold State.accept; dsimp only; split <;> rfl
@[simp] theorem accept_degraded (s : State) (h : ReqHdr) : (s.accept h).degraded = s.degraded := by
  unfold State.accept; dsimp only; split <;> rfl
@[simp] theorem accept_down (s : State) (h : ReqHdr) : (s.accept h).down = s.down := by
  unfold State.accept; dsimp only; split <;> rfl
@[simp] theorem accept_netPending (s : State) (h : ReqHdr) (l : Nat) : (s.accept h).netPending l = s.netPending l := by
  simp [State.netPending]
@[simp] theorem accept_lanes_length (s : State) (h : ReqHdr) : (s.accept h).lanes.length = s.lanes.length := by
  unfold State.accept; dsimp only; split <;> simp

/-- What accepting a request leaves of its lane: all but E. -/
theorem accept_lane_rest (s : State) (h : ReqHdr) (l : Nat) :
    ((s.accept h).lane l).job = (s.lane l).job ∧ ((s.accept h).lane l).queue = (s.lane l).queue ∧
      ((s.accept h).lane l).held = (s.lane l).held ∧ ((s.accept h).lane l).b = (s.lane l).b ∧
      ((s.accept h).lane l).replies = (s.lane l).replies := by
  unfold State.accept
  dsimp only
  split
  · rw [lane_setLane]
    split
    · rename_i h1; obtain ⟨rfl, -⟩ := h1; exact ⟨rfl, rfl, rfl, rfl, rfl⟩
    · exact ⟨rfl, rfl, rfl, rfl, rfl⟩
  · exact ⟨rfl, rfl, rfl, rfl, rfl⟩

@[simp] theorem accept_lane_job (s : State) (h : ReqHdr) (l : Nat) : ((s.accept h).lane l).job = (s.lane l).job :=
  (accept_lane_rest s h l).1
@[simp] theorem accept_lane_queue (s : State) (h : ReqHdr) (l : Nat) : ((s.accept h).lane l).queue = (s.lane l).queue :=
  (accept_lane_rest s h l).2.1
@[simp] theorem accept_lane_held (s : State) (h : ReqHdr) (l : Nat) : ((s.accept h).lane l).held = (s.lane l).held :=
  (accept_lane_rest s h l).2.2.1
@[simp] theorem accept_busy (s : State) (h : ReqHdr) (l : Nat) : (s.accept h).busy l = s.busy l := by
  simp [State.busy]

end Sys2Proof.Machine
end

