-- ==== Sys2Proof/Laws/RegTable.lean ====
section
/-!
SUPPORT. Facts of the register table, each checked over the whole table once: after-power-up words fit 32 bits, and the
fields of a register lie within it without overlap.
-/
namespace Sys2Proof.Machine

/-- A register found at an address stands in the table, with an index within its array. -/
theorem regAt_spec {a : Nat} {p : Place} {r : RegDef} {i : Nat} (h : regAt a = some (p, r, i)) :
    placeOf a = some p ∧ p.b ∈ blockTable ∧ r ∈ p.b.regs ∧ r.index p.off = some i := by
  unfold regAt at h
  rw [Option.bind_eq_some_iff] at h
  obtain ⟨q, hq, h⟩ := h
  split at h
  · cases h
  · obtain ⟨x, hx, h⟩ := List.exists_of_findSome?_eq_some h
    rw [Option.map_eq_some_iff] at h
    obtain ⟨j, hj, h⟩ := h
    simp only [Prod.mk.injEq] at h
    obtain ⟨rfl, rfl, rfl⟩ := h
    refine ⟨hq, ?_, hx, hj⟩
    unfold placeOf at hq
    obtain ⟨b, hb, hp⟩ := List.exists_of_findSome?_eq_some hq
    unfold BlockDef.place at hp
    dsimp only at hp
    split at hp
    · cases hp
    · split at hp
      · simp only [Option.some.injEq] at hp; subst hp; exact hb
      · cases hp

/-- Two fields do not share a bit. -/
def Fld.apart (f g : Fld) : Bool := f.lo + f.w ≤ g.lo || g.lo + g.w ≤ f.lo

/-- A register's fields ascend without overlap within 32 bits. -/
def fieldsFrom (n : Nat) : List Fld → Bool
  | [] => n ≤ 32
  | f :: t => n ≤ f.lo && fieldsFrom (f.lo + f.w) t

theorem table_fields : (blockTable.all fun b => b.regs.all fun r => fieldsFrom 0 r.flds) = true := by decide

theorem table_resets : (blockTable.all fun b => b.regs.all fun r =>
    decide ((if b.blk = .winnow ∧ r.name = "POINT_k" then r.resetWord + max r.cnt 1 * 0x400 else r.resetWord) < 2 ^ 32)) = true := by
  decide

theorem table_reset {b : BlockDef} {r : RegDef} (hb : b ∈ blockTable) (hr : r ∈ b.regs) :
    (if b.blk = .winnow ∧ r.name = "POINT_k" then r.resetWord + max r.cnt 1 * 0x400 else r.resetWord) < 2 ^ 32 := by
  have t := table_resets
  rw [List.all_eq_true] at t
  have t := t b hb
  rw [List.all_eq_true] at t
  exact of_decide_eq_true (t r hr)

theorem index_lt {r : RegDef} {o i : Nat} (h : r.index o = some i) : i < max r.cnt 1 := by
  unfold RegDef.index at h
  split at h
  · cases h
  · split at h
    · split at h
      · simp only [Option.some.injEq] at h; omega
      · cases h
    · split at h
      · simp only [Option.some.injEq] at h; omega
      · cases h

theorem resetWord_lt (a : Nat) : resetWord a < 2 ^ 32 := by
  unfold resetWord
  split
  · decide
  · rename_i p r i h
    obtain ⟨-, hb, hr, hi⟩ := regAt_spec h
    have t := table_reset hb hr
    have := index_lt hi
    have m : i * 0x400 ≤ max r.cnt 1 * 0x400 := Nat.mul_le_mul_right _ (Nat.le_of_lt this)
    split at t
    · rename_i hc; rw [if_pos hc]; exact Nat.lt_of_le_of_lt (Nat.add_le_add_left m _) t
    · rename_i hc; rw [if_neg hc]; exact t

theorem regAt_fields {a : Nat} {p : Place} {r : RegDef} {i : Nat} (h : regAt a = some (p, r, i)) :
    fieldsFrom 0 r.flds = true := by
  obtain ⟨-, hb, hr, -⟩ := regAt_spec h
  have t := table_fields
  rw [List.all_eq_true] at t
  have t := t p.b hb
  rw [List.all_eq_true] at t
  exact t r hr

end Sys2Proof.Machine
end

