-- ==== Sys2Proof/Laws/Lists.lean ====
section
/-!
SUPPORT. Keyed lists: what a lookup gives after a value is put or deleted, and that every operation keeps the canonical
form; with it the laws of the register file, the counters and the bytes of memory.
-/
namespace Sys2Proof.Machine

/-! ### Rising keys -/

theorem risingFrom_none_of {β : Type} {b : Option Nat} {l : List (Nat × β)} (h : risingFrom b l = true) :
    risingFrom none l = true := by
  cases l with
  | nil => rfl
  | cons e t => obtain ⟨k, v⟩ := e; simp [risingFrom] at h ⊢; exact h.2

theorem risingFrom_some {β : Type} {a : Nat} {l : List (Nat × β)} (h : risingFrom (some a) l = true) :
    ∀ e ∈ l, a < e.1 := by
  induction l generalizing a with
  | nil => simp
  | cons x t ih =>
    obtain ⟨k, v⟩ := x
    simp only [risingFrom, Bool.and_eq_true, decide_eq_true_eq] at h
    intro e he
    rcases List.mem_cons.mp he with rfl | he
    · exact h.1
    · have := ih h.2 e he; omega

theorem risingFrom_mono {β : Type} {a b : Nat} {l : List (Nat × β)} (h : risingFrom (some a) l = true) (hb : b ≤ a) :
    risingFrom (some b) l = true := by
  cases l with
  | nil => rfl
  | cons x t =>
    obtain ⟨k, v⟩ := x
    simp only [risingFrom, Bool.and_eq_true, decide_eq_true_eq] at h ⊢
    exact ⟨by omega, h.2⟩

theorem risingFrom_cons {β : Type} {b : Option Nat} {k : Nat} {v : β} {l : List (Nat × β)}
    (h : risingFrom b ((k, v) :: l) = true) : risingFrom (some k) l = true := by
  simp only [risingFrom, Bool.and_eq_true] at h; exact h.2

theorem look_of_lt {β : Type} {a k : Nat} {l : List (Nat × β)} (h : risingFrom (some a) l = true) (hk : k ≤ a) :
    look l k = none := by
  induction l generalizing a with
  | nil => rfl
  | cons x t ih =>
    obtain ⟨k', v⟩ := x
    simp only [risingFrom, Bool.and_eq_true, decide_eq_true_eq] at h
    simp only [look, show k ≠ k' by omega, if_false]
    exact ih h.2 (by omega)

/-! ### Lookups -/

theorem look_put {β : Type} (l : List (Nat × β)) (k j : Nat) (v : β) :
    look (put l k v) j = if j = k then some v else look l j := by
  induction l with
  | nil => simp [put, look]
  | cons x t ih =>
    obtain ⟨k', v'⟩ := x
    simp only [put]
    split
    · simp only [look]
    · split
      · rename_i h1 h2; subst h2; simp only [look]; split <;> rfl
      · rename_i h1 h2
        simp only [look, ih]
        split
        · rename_i h3; subst h3; simp [Ne.symm h2]
        · rfl

theorem look_del {β : Type} {l : List (Nat × β)} (h : risingFrom none l = true) (k j : Nat) :
    look (del l k) j = if j = k then none else look l j := by
  induction l with
  | nil => simp [del, look]
  | cons x t ih =>
    obtain ⟨k', v'⟩ := x
    have ht := risingFrom_cons h
    simp only [del]
    split
    · rename_i h1; subst h1
      simp only [look]
      by_cases hj : j = k
      · subst hj; simp [look_of_lt ht (Nat.le_refl j)]
      · simp [hj]
    · rename_i h1
      simp only [look, ih (risingFrom_none_of ht)]
      by_cases hj : j = k'
      · subst hj; simp [Ne.symm h1]
      · simp [hj]

theorem look_putD {β : Type} [DecidableEq β] {l : List (Nat × β)} (h : risingFrom none l = true) (d : β) (k j : Nat) (v : β) :
    (look (putD d l k v) j).getD d = if j = k then v else (look l j).getD d := by
  unfold putD
  split
  · rename_i hv; rw [look_del h]; split <;> simp [hv]
  · rw [look_put]; split <;> simp

theorem look_putD_of_ne {β : Type} [DecidableEq β] {l : List (Nat × β)} (h : risingFrom none l = true) (d : β) (k j : Nat) (v : β)
    (hj : j ≠ k) : look (putD d l k v) j = look l j := by
  unfold putD
  split
  · rw [look_del h, if_neg hj]
  · rw [look_put, if_neg hj]

theorem look_some_mem {β : Type} {l : List (Nat × β)} {k : Nat} {v : β} (h : look l k = some v) : (k, v) ∈ l := by
  induction l with
  | nil => simp [look] at h
  | cons x t ih =>
    obtain ⟨k', v'⟩ := x
    simp only [look] at h
    split at h
    · rename_i hk; subst hk; simp at h; subst h; simp
    · exact List.mem_cons_of_mem _ (ih h)

/-! ### The canonical form is kept -/

theorem risingFrom_put {β : Type} {b : Option Nat} {l : List (Nat × β)} {k : Nat} {v : β} (h : risingFrom b l = true)
    (hk : ∀ a, b = some a → a < k) : risingFrom b (put l k v) = true := by
  induction l generalizing b with
  | nil => cases b <;> simp [put, risingFrom]; exact hk _ rfl
  | cons x t ih =>
    obtain ⟨k', v'⟩ := x
    have ht := risingFrom_cons h
    simp only [put]
    split
    · rename_i h1
      simp only [risingFrom, Bool.and_eq_true, decide_eq_true_eq]
      refine ⟨?_, h1, ht⟩
      cases b with
      | none => rfl
      | some a => simpa using hk a rfl
    · split
      · rename_i h1 h2; subst h2
        simp only [risingFrom, Bool.and_eq_true] at h ⊢
        exact h
      · rename_i h1 h2
        simp only [risingFrom, Bool.and_eq_true] at h ⊢
        exact ⟨h.1, ih h.2 (by intro a ha; simp at ha; omega)⟩

theorem risingFrom_del {β : Type} {b : Option Nat} {l : List (Nat × β)} {k : Nat} (h : risingFrom b l = true) :
    risingFrom b (del l k) = true := by
  induction l generalizing b with
  | nil => rfl
  | cons x t ih =>
    obtain ⟨k', v'⟩ := x
    have ht := risingFrom_cons h
    simp only [del]
    split
    · cases b with
      | none => exact risingFrom_none_of ht
      | some a =>
        simp only [risingFrom, Bool.and_eq_true, decide_eq_true_eq] at h
        exact risingFrom_mono h.2 (by omega)
    · simp only [risingFrom, Bool.and_eq_true] at h ⊢
      exact ⟨h.1, ih h.2⟩

theorem risingFrom_filter {β : Type} {b : Option Nat} {l : List (Nat × β)} (p : Nat × β → Bool) (h : risingFrom b l = true) :
    risingFrom b (l.filter p) = true := by
  induction l generalizing b with
  | nil => rfl
  | cons x t ih =>
    obtain ⟨k', v'⟩ := x
    have ht := risingFrom_cons h
    by_cases hp : p (k', v')
    · rw [List.filter_cons_of_pos hp]
      simp only [risingFrom, Bool.and_eq_true] at h ⊢
      exact ⟨h.1, ih h.2⟩
    · rw [List.filter_cons_of_neg hp]
      cases b with
      | none => exact ih (risingFrom_none_of ht)
      | some a =>
        simp only [risingFrom, Bool.and_eq_true, decide_eq_true_eq] at h
        exact ih (risingFrom_mono h.2 (by omega))

theorem mem_put {β : Type} {l : List (Nat × β)} {k : Nat} {v : β} {e : Nat × β} (h : e ∈ put l k v) : e = (k, v) ∨ e ∈ l := by
  induction l with
  | nil => simpa [put] using h
  | cons x t ih =>
    obtain ⟨k', v'⟩ := x
    simp only [put] at h
    split at h
    · simpa using h
    · split at h
      · rcases List.mem_cons.mp h with h | h
        · exact Or.inl h
        · exact Or.inr (List.mem_cons_of_mem _ h)
      · rcases List.mem_cons.mp h with h | h
        · exact Or.inr (by simp [h])
        · rcases ih h with h | h
          · exact Or.inl h
          · exact Or.inr (List.mem_cons_of_mem _ h)

theorem mem_del {β : Type} {l : List (Nat × β)} {k : Nat} {e : Nat × β} (h : e ∈ del l k) : e ∈ l := by
  induction l with
  | nil => exact h
  | cons x t ih =>
    obtain ⟨k', v'⟩ := x
    simp only [del] at h
    split at h
    · exact List.mem_cons_of_mem _ h
    · rcases List.mem_cons.mp h with h | h
      · exact h ▸ List.mem_cons_self
      · exact List.mem_cons_of_mem _ (ih h)

theorem canonical_iff {β : Type} [DecidableEq β] {d : Nat → β} {l : List (Nat × β)} :
    canonical d l = true ↔ risingFrom none l = true ∧ ∀ e ∈ l, e.2 ≠ d e.1 := by
  simp [canonical]

theorem canonical_rising {β : Type} [DecidableEq β] {d : Nat → β} {l : List (Nat × β)} (h : canonical d l = true) :
    risingFrom none l = true := (canonical_iff.mp h).1

theorem canonical_put {β : Type} [DecidableEq β] {d : Nat → β} {l : List (Nat × β)} {k : Nat} {v : β}
    (h : canonical d l = true) (hv : v ≠ d k) : canonical d (put l k v) = true := by
  rw [canonical_iff] at h ⊢
  refine ⟨risingFrom_put h.1 (by simp), fun e he => ?_⟩
  rcases mem_put he with rfl | he
  · exact hv
  · exact h.2 e he

theorem canonical_putD {β : Type} [DecidableEq β] {d : Nat → β} {l : List (Nat × β)} (k : Nat) (v : β)
    (h : canonical d l = true) : canonical d (putD (d k) l k v) = true := by
  unfold putD
  split
  · rw [canonical_iff] at h ⊢
    exact ⟨risingFrom_del h.1, fun e he => h.2 e (mem_del he)⟩
  · rename_i hv; exact canonical_put h hv

theorem canonical_filter {β : Type} [DecidableEq β] {d : Nat → β} {l : List (Nat × β)} (p : Nat × β → Bool)
    (h : canonical d l = true) : canonical d (l.filter p) = true := by
  rw [canonical_iff] at h ⊢
  exact ⟨risingFrom_filter p h.1, fun e he => h.2 e (List.mem_filter.mp he).1⟩

/-! ### The register file -/

theorem State.Inv.rising {s : State} (h : s.Inv) : risingFrom none s.regs = true := canonical_rising h.regs
theorem State.Inv.risingCtrs {s : State} (h : s.Inv) : risingFrom none s.ctrs = true := canonical_rising h.ctrs

/-- A register written: it holds the value, and every other register is as before. -/
theorem reg_setReg {s : State} (h : risingFrom none s.regs = true) (a v b : Nat) :
    (s.setReg a v).reg b = if b = a then v % 2 ^ 32 else s.reg b := by
  unfold State.reg State.setReg
  dsimp only
  by_cases hb : b = a
  · subst hb
    rw [if_pos rfl]
    unfold putD
    split
    · rename_i hv
      rw [look_del h, if_pos rfl]
      have := congrArg BitVec.toNat hv
      simp only [BitVec.toNat_ofNat] at this
      simp only [Option.map_none, Option.getD_none]
      rw [this]
      exact (Nat.mod_eq_of_lt (resetWord_lt b)).symm
    · rw [look_put, if_pos rfl]; simp
  · rw [if_neg hb, look_putD_of_ne h _ _ _ _ hb]

end Sys2Proof.Machine
end

