-- ==== Sys2Proof/Laws/Memory.lean ====
section
/-!
SUPPORT. What the memory operations keep: the operations that only count, record or answer leave the memory as it is, and
every operation that stores bytes keeps them in canonical form.
-/
namespace Sys2Proof.Machine

/-! ### Operations that leave the memory alone -/

@[simp] theorem setFld_memory (s : State) (a lo w v : Nat) : (s.setFld a lo w v).memory = s.memory := rfl
@[simp] theorem bump_memory (s : State) (a n : Nat) : (s.bump a n).memory = s.memory := by
  unfold State.bump; split <;> rfl
@[simp] theorem bump48_memory (s : State) (a n : Nat) : (s.bump48 a n).memory = s.memory := by
  unfold State.bump48; split <;> rfl
@[simp] theorem queueLedger_memory (s : State) (r : Record) : (s.queueLedger r).memory = s.memory := by
  unfold State.queueLedger
  simp only
  split
  · exact bump_memory s _ _
  · rfl
@[simp] theorem raiseAt_memory (s : State) (r : Record) (k : Nat × Nat) : (s.raiseAt r k).memory = s.memory := by
  unfold State.raiseAt
  simp only
  split <;> split <;> split <;> simp [State.enterEvent]
@[simp] theorem raise_memory (s : State) (r : Record) (b : Option Blk) : (s.raise r b).memory = s.memory := raiseAt_memory s r _
@[simp] theorem send_memory (s : State) (k : OutKind) : (s.send k).memory = s.memory := by
  unfold State.send; split <;> rfl

theorem foldl_memory {β : Type} (f : State → β → State) (h : ∀ s x, (f s x).memory = s.memory) :
    ∀ (l : List β) (s : State), (l.foldl f s).memory = s.memory
  | [], _ => rfl
  | x :: t, s => by rw [List.foldl_cons, foldl_memory f h t, h]

@[simp] theorem sendReply_memory (s : State) (r : Reply) : (s.sendReply r).memory = s.memory :=
  foldl_memory _ (fun s _ => send_memory s _) _ _
@[simp] theorem reply_memory (s : State) (h : ReqHdr) (op st : Nat) (d : List Byte) : (s.reply h op st d).memory = s.memory := by
  simp [State.reply, State.setLane]
@[simp] theorem failReply_memory (s : State) (h : ReqHdr) (op : Nat) (f : Failure) (rec : Nat) :
    (s.failReply h op f rec).memory = s.memory := by
  unfold State.failReply
  simp only [reply_memory]
  split <;> split <;> try split
  all_goals simp [State.setLane]
@[simp] theorem setJob_memory (s : State) (h : ReqHdr) (op : Nat) (c : Instr) (k : JobKind) : (s.setJob h op c k).memory = s.memory := rfl

/-! ### Operations that leave the stored bytes alone -/

@[simp] theorem clearErr_cells (s : State) (w : Nat) : (s.clearErr w).memory.cells = s.memory.cells := rfl
@[simp] theorem setErr_cells (s : State) (e : WordErr) : (s.setErr e).memory.cells = s.memory.cells := rfl
@[simp] theorem setFlip_cells (s : State) (t : Tier) (f : Option Flip) : (s.setFlip t f).memory.cells = s.memory.cells := by
  cases t <;> rfl

@[simp] theorem logCE_cells (s : State) (w : Nat) : (s.logCE w).memory.cells = s.memory.cells := by
  unfold State.logCE
  simp only
  split
  · simp
  · split
    · simp
    · split
      · simp
      · simp only [raise_memory]
        simp

@[simp] theorem logUE_cells (s : State) (w src : Nat) : (s.logUE w src).memory.cells = s.memory.cells := by
  unfold State.logUE
  simp only
  split
  · simp
  · split <;> simp

@[simp] theorem applyFlip_cells (s : State) (w : Nat) : (s.applyFlip w).memory.cells = s.memory.cells := by
  unfold State.applyFlip
  simp only
  split
  · rfl
  · split
    · rfl
    · simp

/-! ### Operations that store bytes -/

theorem canonical_pokeCell {m : List (Nat × Byte)} (a : Nat) (b : Byte) (h : canonical (fun _ => (0 : Byte)) m = true) :
    canonical (fun _ => (0 : Byte)) (pokeCell m a b) = true := canonical_putD a b h

theorem canonical_pokeCells : ∀ (bs : List Byte) {m : List (Nat × Byte)} (a : Nat), canonical (fun _ => (0 : Byte)) m = true →
    canonical (fun _ => (0 : Byte)) (pokeCells m a bs) = true
  | [], _, _, h => h
  | b :: t, _, a, h => canonical_pokeCells t (a + 1) (canonical_pokeCell a b h)

theorem canonical_pokeSome (w : Nat) : ∀ (bs : List (Nat × Byte)) {m : List (Nat × Byte)}, canonical (fun _ => (0 : Byte)) m = true →
    canonical (fun _ => (0 : Byte)) (pokeSome m w bs) = true
  | [], _, h => h
  | b :: t, _, h => canonical_pokeSome w t (canonical_pokeCell (w + b.1) b.2 h)

/-- The form depends on the stored bytes alone. -/
theorem wf_of_cells {s t : State} (e : t.memory.cells = s.memory.cells) (h : s.memory.wf = true) : t.memory.wf = true := by
  unfold Memory.wf at *
  rw [e]
  exact h

theorem wf_poke {s : State} (a : Nat) (bs : List Byte) (h : s.memory.wf = true) : (s.poke a bs).memory.wf = true :=
  canonical_pokeCells bs a h

theorem wf_pokeSome {s : State} (w : Nat) (bs : List (Nat × Byte)) (h : s.memory.wf = true) :
    ({ s with memory := { s.memory with cells := pokeSome s.memory.cells w bs } } : State).memory.wf = true :=
  canonical_pokeSome w bs h

theorem wf_zero {s : State} (a n : Nat) (h : s.memory.wf = true) : (s.zero a n).memory.wf = true := canonical_filter _ h

theorem wf_readWord {s : State} (w src : Nat) (h : s.memory.wf = true) : (s.readWord w src).2.memory.wf = true := by
  unfold State.readWord
  split
  · exact h
  · split
    · exact h
    · exact wf_of_cells (by simp) h
    · exact wf_of_cells (by simp) h
    · exact h
    · simp only
      split
      · exact wf_of_cells (by simp) h
      · split
        · refine wf_of_cells (s := (s.takeFree.2.takeFree.2.poke w (le 64 s.takeFree.2.takeFree.1))) (by simp) ?_
          exact wf_poke _ _ (wf_of_cells (by simp) h)
        · exact wf_of_cells (by simp) h

theorem wf_readPiece {s : State} (src : Nat) (p : Nat × Nat) (h : s.memory.wf = true) : (s.readPiece src p).2.memory.wf = true := by
  unfold State.readPiece
  simp only
  split
  · exact h
  · exact wf_readWord _ _ h

theorem wf_readPieces (src : Nat) : ∀ (l : List (Nat × Nat)) {s : State}, s.memory.wf = true →
    (State.readPieces src l s).2.memory.wf = true
  | [], _, h => h
  | p :: t, s, h => by
    unfold State.readPieces
    have k := wf_readPiece src p h
    split
    · next e => rw [e] at k; exact k
    · next e => rw [e] at k; exact wf_readPieces src t k

/-- A read keeps the canonical form. -/
theorem wf_readMem {s : State} (src a n : Nat) (h : s.memory.wf = true) : (s.readMem src a n).2.memory.wf = true :=
  wf_readPieces src _ h

theorem wf_writeWord {s : State} (w : Nat) (d : List Byte) (h : s.memory.wf = true) : (s.writeWord w d).memory.wf = true :=
  wf_of_cells (s := s.poke w d) (by simp [State.writeWord]) (wf_poke w d h)

theorem wf_flushEntry {s : State} (m : MergeEntry) (h : s.memory.wf = true) : (s.flushEntry m).memory.wf = true := by
  unfold State.flushEntry
  simp only
  generalize hb : ({ s with memory := { s.memory with merge := s.memory.merge.filter fun x => !(x.word = m.word) } } : State).bump
    (aMemctl m.ctl 0x120) = b
  have hb' : b.memory.wf = true := by
    rw [← hb]
    exact wf_of_cells (s := s) (by simp) h
  split
  · exact wf_writeWord _ _ hb'
  · have hc : (b.bump (aMemctl m.ctl 0x124)).memory.wf = true := wf_of_cells (by simp) hb'
    split
    · refine wf_of_cells (applyFlip_cells _ _) ?_
      cases (b.bump (aMemctl m.ctl 0x124)).errOf m.word with
      | none => exact wf_pokeSome _ _ hc
      | some e => exact wf_pokeSome (s := (b.bump (aMemctl m.ctl 0x124)).setErr (e.touched (offsOf m.bytes))) _ _ (wf_of_cells (by simp) hc)
    · have k := wf_readWord m.word (if m.owner = .commit then 3 else 1) hc
      split
      · next s' e => rw [e] at k; exact k
      · next d s' e =>
        rw [e] at k
        refine wf_of_cells (applyFlip_cells _ _) ?_
        exact wf_pokeSome (s := (s'.poke m.word d).clearErr m.word) _ _ (wf_of_cells (s := s'.poke m.word d) (by simp) (wf_poke _ _ k))

theorem wf_flushAll : ∀ (l : List MergeEntry) {s : State}, s.memory.wf = true → (s.flushAll l).memory.wf = true
  | [], _, h => h
  | m :: t, _, h => wf_flushAll t (wf_flushEntry m h)

theorem wf_flushOwner {s : State} (o : Owner) (h : s.memory.wf = true) : (s.flushOwner o).memory.wf = true := wf_flushAll _ h

theorem wf_mergeWrite {s : State} (o : Owner) (a : Nat) (bs : List Byte) (h : s.memory.wf = true) :
    (s.mergeWrite o a bs).memory.wf = true := by
  unfold State.mergeWrite
  simp only
  split
  · split
    · exact wf_flushEntry _ h
    · exact h
  · split
    · split
      · exact wf_flushEntry _ h
      · exact h
    · exact h

theorem wf_writePiece {s : State} (o : Owner) (p : Nat × Nat) (bs : List Byte) (h : s.memory.wf = true) :
    (s.writePiece o p bs).memory.wf = true := by
  unfold State.writePiece
  split
  · exact wf_poke p.1 bs h
  · split
    · exact wf_writeWord _ _ h
    · exact wf_mergeWrite _ _ _ h

theorem wf_writePieces (o : Owner) (a : Nat) (bs : List Byte) : ∀ (l : List (Nat × Nat)) {s : State}, s.memory.wf = true →
    (State.writePieces o a bs l s).memory.wf = true
  | [], _, h => h
  | p :: t, _, h => wf_writePieces o a bs t (wf_writePiece o p _ h)

/-- A write keeps the canonical form. -/
theorem wf_writeMem {s : State} (o : Owner) (a : Nat) (bs : List Byte) (h : s.memory.wf = true) : (s.writeMem o a bs).memory.wf = true :=
  wf_writePieces o a bs _ h

theorem canonical_puts (src dst : Nat) : ∀ (l : List (Nat × Byte)) {m : List (Nat × Byte)}, (∀ c ∈ l, c.2 ≠ 0) →
    canonical (fun _ => (0 : Byte)) m = true →
    canonical (fun _ => (0 : Byte)) (l.foldl (fun m c => put m (c.1 - src + dst) c.2) m) = true
  | [], _, _, h => h
  | c :: t, _, hl, h => canonical_puts src dst t (fun x hx => hl x (List.mem_cons_of_mem _ hx))
      (canonical_put h (hl c List.mem_cons_self))

/-- The save range copied on the way into NIGHT and back keeps the canonical form (R393). -/
theorem wf_copyCells {s : State} (src dst n : Nat) (h : s.memory.wf = true) : (s.copyCells src dst n).memory.wf = true :=
  canonical_puts src dst _ (fun c hc => (canonical_iff.mp h).2 c (List.mem_filter.mp hc).1) (canonical_filter _ h)

theorem wf_reset : State.reset.memory.wf = true := by decide

/-! ### A byte read after a write -/

/-- The byte at an address once one byte is stored. -/
theorem look_pokeCell {m : List (Nat × Byte)} (h : canonical (fun _ => (0 : Byte)) m = true) (a x : Nat) (b : Byte) :
    (look (pokeCell m a b) x).getD 0 = if x = a then b else (look m x).getD 0 := by
  have r := canonical_rising h
  unfold pokeCell putD
  split
  · next e =>
    rw [look_del r]
    split <;> simp_all
  · rw [look_put]
    split <;> simp_all

/-- The byte at an address after consecutive bytes are stored. -/
theorem look_pokeCells : ∀ (bs : List Byte) {m : List (Nat × Byte)} (a x : Nat), canonical (fun _ => (0 : Byte)) m = true →
    (look (pokeCells m a bs) x).getD 0 = if a ≤ x ∧ x < a + bs.length then bs.getD (x - a) 0 else (look m x).getD 0
  | [], _, a, x, _ => by
    have : ¬ (a ≤ x ∧ x < a + ([] : List Byte).length) := by simp
    rw [if_neg this]
    rfl
  | b :: t, m, a, x, h => by
    show (look (pokeCells (pokeCell m a b) (a + 1) t) x).getD 0 = _
    rw [look_pokeCells t (a + 1) x (canonical_pokeCell a b h), look_pokeCell h]
    simp only [List.length_cons]
    by_cases e : x = a
    · subst e
      rw [if_neg (by omega), if_pos rfl, if_pos (by omega)]
      simp
    · by_cases k : a + 1 ≤ x ∧ x < a + 1 + t.length
      · rw [if_pos k, if_pos (by omega)]
        have : x - a = (x - (a + 1)) + 1 := by omega
        rw [this, List.getD_cons_succ]
      · rw [if_neg k, if_neg e, if_neg (by omega)]

/-- The byte at an address after a poke. -/
theorem byteAt_poke {s : State} (h : s.memory.wf = true) (a x : Nat) (bs : List Byte) :
    (s.poke a bs).byteAt x = if a ≤ x ∧ x < a + bs.length then bs.getD (x - a) 0 else s.byteAt x :=
  look_pokeCells bs a x h

end Sys2Proof.Machine
end

