-- ==== Sys2Proof/Laws/Ops.lean ====
section
/-!
SUPPORT. Everything that the shared operations can do, said once each: registers and counters, records on their way,
frames, replies and lanes. What an operation does not name it leaves as it was.
-/
namespace Sys2Proof.Machine

/-! ### Registers and counters -/

/-- A register written changes the register file only. -/
theorem setReg_only (s : State) (a v : Nat) : s.setReg a v = { s with regs := (s.setReg a v).regs } := rfl

/-- The register file stays in canonical form. -/
theorem canonical_setReg {s : State} (a v : Nat) (h : canonical (fun a => BitVec.ofNat 32 (resetWord a)) s.regs = true) :
    canonical (fun a => BitVec.ofNat 32 (resetWord a)) (s.setReg a v).regs = true := canonical_putD a _ h

/-- A 32-bit counter raised changes the register file only. -/
theorem bump_only (s : State) (a n : Nat) : s.bump a n = { s with regs := (s.bump a n).regs } := by
  unfold State.bump
  split <;> rfl

/-- A 32-bit counter raised: it saturates, a frozen one stays, and no other register changes (R447). -/
theorem reg_bump {s : State} (h : risingFrom none s.regs = true) (a n b : Nat) :
    (s.bump a n).reg b = if b = a ∧ s.frozen a = false then min (s.reg a + n) 0xFFFFFFFF else s.reg b := by
  unfold State.bump
  cases f : s.frozen a
  · rw [if_neg (by simp), reg_setReg h]
    by_cases e : b = a
    · rw [if_pos e, if_pos ⟨e, rfl⟩]
      exact Nat.mod_eq_of_lt (by omega)
    · rw [if_neg e, if_neg (by simp [e])]
  · simp

theorem canonical_bump {s : State} (a n : Nat) (h : canonical (fun a => BitVec.ofNat 32 (resetWord a)) s.regs = true) :
    canonical (fun a => BitVec.ofNat 32 (resetWord a)) (s.bump a n).regs = true := by
  unfold State.bump
  split
  · exact h
  · exact canonical_setReg _ _ h

/-- A 48-bit counter raised changes the counters only. -/
theorem bump48_only (s : State) (a n : Nat) : s.bump48 a n = { s with ctrs := (s.bump48 a n).ctrs } := by
  unfold State.bump48
  split <;> rfl

/-- A 48-bit counter raised: it wraps, a frozen one stays, and no other counter changes (R172, R447). -/
theorem ctr_bump48 {s : State} (h : risingFrom none s.ctrs = true) (a n b : Nat) :
    (s.bump48 a n).ctr b = if b = a ∧ s.frozen a = false then (s.ctr a + n) % 2 ^ 48 else s.ctr b := by
  unfold State.bump48
  cases f : s.frozen a
  · rw [if_neg (by simp)]
    show (look (putD 0 s.ctrs a ((s.ctr a + n) % 2 ^ 48)) b).getD 0 = _
    by_cases e : b = a
    · subst e
      rw [if_pos ⟨rfl, rfl⟩]
      unfold putD
      split
      · next z => rw [look_del h, if_pos rfl, z]; rfl
      · rw [look_put, if_pos rfl]; rfl
    · rw [if_neg (by simp [e]), look_putD_of_ne h _ _ _ _ e]
      rfl
  · simp

/-! ### Records -/

/-- A record queued for the Ledger changes the Ledger, or counts a suppressed one in a register (R438). -/
theorem queueLedger_only (s : State) (r : Record) : ∃ rg lg, s.queueLedger r = { s with regs := rg, ledger := lg } := by
  unfold State.queueLedger
  simp only
  split
  · exact ⟨_, s.ledger, bump_only s _ _⟩
  · exact ⟨s.regs, _, rfl⟩

/-- A record raised changes the event ring, the Ledger, its suppression counter and the alert latch (R434, R441). -/
theorem raiseAt_only (s : State) (r : Record) (k : Nat × Nat) : ∃ rg ev lg la,
    s.raiseAt r k = { s with regs := rg, events := ev, ledger := lg, lantern := { s.lantern with latch := la } } := by
  unfold State.raiseAt
  simp only
  generalize ({ r with
    flags := _, clockKind := _, eventSeq := _, boot := _, uptime := _, clock := _ } : Record) = x
  by_cases e : (kindPlaces r.kind r.detail).1 = true
  · obtain ⟨rg, lg, h⟩ := queueLedger_only (s.enterEvent x) x
    rw [if_pos e, h]
    by_cases f : (kindPlaces r.kind r.detail).2.1 = true
    · rw [if_pos f]
      by_cases g : (kindPlaces r.kind r.detail).2.2 = true
      · rw [if_pos g]; exact ⟨_, _, _, true, rfl⟩
      · rw [if_neg g]; exact ⟨_, _, _, s.lantern.latch, rfl⟩
    · rw [if_neg f]
      by_cases g : (kindPlaces r.kind r.detail).2.2 = true
      · rw [if_pos g]; exact ⟨_, _, _, true, rfl⟩
      · rw [if_neg g]; exact ⟨_, _, _, s.lantern.latch, rfl⟩
  · obtain ⟨rg, lg, h⟩ := queueLedger_only s x
    rw [if_neg e, h]
    by_cases f : (kindPlaces r.kind r.detail).2.1 = true
    · rw [if_pos f]
      by_cases g : (kindPlaces r.kind r.detail).2.2 = true
      · rw [if_pos g]; exact ⟨_, _, _, true, rfl⟩
      · rw [if_neg g]; exact ⟨_, _, _, s.lantern.latch, rfl⟩
    · rw [if_neg f]
      by_cases g : (kindPlaces r.kind r.detail).2.2 = true
      · rw [if_pos g]; exact ⟨_, _, _, true, rfl⟩
      · rw [if_neg g]; exact ⟨_, _, _, s.lantern.latch, rfl⟩

theorem raise_only (s : State) (r : Record) (b : Option Blk) : ∃ rg ev lg la,
    s.raise r b = { s with regs := rg, events := ev, ledger := lg, lantern := { s.lantern with latch := la } } :=
  raiseAt_only s r _

/-! ### Frames, replies, lanes -/

/-- A frame sent is all that changes, and nothing leaves while the port is down (R53). -/
theorem send_only (s : State) (k : OutKind) : s.send k = { s with net := { s.net with sent := (s.send k).net.sent } } := by
  unfold State.send
  split <;> rfl

theorem foldl_send {β : Type} (f : β → OutKind) : ∀ (l : List β) (s : State),
    ∃ x, l.foldl (fun s b => s.send (f b)) s = { s with net := { s.net with sent := x } }
  | [], s => ⟨s.net.sent, rfl⟩
  | b :: t, s => by
    obtain ⟨x, h⟩ := foldl_send f t (s.send (f b))
    refine ⟨x, ?_⟩
    rw [List.foldl_cons, h, send_only]

theorem sendReply_only (s : State) (r : Reply) : s.sendReply r = { s with net := { s.net with sent := (s.sendReply r).net.sent } } := by
  obtain ⟨x, h⟩ := foldl_send (fun p => OutKind.walong p) (r.packets (s.lane r.hdr.lane).e) s
  have h : s.sendReply r = { s with net := { s.net with sent := x } } := h
  rw [h]

/-- A reply changes the frames sent and its lane. -/
theorem reply_only (s : State) (h : ReqHdr) (op st : Nat) (d : List Byte) :
    s.reply h op st d = { s with
      lanes := (s.reply h op st d).lanes, net := { s.net with sent := (s.reply h op st d).net.sent } } := by
  unfold State.reply
  simp only [State.setLane]
  rw [sendReply_only]

/-- A reply leaves every other lane as it was. -/
theorem reply_other (s : State) (h : ReqHdr) (op st : Nat) (d : List Byte) {l : Nat} (hl : l ≠ h.lane) :
    (s.reply h op st d).lane l = s.lane l := by
  unfold State.reply
  simp only
  rw [lane_setLane, if_neg (by simp [hl]), sendReply_only]
  rfl

/-- The command of a reply is no longer running (R58). -/
theorem reply_frees (s : State) (h : ReqHdr) (op st : Nat) (d : List Byte) (hn : s.lanes.length = 16) (hl : h.lane < 16)
    (hj : ∀ j, (s.lane h.lane).job = some j → j.hdr.seq = h.seq) : ((s.reply h op st d).lane h.lane).job = none := by
  unfold State.reply
  simp only
  rw [lane_setLane, if_pos ⟨rfl, by rw [sendReply_only]; simpa [hn] using hl⟩]
  rw [sendReply_only]
  show (match (s.lane h.lane).job with | some j => if j.hdr.seq = h.seq then none else some j | none => none) = none
  cases e : (s.lane h.lane).job with
  | none => rfl
  | some j => simp [hj j e]

/-- A command that starts to wait changes its own lane only. -/
theorem setJob_lane (s : State) (h : ReqHdr) (op : Nat) (c : Instr) (k : JobKind) (hn : s.lanes.length = 16) (hl : h.lane < 16) (l : Nat) :
    (s.setJob h op c k).lane l = if l = h.lane then { s.lane l with job := some ⟨h, op, c, k⟩ } else s.lane l := by
  unfold State.setJob
  rw [lane_setLane]
  by_cases e : l = h.lane
  · subst e; simp [hn, hl]
  · simp [e]

end Sys2Proof.Machine
end

