-- ==== Sys2Proof/Laws/Reeve.lean ====
section
/-!
SUPPORT. What the Reeve's shared operations do, said once: a host command that is accepted, held back, refused or
served, and its reply.
-/
namespace Sys2Proof.Machine

theorem column_isSome_of_legality {op : Nat} {d : DState} {lg : Legality} (h : legality op d = lg) (hn : lg ≠ .n) :
    d.column.isNone = false := by
  cases d <;> first | rfl | (exfalso; apply hn; rw [← h]; unfold legality; simp [DState.column])

/-- A host command of a free lane starts at once. -/
theorem hostCommand_free {s : State} {h : ReqHdr} {cmd : Instr} {f : State → State} (hc : s.dev.column.isNone = false)
    (hl : h.lane < 16) (hb : s.busy h.lane = false) : s.hostCommand h cmd f = f (s.accept h) := by
  unfold State.hostCommand
  rw [if_neg (by simp [hc]; omega)]
  simp [hb]

/-- A host command of a busy lane waits its turn. -/
theorem hostCommand_busy {s : State} {h : ReqHdr} {cmd : Instr} {f : State → State} (hc : s.dev.column.isNone = false)
    (hl : h.lane < 16) (hb : s.busy h.lane = true) :
    s.hostCommand h cmd f = (s.accept h).enqueue ⟨h, (opcodeOf cmd).getD 0, requestBytes cmd, none⟩ := by
  unfold State.hostCommand
  rw [if_neg (by simp [hc]; omega)]
  simp [hb]

theorem busy_of_takesNext {s : State} {h : ReqHdr} (t : s.takesNext h) : s.busy h.lane = false := by
  obtain ⟨-, -, hj, hq, -, -, -, hp⟩ := t
  simp [State.busy, hj, hq, hp]

/-- A command served in a state that accepts it at once, whose checks pass, does its work. -/
theorem serve_y {s : State} {h : ReqHdr} {cmd : Instr} {pre fields objs : List (Option Failure)} {nothing : Bool}
    {body : State → State} {op : Nat} (ho : opcodeOf cmd = some op) (hh : (s.lane h.lane).held = none ∨ servedWhenHeld op = true)
    (hl : legality op s.dev = .y) (hf : firstFailure (pre ++ fields ++ objs) = none) :
    s.serve h cmd pre fields objs nothing body = if nothing then s.reply h op stNothing else body s := by
  have e : s.serveLegal h cmd pre fields objs nothing body = if nothing then s.reply h op stNothing else body s := by
    unfold State.serveLegal
    simp only [ho, Option.getD_some, hl, hf]
    cases nothing <;> simp
  unfold State.serve
  cases hq : (s.lane h.lane).held with
  | none => simpa using e
  | some q =>
    rcases hh with hh | hh
    · simp [hq] at hh
    · simp only [ho, Option.getD_some, hh, if_true]; exact e

/-- A command in a lane that is held. -/
theorem serve_held {s : State} {h : ReqHdr} {cmd : Instr} {pre fields objs : List (Option Failure)} {nothing : Bool}
    {body : State → State} {op q : Nat} (ho : opcodeOf cmd = some op) (hh : (s.lane h.lane).held = some q)
    (hs : servedWhenHeld op = false) :
    s.serve h cmd pre fields objs nothing body = s.failReply h op { status := stLaneHeld, detail := q } := by
  unfold State.serve
  simp [hh, ho, hs]

/-- A command that the device state does not accept. -/
theorem serve_n {s : State} {h : ReqHdr} {cmd : Instr} {pre fields objs : List (Option Failure)} {nothing : Bool}
    {body : State → State} {op : Nat} (ho : opcodeOf cmd = some op) (hh : (s.lane h.lane).held = none)
    (hl : legality op s.dev = .n) :
    s.serve h cmd pre fields objs nothing body = s.failReply h op { status := stWrongState } := by
  unfold State.serve State.serveLegal
  simp [hh, ho, hl]

/-- A host command of a free lane, served at once with its checks passed. -/
theorem serves {s : State} {h : ReqHdr} {cmd : Instr} {pre fields objs : State → List (Option Failure)} {nothing : State → Bool}
    {body : State → State → State} {op : Nat} (ho : opcodeOf cmd = some op) (hs : s.servesNow h op)
    (hf : firstFailure (pre (s.accept h) ++ fields (s.accept h) ++ objs (s.accept h)) = none)
    (hn : nothing (s.accept h) = false) :
    s.hostCommand h cmd (fun a => a.serve h cmd (pre a) (fields a) (objs a) (nothing a) (body a))
      = body (s.accept h) (s.accept h) := by
  obtain ⟨ht, hl⟩ := hs
  have hb := busy_of_takesNext ht
  rw [hostCommand_free (column_isSome_of_legality hl (by decide)) ht.2.1 hb,
    serve_y ho (Or.inl (by simpa using ht.2.2.2.2.1)) (by simpa using hl) hf, hn]
  simp

/-- A host command that starts at once starts from the state that accepted it. -/
theorem hostCommand_servesNow {s : State} {h : ReqHdr} {op : Nat} (hs : s.servesNow h op) (cmd : Instr) (f : State → State) :
    s.hostCommand h cmd f = f (s.accept h) :=
  hostCommand_free (column_isSome_of_legality hs.2 (by decide)) hs.1.2.1 (busy_of_takesNext hs.1)

/-- A command that starts at once, with its checks passed, answers that nothing is left to do or does its work. -/
theorem serve_servesNow {s : State} {h : ReqHdr} {op : Nat} (hs : s.servesNow h op) {cmd : Instr}
    {pre fields objs : List (Option Failure)} {nothing : Bool} {body : State → State} (ho : opcodeOf cmd = some op)
    (hf : firstFailure (pre ++ fields ++ objs) = none) :
    (s.accept h).serve h cmd pre fields objs nothing body
      = if nothing then (s.accept h).reply h op stNothing else body (s.accept h) :=
  serve_y ho (Or.inl (by simpa using hs.1.2.2.2.2.1)) (by simpa using hs.2) hf

/-! ### Failures -/

theorem firstFailure_append {a b : List (Option Failure)} (h : firstFailure a = none) : firstFailure (a ++ b) = firstFailure b := by
  induction a with
  | nil => rfl
  | cons x t ih =>
    cases x with
    | none => exact ih h
    | some f => simp [firstFailure] at h

@[simp] theorem firstFailure_nil : firstFailure [] = none := rfl
@[simp] theorem firstFailure_none (t : List (Option Failure)) : firstFailure (none :: t) = firstFailure t := rfl
@[simp] theorem firstFailure_some (f : Failure) (t : List (Option Failure)) : firstFailure (some f :: t) = some f := rfl
@[simp] theorem need_true (f : Failure) : need true f = none := rfl

end Sys2Proof.Machine
end

