-- ==== Sys2Proof/Tests/Slice0.lean ====
section
/-!
SUPPORT. Tests of this model: a smoke test of well-formedness, a state and operands that meet the hypotheses of each
statement, and a few steps whose outcome is written out from the manual.
-/
set_option maxRecDepth 8000
set_option Elab.async false

namespace Sys2Proof.Tests
open Sys2Proof.Machine

/-! ### States to test on -/

/-- The state after a command (the reset state where it stops, which no command does). -/
def out (c : Instr) (s : State) : State :=
  match exec c s with
  | .next t => t
  | _ => State.reset

def host : NetAddr := ⟨false, 0x0A000001, 0x020000000001, 1024, 0, 0⟩
/-- A basic request in lane 1. -/
def req : ReqHdr := { lane := 1, tag := 7, src := host }
/-- The same as an expert request. -/
def xreq : ReqHdr := { req with expert := true }

/-- The device in a state, its link up and its memories trained. -/
def inDev (d : DState) : State :=
  { State.reset with
    dev := d, net := { link := true }, memory := { State.reset.memory with trained := true }, hasp := { running := true } }

/-- Eight active Furrows and two spares, sixteen active sources and four spares. -/
def withEngine (s : State) : State :=
  { s with
    engine := true
    furrows := (List.range 10).map fun f => if f < 8 then { role := 0, slot := f } else { role := 1 }
    sources := (List.range 20).map fun n => if n < 16 then { role := 0, furrow := n / 2, locked := true } else { role := 1 } }

def config : State := inDev .config
def ready : State := withEngine (inDev .ready)

/-- A lane runs a command. -/
def withJob (s : State) (l : Nat) (op : Nat) (cmd : Instr) (k : JobKind) : State :=
  s.setLane l { s.lane l with e := 1, job := some ⟨{ req with lane := l }, op, cmd, k⟩ }

/-! ### Checks of what the statements assume -/

def servesB (s : State) (h : ReqHdr) (op : Nat) : Bool :=
  decide (s.lanes.length = 16) && decide (h.lane < 16) && decide ((s.lane h.lane).job = none)
    && decide ((s.lane h.lane).queue = []) && decide ((s.lane h.lane).held = none) && decide (h.seq = (s.lane h.lane).e)
    && decide (seqDiff (s.lane h.lane).e (s.lane h.lane).b < 256) && decide (s.netPending h.lane = false)
    && decide (legality op s.dev = .y)

theorem serves_of {s : State} {h : ReqHdr} {op : Nat} (c : servesB s h op = true) : s.servesNow h op := by
  unfold servesB at c
  simp only [Bool.and_eq_true, decide_eq_true_eq] at c
  obtain ⟨⟨⟨⟨⟨⟨⟨⟨a, b⟩, c⟩, d⟩, e⟩, f⟩, g⟩, k⟩, i⟩ := c
  exact ⟨⟨a, b, c, d, e, f, g, k⟩, i⟩

def quietB (s : State) : Bool :=
  decide (s.memory.errs = []) && decide (s.memory.badParity = []) && decide (s.memory.merge = [])
    && decide (s.memory.flipLoft = none) && decide (s.memory.flipSilo = none) && decide (s.memory.flushFails = [])

theorem quiet_of {s : State} (c : quietB s = true) : s.quiet := by
  unfold quietB at c
  simp only [Bool.and_eq_true, decide_eq_true_eq] at c
  obtain ⟨⟨⟨⟨⟨a, b⟩, c⟩, d⟩, e⟩, f⟩ := c
  exact ⟨a, b, c, d, e, f⟩

def invB (s : State) : Bool :=
  s.memory.wf && canonical (fun a => BitVec.ofNat 32 (resetWord a)) s.regs && canonical (fun _ => 0) s.ctrs
    && decide (s.lanes.length = 16)
    && s.lanes.all (fun l => decide (l.e < 2 ^ 32) && decide (l.b < 2 ^ 32) && decide (seqDiff l.e l.b ≤ 256))
    && decide (s.furrows.length = 10) && decide (s.sources.length = 20) && decide (s.winnow.length = 10)
    && risingFrom none s.sessions && canonical (fun b => b) s.sieve.map && decide (s.memory.loftRegions.length = 16)
    && decide (s.memory.siloRegions.length = 16) && decide (s.programs.length ≤ 64)

theorem inv_of {s : State} (c : invB s = true) : s.Inv := by
  unfold invB at c
  simp only [Bool.and_eq_true, decide_eq_true_eq, List.all_eq_true] at c
  obtain ⟨⟨⟨⟨⟨⟨⟨⟨⟨⟨⟨⟨a, b⟩, c⟩, d⟩, e⟩, f⟩, g⟩, h⟩, i⟩, j⟩, k⟩, l⟩, m⟩ := c
  exact ⟨a, b, c, d, fun x hx => ⟨(e x hx).1.1, (e x hx).1.2, (e x hx).2⟩, f, g, h, i, j, k, l, m⟩

theorem lane_none {s : State} (d : s.lanes.length = 16) {k : Nat} (h : ¬ k < 16) : (s.lane k).job = none := by
  simp [State.lane, List.getD, List.getElem?_eq_none (by omega : s.lanes.length ≤ k)]

def onlyJobB (s : State) (l : Nat) : Bool :=
  decide (s.lanes.length = 16) && (List.range 16).all fun k => decide (k = l) || decide ((s.lane k).job = none)

theorem onlyJob_of {s : State} {l : Nat} (c : onlyJobB s l = true) : s.onlyJob l := by
  unfold onlyJobB at c
  simp only [Bool.and_eq_true, decide_eq_true_eq, List.all_eq_true, List.mem_range, Bool.or_eq_true] at c
  refine ⟨c.1, fun k hk => ?_⟩
  by_cases h : k < 16
  · exact (c.2 k h).resolve_left hk
  · exact lane_none c.1 h

def jobsHomeB (s : State) : Bool :=
  decide (s.lanes.length = 16) && (List.range 16).all fun k => match (s.lane k).job with
    | some j => decide (j.hdr.lane = k)
    | none => true

theorem jobsHome_of {s : State} (c : jobsHomeB s = true) : s.jobsHome := by
  unfold jobsHomeB at c
  simp only [Bool.and_eq_true, decide_eq_true_eq, List.all_eq_true, List.mem_range] at c
  intro k j hj
  by_cases h : k < 16
  · have := c.2 k h
    rw [hj] at this
    exact of_decide_eq_true this
  · rw [lane_none c.1 h] at hj
    cases hj

/-! ### Witnesses: the life of a command -/

theorem wit_IdleStepIsOneTick : ready.pending = [] ∧ ready.dev ≠ .off ∧ ready.dev ≠ .run ∧
    ready.lantern.softDue = false ∧ ready.lantern.throttle = 0 := by decide +kernel

theorem wit_StepKeepsInvariant : ready.Inv ∧ step ready = .next ready.tick :=
  ⟨inv_of (by decide +kernel), rfl⟩

theorem wit_RequestsReadBack : (Instr.memWrite req 16 0 [1, 2]).wf = true ∧
    hdrOf (.memWrite req 16 0 [1, 2]) = some req ∧ opcodeOf (.memWrite req 16 0 [1, 2]) = some 0x0201 := by decide +kernel

theorem wit_ReplySentAndRetained : ready.takesNext req ∧ ([1] : List Byte).length ≤ 8968 :=
  ⟨(serves_of (op := 0x0602) (by decide +kernel)).1, by decide⟩

/-- A lane held after the abort of the command with sequence 5. -/
def heldReady : State := ready.setLane 1 { held := some 5 }

theorem wit_LaneRefuses_held : hdrOf (.thermalRead req) = some req ∧ opcodeOf (.thermalRead req) = some 0x0602 ∧
    heldReady.dev.column ≠ none ∧ servedWhenHeld 0x0602 = false ∧ heldReady.busy 1 = false ∧
    (heldReady.lane 1).held = some 5 := by decide +kernel

theorem wit_LaneRefuses_illegal : ready.takesNext req ∧ opcodeOf (.engineStart req none) = some 0x0501 ∧
    legality 0x0501 ready.dev = .n := ⟨(serves_of (op := 0x0602) (by decide +kernel)).1, by decide⟩

theorem wit_LaneQueues : (withJob ready 1 0x0203 (.memFill req 0 8 []) (.finish 0 [])).busy 1 = true := by decide +kernel

/-- One request waiting in lane 1. -/
def waiting (r : Req) : State := ready.setLane 1 { e := 1, queue := [r] }

theorem wit_CommandStart_early : (waiting ⟨req, 0x0602, [], none⟩).netPending 1 = false ∧
    (waiting ⟨req, 0x0602, [], some { status := stCancelled }⟩).netPending 1 = false ∧
    ((waiting ⟨req, 0x0602, [], some { status := stCancelled }⟩).lane 1).job = none ∧
    ((waiting ⟨req, 0x0602, [], some { status := stCancelled }⟩).lane 1).queue
      = [⟨req, 0x0602, [], some { status := stCancelled }⟩] := by decide +kernel

theorem wit_CommandStart_parse : ((waiting ⟨req, 0x0602, [], none⟩).lane 1).queue = [⟨req, 0x0602, [], none⟩] ∧
    parseRequest req 0x0602 [] = some (.thermalRead req) ∧ parseRequest req 0x0602 [1] = none := by decide +kernel

theorem wit_UnsequencedAnsweredAtOnce : ready.portUp = true ∧ ([1] : List Byte).length ≤ 8968 := by decide +kernel

theorem wit_LaneResumeReleases : heldReady.lanes.length = 16 ∧ req.lane < 16 ∧ heldReady.busy req.lane = false ∧
    legality 0x0405 heldReady.dev = .y ∧ (heldReady.lane req.lane).held = some 5 ∧ (ready.lane req.lane).held = none := by
  decide +kernel

/-! ### Witnesses: administration and configuration -/

theorem wit_SetNetCommand : config.servesNow req 0x0003 ∧
    firstFailure (setNetChecks 0x0A000002 24 0 (orReg none config.setNetDefaults)) = none :=
  ⟨serves_of (by decide +kernel), by decide +kernel⟩

theorem wit_HostWatchdog : config.servesNow req 0x0004 ∧ ((0 : Nat) = 0 ∨ (10 ≤ 0 ∧ 0 ≤ 600000)) ∧
    ((10 : Nat) = 0 ∨ (10 ≤ 10 ∧ 10 ≤ 600000)) ∧ ((600000 : Nat) = 0 ∨ (10 ≤ 600000 ∧ 600000 ≤ 600000)) :=
  ⟨serves_of (by decide +kernel), by decide⟩

def newNet : SetNetX := ⟨0x0A000001, 0, 0, 0, 0, 0, 0, 0⟩
/-- A SET_NET that waits for its reply to leave. -/
def netWaits : State := { config with net := { config.net with pendingNet := [(1, setNetWrites 0x0A000002 24 newNet)] } }

theorem wit_SetNetTakesEffect : netWaits.Inv ∧ fits 4 0x0A000002 = true ∧ fits 1 24 = true ∧ newNet.wf = true ∧
    netWaits.net.pendingNet = (1, setNetWrites 0x0A000002 24 newNet) :: [] ∧ netWaits.portUp = true ∧
    0x0A000002 ≠ netWaits.ip4Set := ⟨inv_of (by decide +kernel), by decide +kernel⟩

/-- A request waits in the lane of that SET_NET. -/
theorem wit_CommandStart_waits : ((netWaits.setLane 1 { e := 1, queue := [⟨req, 0x0602, [], none⟩] }).lane 1).queue
      = [⟨req, 0x0602, [], none⟩] ∧
    (netWaits.setLane 1 { e := 1, queue := [⟨req, 0x0602, [], none⟩] }).netPending 1 = true := by decide +kernel

theorem wit_CfgRead : config.servesNow req 0x0101 ∧ aGlobal 0x20 % 4 = 0 ∧ firstFailure (spanChecks (aGlobal 0x20) 3) = none ∧
    firstFailure (spanChecks (aGlobal 0x20) 0) = none := ⟨serves_of (by decide +kernel), by decide +kernel⟩

theorem wit_CfgWrite : config.servesNow req 0x0102 ∧ ([1] : List Nat) ≠ [] ∧
    firstFailure ((config.accept req).writeGuards (aGlobal 0x2C) 1 ++ (cfgFields (aGlobal 0x2C) 1 0
      ++ [(config.accept req).valueCheck [(aGlobal 0x2C, 1)] 8 (aGlobal 0x2C) 1])) = none ∧
    firstFailure ((config.accept req).writeGuards (aReaper 0x14) 1 ++ (cfgFields (aReaper 0x14) 1 0
      ++ [(config.accept req).valueCheck [(aReaper 0x14, 1)] 8 (aReaper 0x14) 1])) = some (fRange 8 0) :=
  ⟨serves_of (by decide +kernel), by decide +kernel⟩

theorem wit_CfgWriteMasked : config.servesNow req 0x0103 ∧
    let w := (config.accept req).maskedWord (aGlobal 0x24) 2 2
    firstFailure ((config.accept req).writeGuards (aGlobal 0x24) 1 ++ [need (aGlobal 0x24 % 4 = 0) (fRange 0 (aGlobal 0x24)),
      (config.accept req).valueCheck [(aGlobal 0x24, w)] 8 (aGlobal 0x24) w]) = none :=
  ⟨serves_of (by decide +kernel), by decide +kernel⟩

/-- The optical blocks are powered down. -/
def asleep : State := { config with down := some ⟨.ready, [], [], [], []⟩ }

theorem wit_RegisterWrite : config.Inv ∧ (regAt (aGlobal 0x28)).isSome = true ∧ aGlobal 0x28 ≠ aGleaner 0 0x64 ∧
    config.blockDown (aGlobal 0x28) = false ∧ config.blockDown (aGleaner 0 0x64) = false ∧ regAt 1 = none ∧
    (regAt (aFurrow 0 4)).isSome = true ∧ asleep.blockDown (aFurrow 0 4) = true := ⟨inv_of (by decide +kernel), by decide +kernel⟩

theorem wit_RcCounterRead : (config.bump (aWalong 0x100)).Inv ∧ (regAt (aWalong 0x100)).isSome = true :=
  ⟨inv_of (by decide +kernel), by decide +kernel⟩

theorem wit_LoReadCopiesHi : config.Inv ∧ ((placeOf (aReaper 0x40)).bind config.pairAt) = some 0 :=
  ⟨inv_of (by decide +kernel), by decide +kernel⟩

theorem wit_CountClears : (config.bump48 (aFurrow 9 0x30) 5).Inv ∧ (config.bump48 (aGleaner 7 0x28) 5).Inv :=
  ⟨inv_of (by decide +kernel), inv_of (by decide +kernel)⟩

theorem wit_LogClears : (config.setReg (aMemctl 39 0x200) 1).Inv ∧ 39 < 40 := ⟨inv_of (by decide +kernel), by decide⟩

/-- An open session of one K/V head with room for some tokens. -/
def sess : Session := ⟨1, 1, 32, 0x4000000000, 0x100000, 7, false, false, 3, none⟩
/-- Session 0 open. -/
def opened : State := ready.setSession 0 sess

theorem wit_SessLenWrite : opened.session opened.selected = some sess ∧ sess.held = none ∧ 5 ≤ sess.tMax ∧
    ready.session ready.selected = none ∧ sess.tMax < 0xFFFFFFFF := by decide +kernel

theorem wit_SplitTakesEffect : config.fld (aReaper 0x10) 0 2 = 0 ∧ config.fld (aReaper 0x10) 2 2 = 0 ∧
    (config.setReg (aReaper 0x10) 9).fld (aReaper 0x10) 0 2 = 1 ∧ (config.setReg (aReaper 0x10) 9).fld (aReaper 0x10) 2 2 = 2 ∧
    (config.setReg (aReaper 0x10) 3).fld (aReaper 0x10) 0 2 = 3 := by decide +kernel

/-! ### Witnesses: memories and the Sieve -/

theorem wit_MemWrite : config.Inv ∧ config.quiet ∧ config.servesNow req 0x0201 ∧ ([7] : List Byte) ≠ [] ∧
    inTier 0x27FFFFFF 1 = true ∧ inTier 0x400000003F 1 = true :=
  ⟨inv_of (by decide +kernel), quiet_of (by decide +kernel), serves_of (by decide +kernel), by decide +kernel⟩

theorem wit_MemRead : config.quiet ∧ config.servesNow req 0x0202 ∧ config.dev ≠ .fault ∧ inTier 0 65536 = true :=
  ⟨quiet_of (by decide +kernel), serves_of (by decide +kernel), by decide +kernel⟩

theorem wit_FillAndCopy : config.Inv ∧ config.quiet ∧ inTier 0 64 = true ∧ inTier 64 64 = true ∧
    config.servesNow req 0x0203 ∧ config.servesNow req 0x0204 ∧ (0 + 64 ≤ 64 ∨ 64 + 64 ≤ 0) :=
  ⟨inv_of (by decide +kernel), quiet_of (by decide +kernel), by decide +kernel, by decide +kernel,
    serves_of (by decide +kernel), serves_of (by decide +kernel), by decide⟩

/-- One Granary byte with bad parity. -/
def badByte : State := { config with memory := { config.memory with badParity := [70] } }

theorem wit_FailingAccesses : config.servesNow req 0x0201 ∧ inTier 0x28000000 1 = false ∧ inTier 0x27FFFFFF 2 = false ∧
    badByte.servesNow req 0x0202 ∧ badByte.hasp.running = true ∧ 70 ∈ badByte.memory.badParity ∧ 64 ≤ 70 ∧ 70 < 64 + 8 :=
  ⟨serves_of (by decide +kernel), by decide +kernel, by decide +kernel, serves_of (by decide +kernel), by decide⟩

def oneByte : WordErr := ⟨0x4000000000, [(3, 1)], [], false⟩
def twoBits : WordErr := ⟨0x4000000000, [(3, 3)], [], false⟩

theorem wit_Classes_keep : oneByte.poison = false ∧ oneByte.bytesWrong = 1 ∧
    (⟨0, [(0, 1), (1, 1), (2, 1), (3, 1)], [], false⟩ : WordErr).bytesWrong = 4 := by decide +kernel

theorem wit_Classes_tend : (∃ k, k < 8 ∧ oneByte.groupBits k = 1) ∧ (∀ k, k < 8 → oneByte.groupBits k ≤ 1) ∧
    (∃ k, k < 8 ∧ twoBits.groupBits k = 2) :=
  ⟨⟨0, by decide +kernel⟩, by decide +kernel, ⟨0, by decide +kernel⟩⟩

theorem wit_Classes_bran : 3 < 64 ∧ oneByte.parityWrong 3 = true := by decide +kernel

/-- A merge-buffer entry that waits. -/
def mergeWaits : State :=
  { config with memory := { config.memory with merge := [⟨ctlOf 0x4000000040, 0x4000000040, [(1, 5)], .lane 1⟩] } }

theorem wit_MergeTimer : mergeWaits.Inv ∧ mergeWaits.memory.errs = [] ∧ mergeWaits.memory.flipLoft = none ∧
    mergeWaits.memory.flipSilo = none ∧ mergeWaits.memory.flushFails = [] ∧ 0x4000000040 % 64 = 0 ∧
    risingFrom none [((1 : Nat), (5 : Byte))] = true := ⟨inv_of (by decide +kernel), by decide +kernel⟩

theorem wit_RegionSet : config.Inv ∧ config.quiet ∧ config.servesNow xreq 0x0205 ∧ xreq.expert = true ∧
    (0 + 1) * (tierNamed 0).stripe ≤ (tierNamed 0).size ∧ (0 + 1) * (tierNamed 1).stripe ≤ (tierNamed 1).size :=
  ⟨inv_of (by decide +kernel), quiet_of (by decide +kernel), serves_of (by decide +kernel), by decide +kernel⟩

def flip0 : Flip := ⟨0, 1, 0, 1⟩
/-- A flip armed in the Loft. -/
def armed : State := { config with memory := { config.memory with flipLoft := some flip0 } }

theorem wit_FlipFires : config.servesNow req 0x0703 ∧ ((config.regions (tierNamed 0)).getD flip0.entry {}).en = true ∧
    ((config.regions (tierNamed 1)).getD flip0.entry {}).en = true ∧ flip0.symbolMask ≠ 0 ∧ flip0.pattern ≤ 255 ∧
    armed.memory.errs = [] ∧ armed.flipOf ((tierOf 0x4000000000).getD .loft) = some flip0 ∧
    (armed.classOf 0x4000000000).1 = flip0.entry ∧ (flip0.err 0x4000000000).data ≠ [] :=
  ⟨serves_of (by decide +kernel), by decide +kernel⟩

/-- A word of the Silo, of class KEEP. -/
def siloWord : Nat := 0x10000000000
/-- A correctable error stored there, its controller scrubbing. -/
def scrubbed : State := { config.setReg (aMemctl (ctlOf siloWord) 4) 1 with
  memory := { config.memory with errs := [⟨siloWord, [(3, 1)], [], false⟩] } }

theorem wit_Scrub : scrubbed.Inv ∧ (⟨siloWord, [(3, 1)], [], false⟩ : WordErr).bytesWrong = 1 ∧ (scrubbed.classOf siloWord).2 = 0 ∧
    ctlOf siloWord < 40 ∧ siloWord % 64 = 0 ∧ tierOf siloWord = some .silo ∧
    bitOf (scrubbed.reg (aMemctl (ctlOf siloWord) 4)) 0 = true ∧ scrubbed.memory.trained = true ∧ scrubbed.selfRefresh = false ∧
    scrubbed.frozen (aMemctl (ctlOf siloWord) 0x118) = false ∧ scrubbed.reg (aMemctl (ctlOf siloWord) 0x118) < 0xFFFFFFFF ∧
    (look scrubbed.memory.scrubNext (ctlOf siloWord)).getD 0 ≤ localOf siloWord ∧ localOf siloWord + 64 ≠ scrubbed.scrubEnd .silo ∧
    localOf (siloWord + 0x17FFFFE0FC0) + 64 = scrubbed.scrubEnd .silo ∧ scrubbed.frozen (aMemctl (ctlOf siloWord) 0x11C) = false := ⟨inv_of (by decide +kernel), by decide +kernel⟩

/-- Every diode reads 90 °C. -/
def hot90 : State :=
  { config with lantern := { config.lantern with diodes := List.replicate 32 { conv := List.replicate 4 (.value 23040) } } }

theorem wit_RefreshBand : config.memory.trained = true ∧ config.selfRefresh = false ∧ hot90.memory.trained = true ∧
    hot90.selfRefresh = false ∧ hot90.trusted (packageChannel 39) = true ∧
    (hot90.diode (packageChannel 39)).reading = some 23040 := by decide +kernel

/-- The diode of one package broken. -/
def noDiode : State := { config with lantern := { config.lantern with diodes := List.replicate 32 { broken := some 1 } } }

theorem wit_RefreshBand_none : noDiode.memory.trained = true ∧ noDiode.selfRefresh = false ∧
    noDiode.trusted (packageChannel 0) = false := by decide +kernel

/-- Slices enabled in every memory; logical bank 0 has moved to the last spare. -/
def slices : State := { config with sieve := { config.sieve with enable := 7, map := [(0, 2079)], next := 1 } }

theorem wit_GranarySlice : slices.Inv ∧ bitOf slices.sieve.enable 0 = true ∧ slices.slicing = true ∧ slices.sieving = false ∧
    slices.sieve.spares.head? = some 0 := ⟨inv_of (by decide +kernel), by decide +kernel⟩

theorem wit_ExternalSlice : bitOf slices.sieve.enable (if 7 < 8 then 1 else 2) = true ∧
    bitOf slices.sieve.enable (if 8 < 8 then 1 else 2) = true ∧ slices.slicing = true ∧ slices.memory.trained = true ∧
    slices.memory.merge = [] := by decide +kernel

theorem wit_SieveCommands : config.servesNow xreq 0x0701 ∧ config.servesNow xreq 0x0702 ∧ config.Inv ∧ config.sieve.map = [] ∧
    xreq.expert = true ∧ 2079 + 1 ≤ 2080 :=
  ⟨serves_of (by decide +kernel), serves_of (by decide +kernel), inv_of (by decide +kernel), by decide +kernel⟩

/-- SIEVE_RUN over the first two Granary banks runs in lane 1. -/
def sieveRuns : State := withJob config 1 0x0701 (.sieveRun xreq ⟨0, 0, 0, 2, 0, 0, 0⟩ (some (0, 1, 0))) (.sieveRun 0 0 2 0 0 0 1)

theorem wit_SieveRunZeroes : sieveRuns.Inv ∧ ((sieveRuns.lane 1).job.map fun j => (j.hdr.lane, j.kind))
      = some (1, .sieveRun 0 0 2 0 0 0 1) ∧ sieveRuns.dev = .config ∧ sieveRuns.sieve.map = [] ∧
    ∀ k, k < 16 → k ≠ 1 → (sieveRuns.lane k).job = none := ⟨inv_of (by decide +kernel), by decide +kernel⟩

/-! ### Witnesses: programs, sessions, steps -/

/-- A program of GATE and END at 0x1000, its END's tokens at 0x3000. -/
def gateEnd : List Byte := le 64 6 ++ le 64 (10 + 0x3000 * 2 ^ 32)
/-- A step table at 0x2000: one column, of session 0, its stage at 0x4000. -/
def table1 : List Byte := le 64 (1 + 2 ^ 32) ++ le 16 (0x4000 * 2 ^ 32)
/-- The program and the table in memory, the program loaded and checked, session 0 open. -/
def loaded : State :=
  { (opened.poke 0x1000 gateEnd).poke 0x2000 table1 with programs := [⟨0x1000, 2, true, [(0x1000, 128)]⟩] }

theorem wit_ProgramLoad : loaded.servesNow req 0x0301 ∧ 0x1000 % 64 = 0 ∧ 0x1000 + 64 * 2 ≤ 0x28000000 ∧
    (loaded.accept req).makeRoom 0x1000 2 = some [] ∧ loaded.programs.length ≤ 64 :=
  ⟨serves_of (by decide +kernel), by decide +kernel⟩

/-- The same program with a record of an unknown kind in front of it. -/
def badLoaded : State := { loaded.poke 0xFC0 (le 64 0xFF) with programs := [⟨0xFC0, 3, false, []⟩] }

def passes (c : Checked) : Bool := match c with | .pass _ _ => true | .fail _ => false

theorem wit_ProgramCheck : loaded.servesNow req 0x0302 ∧ badLoaded.servesNow req 0x0302 ∧
    loaded.programAt 0x1000 = some ⟨0x1000, 2, true, [(0x1000, 128)]⟩ ∧ badLoaded.programAt 0xFC0 = some ⟨0xFC0, 3, false, []⟩ ∧
    passes ((loaded.accept req).checkProgram ⟨0x1000, 2, true, [(0x1000, 128)]⟩) = true ∧
    passes ((badLoaded.accept req).checkProgram ⟨0xFC0, 3, false, []⟩) = false :=
  ⟨serves_of (by decide +kernel), serves_of (by decide +kernel), by decide +kernel⟩

theorem wit_SessionOpen : config.servesNow req 0x0401 ∧ config.servesNow xreq 0x0401 ∧
    inOneTier .loft sess.kvBase sess.kvBytes = true ∧ config.clashBut 0 sess.kvBase sess.kvBytes = false ∧
    config.session 0 = none ∧ sess.kvBase % 256 = 0 ∧ sess.kvBytes % 256 = 0 ∧ sess.tMax ≠ 0 :=
  ⟨serves_of (by decide +kernel), serves_of (by decide +kernel), by decide +kernel⟩

/-- Session 0 holds two slots. -/
def held2 : State := ready.setSession 0 { sess with held := some ⟨0x4000, 2⟩ }

theorem wit_SessionEnds : held2.Inv ∧ held2.quiet ∧ held2.session 0 = some { sess with held := some ⟨0x4000, 2⟩ } ∧
    (held2.accept req).sessionInStep 0 = false ∧ held2.servesNow req 0x0402 ∧ held2.servesNow req 0x0406 ∧
    held2.servesNow req 0x0407 :=
  ⟨inv_of (by decide +kernel), quiet_of (by decide +kernel), by decide +kernel, by decide +kernel,
    serves_of (by decide +kernel), serves_of (by decide +kernel), serves_of (by decide +kernel)⟩

/-- The step of lane 2 over the program at 0x1000, next record 0. -/
def step0 : Step where
  lane := 2
  order := 0
  program := 0x1000
  slots := 2
  cols := [⟨0, 0, 0x4000, 3⟩]
  stallMs := 20
  gateMs := 50
  priority := 1
  commitMode := 1

/-- The program of these bytes runs in lane 2 as this step; the other lanes are free. -/
def running (prog : List Byte) (t : Step) : State :=
  let s := withJob { (opened.poke 0x1000 prog) with dev := .run } 2 0x0403 (.stepRun req 0x1000 0x2000 1 0 none) .step
  { s with steps := [t], reaper := { s.reaper with holder := some 2, starts := 1 } }

theorem wit_TaskCancel_running : (running gateEnd step0).servesNow req 0x0404 ∧
    (((running gateEnd step0).lane 2).job.map fun j => (j.hdr.seq, j.opcode, j.kind)) = some (0, 0x0403, .step) ∧
    (running gateEnd step0).stepOf 2 = some step0 ∧ step0.failure = none ∧ step0.teardown = false :=
  ⟨serves_of (by decide +kernel), by decide +kernel⟩

/-- A STEP_RUN waits in lane 2. -/
def queued : State := ready.setLane 2 { e := 1, queue := [⟨{ req with lane := 2 }, 0x0403, [], none⟩] }

theorem wit_TaskCancel_queued : queued.servesNow req 0x0404 ∧ (queued.lane 2).job = none ∧
    (queued.lane 2).queue = [⟨{ req with lane := 2 }, 0x0403, [], none⟩] ∧ (queued.lane 3).queue = [] :=
  ⟨serves_of (by decide +kernel), by decide +kernel⟩

theorem wit_TaskStatus : (running gateEnd step0).servesNow req 0x0408 ∧ req.lane ≠ 2 ∧ (running gateEnd step0).stepOf req.lane = none :=
  ⟨serves_of (by decide +kernel), by decide, by decide +kernel⟩

def runX : StepRunX := ⟨20, 50, 1, 1⟩
def startStep : Step := { step0 with lane := 1, cols := loaded.tableCols 0x2000 1 }

theorem wit_StepRun : loaded.servesNow xreq 0x0403 ∧ loaded.stepOf 1 = none ∧ (loaded.accept xreq).testing = false ∧
    (loaded.accept xreq).startFailure startStep 0x2000 = none ∧ loaded.steps = [] ∧ loaded.reaper.holder = none ∧
    (badLoaded.accept xreq).startFailure startStep 0x2000 ≠ none ∧ badLoaded.servesNow xreq 0x0403 :=
  ⟨serves_of (by decide +kernel), by decide +kernel, by decide +kernel, by decide +kernel, by decide +kernel, by decide +kernel,
    by decide +kernel, serves_of (by decide +kernel)⟩

theorem wit_StepRun_waits :
    (withJob loaded 3 0x0504 (.marginTest req none) (.marginTest 0x700 0 1)).servesNow xreq 0x0403 ∧
    ((withJob loaded 3 0x0504 (.marginTest req none) (.marginTest 0x700 0 1)).accept xreq).testing = true :=
  ⟨serves_of (by decide +kernel), by decide +kernel⟩

/-! ### Witnesses: engines, loops, power -/

theorem wit_EngineStart : config.servesNow req 0x0501 ∧ config.servesNow xreq 0x0501 ∧
    (config.accept req).engineStarting = false ∧ config.engineOps none = (0x700, 1, 25) :=
  ⟨serves_of (by decide +kernel), serves_of (by decide +kernel), by decide +kernel⟩

/-- ENGINE_START runs in lane 1. -/
def starting : State := withJob config 1 0x0501 (.engineStart req none) (.engineStart 0x700 1 25)
/-- Sixteen sources and all Furrows pass. -/
def goodEnv : Env :=
  { furrows := List.replicate 10 { colQ := List.replicate 68 0x900 }, sources := List.replicate 16 { power := 2560 } }

theorem wit_EngineAssigns : starting.Inv ∧ (starting.lane 1).job = some ⟨req, 0x0501, .engineStart req none, .engineStart 0x700 1 25⟩ ∧
    starting.dev = .config ∧ starting.lantern.warn = false ∧
    1 ≤ (starting.swapBanks.assignment goodEnv 0x700 false).active.length ∧
    (starting.swapBanks.assignment {} 0x700 false).active.length < 1 ∧ starting.jobsHome :=
  ⟨inv_of (by decide +kernel), by decide +kernel, by decide +kernel, by decide +kernel, by decide +kernel, by decide +kernel,
    jobsHome_of (by decide +kernel)⟩

theorem wit_EngineStop : ready.servesNow req 0x0502 ∧ (ready.accept req).marginTesting = false :=
  ⟨serves_of (by decide +kernel), by decide +kernel⟩

theorem wit_MarginTest : ready.servesNow xreq 0x0504 := serves_of (by decide +kernel)

/-- MARGIN_TEST runs in lane 1. -/
def testing : State := withJob ready 1 0x0504 (.marginTest req none) (.marginTest 0x700 0 1)

theorem wit_MarginReports : testing.onlyJob 1 ∧ (testing.lane 1).job = some ⟨req, 0x0504, .marginTest req none, .marginTest 0x700 0 1⟩ ∧
    testing.dev = .ready ∧ testing.lantern.dozeDue = false ∧ ({ testing with dev := .fault } : State).onlyJob 1 :=
  ⟨onlyJob_of (by decide +kernel), by decide +kernel, by decide +kernel, by decide +kernel, onlyJob_of (by decide +kernel)⟩

/-- A MARGIN_TEST of lane 3 runs. -/
def testsOther : State := withJob ready 3 0x0504 (.marginTest req none) (.marginTest 0x700 0 1)

theorem wit_EngineStop_waits : testsOther.servesNow req 0x0502 ∧ (testsOther.accept req).marginTesting = true :=
  ⟨serves_of (by decide +kernel), by decide +kernel⟩

theorem wit_WinnowRun : ready.Inv ∧ ready.servesNow xreq 0x0503 ∧ (∀ f ∈ maskBits 10 0x81, (ready.furrow f).role = 0) ∧
    (∀ f ∈ maskBits 10 0, (ready.furrow f).role = 0) := ⟨inv_of (by decide +kernel), serves_of (by decide +kernel), by decide +kernel⟩

def loopX (w : Nat) : LoopX := ⟨w, 5, 3, 20, 7, 7, [1, 2, 3, 4, 5, 6], [0, 0, 0, 0, 0, 0], 0, 0, 100, 1, 1, 1, 1⟩

theorem wit_VaneLoopSet : ready.servesNow xreq 0x0505 ∧ firstFailure (loopChecks 4095 0 (loopX 0)) = none ∧
    firstFailure (loopChecks 0 0 (loopX 1)) = none ∧ ready.vane.swapPending = false ∧ (ready.accept xreq).engineStarting = false ∧
    starting.servesNow { xreq with lane := 2 } 0x0505 ∧ (starting.accept { xreq with lane := 2 }).engineStarting = true :=
  ⟨serves_of (by decide +kernel), by decide +kernel, by decide +kernel, by decide +kernel, by decide +kernel,
    serves_of (by decide +kernel), by decide +kernel⟩

theorem wit_VaneBankSwap : ready.servesNow req 0x0506 ∧ (ready.accept req).vaneLevel ≠ 0 ∧ (ready.accept req).engineStarting = false ∧
    starting.servesNow { req with lane := 2 } 0x0506 ∧ (starting.accept { req with lane := 2 }).engineStarting = true :=
  ⟨serves_of (by decide +kernel), by decide +kernel, by decide +kernel, serves_of (by decide +kernel), by decide +kernel⟩

theorem wit_SourceSpare : ready.servesNow req 0x0507 ∧ (ready.source 0).role = 0 ∧ (ready.source 19).role = 1 ∧
    ready.exchanges = [] := ⟨serves_of (by decide +kernel), by decide +kernel⟩

def powerX : PowerX := ⟨0, 0, 0, 0⟩

theorem wit_PowerState : ready.servesNow xreq 0x0601 ∧ ready.jobsHome ∧ ready.dev = .ready ∧ ready.lantern.entry = none ∧
    ready.lantern.waking = none ∧ firstFailure (ready.powerChecks 1 0 powerX) = none ∧
    firstFailure (ready.powerChecks 2 0 powerX) = none ∧ ready.testing = false :=
  ⟨serves_of (by decide +kernel), jobsHome_of (by decide +kernel), by decide +kernel⟩

theorem wit_ThermalRead : ready.servesNow req 0x0602 := serves_of (by decide +kernel)

/-! ### Witnesses: security and diagnostics -/

def boot : State := inDev .boot
/-- A load under way in BOOT. -/
def loading : State := { boot with hasp := { boot.hasp with load := some ⟨4384, []⟩ } }

theorem wit_FwLoad : boot.servesNow req 0x0801 ∧ (boot.accept req).fwLoading = false ∧ loading.servesNow req 0x0802 ∧
    loading.servesNow req 0x0803 ∧ (loading.accept req).fwLoading = false ∧ loading.hasp.load = some ⟨4384, []⟩ ∧ 4383 + 1 ≤ 4384 :=
  ⟨serves_of (by decide +kernel), by decide +kernel, serves_of (by decide +kernel), serves_of (by decide +kernel), by decide +kernel⟩

/-- FW_LOAD_END runs in lane 1. -/
def loadEnds : State := withJob loading 1 0x0803 (.fwLoadEnd req) .fwLoadEnd

theorem wit_FwLoadEnd : loadEnds.lanes.length = 16 ∧ (loadEnds.lane 1).job = some ⟨req, 0x0803, .fwLoadEnd req, .fwLoadEnd⟩ ∧
    loadEnds.dev = .boot ∧ ({ loadEnds with dev := .lantern } : State).dev ≠ .boot ∧
    loadEnds.hasp.load = some ⟨4384, []⟩ ∧ imageFailure loadEnds.hasp.svnBits loadEnds.hasp.revoked ⟨4384, []⟩ ≠ none := by
  decide +kernel

theorem wit_Reports : ready.servesNow req 0x0804 ∧ ready.servesNow req 0x0805 ∧ ready.servesNow req 0x0901 ∧
    ready.servesNow req 0x0902 ∧ ready.servesNow req 0x0903 ∧ ready.servesNow req 0x0904 ∧ (List.replicate 32 (1 : Byte)).length = 32 ∧
    ready.hasp.measurement.length = 48 ∧ (∀ e ∈ ready.ledger.entries, e.torn = none) ∧ ready.Inv :=
  ⟨serves_of (by decide +kernel), serves_of (by decide +kernel), serves_of (by decide +kernel), serves_of (by decide +kernel),
    serves_of (by decide +kernel), serves_of (by decide +kernel), by decide +kernel, by decide +kernel, by decide +kernel,
    inv_of (by decide +kernel)⟩

/-! ### Witnesses: the port and the endpoint -/

/-- A frame of 60 bytes before its check sequence. -/
def frameOf (dst src type : Nat) (body : List Byte) : List Byte :=
  let f := be 6 dst ++ be 6 src ++ be 2 type ++ body
  let f := f ++ List.replicate (60 - f.length) 0
  f ++ le 4 (crc32 f).toNat

def badFrame : List Byte := List.replicate 64 0
def pauseFrame : List Byte := frameOf 0x0180C2000001 0x020000000001 0x8808 (be 2 1)
/-- A MAC control frame that is neither PAUSE nor PFC. -/
def controlFrame : List Byte := frameOf 0x0180C2000001 0x020000000001 0x8808 (be 2 2)
def strayFrame : List Byte := frameOf 0x020000000099 0x020000000001 0x0800 []
/-- An ARP request for the link-local address. -/
def arpFrame (ip : Nat) : List Byte :=
  frameOf 0xFFFFFFFFFFFF 0x020000000001 0x0806 (be 2 1 ++ be 2 0x0800 ++ be 1 6 ++ be 1 4 ++ be 2 1 ++ be 6 0x020000000001
    ++ be 4 0x0A000001 ++ be 6 0 ++ be 4 ip)

/-- The device with the IPv4 address 10.0.0.2 in use. -/
def addressed : State := (config.setReg (aWalong 0x1C) 0x0A000002).setReg (aWalong 0x20) 0x118

def fcsGood (f : List Byte) : Bool := (crc32 (f.take (f.length - 4))).toNat = ofLe (f.drop (f.length - 4))

theorem wit_Frames_bad : config.portUp = true ∧ badFrame.length = 64 ∧ fcsGood badFrame = false := by decide +kernel
theorem wit_Frames_pause : pauseFrame.length = 64 ∧ fcsGood pauseFrame = true ∧ fieldAt pauseFrame 12 2 = 0x8808 ∧
    fieldAt pauseFrame 14 2 = 1 ∧ fcsGood controlFrame = true ∧ fieldAt controlFrame 12 2 = 0x8808 ∧ fieldAt controlFrame 14 2 = 2 := by
  decide +kernel
theorem wit_Frames_arp : addressed.portUp = true ∧ fcsGood (arpFrame 0x0A000002) = true ∧
    fieldAt (arpFrame 0x0A000002) 0 6 = 0xFFFFFFFFFFFF ∧ fieldAt (arpFrame 0x0A000002) 12 2 = 0x0806 ∧
    bitOf (addressed.reg (aWalong 0x18)) 16 = false ∧ fieldAt (arpFrame 0x0A000002) 20 2 = 1 ∧
    addressed.own4.contains (fieldAt (arpFrame 0x0A000002) 38 4) = true := by decide +kernel
theorem wit_Frames_echo : addressed.portUp = true ∧ bitOf (addressed.reg (aWalong 4)) 0 = true ∧
    (if host.v6 then addressed.own6 else addressed.own4).contains 0x0A000002 = true ∧
    (if addressed.net.echoSecond = addressed.uptime / 1000 then addressed.net.echoCount else 0) < 1000 := by decide +kernel

/-- A Walong packet with its CRC. -/
def packet (flags lane seq ack op tag : Nat) (data : List Byte) : List Byte :=
  let p := be 2 0x574C ++ be 1 1 ++ be 1 flags ++ be 1 lane ++ be 1 0 ++ be 2 data.length ++ be 4 seq ++ be 4 ack ++ be 2 op
    ++ be 2 0 ++ be 4 tag ++ be 4 0 ++ be 4 0 ++ data
  p.take 28 ++ be 4 (crc32c p).toNat ++ p.drop 32

def crcGood (p : List Byte) : Bool := (crc32c (p.take 28 ++ [0, 0, 0, 0] ++ p.drop 32)).toNat = fieldAt p 28 4

/-- THERMAL_READ as the first request of lane 1. -/
def thermalPacket : List Byte := packet 0 1 0 0 0x0602 7 []

theorem wit_Walong_bad : fieldAt ((thermalPacket.take 31) ++ [0xFF]) 0 2 = 0x574C ∧ ((thermalPacket.take 31) ++ [0xFF]).length = 32 ∧
    crcGood ((thermalPacket.take 31) ++ [0xFF]) = false := by decide +kernel

theorem wit_Walong_good : config.portUp = true ∧ thermalPacket.length = 32 ∧ fieldAt thermalPacket 0 2 = 0x574C ∧
    fieldAt thermalPacket 2 1 = 1 ∧ 32 + fieldAt thermalPacket 6 2 = thermalPacket.length ∧ crcGood thermalPacket = true ∧
    fieldAt thermalPacket 3 1 = 0 ∧ fieldAt thermalPacket 5 1 = 0 ∧ fieldAt thermalPacket 18 2 = 0 ∧
    fieldAt thermalPacket 24 4 = 0 ∧ fieldAt thermalPacket 4 1 = 1 ∧ fieldAt thermalPacket 16 2 = 0x0602 ∧
    opcodeKnown 0x0602 false = true ∧ fieldAt thermalPacket 8 4 = (config.lane 1).e ∧
    seqDiff ((config.processAck 1 0).lane 1).e ((config.processAck 1 0).lane 1).b < 256 := by decide +kernel

/-- The reply of THERMAL_READ retained in lane 1. -/
def retained : State := config.setLane 1 { e := 1, replies := [{ hdr := req, opcode := 0x0602, status := 0, payload := [] }] }

theorem wit_Walong_duplicate :
    seqDiff (fieldAt thermalPacket 8 4) ((retained.processAck 1 0).lane 1).b
      < seqDiff ((retained.processAck 1 0).lane 1).e ((retained.processAck 1 0).lane 1).b ∧
    (((retained.processAck 1 0).lane 1).replies.find? fun r => r.hdr.seq = fieldAt thermalPacket 8 4).isSome = true := by
  decide +kernel

theorem wit_AckDelay : ((withJob config 1 0x0203 (.memFill req 0 8 []) (.finish 0 [])).lane 1).job.isSome = true ∧
    seqDiff 0 ((withJob config 1 0x0203 (.memFill req 0 8 []) (.finish 0 [])).lane 1).b
      < seqDiff ((withJob config 1 0x0203 (.memFill req 0 8 []) (.finish 0 [])).lane 1).e
          ((withJob config 1 0x0203 (.memFill req 0 8 []) (.finish 0 [])).lane 1).b := by decide +kernel

/-- A number of link-local probes sent. -/
def probing (n : Nat) : State := { config with net := { config.net with arpProbes := some n } }

theorem wit_ArpProbe : (probing 2).net.arpProbes = some 2 ∧ (probing 3).net.arpProbes = some 3 ∧ config.dev.column ≠ none := by
  decide +kernel

/-- The event destination is asked for. -/
def resolving (n : Nat) : State :=
  { config with net := { config.net with resolution := some ⟨0x0A000001, n, 0xFFFFFFFF⟩ }
                events := { config.events with unsent := [{ kind := 1 }] } }

theorem wit_Resolution : (resolving 2).net.resolution = some ⟨0x0A000001, 2, 0xFFFFFFFF⟩ ∧
    (resolving 3).net.resolution = some ⟨0x0A000001, 3, 0xFFFFFFFF⟩ ∧ ((resolving 3).events.unsent.head?.map fun e => e.eventSeq) = some 0xFFFFFFFF ∧
    (resolving 3).net.cache.length ≤ 64 := by decide +kernel

/-- An event that waits, its destination 10.0.0.1 known and on. -/
def eventReady : State :=
  let s := ((addressed.setReg (aWalong 0x70) 0x0A000001).setReg (aWalong 0x60) 0x20400)
  { s with net := { s.net with cache := [(0x0A000001, 0x020000000001)] }
           events := { s.events with unsent := [{ kind := 1, eventSeq := 0 }] } }

theorem wit_EventSend : (resolving 0).events.unsent = [{ kind := 1 }] ∧ bitOf ((resolving 0).reg (aWalong 0x60)) 17 = false ∧
    eventReady.events.unsent = [{ kind := 1, eventSeq := 0 }] ∧ bitOf (eventReady.reg (aWalong 0x60)) 17 = true ∧
    eventReady.fld (aWalong 0x60) 0 16 ≠ 0 ∧ eventReady.portUp = true ∧ eventReady.eventHop = some 0x0A000001 ∧
    look eventReady.net.cache 0x0A000001 = some 0x020000000001 := by decide +kernel

theorem wit_LinkUp : State.reset.dev.column ≠ none ∧ State.reset.net.link = false ∧ risingFrom none eventReady.net.cache = true := by
  decide +kernel

/-! ### Witnesses: supply, pins, reset, power states, temperatures -/

def lanternDev : State := inDev .lantern
def off : State := { inDev .off with lantern := { supplyOk := false, resetN := none, hwsdN := none, railsUp := false } }
/-- RESET_N low in LANTERN. -/
def resetHeld : State := { lanternDev with lantern := { lanternDev.lantern with resetN := some false } }
/-- HWSD_N low in SHUTDOWN. -/
def hwsdHeld : State := { inDev .shutdown with lantern := { lanternDev.lantern with hwsdN := some false, shutCause := some .hwsd } }

theorem wit_Resets : ready.dev.column ≠ none ∧ ready.ledger.writing = none ∧ ready.lantern.resetN ≠ some false ∧ ready.dev ≠ .boot ∧
    ready.hasp.running = true ∧
    ready.lantern.hwsdN ≠ some false ∧ resetHeld.dev = .lantern ∧ resetHeld.lantern.resetN = some false ∧
    hwsdHeld.dev = .shutdown ∧ hwsdHeld.lantern.hwsdN = some false ∧ hwsdHeld.lantern.supplyOk = true ∧
    hwsdHeld.lantern.resetN = some true ∧ hwsdHeld.lantern.internalHwsd = false ∧ hwsdHeld.ledger.writing = none := by decide +kernel

theorem wit_PowerUp : off.dev = .off ∧ (out .startConditionConfirmed off).dev = .off ∧
    (out .startConditionConfirmed off).lantern.supplyOk = true ∧ lanternDev.dev = .lantern ∧ lanternDev.lantern.resetN = some true ∧
    lanternDev.lantern.hwsdN = some true ∧ lanternDev.lantern.internalHwsd = false ∧ ready.dev ≠ .off ∧
    ready.ledger.writing = none ∧ ready.fwLoading = false ∧ 8959 < volts 35 ∧ volts 35 ≤ 8960 := by decide +kernel

/-- A supply hold has begun. -/
def holding : State := { ready with lantern := { ready.lantern with warn := true, hold := some 0 } }
/-- The same while a step runs. -/
def holdingRun : State :=
  { running gateEnd step0 with lantern := { ready.lantern with warn := true, hold := some 0 } }

theorem wit_Supply : ready.lantern.warn = false ∧ ready.dev = .ready ∧ 9983 < volts 39 ∧ holding.jobsHome ∧ holding.dev = .ready ∧ holding.lantern.warn = true ∧ holding.lantern.hold ≠ none ∧
    holding.steps = [] ∧ holdingRun.lantern.warn = true ∧ holdingRun.lantern.hold ≠ none ∧ holdingRun.steps ≠ [] ∧
    holdingRun.stepOf step0.lane = some step0 ∧ ({ holding with lantern := { holding.lantern with hold := none } } : State).lantern.warn = true :=
  ⟨by decide +kernel, by decide +kernel, by decide, jobsHome_of (by decide +kernel), by decide +kernel⟩

/-- The host watchdog armed. -/
def watched (s : State) (action : Nat) : State := { s with watchdog := ⟨1000, action, some 0⟩ }

theorem wit_Watchdog : (watched ready 1).watchdog.armedAt ≠ none ∧ (watched ready 1).dev = .ready ∧
    (watched ready 1).watchdog.action = 1 ∧ (watched ready 1).steps = [] ∧ (watched ready 1).testing = false ∧
    (watched (running gateEnd step0) 1).dev = .run ∧ (watched (running gateEnd step0) 1).steps ≠ [] := by decide +kernel

/-- Every diode with four equal conversions. -/
def atTemp (s : State) (v : Conv) : State :=
  { s with lantern := { s.lantern with diodes := List.replicate 32 { conv := List.replicate 4 v } } }
def opened0 : State :=
  { ready with lantern := { ready.lantern with diodes := { conv := [.opened] } :: List.replicate 31 { conv := [.value 6400] } } }
/-- A thermistor input open, and all inputs enabled. -/
def thermOpen : State :=
  let s := ready.setReg (aLantern 0x10) 0xFF
  { s with lantern := { s.lantern with therms := { conv := [.opened] } :: List.replicate 7 {} } }

theorem wit_Temperatures : ready.dev ≠ .off ∧ opened0.trusted 0 = true ∧ opened0.diodeFault 0 1 = true ∧
    ready.vaneFault 0 1 = true ∧ thermOpen.thermOn 0 = true ∧ (thermOpen.therm 0).broken = none ∧
    (thermOpen.therm 0).conv.head? = some .opened := by decide +kernel

theorem wit_Throttle : (atTemp ready (.value 25600)).highest (List.range 10) = some 25600 ∧
    (((atTemp ready (.value 25600)).fld (aLantern 0x14) 0 8 * 256 : Nat) : Int) ≤ 25600 ∧
    (atTemp ready (.value 0)).highest (List.range 10) = some 0 ∧
    (0 : Int) < (((atTemp ready (.value 0)).fld (aLantern 0x14) 0 8 * 256 : Nat) : Int) - 768 := by decide +kernel

/-- A critical channel, its shutdown under way. -/
def critical : State := { ready with lantern := { ready.lantern with critical := some (3, 0) } }
/-- SHUTDOWN after a thermal shutdown, cooled down, AUTO_RESTART on. -/
def cooled : State :=
  let s := (atTemp (inDev .shutdown) (.value 0)).setReg (aLantern 4) 5
  { s with lantern := { s.lantern with internalHwsd := true, shutCause := some .thermal } }

theorem wit_Thermal : (atTemp ready (.value 32512)).isCritical 3 = true ∧ (atTemp ready (.value 32512)).lantern.critical = none ∧
    (atTemp ready (.value 32512)).dev.column ≠ none ∧ critical.lantern.critical ≠ none ∧ critical.dev = .ready ∧
    critical.ledger.writing = none ∧ cooled.dev = .shutdown ∧ cooled.lantern.internalHwsd = true ∧
    cooled.lantern.restartBlocked = false ∧ bitOf (cooled.reg (aLantern 4)) 2 = true ∧ cooled.lantern.supplyOk = true ∧
    cooled.lantern.resetN = some true ∧ cooled.lantern.hwsdN = some true ∧ cooled.ledger.writing = none := by decide +kernel

theorem wit_Cool : ∀ n, n < 32 → cooled.trusted n = true → ∃ q, (cooled.diode n).reading = some q ∧
    q < cooled.fld (aLantern 0x14) 16 8 * 256 := by
  have h : (List.range 32).all (fun n => decide ((cooled.diode n).reading = some 0)) = true := by decide +kernel
  have g : (0 : Int) < cooled.fld (aLantern 0x14) 16 8 * 256 := by decide +kernel
  intro n hn _
  exact ⟨0, of_decide_eq_true (List.all_eq_true.1 h n (List.mem_range.2 hn)), g⟩

theorem wit_AutoIdle : ready.dev = .ready ∧ ready.lantern.entry = none ∧ ready.steps = [] ∧ ready.noCommands ∧
    bitOf ((ready.setReg (aLantern 4) 1).reg (aLantern 4)) 0 = true := by
  refine ⟨rfl, rfl, rfl, ?_, by decide +kernel⟩
  unfold State.noCommands
  decide +kernel

/-- The device in DOZE, its wake timer running. -/
def dozing : State := { withEngine (inDev .doze) with lantern := { ready.lantern with wakeAt := some 8 } }
/-- A command that waits for a wake. -/
def wanted : State := withJob dozing 1 0x0202 (.memRead req 0 8 0) .waitWake
/-- The wake to READY under way. -/
def waking : State := { dozing with lantern := { dozing.lantern with waking := some ⟨.ready, .doze⟩ } }

theorem wit_Wakes : dozing.dev = .doze ∧ dozing.lantern.entry = none ∧ dozing.lantern.waking = none ∧ dozing.lantern.warn = false ∧
    dozing.lantern.wakeAt ≠ none ∧ wanted.wakeTarget = some .ready ∧ waking.Inv ∧ waking.noCommands ∧
    waking.lantern.waking = some ⟨.ready, .doze⟩ := by
  refine ⟨by decide +kernel, by decide +kernel, by decide +kernel, by decide +kernel, by decide +kernel, by decide +kernel,
    inv_of (by decide +kernel), ?_, by decide +kernel⟩
  unfold State.noCommands
  decide +kernel

/-- POWER_STATE waits for the entry into DOZE. -/
def entering : State :=
  let s := withJob (withEngine (inDev .doze)) 1 0x0601 (.powerState req 2 0 none) (.powerEntry 2 60 0 0 0)
  { s with lantern := { s.lantern with entry := some ⟨.doze⟩ } }

theorem wit_Entry : entering.onlyJob 1 ∧ (entering.lane 1).job = some ⟨req, 0x0601, .powerState req 2 0 none, .powerEntry 2 60 0 0 0⟩ ∧
    entering.lantern.entry = some ⟨.doze⟩ ∧ entering.lantern.waking = none ∧ entering.dev = targetState 2 :=
  ⟨onlyJob_of (by decide +kernel), by decide +kernel⟩

theorem wit_HeatLimit : starting.onlyJob 1 ∧ (starting.lane 1).job = some ⟨req, 0x0501, .engineStart req none, .engineStart 0x700 1 25⟩ ∧
    starting.dev = .config :=
  ⟨onlyJob_of (by decide +kernel), by decide +kernel⟩

def recordA : Record := { kind := 2 }
def recordB : Record := { kind := 4 }
/-- Records on their way to the Ledger. -/
def ledgerWaits (l : List Record) : State := { ready with ledger := { ready.ledger with waiting := l } }
def ledgerWrites : State := { ready with ledger := { ready.ledger with writing := some recordA } }

theorem wit_Ledger : (ledgerWaits [recordA]).dev ≠ .off ∧ (ledgerWaits [recordA]).ledger.writing = none ∧
    (ledgerWaits [recordA]).ledger.waiting = [recordA] ∧ (ledgerWaits [recordA, recordB]).ledger.waiting = [recordA, recordB] ∧
    recordA.kind ≠ 4 ∧ recordB.kind = 4 ∧ ledgerWrites.dev ≠ .shutdown ∧ ledgerWrites.ledger.writing = some recordA ∧
    ledgerWrites.ledger.deferred = [] := by decide +kernel

theorem wit_Completion :
    ((withJob ready 1 0x0203 (.memFill req 0 8 []) (.finish 0 [])).lane 1).job = some ⟨req, 0x0203, .memFill req 0 8 [], .finish 0 []⟩ ∧
    ((withJob ready 1 0x0203 (.memFill req 0 8 []) (.fail { status := stMemUncorrectable })).lane 1).job
      = some ⟨req, 0x0203, .memFill req 0 8 [], .fail { status := stMemUncorrectable }⟩ := by decide +kernel

/-! ### Witnesses: running steps -/

def readsB (s : State) (t : Step) (i : Nat) (op : PRec) (ds : List Desc) : Bool :=
  match s.readRec t i with
  | .ok o d => decide (o = op) && decide (d = ds)
  | _ => false

theorem reads_of {s : State} {t : Step} {i : Nat} {op : PRec} {ds : List Desc} (c : readsB s t i op ds = true) :
    s.readRec t i = .ok op ds := by
  unfold readsB at c
  split at c
  · next h =>
    simp only [Bool.and_eq_true, decide_eq_true_eq] at c
    rw [h, c.1, c.2]
  · cases c

/-- A COPY of the descriptor at 0x5000, its condition CLIPPED of record 5. -/
def copyIf : CopyR := ⟨1, ⟨1, 5⟩, 0x5000⟩
def copyBytes : List Byte := le 64 (0x08 + 0x100 + 0x10000 + 5 * 2 ^ 32 + 0x5000 * 2 ^ 64)
/-- A stream of 256 bytes from 0x8000 to 0x9000 of the Granary. -/
def copyDesc : Desc := ⟨1, 3, 0, 0, 0x8000, 0x9000, 256, 1, 256, 0, 0, 0, 0⟩
def descBytes : List Byte :=
  [1, 3, 0, 0, 0, 0, 0, 0] ++ le 8 0x8000 ++ le 8 0x9000 ++ le 4 256 ++ le 4 1 ++ le 8 256 ++ le 24 0
/-- A step at a COPY whose record 5 was not clipped. -/
def copyStep : Step := { step0 with clips := [(5, false)] }
def copying : State := { running copyBytes copyStep with memory := ((running copyBytes copyStep).poke 0x5000 descBytes).memory }

theorem wit_Dispatch : (running gateEnd step0).stepOf 2 = some step0 ∧ (running gateEnd step0).works step0 = true ∧
    (step0.restore = [] ∧ step0.atGate = false) ∧ (running gateEnd step0).readRec step0 step0.next = .ok (.gate false) [] ∧
    (running gateEnd step0).dispatchHeld step0 (.gate false) = false ∧ step0.condHolds (PRec.gate false).cond = some true ∧
    copying.stepOf 2 = some copyStep ∧ copying.works copyStep = true ∧ copying.readRec copyStep 0 = .ok (.copy copyIf) [copyDesc] ∧
    copying.dispatchHeld copyStep (.copy copyIf) = false ∧ copyStep.condHolds (PRec.copy copyIf).cond = some false :=
  ⟨by decide +kernel, by decide +kernel, by decide +kernel, reads_of (by decide +kernel), by decide +kernel, by decide +kernel,
    by decide +kernel, by decide +kernel, reads_of (by decide +kernel), by decide +kernel, by decide +kernel⟩

/-- A COPY and a DEP after it. -/
def depProg : List Byte := copyBytes ++ le 64 7
def depStep (done : Bool) : Step :=
  { step0 with slots := 3, next := 1, cur := 1, live := if done then [] else [{ idx := 0, op := .copy copyIf }] }

theorem wit_Dep : (running depProg (depStep true)).stepOf 2 = some (depStep true) ∧
    (running depProg (depStep true)).works (depStep true) = true ∧
    ((depStep true).restore = [] ∧ (depStep true).atGate = false ∧ (depStep false).atGate = false) ∧
    (running depProg (depStep true)).readRec (depStep true) 1 = .ok (.dep ⟨false, 0, 0, 0⟩) [] ∧
    (running depProg (depStep false)).readRec (depStep false) 1 = .ok (.dep ⟨false, 0, 0, 0⟩) [] ∧
    (running depProg (depStep true)).dispatchHeld (depStep true) (.dep ⟨false, 0, 0, 0⟩) = false ∧
    (depStep true).isDone 0 = true ∧ (depStep false).isDone 0 = false ∧
    (running depProg (depStep false)).lantern.hold = none ∧ (depStep false).cur = (depStep false).next ∧
    (depStep false).liveAt 0 = some { idx := 0, op := .copy copyIf } :=
  ⟨by decide +kernel, by decide +kernel, by decide +kernel, reads_of (by decide +kernel), reads_of (by decide +kernel),
    by decide +kernel, by decide +kernel, by decide +kernel, by decide +kernel, by decide +kernel, by decide +kernel⟩

/-- A step with these records dispatched, up to a next one. -/
def atRecords (n : Nat) (l : List Live) : Step := { step0 with next := n, cur := n - 1, live := l }
def gateStep : Step := atRecords 1 [{ idx := 0, op := .gate false }]
/-- A GATE that waits for a COPY before it. -/
def gateLate : Step := atRecords 2 [{ idx := 0, op := .copy copyIf }, { idx := 1, op := .gate false }]
def endStep : Step := atRecords 2 [{ idx := 1, op := .fin 0x3000 }]
def routeStep (gs : List Nat) : Step := atRecords 1 [{ idx := 0, op := .route gs }]
def copyLive : Step :=
  { atRecords 1 [{ idx := 0, op := .copy copyIf }] with fetches := [{ record := 0, descs := [copyDesc] }] }

/-- A GATE that stays closed at tick 0: parts switched in settle until tick 5. -/
def slowGate : State :=
  let s := running gateEnd gateStep
  { s with reaper := { s.reaper with switchAt := 5 } }

theorem wit_Gates : (running gateEnd gateStep).gateReady gateStep = some { idx := 0, op := .gate false } ∧
    (running gateEnd gateStep).works gateStep = true ∧ (running gateEnd gateStep).exchanges = [] ∧
    (running gateEnd gateStep).lantern.throttle = 0 ∧ gateStep.gateAt = none ∧
    (running gateEnd gateStep).reaper.switchAt ≤ gateStep.since ∧
    ((running gateEnd gateStep).armGate gateStep).gateOpens 2 = true ∧ (slowGate.armGate gateStep).gateOpens 2 = false ∧
    gateLate.live.find? (fun w => w.op.kind = 6 || w.op.kind = 10) = some { idx := 1, op := .gate false } ∧
    (running gateEnd gateLate).lantern.hold = none ∧ (gateLate.live.filter fun w => w.idx ≠ 1) ≠ [] ∧
    (running gateEnd gateLate).works gateLate = true ∧ (running gateEnd gateLate).stepOf 2 = some gateLate ∧
    (running gateEnd endStep).gateReady endStep = some { idx := 1, op := .fin 0x3000 } ∧
    (routeStep [0, 0, 0, 0, 4, 4, 4, 4]).liveAt 0 = some { idx := 0, op := .route [0, 0, 0, 0, 4, 4, 4, 4] } ∧
    (routeStep [0, 1, 2, 3, 4, 5, 6, 7]).route = [0, 1, 2, 3, 4, 5, 6, 7] ∧
    copyLive.liveAt 0 = some { idx := 0, op := .copy copyIf } ∧ copyLive.reaperBehind 0 = false ∧
    (running gateEnd copyLive).works copyLive = true := by decide +kernel

/-- A step at its open END. -/
def ending : State := running gateEnd endStep
def stepReq : ReqHdr := { req with lane := 2 }

theorem wit_EndRecord : ending.Inv ∧ ending.jobsHome ∧ ending.quiet ∧ ending.steps = [endStep] ∧ endStep.lane < 16 ∧
    ending.dev = .run ∧ (ending.lane 2).job = some ⟨stepReq, 0x0403, .stepRun req 0x1000 0x2000 1 0 none, .step⟩ ∧
    ending.lantern.dozeDue = false ∧ ending.exchanges = [] ∧ endStep.commitMode = 1 ∧
    ending.gateReady endStep = some { idx := 1, op := .fin 0x3000 } ∧ (ending.armGate endStep).gateOpens 2 = true ∧ 0 ∈ endStep.sessions ∧ 1 ∉ endStep.sessions ∧
    ending.session 0 = some sess :=
  ⟨inv_of (by decide +kernel), jobsHome_of (by decide +kernel), quiet_of (by decide +kernel), by decide +kernel⟩

/-- The step with one Furrow changed. -/
def withFurrow (s : State) (f : Nat) (g : Furrow → Furrow) : State := s.modFurrow f g

/-- A tile of one column, all codes 1, loaded by record 0. -/
def tile0 : Tile := ⟨0, 0, 0, [List.replicate 256 1], 0, 0⟩
def bayLoad0 : BayLoadR := ⟨1, 1, 0, 0, 0, 0, 0, ⟨0, 0⟩, 0x10000, 256, 0⟩
def loadStep : Step := atRecords 1 [{ idx := 0, op := .bayLoad bayLoad0, todo := [0], left := [0] }]
def loadingBay (intoB : Bool) : State := withFurrow (running gateEnd loadStep) 0 fun x => { x with fill := some ⟨intoB, tile0, 1000⟩ }

theorem wit_BayLoad : (running gateEnd loadStep).stepOf 2 = some loadStep ∧ (running gateEnd loadStep).works loadStep = true ∧
    loadStep.liveAt 0 = some { idx := 0, op := .bayLoad bayLoad0, todo := [0], left := [0] } ∧
    (running gateEnd loadStep).loadSlots loadStep 0 [0] = [(0, 0)] ∧ (loadingBay true).loadSlots loadStep 0 [0] = [] ∧
    (running gateEnd loadStep).memory.badParity = [] ∧ (running gateEnd loadStep).furrows.length = 10 ∧
    ((loadingBay true).furrow 0).fill = some ⟨true, tile0, 1000⟩ ∧ ((loadingBay false).furrow 0).fill = some ⟨false, tile0, 1000⟩ := by
  decide +kernel

/-- A STREAM of slot 0 over that tile: one row chunk of W8 codes and its exponent byte. -/
def stream0 : StreamR := ⟨0, 0, 0, 0, 0, 2, ⟨0, 0⟩, 0, 0x5000, 0x7000, 0⟩
def codeDesc : Desc := ⟨1, 0, 2, 0, 0x8000, 0, 256, 2, 256, 0, 0, 0, 0⟩
def sideDesc : Desc := ⟨1, 1, 0, 0, 0x9000, 0, 2, 1, 2, 0, 0, 0, 0⟩
/-- The STREAM's work with all its pieces returned: 512 codes of 1 and two exponent bytes of 0. -/
def fetch1 : Fetch where
  record := 1
  descs := [codeDesc, sideDesc]
  entries := [[some 0x8000], [some 0x9000]]
  pieces := [{ desc := 0, pos := 0, addr := 0x8000, used := 256, data := List.replicate 256 1 },
             { desc := 0, pos := 256, addr := 0x8100, used := 256, data := List.replicate 256 1 },
             { desc := 1, pos := 0, addr := 0x9000, used := 2, data := List.replicate 256 0 }]
def streamLive (started : Bool) : Live := { idx := 1, op := .stream stream0, started := started }
def streamStep (started : Bool) : Step := { atRecords 2 [streamLive started] with fetches := [fetch1] }
/-- The tile lies in Bay A of Furrow 0, and the STREAM is dispatched. -/
def streaming (started : Bool) (p : Pass) : State :=
  withFurrow (running gateEnd (streamStep started)) 0 fun x => { x with bayA := some tile0, passes := if started then [p] else [] }
def pass0 : Pass := { lane := 2, record := 1, slot := 0, tile := 0, u := 1, base := 0x7000, mask := 0, total := 2 }
def begun : Pass := { pass0 with started := true }

theorem wit_Stream : (streaming false pass0).stepOf 2 = some (streamStep false) ∧ (streaming false pass0).works (streamStep false) = true ∧
    (streamStep false).liveAt 1 = some (streamLive false) ∧ fetch1.ready = true ∧ fetch1.fault = none ∧
    ((((streaming false pass0).ensureFetch (streamStep false) 1).settle).stepOf 2).bind (fun x => x.fetchOf 1) = some fetch1 ∧
    (∀ w ∈ (streamStep false).live, w.idx < 1 → w.op.kind ≠ 9 ∧ ((w.op.kind = 2 ∨ w.op.kind = 8) → w.started = true)) ∧
    (streaming false pass0).lantern.hold = none := by decide +kernel

theorem wit_PassStart : ((streaming true pass0).furrow 0).nextPass = some pass0 ∧
    ((streaming true pass0).furrow 0).bayOf (streamStep true).order 0 = some false ∧
    (streaming true pass0).works (streamStep true) = true ∧ ((streaming true pass0).furrow 0).unlocked = false ∧
    ((streaming true pass0).furrow 0).replays = [] ∧ ((streaming true pass0).furrow 0).fresh = true ∧
    ((withFurrow (streaming true pass0) 0 fun x => { x with fresh := false }).furrow 0).fresh = false ∧
    ((withFurrow (streaming true pass0) 0 fun x => { x with fresh := false }).furrow 0).litB = false := by decide +kernel

def isChunk (c : ChunkNow) (bytes : List Byte) (e z : Nat) : Bool :=
  match c with
  | .chunk b x y => decide (b = bytes) && decide (x = e) && decide (y = z)
  | _ => false

theorem chunk_of {c : ChunkNow} {b : List Byte} {e z : Nat} (h : isChunk c b e z = true) : c = .chunk b e z := by
  unfold isChunk at h
  split at h
  · simp only [Bool.and_eq_true, decide_eq_true_eq] at h
    rw [h.1.1, h.1.2, h.2]
  · cases h

theorem wit_RowChunkArrival : (streaming true begun).stepOf 2 = some (streamStep true) ∧
    (streaming true begun).works (streamStep true) = true ∧ (streamStep true).runningStream 1 = some stream0 ∧
    (streamStep true).fetchOf 1 = some fetch1 ∧ (streaming true begun).passesOf 2 1 = [(0, begun)] ∧
    ((streaming true begun).passesOf 2 1).all (fun m => (streaming true begun).canTake 2 1 m.1) = true ∧
    begun.sent + 1 < begun.total ∧ stream0.slot = (⟨0, 0, 0⟩ : ArrivalEv).leader ∧
    fetch1.chunkAt begun.sent 1 0 = .skew false 0 1 ∧ fetch1.chunkAt begun.sent 0 0 = .chunk (List.replicate 256 1) 0 0 :=
  ⟨by decide +kernel, by decide +kernel, by decide +kernel, by decide +kernel, by decide +kernel, by decide +kernel, by decide +kernel,
    by decide +kernel, by rfl, chunk_of (by decide +kernel)⟩

/-- The same STREAM on a group of slots 0 and 1; Furrow 1 waits for a replay, since tick 3, or gives credit. -/
def grouped (waits : Bool) : State :=
  withFurrow (streaming true begun) 1 fun x =>
    { x with bayA := some tile0, passes := [{ begun with slot := 1 }], withheld := if waits then some 3 else none
             replays := if waits then [{ lane := 2, record := 1, row := 0, fmt := 0, sent := [], exps := 0 }] else [] }

theorem wit_Mcast : (grouped false).stepOf 2 = some (streamStep true) ∧ 2 ≤ ((grouped false).passesOf 2 1).length ∧
    (((grouped false).passesOf 2 1).all fun m => (grouped false).givesCredit 0 2 1 m.1) = true ∧
    (((grouped false).passesOf 2 1).map fun m => m.2.fed) = [0, 0] ∧ 0 < fetch1.code.2.2 ∧
    ((grouped false).furrow 1).withheld = none ∧ (grouped true).stallClass 1 ≠ 4 ∧
    (grouped true).activeFurrows.find? ((grouped true).stallDue (streamStep true)) = none ∧
    (grouped true).works (streamStep true) = true ∧ 2 ≤ ((grouped true).passesOf 2 1).length ∧
    (grouped true).slowMember (((grouped true).passesOf 2 1).map fun m => m.1) = some 1 ∧
    ((grouped true).furrow 1).unlocked = false ∧ (grouped true).lantern.hold = none := by decide +kernel

/-- The stall timer of Furrow 0 has run out on symbols of WEIGHT_LATE. -/
def stalled : State := withFurrow (streaming true begun) 0 fun x => { x with stall := 20 * 14000000, cause := 0 }

theorem wit_Stall : stalled.reaper.holder = some 2 ∧ stalled.stepOf 2 = some (streamStep true) ∧
    stalled.works (streamStep true) = true ∧ stalled.stallDue (streamStep true) 0 = true ∧ (stalled.furrow 0).cause = 0 ∧
    stalled.activeFurrows.find? (stalled.stallDue (streamStep true)) = some 0 ∧
    (streaming true begun).stallDue (streamStep true) 0 = false := by decide +kernel

/-! ### Witnesses: decisions, aborts, records that compute -/

/-- Row chunk 0 as sent: codes of 1 with exponents 0. -/
def chunk0 : Chunk := { lane := 2, record := 1, row := 0, fmt := 0, sent := List.replicate 256 1, exps := 0 }
/-- Furrow 0 has sent row chunk 0, or has it to replay. -/
def decidable (c : Chunk) (fits : List DetFit) (replay : Bool) : State :=
  withFurrow (streaming true { begun with sent := 1, fits := fits }) 0 fun x =>
    { x with sent := if replay then [] else [c], replays := if replay then [c] else [] }
/-- A sample of detector 0 that its Furrow has no fit for. -/
def oddSample : SampleDev := { sym := 0, pos := 0, plane := 0, seg := 0, code := 9, under := false, beyond := false }
/-- A sample of the check column that reads 0, and a fit of its detector. -/
def zeroSample : SampleDev := { sym := 0, pos := 64, plane := 0, seg := 0, code := 0, under := true }
def checkFit : DetFit := ⟨1024, 0, 1, 0⟩

def theAttempt (c : Chunk) (fits : List DetFit) (devs : List SampleDev) : Attempt :=
  (decidable c fits false).attempt 0 { begun with sent := 1, fits := fits } tile0 c devs

/-- A sample of column 0, decided to level 0 as its repeat in the check column is, and the fit of its detector. -/
def wrongSample : SampleDev := { sym := 0, pos := 0, plane := 0, seg := 0, code := 0, under := true }
def wrongFit : DetFit := ⟨0, 0, 1, 0⟩

theorem wit_Decision : ((decidable chunk0 [] false).furrow 0).sent = [chunk0] ∧
    (decidable chunk0 [] false).stepOf 2 = some (streamStep true) ∧
    ((decidable chunk0 [] false).furrow 0).passOf 2 1 = some { begun with sent := 1 } ∧
    (((decidable chunk0 [] false).furrow 0).bayOf (streamStep true).order 0).bind ((decidable chunk0 [] false).furrow 0).tileIn
      = some tile0 ∧ (streamStep true).streamAt 1 = some stream0 ∧ (decidable chunk0 [] false).works (streamStep true) = true ∧
    (theAttempt chunk0 [] []).ambiguous = false ∧ (theAttempt chunk0 [] []).mismatch = none ∧ (theAttempt chunk0 [] []).wrong = none ∧
    (theAttempt chunk0 [wrongFit, checkFit] [wrongSample, zeroSample]).ambiguous = false ∧
    (theAttempt chunk0 [wrongFit, checkFit] [wrongSample, zeroSample]).mismatch = none ∧
    (theAttempt chunk0 [wrongFit, checkFit] [wrongSample, zeroSample]).wrong ≠ none ∧
    (theAttempt chunk0 [] [oddSample]).ambiguous = true ∧ (theAttempt chunk0 [] [oddSample]).mismatch = none ∧ chunk0.tries < 4 ∧
    (theAttempt { chunk0 with mismatched := true } [checkFit] [zeroSample]).ambiguous = false ∧
    (theAttempt { chunk0 with mismatched := true } [checkFit] [zeroSample]).mismatch = some (0, 0) := by decide +kernel

/-- Bay B lights, while the row chunk to replay lies in Bay A. -/
def litB : State := withFurrow (decidable chunk0 [] true) 0 fun x => { x with litB := true }

theorem wit_Replay : ((decidable chunk0 [] true).furrow 0).replays = [chunk0] ∧
    (decidable chunk0 [] true).stepOf 2 = some (streamStep true) ∧ (decidable chunk0 [] true).works (streamStep true) = true ∧
    (decidable chunk0 [] true).passesOf 2 1 = [(0, { begun with sent := 1 })] ∧
    (decidable chunk0 [] true).skewNow (streamStep true) 0 = none ∧
    (decidable chunk0 [] true).farReplay (streamStep true) 0 { begun with sent := 1 } = none ∧
    ((litB.farReplay (streamStep true) 0 { begun with sent := 1 }).isSome = true ∧ litB.skewNow (streamStep true) 0 = none) ∧
    ((decidable chunk0 [] true).furrow 0).unlocked = false := by decide +kernel

/-- The step cancelled at its first record. -/
def cancelled : Failure := { status := stCancelled, detail := 1 }
def failed (teardown : Bool) : Step := { streamStep true with failure := some (cancelled, 1), teardown := teardown }
def aborting : State :=
  withFurrow (running gateEnd (failed false)) 0 fun x => { x with bayA := some tile0, passes := [begun], sent := [chunk0] }
def tornDown : State := running gateEnd { failed true with live := [], fetches := [] }

theorem wit_TaskAbort : aborting.lanes.length = 16 ∧ aborting.stepOf 2 = some (failed false) ∧
    (aborting.lane 2).job = some ⟨stepReq, 0x0403, .stepRun req 0x1000 0x2000 1 0 none, .step⟩ ∧ aborting.jobsHome ∧
    aborting.reaper.holder = some 2 ∧ tornDown.jobsHome ∧ tornDown.steps = [{ failed true with live := [], fetches := [] }] ∧
    tornDown.inFlight { failed true with live := [], fetches := [] } = false ∧ tornDown.testing = false ∧
    (tornDown.lane 2).job = some ⟨stepReq, 0x0403, .stepRun req 0x1000 0x2000 1 0 none, .step⟩ ∧ tornDown.dev = .run ∧
    tornDown.exchanges = [] ∧ tornDown.lantern.dozeDue = false :=
  ⟨by decide +kernel, by decide +kernel, by decide +kernel, jobsHome_of (by decide +kernel), by decide +kernel,
    jobsHome_of (by decide +kernel), by decide +kernel⟩

/-- An EPILOGUE of one row and one column to A8, its limit 0.5, with a re-run where `wide`. -/
def epi (wide : Bool) : EpilogueR where
  slotMask := 1
  act := 0
  outFmt := 0
  sOut := 0
  flags := 0x22 + (if wide then 0x10 else 0)
  clipLimit := 0x8000
  rows := 1
  columns := 1
  sums := 0x7000
  inScale := 0x7100
  tithe := 0
  rs := 0x7200
  bias := 0
  out := 0x7300
  outStride := 0x100
  outScale := 0x7400
  outWide := 0x7500
  outWideStride := 0x100
  outcome := 0x7600
  stats := 0
def epiLive (wide : Bool) (c : Option (Nat × Nat)) : Live := { idx := 0, op := .epilogue (epi wide), started := c.isSome, clipped := c }
def epiStep (wide : Bool) (c : Option (Nat × Nat)) : Step := atRecords 1 [epiLive wide c]

theorem wit_Epilogue : (running gateEnd (epiStep true none)).stepOf 2 = some (epiStep true none) ∧
    (epiStep true none).liveAt 0 = some (epiLive true none) ∧ (running gateEnd (epiStep true none)).works (epiStep true none) = true ∧
    (∀ w ∈ (epiStep true none).live, w.idx < 0 → (epi true).waitsFor (epiStep true none) w = false) ∧
    (running gateEnd (epiStep true none)).epiBad (epi true) = none ∧ (epi true).flag 5 = true ∧ (epi true).flag 4 = true ∧
    (epi false).flag 4 = false ∧ (epi true).outFmt = 0 ∧
    (epiStep true (some (1, 0x8000))).liveAt 0 = some (epiLive true (some (1, 0x8000))) ∧
    0x8000 * ((epi true).rows * (epi true).columns) < 1 * 65536 ∧ ¬ 0x8000 * ((epi true).rows * (epi true).columns) < 0 * 65536 := by
  decide +kernel

/-- A MILL_OP that quantises one item of four bf16 values of the Granary to A8. -/
def millRec : MillOpR where
  op := 0x01
  inFmt := 2
  outFmt := 0
  flags := 0
  cond := ⟨0, 0⟩
  layer := 0
  items := 1
  n := 4
  mills := 0x101
  param0 := 0
  param1 := 0
  arg0 := 0
  arg1 := 0
  src := 0x7000
  srcStride := 0x100
  src2 := 0
  src2Stride := 0
  inScale := 0
  inZp := 0
  out := 0x7300
  outStride := 0x100
  outScale := 0x7400
  outZp := 0
  aux0 := 0
  aux1 := 0
def millStep : Step := atRecords 2 [{ idx := 0, op := .millOp millRec }]
/-- A GLEAN of one head of 32 elements, mode 0. -/
def gleanRec : GleanR := ⟨0, 0, 1, 1, 32, 0, 0x7000, 0x100, 0x7400, 0x7800, 0x100, 0x8000, 0x100, 0x8400, 0x8800, 0⟩
def gleanStep : Step := atRecords 1 [{ idx := 0, op := .glean gleanRec }]
def joined (join : Nat) : Step :=
  { atRecords 2 [{ idx := 1, op := .stream { stream0 with join := join, chainMask := 3 }, started := true }] with
    joins := [⟨3, 0, 0, some [5], none⟩] }

theorem wit_Computing : (running gateEnd millStep).stepOf 2 = some millStep ∧
    (running gateEnd millStep).works millStep = true ∧
    (running gateEnd millStep).millBusy millStep 0 ((running gateEnd millStep).effective millRec) = false ∧
    (gleanStep.live.all fun w => decide (¬ w.idx < 0)) = true ∧ (running gateEnd gleanStep).works gleanStep = true ∧
    (joined 1).runningStream 1 = some { stream0 with join := 1, chainMask := 3 } ∧
    (joined 2).runningStream 1 = some { stream0 with join := 2, chainMask := 3 } := by decide +kernel

/-- A read of the step in flight under tag 7. -/
def piece7 : Piece := { desc := 0, pos := 0, addr := 0x8000, used := 256, tag := some 7 }
def readStep : Step := { streamStep true with fetches := [{ fetch1 with pieces := [piece7] }] }

/-- The same with bad parity under the read, and a tag that was too late. -/
def badRead : State :=
  let s := running gateEnd readStep
  { s with memory := { s.memory with badParity := [0x8040] } }
def lateTag : State := { ready with reaper := { ready.reaper with reclaimed := [7] } }

theorem wit_ReadTag : (running gateEnd readStep).holderOfTag 7 = some (readStep, { fetch1 with pieces := [piece7] }, piece7) ∧
    readStep.teardown = false ∧ piece7.isList = false ∧ piece7.spec = false ∧
    ((running gateEnd readStep).readMem 2 0x8000 256).1 = (List.replicate 256 0, none) ∧
    (badRead.readMem 2 0x8000 256).1.2.isSome = true ∧ lateTag.reaper.reclaimed = [7] := by decide +kernel

/-! ### Witnesses: loops, sources, Winnow -/

theorem wit_VaneSample : ready.vaneLevel ≠ 0 ∧ ready.vane.swapPending = false ∧
    ({ outMin := -5, outMax := 9 } : LoopEntry).outMin ≤ ({ outMin := -5, outMax := 9 } : LoopEntry).outMax := by decide +kernel

theorem wit_SourceFadeCheck : ready.sources.length = 20 ∧ ready.vaneLevel = 2 ∧ (ready.source 19).role = 1 ∧ (ready.source 0).role = 0 := by
  decide +kernel

/-- Spare 19 warms up, to take the place of source 0 where an exchange is wanted. -/
def warming (e : List Exchange) : State := { ready.modSource 19 fun x => { x with warming := true } with exchanges := e }

theorem wit_SpareReady : (warming []).sources.length = 20 ∧ ((warming []).source 19).warming = true ∧ (warming []).exchanges = [] ∧
    (warming [⟨0, some 19, 1, false, none⟩]).exchanges = [⟨0, some 19, 1, false, none⟩] ∧
    (warming [⟨0, some 19, 1, false, none⟩]).steps = [] := by decide +kernel

/-- A Winnow run of Furrow 0. -/
def windRun : WinnowRun := ⟨6400, none, true, [(0, [⟨1, 200, 1000, [(5, 200)]⟩])], 0, [], [], 0, []⟩
def winnowing (r : WinnowRun) : State := ready.modWin 0 fun w => { w with run := some r }
/-- One entry of the point table, at 25 °C. -/
def tabled : State := ready.modWin 0 fun w => { w with points := [(3, ⟨6400, [⟨0, 100, 200, 16⟩]⟩)] }
def dueRun : State := ready.modWin 0 fun w => { w with due := true }

/-- The same while the Furrow computes. -/
def fitBusy : State :=
  { winnowing { windRun with fitTemp := some 6400 } with dev := .run }.modFurrow 0 fun x => { x with symbols := 1 }

theorem wit_Winnow : dueRun.winnow.length = 10 ∧ dueRun.winnowTrigger 0 = false ∧ dueRun.runMode = some false ∧
    (dueRun.win 0).due = true ∧ (dueRun.win 0).run = none ∧ (dueRun.furrow 0).role = 0 ∧
    ((winnowing windRun).win 0).run = some windRun ∧ windRun.fitTemp = none ∧
    (winnowing { windRun with fitTemp := some 6400 }).fitting = some 0 ∧
    (winnowing { windRun with fitTemp := some 6400 }).inGap 0 = true ∧
    fitBusy.fitting = some 0 ∧ fitBusy.inGap 0 = false ∧
    (winnowing { windRun with fitTemp := some 6400, slice := 17 }).fitting = none ∧
    (tabled.win 0).tInterp = none ∧ (tabled.win 0).points ≠ [] := by decide +kernel

theorem wit_WinnowRunComplete : (winnowing { windRun with fitTemp := some 6400, slice := 17 }).Inv ∧
    17 ≤ ({ windRun with fitTemp := some 6400, slice := 17 } : WinnowRun).slice ∧
    (winnowing windRun).fld (aWinnow 0x24) 0 11 < (List.range 2047).length ∧
    ([] : List Nat).length ≤ (winnowing windRun).fld (aWinnow 0x24) 0 11 :=
  ⟨inv_of (by decide +kernel), by decide +kernel⟩

/-! ### Well-formedness: an ill-formed term for each check -/

def badHdr : ReqHdr := { req with lane := 16 }
def setNetX (x : SetNetX → SetNetX) : Option SetNetX := some (x ⟨0, 0, 0, 0, 0, 0, 0, 0⟩)

theorem test_wf_accepts :
    [Instr.identify req, .setNet xreq 0 24 0 (setNetX id), .cfgRead req 0 560 0, .memWrite req 0 0 [1], .stepRun req 0 64 1 0 none,
     .vaneLoopSet xreq 0 0 (-5) (some (loopX 1)), .tempConversion (List.replicate 32 .opened) (List.replicate 8 .opened),
     .sensorBroken (.diode 31) 3, .commandStart 15].all Instr.wf = true := by decide +kernel

theorem test_wf_refuses_headers :
    [Instr.identify badHdr, .identify { req with seq := 2 ^ 32 }, .identify { req with tag := 2 ^ 32 }, .identify xreq,
     .identify { req with src := { host with ip := 2 ^ 32 } }, .identify { req with src := { host with ip := 2 ^ 128, v6 := true } },
     .identify { req with src := { host with mac := 2 ^ 48 } }, .identify { req with src := { host with port := 65536 } },
     .identify { req with src := { host with tclass := 256 } }, .identify { req with src := { host with own := 2 ^ 32 } }, .hostWatchdog req 0 (some (0, 0)), .hostWatchdog xreq 0 none,
     .engineStart badHdr none].all (fun i => !i.wf) = true := by decide +kernel

theorem test_wf_refuses_admin :
    [Instr.ping req (List.replicate 8969 0), .setNet req (2 ^ 32) 0 0 none, .setNet req 0 256 0 none, .setNet req 0 0 (2 ^ 24) none,
     .setNet xreq 0 0 0 (setNetX fun x => { x with gw4 := 2 ^ 32 }), .setNet xreq 0 0 0 (setNetX fun x => { x with ip6 := 2 ^ 128 }),
     .setNet xreq 0 0 0 (setNetX fun x => { x with pfx6 := 256 }), .setNet xreq 0 0 0 (setNetX fun x => { x with vlanEn := 256 }),
     .setNet xreq 0 0 0 (setNetX fun x => { x with vid := 65536 }), .setNet xreq 0 0 0 (setNetX fun x => { x with pcp := 256 }),
     .setNet xreq 0 0 0 (setNetX fun x => { x with rsv := 2 ^ 24 }), .setNet xreq 0 0 0 (setNetX fun x => { x with gw6 := 2 ^ 128 }),
     .hostWatchdog req (2 ^ 32) none, .hostWatchdog xreq 0 (some (256, 0)), .cfgRead req (2 ^ 32) 1 0, .cfgRead req 0 65536 0,
     .cfgRead req 0 1 65536, .cfgWrite req (2 ^ 32) 0 [], .cfgWrite req 0 65536 [], .cfgWrite req 0 0 [2 ^ 32],
     .cfgWrite req 0 0 (List.replicate 2241 0), .cfgWriteMasked req (2 ^ 32) 0 0, .cfgWriteMasked req 0 0 (2 ^ 32),
     .registerWrite (2 ^ 32) 0, .registerWrite 0 (2 ^ 32), .rcCounterRead (2 ^ 32), .loReadCopiesHi (2 ^ 32), .furrowCountClear 10,
     .tallyCountClear 10, .gleanerCountClear 8, .ceLogClear 40, .ueLogClear 40, .sessLenWrite (2 ^ 32)].all (fun i => !i.wf)
      = true := by decide +kernel

theorem test_wf_refuses_memory_and_steps :
    [Instr.memWrite req (2 ^ 64) 0 [], .memWrite req 0 (2 ^ 32) [], .memWrite req 0 0 (List.replicate 8953 0),
     .memRead req 0 (2 ^ 32) 0, .memFill req 0 1 [0], .memFill req 0 (2 ^ 64) (List.replicate 8 0), .memCopy req 0 0 (2 ^ 64),
     .regionSet req ⟨256, 0, 0, 0, 0, 0, 0⟩ none, .regionSet req ⟨0, 0, 0, 0, 0, 2 ^ 64, 0⟩ none,
     .regionSet xreq ⟨0, 0, 0, 0, 0, 0, 0⟩ (some (256, 0)), .programLoad req 0 (2 ^ 32) 0, .programCheck req (2 ^ 64),
     .sessionOpen req { session := 65536, layers := 1, kvHeads := 1, headDim := 32, kvBase := 0, kvBytes := 0, seed := 0 } none,
     .sessionClose req 65536 0, .stepRun req (2 ^ 64) 0 1 0 none, .stepRun req 0 0 65536 0 none,
     .stepRun xreq 0 0 1 0 (some ⟨256, 0, 0, 0⟩), .taskCancel req 256 0 0, .taskCancel req 0 (2 ^ 24) 0, .laneResume badHdr,
     .sessionCommit req 0 65536, .sessionRollback req 0 65536, .taskStatus req 0 0 (2 ^ 32)].all (fun i => !i.wf) = true := by
  decide +kernel

theorem test_wf_refuses_engines_and_reports :
    [Instr.engineStart xreq (some (65536, 0, 0)), .engineStop badHdr, .marginTest xreq (some (0, 256, 0)), .winnowRun req 65536 0 none,
     .winnowRun xreq 0 0 (some (256, 0)), .vaneLoopSet req 0 0 (2 ^ 31) none, .vaneLoopSet req 65536 0 0 none,
     .vaneLoopSet xreq 0 0 0 (some { loopX 0 with coef := [1] }), .vaneLoopSet xreq 0 0 0 (some { loopX 0 with shifts := [] }),
     .vaneLoopSet xreq 0 0 0 (some { loopX 0 with coef := [0, 0, 0, 0, 0, 2 ^ 31] }), .vaneBankSwap xreq, .sourceSpare req 256 0 0,
     .powerState req 256 0 none, .powerState xreq 0 0 (some { powerX with saveBase := 2 ^ 64 }), .thermalRead xreq,
     .sieveRun req ⟨256, 0, 0, 0, 0, 0, 0⟩ none, .sievePeriodic req 256 0 none, .eccFlipArm req ⟨0, 0, 0, 256, 0, 0⟩,
     .fwLoadBegin req (2 ^ 32) 0, .fwLoadData req 0 (List.replicate 8961 0), .fwLoadEnd xreq, .attest req [0], .certRead xreq,
     .ledgerRead req 0 65536 0, .ledgerClear req (2 ^ 32), .countersRead req 256 0 0, .eventsRead req (2 ^ 32) 0 0].all (fun i => !i.wf)
      = true := by decide +kernel

theorem test_wf_refuses_events :
    [Instr.ethernetFrameReceive (List.replicate 9217 0), .arpRequestReceive (2 ^ 32) 0 0, .ndSolicitationReceive 0 0 (2 ^ 48),
     .icmpEchoRequest host 0 65536 0 [], .walongPacketReceive { host with port := 65536 } [], .commandStart 16, .ackDelayExpiry 16 0,
     .supplyHold 65536, .supplyFault 65536, .powerLoss 65536, .recordDispatch 16, .bayLoadComplete 10, .passStart 10 true,
     .rowChunkDecision 10 [], .rowChunkReplay ⟨10, []⟩, .rowChunkArrival 0 0 ⟨8, 0, 0⟩, .mcastCredit 0 0 8, .mcastTimeout 0 0 8, .stallTimeout 0 8,
     .taskAbort 16, .mergeFlushTimer 40 0, .patrolScrub 40 0, .externalSlice 40 none, .sourceFadeCheck [(20, 0)],
     .spareReady 20, .prewarmTimeout 20, .winnowRunDue 10, .winnowCollectionEnd 10 [], .winnowRunComplete 10, .interpSetWrite 10,
     .tempConversion [] [], .sensorBroken (.diode 32) 1, .sensorBroken (.vane 3356) 1, .sensorBroken (.diode 0) 0,
     .thermistorBroken 8 1, .thermistorBroken 0 3, .thermalShutdown 32, .wakeComplete [20], .commandCompletion 16 {}].all
      (fun i => !i.wf) = true := by decide +kernel

/-! ### A few outcomes written out from the manual -/

/-- The table gives no row bits. -/
theorem test_no_row_has_bits : decodeTableWord 32 0 = none ∧ State.reset.withFetchWord 32 0 = State.reset := by decide +kernel

/-- 06, worked example: the token's fp32 values 3.1, −0.515625, 0.046875 and 1.0 become A8 codes with s = −5. -/
theorem test_a8_conversion :
    (convertSym (fun _ => Q.rne) 127 [0x40466666, 0xBF040000, 0x3D400000, 0x3F800000]).codes.map (fun c => c.val) = [99, -16, 2, 32] ∧
    (convertSym (fun _ => Q.rne) 127 [0x40466666, 0xBF040000, 0x3D400000, 0x3F800000]).s = -5 := by decide +kernel

/-- 06, worked example: code bytes 0x93 and 0x58 hold 3, −7, an escape sent as 0, and 5. -/
theorem test_w4_codes :
    (List.range 4).map (fun i => sentValue 0 0 i (rawCode 0 [0x93, 0x58] i)) = [3, -7, 0, 5] ∧ escapes 0 [0x93, 0x58] = 1 := by
  decide +kernel

/-- 06, worked example: the counts of that Sheaf against activations 99, −16, 2, 32 give 569, and 569 << 9 in the row. -/
theorem test_row_chunk_value :
    Attempt.value { planes := 4, fits := [], devs := [], sent := [3, -7, 0, 5] ++ List.replicate 252 0,
                    cols := [(0, [99, 240, 2, 32] ++ List.replicate 252 0)], check := (64, 0) } 0 0x79
      (0, [99, 240, 2, 32] ++ List.replicate 252 0) = 291328 := by decide +kernel

/-- 11, worked example: five of eight drafts accepted. -/
theorem test_drafts : acceptedDrafts [311, 9, 2047, 500, 12, 88, 7, 1024] [311, 9, 2047, 500, 12, 90, 3, 7, 44] = 5 := by decide

/-- 12, worked example: the cache of session 40 and where layer 30, KV head 5, position 4,100 lies. -/
def session40 : Session := ⟨76, 8, 128, 0x4000000100, 0x40000000, 0, false, false, 0, none⟩

theorem test_cache_address :
    session40.tMax = 13312 ∧ session40.laneAddr 5 (session40.codeOff 30 5 1 4100) = 0x4014165D00 ∧
    session40.laneAddr 5 (session40.expOff 30 5 1 4100 0).1 = 0x4014185C08 := by decide +kernel

/-- 16, worked example: detector 200 fitted with OFS 2,663, RCP 16,821 and GUARD 87, and not rejected. -/
theorem test_detector_fit :
    fitDetector State.reset 200
      [⟨0, 100, 1040, [(10, 60), (11, 40)]⟩, ⟨1, 100, 1236, [(12, 100)]⟩, ⟨2, 100, 1430, [(14, 100)]⟩,
       ⟨3, 100, 1624, [(16, 100)]⟩, ⟨4, 100, 1820, [(18, 100)]⟩] (some ⟨200, 2656, 16768, 20⟩)
      = (some ⟨200, 2663, 16821, 87⟩, false) := by decide +kernel

/-- 16: bin 11 at level 0 is accepted under that set, and lies outside a guard of 78. -/
theorem test_quantise : quantise ⟨200, 2663, 16821, 87⟩ 11 false false = some 0 ∧ quantise ⟨200, 2663, 16821, 78⟩ 11 false false = none := by
  decide

/-- 14, worked example: bit 0 of byte 0 of the word at 0x0040_0100_2040 is wrong. -/
def flipped : State :=
  { config with memory := { config.memory with
      loftRegions := setAt config.memory.loftRegions 1 ⟨0x01000000 / 0x8000, 512, 1, true⟩
      errs := [{ word := 0x4001002040, data := [(0, 1)] }] } }

theorem test_ce_log :
    let t := out (.memRead req 0x4001002040 8 0) flipped
    t.readReg 0x502200 = 0x01002041 ∧ t.readReg 0x502204 = 0x00010040 ∧ t.memory.errs = [] ∧
    (t.lane 1).replies.map (fun r => (r.status, r.payload)) = [(0, List.replicate 8 0)] := by decide +kernel

/-- 21, worked example: 20 registers at 0x0013_FFC0 leave their span. -/
theorem test_span : firstFailure (spanChecks 0x13FFC0 20) = some (fRange 4 20) ∧ firstFailure (spanChecks 0x130030 20) = none := by
  decide +kernel

end Sys2Proof.Tests
end

section
/-!
SUPPORT. Big-endian fields of a layout: what `fieldAt` reads from bytes that `be` has written (R2).
-/
namespace Sys2Proof.Machine

@[simp] theorem be_length (n v : Nat) : (be n v).length = n := by
  induction n with
  | zero => rfl
  | succ n ih => simp [be, ih]

/-- The generalisation of `ofBe_be` to bytes that follow others. -/
theorem foldl_be (n v acc : Nat) :
    (be n v).foldl (fun m b => m * 256 + b.toNat) acc = acc * 256 ^ n + v % 256 ^ n := by
  induction n generalizing acc with
  | zero => simp [be, Nat.mod_one]
  | succ n ih =>
    simp only [be, List.foldl_cons, ih, BitVec.toNat_ofNat]
    have hpow : acc * 256 ^ (n + 1) = acc * 256 * 256 ^ n := by
      rw [Nat.pow_succ, Nat.mul_comm (256 ^ n), Nat.mul_assoc]
    rw [Nat.mod_pow_succ (b := 256), hpow, Nat.add_mul, Nat.mul_comm (256 ^ n), Nat.add_assoc,
      Nat.add_comm (v % 256 ^ n)]

theorem ofBe_be (n v : Nat) : ofBe (be n v) = v % 256 ^ n := by
  simpa [ofBe] using foldl_be n v 0

/-- The field that stands first in a layout. -/
theorem fieldAt_be_append (n v : Nat) (p : List Byte) : fieldAt (be n v ++ p) 0 n = v % 256 ^ n := by
  have : (be n v ++ p).take n = be n v := List.take_left' (be_length n v)
  simp [fieldAt, this, ofBe_be]

/-- The last field of a layout. -/
theorem fieldAt_be (n v : Nat) : fieldAt (be n v) 0 n = v % 256 ^ n := by
  simpa using fieldAt_be_append n v []

/-- A field behind the first one. -/
theorem fieldAt_be_append_of_le {k off : Nat} (hk : k ≤ off) (v n : Nat) (p : List Byte) :
    fieldAt (be k v ++ p) off n = fieldAt p (off - k) n := by
  simp [fieldAt, List.drop_append, List.drop_eq_nil_of_le, hk]

end Sys2Proof.Machine
end

section
/-!
PROOFS. IDENTIFY and PING, the unsequenced commands (R63, R80, R81).
-/
namespace Sys2Proof.Machine

/-! ### Sending an unsequenced reply -/

theorem DState.column_eq_none {d : DState} : d.column = none ↔ d = .off ∨ d = .lantern ∨ d = .shutdown := by
  cases d <;> simp [DState.column]

/-- A device whose port is up is in a state that has a column in R72, so it answers. -/
theorem column_ne_none_of_portUp {s : State} (hp : s.portUp = true) : s.dev.column ≠ none := by
  simp only [State.portUp, Bool.and_eq_true, decide_eq_true_eq] at hp
  obtain ⟨⟨⟨-, hoff⟩, hlantern⟩, hshutdown⟩ := hp
  simp [DState.column_eq_none, hoff, hlantern, hshutdown]

theorem send_of_portUp {s : State} (hp : s.portUp = true) (k : OutKind) :
    s.send k = { s with net := { s.net with sent := s.net.sent ++ [⟨s.vlanTag, k⟩] } } := by
  simp [State.send, hp]

/-- A reply that fits one packet leaves as that packet, with MORE clear (R56). -/
theorem sendReply_of_length_le {r : Reply} (hr : r.payload.length ≤ 8968) (s : State) :
    s.sendReply r = s.send (.walong ⟨r.hdr.src, 1, r.hdr.lane, r.hdr.seq, (s.lane r.hdr.lane).e,
      opcodeField r.opcode r.hdr.expert, r.status, r.hdr.tag, r.payload⟩) := by
  simp [State.sendReply, Reply.packets, hr]

/-- An unsequenced reply of one packet adds that packet to what was sent, and does nothing else (R63). -/
theorem replyUnsequenced_of_length_le {s : State} (hp : s.portUp = true) (h : ReqHdr) (op st : Nat) {p : List Byte}
    (hl : p.length ≤ 8968) :
    s.replyUnsequenced h op st p = { s with net := { s.net with sent := s.net.sent ++
      [⟨s.vlanTag, .walong ⟨h.src, 1, h.lane, h.seq, (s.lane h.lane).e, opcodeField op h.expert, st, h.tag, p⟩⟩] } } := by
  unfold State.replyUnsequenced
  rw [sendReply_of_length_le hl, send_of_portUp hp]

theorem exec_ping (s : State) (h : ReqHdr) (data : List Byte) : exec (.ping h data) s = .next (doPing h data s) := rfl

theorem exec_identify (s : State) (h : ReqHdr) : exec (.identify h) s = .next (doIdentify h s) := rfl

theorem doPing_of_portUp {s : State} (hp : s.portUp = true) (h : ReqHdr) (data : List Byte) :
    doPing h data s = s.replyUnsequenced h 0x0002 stOk data :=
  if_neg (column_ne_none_of_portUp hp)

theorem doIdentify_of_portUp {s : State} (hp : s.portUp = true) (h : ReqHdr) :
    doIdentify h s = s.replyUnsequenced h 0x0001 stOk s.identifyBytes :=
  if_neg (column_ne_none_of_portUp hp)

/-! ### The layout of IDENTIFY's reply (R80) -/

theorem identifyBytes_length (s : State) : s.identifyBytes.length = 40 := by
  simp [State.identifyBytes]

theorem identifyBytes_name (s : State) : fieldAt s.identifyBytes 0 4 = 0x47393600 := by
  simp [State.identifyBytes, fieldAt_be_append]

theorem DState.code_lt (d : DState) : d.code < 256 := by
  cases d <;> decide

theorem identifyBytes_state (s : State) : fieldAt s.identifyBytes 6 1 = s.dev.code := by
  simp [State.identifyBytes, fieldAt_be_append_of_le, fieldAt_be_append, Nat.mod_eq_of_lt s.dev.code_lt]

theorem identifyBytes_bootCount (s : State) : fieldAt s.identifyBytes 36 4 = s.ledger.bootCount % 2 ^ 32 := by
  simp [State.identifyBytes, fieldAt_be_append_of_le, fieldAt_be]

/-- Settles O10: with the port up each of the two commands is its unsequenced reply, which is one packet. -/
theorem unsequencedAnsweredAtOnce : Obligations.UnsequencedAnsweredAtOnce := by
  intro s h data hp hl
  have hi : s.identifyBytes.length ≤ 8968 := by simp [identifyBytes_length]
  refine ⟨?_, ?_, identifyBytes_length s, identifyBytes_name s, identifyBytes_state s, identifyBytes_bootCount s⟩
  · rw [exec_ping, doPing_of_portUp hp, replyUnsequenced_of_length_le hp h 0x0002 stOk hl]
    rfl
  · rw [exec_identify, doIdentify_of_portUp hp, replyUnsequenced_of_length_le hp h 0x0001 stOk hi]
    rfl

end Sys2Proof.Machine
end

section
/-!
PROOFS. LANE_RESUME (R98).
-/
namespace Sys2Proof.Machine

theorem exec_laneResume (s : State) (h : ReqHdr) :
    exec (.laneResume h) s = .next (s.hostCommand h (.laneResume h) (doLaneResume h)) := rfl

/-- A held lane serves LANE_RESUME, which has nothing to check but the legality of R72. -/
theorem doLaneResume_of_legal {s : State} {h : ReqHdr} (hl : legality 0x0405 s.dev = .y) :
    doLaneResume h s = if (s.lane h.lane).held.isNone then s.reply h 0x0405 stNothing
      else (s.setLane h.lane { s.lane h.lane with held := none }).reply h 0x0405 stOk :=
  serve_y rfl (Or.inr rfl) hl rfl

/-- Settles O11: a free lane starts the command at once, and whether the lane is held decides its work. -/
theorem laneResumeReleases : Obligations.LaneResumeReleases := by
  intro s h hn hlt hb hl a
  have hexec : exec (.laneResume h) s = .next (doLaneResume h a) := by
    rw [exec_laneResume, hostCommand_free (column_isSome_of_legality hl (by decide)) hlt hb]
  have ha : legality 0x0405 a.dev = .y := by simpa [a] using hl
  rw [hexec, doLaneResume_of_legal ha]
  refine ⟨fun hq => ?_, fun q hq => ⟨?_, ?_⟩⟩
  · simp [a, hq]
  · simp [a, hq]
  · rw [lane_setLane, if_pos ⟨rfl, by simpa [a, hn] using hlt⟩]

end Sys2Proof.Machine
end

section
/-!
SUPPORT. A range cut at the words of memory, and the bytes a user sees through the merge buffer: what a read gives and a
write changes while no word is in error (R326, R330 to R332).
-/
namespace Sys2Proof.Machine

/-! ### A range cut at its words -/

/-- Pieces that follow one another from an address to another, each within one 64-byte word. -/
def tiles : Nat → Nat → List (Nat × Nat) → Prop
  | a, e, [] => a = e
  | a, e, p :: t => p.1 = a ∧ a % 64 + p.2 ≤ 64 ∧ tiles (a + p.2) e t

theorem tiles_le : ∀ {l : List (Nat × Nat)} {a e : Nat}, tiles a e l → a ≤ e
  | [], _, _, h => Nat.le_of_eq h
  | _ :: _, _, _, ⟨_, _, ht⟩ => Nat.le_trans (Nat.le_add_right _ _) (tiles_le ht)

/-- The generalisation of `tiles_wordPieces` to the pieces from the j-th on. -/
theorem tiles_range' {a n k : Nat} (hk : k = (a % 64 + n + 63) / 64) : ∀ c j, j + c = k →
    tiles (max a (min (a + n) ((a / 64 + j) * 64))) (a + n)
      ((List.range' j c).map fun i =>
        (max a ((a / 64 + i) * 64), min (a + n) ((a / 64 + i + 1) * 64) - max a ((a / 64 + i) * 64)))
  | 0, j, hj => by
    show max a (min (a + n) ((a / 64 + j) * 64)) = a + n
    omega
  | c + 1, j, hj => by
    simp only [List.range'_succ, List.map_cons]
    have ih := tiles_range' hk c (j + 1) (by omega)
    have hnext : max a (min (a + n) ((a / 64 + j) * 64))
        + (min (a + n) ((a / 64 + j + 1) * 64) - max a ((a / 64 + j) * 64))
        = max a (min (a + n) ((a / 64 + (j + 1)) * 64)) := by omega
    rw [← hnext] at ih
    exact ⟨by dsimp only; omega, by dsimp only; omega, ih⟩

theorem tiles_wordPieces (a n : Nat) : tiles a (a + n) (wordPieces a n) := by
  unfold wordPieces
  split
  · next h => simp [tiles, h]
  · next h =>
    have hall := tiles_range' (a := a) (n := n) rfl _ 0 (Nat.zero_add _)
    rw [show max a (min (a + n) ((a / 64 + 0) * 64)) = a by omega] at hall
    rw [List.range_eq_range']
    exact hall

/-! ### The bytes of an entry -/

/-- The keys of a rising list need room. -/
theorem length_le_of_rising {β : Type} {hi : Nat} : ∀ {l : List (Nat × β)} {a : Nat}, risingFrom (some a) l = true →
    a < hi → (∀ e ∈ l, e.1 < hi) → a + 1 + l.length ≤ hi
  | [], _, _, ha, _ => ha
  | (k, v) :: t, a, h, _, hb => by
    simp only [risingFrom, Bool.and_eq_true, decide_eq_true_eq] at h
    have := length_le_of_rising h.2 (hb _ List.mem_cons_self) fun e he => hb e (List.mem_cons_of_mem _ he)
    simp only [List.length_cons]
    omega

/-- A rising list with as many keys as there is room for them lists every key. -/
theorem look_of_full {β : Type} (d : β) : ∀ {l : List (Nat × β)} {c : Nat}, risingFrom none l = true →
    (∀ e ∈ l, c ≤ e.1 ∧ e.1 < c + l.length) → ∀ i, i < l.length → look l (c + i) = some ((l.map (·.2)).getD i d)
  | [], _, _, _, i, hi => absurd hi (Nat.not_lt_zero i)
  | (k, v) :: t, c, h, hb, i, hi => by
    have ht := risingFrom_cons h
    obtain ⟨hck, hkc⟩ := hb _ List.mem_cons_self
    simp only [List.length_cons] at hb hi hkc hck
    have hroom := length_le_of_rising ht hkc fun e he => (hb e (List.mem_cons_of_mem _ he)).2
    obtain rfl : k = c := by omega
    cases i with
    | zero => simp [look]
    | succ i =>
      have hkeys : ∀ e ∈ t, k + 1 ≤ e.1 ∧ e.1 < k + 1 + t.length := fun e he => by
        have := hb e (List.mem_cons_of_mem _ he)
        have := risingFrom_some ht e he
        omega
      have ih := look_of_full d (risingFrom_none_of ht) hkeys i (by omega)
      rw [look, if_neg (by omega), show k + (i + 1) = k + 1 + i by omega, ih]
      simp

/-- The byte at an address after the bytes of an entry are stored. -/
theorem look_pokeSome (w x : Nat) : ∀ {bs : List (Nat × Byte)} {m : List (Nat × Byte)}, risingFrom none bs = true →
    canonical (fun _ => (0 : Byte)) m = true →
    (look (pokeSome m w bs) x).getD 0 = if w ≤ x then (look bs (x - w)).getD ((look m x).getD 0) else (look m x).getD 0
  | [], _, _, _ => by simp [pokeSome, look]
  | (k, v) :: t, m, hr, hm => by
    have ht := risingFrom_cons hr
    show (look (pokeSome (pokeCell m (w + k) v) w t) x).getD 0 = _
    rw [look_pokeSome w x (risingFrom_none_of ht) (canonical_pokeCell _ _ hm), look_pokeCell hm]
    by_cases hw : w ≤ x
    · by_cases hk : x = w + k
      · simp [hk, look, look_of_lt ht (Nat.le_refl k)]
      · rw [if_pos hw, if_pos hw, if_neg hk, look, if_neg (by omega)]
    · rw [if_neg hw, if_neg hw, if_neg (by omega)]

/-- Offsets that stand in a merge entry: they rise, within the word. -/
def offsetsOk (l : List (Nat × Byte)) : Prop := risingFrom none l = true ∧ ∀ b ∈ l, b.1 < 64

theorem offsetsOk_put {l : List (Nat × Byte)} (h : offsetsOk l) {k : Nat} (hk : k < 64) (v : Byte) :
    offsetsOk (put l k v) :=
  ⟨risingFrom_put h.1 (by simp), fun b hb => (mem_put hb).elim (fun e => e ▸ hk) (h.2 b)⟩

/-- The bytes of an entry after others are put over them; the generalisation to bytes that stand from the j-th on. -/
theorem foldl_put (off : Nat) : ∀ (bs : List Byte) (j : Nat) {l : List (Nat × Byte)}, offsetsOk l →
    off + j + bs.length ≤ 64 →
    offsetsOk ((bs.zipIdx j).foldl (fun l b => put l (off + b.2) b.1) l) ∧
      ∀ k, look ((bs.zipIdx j).foldl (fun l b => put l (off + b.2) b.1) l) k
        = if off + j ≤ k ∧ k < off + j + bs.length then some (bs.getD (k - (off + j)) 0) else look l k
  | [], j, l, hl, _ => ⟨hl, fun k => (if_neg (by simp)).symm⟩
  | b :: t, j, l, hl, hb => by
    simp only [List.length_cons] at hb
    obtain ⟨hok, hlook⟩ := foldl_put off t (j + 1) (offsetsOk_put hl (show off + j < 64 by omega) b) (by omega)
    refine ⟨hok, fun k => ?_⟩
    show look ((t.zipIdx (j + 1)).foldl _ (put l (off + j) b)) k = _
    rw [hlook, look_put]
    simp only [List.length_cons]
    by_cases hk : k = off + j
    · rw [if_neg (by omega), if_pos hk, if_pos (by omega)]
      simp [hk]
    · by_cases hin : off + j < k ∧ k < off + j + (t.length + 1)
      · rw [if_pos (by omega), if_pos (by omega), show k - (off + j) = k - (off + (j + 1)) + 1 by omega,
          List.getD_cons_succ]
      · rw [if_neg (by omega), if_neg hk, if_neg (by omega)]

theorem offsetsOk_mergeBytes {l : List (Nat × Byte)} {off : Nat} {bs : List Byte} (hl : offsetsOk l)
    (hb : off + bs.length ≤ 64) : offsetsOk (mergeBytes l off bs) := (foldl_put off bs 0 hl hb).1

theorem look_mergeBytes {l : List (Nat × Byte)} {off : Nat} {bs : List Byte} (hl : offsetsOk l)
    (hb : off + bs.length ≤ 64) (k : Nat) :
    look (mergeBytes l off bs) k = if off ≤ k ∧ k < off + bs.length then some (bs.getD (k - off) 0) else look l k :=
  (foldl_put off bs 0 hl hb).2 k

/-! ### The entries of the merge buffer by their word -/

/-- The entry of a word. -/
def entryAt (l : List MergeEntry) (w : Nat) : Option MergeEntry := l.find? fun m => m.word = w

theorem entryAt_eq_none {l : List MergeEntry} {w : Nat} : entryAt l w = none ↔ ∀ m ∈ l, m.word ≠ w := by
  simp [entryAt]

theorem entryAt_of_mem : ∀ {l : List MergeEntry} {m : MergeEntry}, (l.map (·.word)).Nodup → m ∈ l →
    entryAt l m.word = some m
  | x :: t, m, hn, hm => by
    simp only [List.map_cons, List.nodup_cons] at hn
    rcases List.mem_cons.mp hm with rfl | hm
    · simp [entryAt]
    · have hne : x.word ≠ m.word := fun e => hn.1 (e ▸ List.mem_map_of_mem hm)
      simpa [entryAt, hne] using entryAt_of_mem hn.2 hm

theorem entryAt_drop (l : List MergeEntry) (w v : Nat) :
    entryAt (l.filter fun m => !(m.word = w)) v = if v = w then none else entryAt l v := by
  split
  · next h => simp [entryAt_eq_none, h]
  · next h =>
    induction l with
    | nil => rfl
    | cons x t ih => unfold entryAt at ih ⊢; grind

theorem entryAt_replace (l : List MergeEntry) {w : Nat} {e : MergeEntry} (he : e.word = w) (v : Nat) :
    entryAt (l.map fun m => if m.word = w then e else m) v = if v = w then (entryAt l w).map fun _ => e else entryAt l v := by
  induction l with
  | nil => simp [entryAt]
  | cons x t ih => unfold entryAt at ih ⊢; grind

theorem entryAt_append (l : List MergeEntry) (e : MergeEntry) (v : Nat) :
    entryAt (l ++ [e]) v = (entryAt l v).or (if v = e.word then some e else none) := by
  simp [entryAt, List.find?_append, eq_comm]

end Sys2Proof.Machine
end

section
/-!
SUPPORT. Memory without errors: what a write and a flush store, and what a read gives, said of the bytes seen through the
merge buffer (R326, R330 to R332).
-/
namespace Sys2Proof.Machine

/-! ### Memory without errors -/

/-- No stored error, no bad parity, no armed flip: a word reads as it was written. -/
def State.errorFree (s : State) : Prop :=
  s.memory.errs = [] ∧ s.memory.badParity = [] ∧ s.memory.flipLoft = none ∧ s.memory.flipSilo = none

/-- The state with other registers, other bytes of memory and another merge buffer. -/
def State.withStore (s : State) (rg : List (Nat × BitVec 32)) (cells : List (Nat × Byte)) (mg : List MergeEntry) : State :=
  { s with regs := rg, memory := { s.memory with cells := cells, merge := mg } }

theorem errorFree_withStore {s : State} (hs : s.errorFree) (rg : List (Nat × BitVec 32)) (cells : List (Nat × Byte))
    (mg : List MergeEntry) : (s.withStore rg cells mg).errorFree := hs

theorem bump_withStore (s : State) (rg : List (Nat × BitVec 32)) (cells : List (Nat × Byte)) (mg : List MergeEntry)
    (a n : Nat) : ∃ rg', (s.withStore rg cells mg).bump a n = s.withStore rg' cells mg := ⟨_, bump_only _ a n⟩

theorem State.errorFree.errs {s : State} (hs : s.errorFree) : s.memory.errs = [] := hs.left

theorem State.errorFree.badParity {s : State} (hs : s.errorFree) : s.memory.badParity = [] := hs.right.left

theorem clearErr_of_errorFree {s : State} (hs : s.errorFree) (w : Nat) : s.clearErr w = s := by
  have h : (s.memory.errs.filter fun e => !(e.word = w)) = s.memory.errs := by simp [hs.errs]
  unfold State.clearErr
  rw [h]

theorem errOf_of_errorFree {s : State} (hs : s.errorFree) (w : Nat) : s.errOf w = none := by
  simp [State.errOf, hs.errs]

theorem flipOf_of_errorFree {s : State} (hs : s.errorFree) (t : Tier) : s.flipOf t = none := by
  obtain ⟨-, -, hloft, hsilo⟩ := hs
  cases t with
  | granary => exact hloft
  | loft => exact hloft
  | silo => exact hsilo

theorem applyFlip_of_errorFree {s : State} (hs : s.errorFree) (w : Nat) : s.applyFlip w = s := by
  simp [State.applyFlip, flipOf_of_errorFree hs]

theorem writeWord_of_errorFree {s : State} (hs : s.errorFree) (w : Nat) (d : List Byte) : s.writeWord w d = s.poke w d := by
  have hp : (s.poke w d).errorFree := hs
  rw [State.writeWord, clearErr_of_errorFree hp, applyFlip_of_errorFree hp]

theorem readWord_of_errorFree {s : State} (hs : s.errorFree) (w src : Nat) : s.readWord w src = (some (s.bytesAt w 64), s) := by
  simp [State.readWord, errOf_of_errorFree hs]

/-! ### Bytes seen through the merge buffer -/

/-- The byte a user sees at an address: the one its word's merge entry holds, else the stored one (R330). -/
def State.viewAt (s : State) (x : Nat) : Byte :=
  ((entryAt s.memory.merge (x / 64 * 64)).bind fun m => look m.bytes (x % 64)).getD (s.byteAt x)

theorem viewAt_of_entry {s : State} {x : Nat} {m : MergeEntry} (h : entryAt s.memory.merge (x / 64 * 64) = some m) :
    s.viewAt x = (look m.bytes (x % 64)).getD (s.byteAt x) := by simp [State.viewAt, h]

theorem viewAt_of_no_entry {s : State} {x : Nat} (h : entryAt s.memory.merge (x / 64 * 64) = none) :
    s.viewAt x = s.byteAt x := by simp [State.viewAt, h]

theorem viewAt_of_empty {s : State} (h : s.memory.merge = []) (x : Nat) : s.viewAt x = s.byteAt x :=
  viewAt_of_no_entry (by simp [h, entryAt])

/-- Bytes laid over others from an address on. -/
def overlay (a : Nat) (bs : List Byte) (f : Nat → Byte) (x : Nat) : Byte :=
  if a ≤ x ∧ x < a + bs.length then bs.getD (x - a) 0 else f x

/-- A piece of one word is laid over that word only. -/
theorem overlay_in_word {a : Nat} {bs : List Byte} (hb : a % 64 + bs.length ≤ 64) (f : Nat → Byte) (x : Nat) :
    overlay a bs f x = if x / 64 * 64 = a / 64 * 64 ∧ a % 64 ≤ x % 64 ∧ x % 64 < a % 64 + bs.length
      then bs.getD (x % 64 - a % 64) 0 else f x := by
  unfold overlay
  by_cases h : a ≤ x ∧ x < a + bs.length
  · rw [if_pos h, if_pos (by omega), show x % 64 - a % 64 = x - a by omega]
  · rw [if_neg h, if_neg (by omega)]

/-! ### An entry flushed -/

/-- An entry that an owner may hold: an external word, and bytes at rising offsets within it. -/
structure MergeEntry.Of (o : Owner) (m : MergeEntry) : Prop where
  owner : m.owner = o
  external : 0x28000000 ≤ m.word
  aligned : m.word % 64 = 0
  offsets : offsetsOk m.bytes

/-- The bytes of memory once an entry is stored in its word. -/
def storedEntry (m : MergeEntry) (f : Nat → Byte) (x : Nat) : Byte :=
  if x / 64 * 64 = m.word then (look m.bytes (x % 64)).getD (f x) else f x

theorem byteAt_poke_full {s : State} {o : Owner} {m : MergeEntry} (hm : m.Of o) (hw : s.memory.wf = true)
    (hl : m.bytes.length = 64) (x : Nat) : (s.poke m.word (m.bytes.map (·.2))).byteAt x = storedEntry m s.byteAt x := by
  have ha := hm.aligned
  obtain ⟨hr, hoff⟩ := hm.offsets
  rw [byteAt_poke hw, List.length_map, hl, storedEntry]
  by_cases hx : x / 64 * 64 = m.word
  · have hfull := look_of_full 0 (c := 0) hr (fun e he => ⟨Nat.zero_le _, by have := hoff e he; omega⟩) (x % 64) (by omega)
    rw [Nat.zero_add] at hfull
    rw [if_pos (by omega), if_pos hx, hfull, show x - m.word = x % 64 by omega]
    rfl
  · rw [if_neg (by omega), if_neg hx]

theorem look_pokeSome_entry {s : State} {o : Owner} {m : MergeEntry} (hm : m.Of o) (hw : s.memory.wf = true) (x : Nat) :
    (look (pokeSome s.memory.cells m.word m.bytes) x).getD 0 = storedEntry m s.byteAt x := by
  have ha := hm.aligned
  obtain ⟨hr, hoff⟩ := hm.offsets
  rw [look_pokeSome _ _ hr hw, storedEntry]
  by_cases hx : x / 64 * 64 = m.word
  · rw [if_pos (by omega), if_pos hx, show x - m.word = x % 64 by omega]
    rfl
  · rw [if_neg hx]
    split
    · have hout : look m.bytes (x - m.word) = none := by
        cases h : look m.bytes (x - m.word) with
        | none => rfl
        | some v =>
          have hlt : x - m.word < 64 := hoff _ (look_some_mem h)
          omega
      rw [hout]
      rfl
    · rfl

/-- A word's own bytes stored again change none. -/
theorem byteAt_poke_bytesAt {s : State} (hw : s.memory.wf = true) (w n x : Nat) :
    (s.poke w (s.bytesAt w n)).byteAt x = s.byteAt x := by
  rw [byteAt_poke hw]
  split
  · next h =>
    obtain ⟨hle, hlt⟩ := h
    simp only [State.bytesAt, List.length_map, List.length_range] at hlt
    have hlt' : x - w < n := by omega
    simp [State.bytesAt, List.getD_eq_getElem?_getD, hlt', show w + (x - w) = x by omega]
  · rfl

/-- An entry that does not fill its word, stored by read-modify-write, or under class BRIEF byte by byte (R330, R332). -/
def State.storePart (s : State) (m : MergeEntry) : State :=
  if (s.classOf m.word).2 = 2 then
    let s := match s.errOf m.word with
      | none => s
      | some e => s.setErr (e.touched (offsOf m.bytes))
    ({ s with memory := { s.memory with cells := pokeSome s.memory.cells m.word m.bytes } }).applyFlip m.word
  else
    match s.readWord m.word (if m.owner = .commit then 3 else 1) with
    | (none, s) => { s with memory := { s.memory with flushFails := s.memory.flushFails ++ [(m.owner, m.word)] } }
    | (some d, s) =>
      let s := (s.poke m.word d).clearErr m.word
      ({ s with memory := { s.memory with cells := pokeSome s.memory.cells m.word m.bytes } }).applyFlip m.word

/-- A flush takes the entry out of its buffer and counts it, then stores it whole or in part. -/
theorem flushEntry_eq (s : State) (m : MergeEntry) :
    s.flushEntry m =
      let c := (s.withStore s.regs s.memory.cells (s.memory.merge.filter fun x => !(x.word = m.word))).bump (aMemctl m.ctl 0x120)
      if m.bytes.length = 64 then c.writeWord m.word (m.bytes.map (·.2))
      else (c.bump (aMemctl m.ctl 0x124)).storePart m := rfl

theorem storePart_of_errorFree {s : State} {o : Owner} {m : MergeEntry} (hs : s.errorFree) (hw : s.memory.wf = true)
    (hm : m.Of o) : ∃ cells, s.storePart m = s.withStore s.regs cells s.memory.merge ∧
      canonical (fun _ => (0 : Byte)) cells = true ∧ ∀ x, (look cells x).getD 0 = storedEntry m s.byteAt x := by
  have hflip (cells : List (Nat × Byte)) : (s.withStore s.regs cells s.memory.merge).applyFlip m.word
      = s.withStore s.regs cells s.memory.merge := applyFlip_of_errorFree (errorFree_withStore hs _ _ _) _
  unfold State.storePart
  rw [errOf_of_errorFree hs, readWord_of_errorFree hs]
  split
  · exact ⟨_, hflip _, canonical_pokeSome _ _ hw, look_pokeSome_entry hm hw⟩
  · have hp : (s.poke m.word (s.bytesAt m.word 64)).errorFree := hs
    have hwp := wf_poke m.word (s.bytesAt m.word 64) hw
    have hsame : (s.poke m.word (s.bytesAt m.word 64)).byteAt = s.byteAt := funext (byteAt_poke_bytesAt hw _ _)
    simp only [clearErr_of_errorFree hp]
    exact ⟨_, hflip _, canonical_pokeSome _ _ hwp, hsame ▸ look_pokeSome_entry hm hwp⟩

/-- A flushed entry leaves the buffer and stands in memory; besides, only registers that count change (R330, R331). -/
theorem flushEntry_of_errorFree {s : State} {o : Owner} {m : MergeEntry} (hs : s.errorFree) (hw : s.memory.wf = true)
    (hm : m.Of o) : ∃ rg cells,
      s.flushEntry m = s.withStore rg cells (s.memory.merge.filter fun x => !(x.word = m.word)) ∧
      canonical (fun _ => (0 : Byte)) cells = true ∧ ∀ x, (look cells x).getD 0 = storedEntry m s.byteAt x := by
  rw [flushEntry_eq]
  obtain ⟨rg, hb⟩ := bump_withStore s s.regs s.memory.cells (s.memory.merge.filter fun x => !(x.word = m.word))
    (aMemctl m.ctl 0x120) 1
  simp only [hb]
  split
  · next hl =>
    rw [writeWord_of_errorFree (errorFree_withStore hs _ _ _)]
    exact ⟨rg, _, rfl, canonical_pokeCells _ _ hw, byteAt_poke_full hm hw hl⟩
  · obtain ⟨rg', hc⟩ := bump_withStore s rg s.memory.cells (s.memory.merge.filter fun x => !(x.word = m.word))
      (aMemctl m.ctl 0x124) 1
    obtain ⟨cells, hp, hcan, hbyte⟩ := storePart_of_errorFree (s := s.withStore rg' s.memory.cells
      (s.memory.merge.filter fun x => !(x.word = m.word))) (errorFree_withStore hs _ _ _) hw hm
    rw [hc, hp]
    exact ⟨rg', cells, rfl, hcan, hbyte⟩

end Sys2Proof.Machine
end

section
/-!
SUPPORT. Writes and flushes of one owner in memory without errors: a write lays its bytes over the view, a flush keeps the
view, and a range read gives the bytes last written (R88, R91, R330).
-/
namespace Sys2Proof.Machine

/-! ### Storing for one owner -/

/-- Memory without errors, whose merge buffer holds entries of one owner only, one for a word. -/
structure State.Buffering (o : Owner) (s : State) : Prop where
  errorFree : s.errorFree
  wf : s.memory.wf = true
  words : (s.memory.merge.map (·.word)).Nodup
  entries : ∀ m ∈ s.memory.merge, m.Of o

/-- What storing for an owner does: registers, bytes of memory and the merge buffer change, and the view becomes `f`. -/
structure State.Stores (o : Owner) (s t : State) (f : Nat → Byte) : Prop where
  frame : ∃ rg cells mg, t = s.withStore rg cells mg
  buffering : t.Buffering o
  view : t.viewAt = f

theorem State.Stores.trans {o : Owner} {s t u : State} {f g : Nat → Byte} (h : s.Stores o t f) (k : t.Stores o u g) :
    s.Stores o u g := by
  obtain ⟨rg, cells, mg, rfl⟩ := h.frame
  obtain ⟨rg', cells', mg', rfl⟩ := k.frame
  exact ⟨⟨rg', cells', mg', rfl⟩, k.buffering, k.view⟩

theorem buffering_of_empty {s : State} (o : Owner) (hs : s.errorFree) (hw : s.memory.wf = true) (he : s.memory.merge = []) :
    s.Buffering o := ⟨hs, hw, by simp [he], by simp [he]⟩

/-- No entry holds bytes of the Granary (R326, R330). -/
theorem State.Buffering.no_entry {o : Owner} {s : State} (hs : s.Buffering o) {a : Nat} (ha : a < 0x28000000) :
    entryAt s.memory.merge (a / 64 * 64) = none := by
  rw [entryAt_eq_none]
  intro m hm e
  have := (hs.entries m hm).external
  omega

/-- Bytes stored within a word that has no entry. -/
theorem poke_stores {o : Owner} {s : State} (hs : s.Buffering o) {a : Nat} {bs : List Byte}
    (hno : entryAt s.memory.merge (a / 64 * 64) = none) (hb : a % 64 + bs.length ≤ 64) :
    s.Stores o (s.poke a bs) (overlay a bs s.viewAt) := by
  refine ⟨⟨_, _, _, rfl⟩, ⟨hs.errorFree, wf_poke _ _ hs.wf, hs.words, hs.entries⟩, funext fun x => ?_⟩
  have hbyte : (s.poke a bs).byteAt x = overlay a bs s.byteAt x := byteAt_poke hs.wf a x bs
  rw [overlay_in_word hb] at hbyte ⊢
  by_cases hx : x / 64 * 64 = a / 64 * 64
  · have hnox : entryAt s.memory.merge (x / 64 * 64) = none := hx ▸ hno
    rw [viewAt_of_no_entry (s := s.poke a bs) hnox, hbyte, viewAt_of_no_entry hnox]
  · rw [if_neg (fun h => hx h.1)] at hbyte ⊢
    unfold State.viewAt
    rw [hbyte]
    rfl

/-! ### Flushes -/

theorem flushEntry_merge {o : Owner} {s : State} (hs : s.Buffering o) {m : MergeEntry} (hm : m ∈ s.memory.merge) :
    (s.flushEntry m).memory.merge = s.memory.merge.filter fun x => !(x.word = m.word) := by
  obtain ⟨rg, cells, heq, -⟩ := flushEntry_of_errorFree hs.errorFree hs.wf (hs.entries m hm)
  rw [heq]
  rfl

/-- A flush moves an entry's bytes to their word: the view stays. -/
theorem flushEntry_stores {o : Owner} {s : State} (hs : s.Buffering o) {m : MergeEntry} (hm : m ∈ s.memory.merge) :
    s.Stores o (s.flushEntry m) s.viewAt := by
  obtain ⟨rg, cells, heq, hcan, hbyte⟩ := flushEntry_of_errorFree hs.errorFree hs.wf (hs.entries m hm)
  rw [heq]
  have hwords := hs.words.sublist ((List.filter_sublist (p := fun x : MergeEntry => !(x.word = m.word))).map (·.word))
  refine ⟨⟨rg, cells, _, rfl⟩, ⟨hs.errorFree, hcan, hwords, fun x hx => hs.entries x (List.mem_filter.mp hx).1⟩,
    funext fun x => ?_⟩
  have hentry := entryAt_drop s.memory.merge m.word (x / 64 * 64)
  have hcell : State.byteAt (s.withStore rg cells (s.memory.merge.filter fun x => !(x.word = m.word))) x = _ := hbyte x
  unfold storedEntry at hcell
  by_cases hx : x / 64 * 64 = m.word
  · have hbefore : entryAt s.memory.merge (x / 64 * 64) = some m := hx ▸ entryAt_of_mem hs.words hm
    rw [if_pos hx] at hentry hcell
    rw [viewAt_of_no_entry hentry, hcell, viewAt_of_entry hbefore]
  · rw [if_neg hx] at hentry hcell
    unfold State.viewAt
    rw [hcell]
    exact congrArg (fun e => (Option.bind e _).getD _) hentry

theorem filter_word_ne {m : MergeEntry} {t : List MergeEntry} (h : ((m :: t).map (·.word)).Nodup) :
    ((m :: t).filter fun x => !(x.word = m.word)) = t := by
  simp only [List.map_cons, List.nodup_cons, List.mem_map, not_exists, not_and] at h
  simpa [List.filter_eq_self] using h.1

/-- With every entry flushed the buffer is empty. -/
theorem flushAll_stores {o : Owner} : ∀ {l : List MergeEntry} {s : State}, s.Buffering o → s.memory.merge = l →
    s.Stores o (s.flushAll l) s.viewAt ∧ (s.flushAll l).memory.merge = []
  | [], _, hs, he => ⟨⟨⟨_, _, _, rfl⟩, hs, rfl⟩, he⟩
  | m :: t, s, hs, he => by
    have hm : m ∈ s.memory.merge := by simp [he]
    have hstep := flushEntry_stores hs hm
    have hrest : (s.flushEntry m).memory.merge = t := by
      rw [flushEntry_merge hs hm, he]
      exact filter_word_ne (he ▸ hs.words)
    obtain ⟨hall, hempty⟩ := flushAll_stores hstep.buffering hrest
    exact ⟨hstep.trans (hstep.view ▸ hall), hempty⟩

theorem flushOwner_stores {o : Owner} {s : State} (hs : s.Buffering o) :
    s.Stores o (s.flushOwner o) s.viewAt ∧ (s.flushOwner o).memory.merge = [] := by
  refine flushAll_stores hs (Eq.symm ?_)
  rw [List.filter_eq_self]
  intro m hm
  simp [(hs.entries m hm).owner]

/-! ### Writes -/

/-- Bytes that join the entry of their word (R330). -/
theorem joinEntry_stores {o : Owner} {s : State} (hs : s.Buffering o) {a : Nat} {bs : List Byte} {m : MergeEntry}
    (hm : entryAt s.memory.merge (a / 64 * 64) = some m) (hb : a % 64 + bs.length ≤ 64) :
    s.Stores o (s.withStore s.regs s.memory.cells (s.memory.merge.map fun x =>
      if x.word = a / 64 * 64 then { m with bytes := mergeBytes m.bytes (a % 64) bs } else x)) (overlay a bs s.viewAt) := by
  have hmem : m ∈ s.memory.merge := List.mem_of_find?_eq_some hm
  have hword : m.word = a / 64 * 64 := by simpa using List.find?_some hm
  have hof := hs.entries m hmem
  have hentry := entryAt_replace s.memory.merge (e := { m with bytes := mergeBytes m.bytes (a % 64) bs }) hword
  refine ⟨⟨_, _, _, rfl⟩, ⟨hs.errorFree, hs.wf, ?_, ?_⟩, funext fun x => ?_⟩
  · have hkeep (x : MergeEntry) : (if x.word = a / 64 * 64 then
        { m with bytes := mergeBytes m.bytes (a % 64) bs } else x).word = x.word := by
      by_cases hx : x.word = a / 64 * 64
      · rw [if_pos hx, hx, hword]
      · rw [if_neg hx]
    show ((s.memory.merge.map _).map _).Nodup
    rw [List.map_map]
    exact (List.map_congr_left fun x _ => hkeep x) ▸ hs.words
  · intro x hx
    obtain ⟨y, hy, rfl⟩ := List.mem_map.mp hx
    split
    · exact ⟨hof.owner, hof.external, hof.aligned, offsetsOk_mergeBytes hof.offsets hb⟩
    · exact hs.entries y hy
  · have hx := hentry (x / 64 * 64)
    rw [overlay_in_word hb]
    by_cases hw : x / 64 * 64 = a / 64 * 64
    · rw [if_pos hw, hm] at hx
      rw [viewAt_of_entry hx, look_mergeBytes hof.offsets hb, viewAt_of_entry (hw ▸ hm)]
      simp only [hw, true_and]
      split <;> rfl
    · rw [if_neg hw] at hx
      rw [if_neg (fun h => hw h.1)]
      exact congrArg (fun e => (Option.bind e _).getD _) hx

/-- Bytes that take a new entry for their word (R330). -/
theorem newEntry_stores {o : Owner} {s : State} (hs : s.Buffering o) {a : Nat} {bs : List Byte} (c : Nat)
    (ha : 0x28000000 ≤ a) (hno : entryAt s.memory.merge (a / 64 * 64) = none) (hb : a % 64 + bs.length ≤ 64) :
    s.Stores o (s.withStore s.regs s.memory.cells (s.memory.merge ++ [⟨c, a / 64 * 64, mergeBytes [] (a % 64) bs, o⟩]))
      (overlay a bs s.viewAt) := by
  have hnil : offsetsOk [] := ⟨rfl, by simp⟩
  refine ⟨⟨_, _, _, rfl⟩, ⟨hs.errorFree, hs.wf, ?_, ?_⟩, funext fun x => ?_⟩
  · show ((s.memory.merge ++ [_]).map _).Nodup
    simpa [List.nodup_append, hs.words] using entryAt_eq_none.mp hno
  · intro m hm
    rcases List.mem_append.mp hm with hm | hm
    · exact hs.entries m hm
    · rw [List.mem_singleton.mp hm]
      exact ⟨rfl, by dsimp only; omega, by dsimp only; omega, offsetsOk_mergeBytes hnil hb⟩
  · have hx := entryAt_append s.memory.merge ⟨c, a / 64 * 64, mergeBytes [] (a % 64) bs, o⟩ (x / 64 * 64)
    rw [overlay_in_word hb]
    by_cases hw : x / 64 * 64 = a / 64 * 64
    · have hnox : entryAt s.memory.merge (x / 64 * 64) = none := hw ▸ hno
      rw [hnox, if_pos hw, Option.none_or] at hx
      rw [viewAt_of_entry hx, look_mergeBytes hnil hb, viewAt_of_no_entry hnox]
      simp only [hw, true_and]
      split <;> rfl
    · rw [if_neg hw, Option.or_none] at hx
      rw [if_neg (fun h => hw h.1)]
      exact congrArg (fun e => (Option.bind e _).getD _) hx

/-- A write through the merge buffer lays its bytes over the view, whether an entry is joined, filled, or taken in the
place of the oldest. -/
theorem mergeWrite_stores {o : Owner} {s : State} (hs : s.Buffering o) {a : Nat} {bs : List Byte} (ha : 0x28000000 ≤ a)
    (hb : a % 64 + bs.length ≤ 64) : s.Stores o (s.mergeWrite o a bs) (overlay a bs s.viewAt) := by
  unfold State.mergeWrite
  simp only
  split
  · next m hm =>
    have hm : entryAt s.memory.merge (a / 64 * 64) = some m := hm
    have hjoin := joinEntry_stores hs hm hb
    split
    · refine hjoin.trans (hjoin.view ▸ flushEntry_stores hjoin.buffering ?_)
      have hword : m.word = a / 64 * 64 := by simpa using List.find?_some hm
      exact List.mem_map.mpr ⟨m, List.mem_of_find?_eq_some hm, if_pos hword⟩
    · exact hjoin
  · next hno =>
    have hno : entryAt s.memory.merge (a / 64 * 64) = none := hno
    split
    · split
      · next m hm =>
        have hmem : m ∈ s.memory.merge := (List.mem_filter.mp (List.mem_of_head? hm)).1
        have hflush := flushEntry_stores hs hmem
        have hno' : entryAt (s.flushEntry m).memory.merge (a / 64 * 64) = none := by
          rw [flushEntry_merge hs hmem, entryAt_drop, hno, ite_self]
        exact hflush.trans (hflush.view ▸ newEntry_stores hflush.buffering _ ha hno' hb)
      · exact newEntry_stores hs _ ha hno hb
    · exact newEntry_stores hs _ ha hno hb

theorem tierOf_eq_granary {a : Nat} : tierOf a = some .granary ↔ a < 0x28000000 := by
  unfold tierOf
  split
  · simpa
  · next h =>
    split
    · simp [h]
    · split <;> simp [h]

theorem filter_badParity_of_errorFree {s : State} (hs : s.errorFree) (p : Nat → Bool) :
    ({ s with memory := { s.memory with badParity := s.memory.badParity.filter p } } : State) = s := by
  have h : s.memory.badParity.filter p = s.memory.badParity := by simp [hs.badParity]
  rw [h]

/-- One piece written, in whichever of the three ways: its bytes are laid over the view (R326, R330). -/
theorem writePiece_stores {o : Owner} {s : State} (hs : s.Buffering o) {p : Nat × Nat} {bs : List Byte}
    (hb : p.1 % 64 + p.2 ≤ 64) (hl : bs.length = p.2) : s.Stores o (s.writePiece o p bs) (overlay p.1 bs s.viewAt) := by
  have hb' : p.1 % 64 + bs.length ≤ 64 := hl ▸ hb
  unfold State.writePiece
  split
  · next hg =>
    have hno := hs.no_entry (tierOf_eq_granary.mp hg)
    have hp := poke_stores hs hno hb'
    rwa [filter_badParity_of_errorFree hp.buffering.errorFree]
  · next hg =>
    split
    · next hfull =>
      simp only [Bool.and_eq_true, decide_eq_true_eq, Bool.not_eq_true'] at hfull
      obtain ⟨h64, hentry⟩ := hfull
      have hno : entryAt s.memory.merge (p.1 / 64 * 64) = none := by
        rw [show p.1 / 64 * 64 = p.1 by omega, entryAt_eq_none]
        simpa [State.hasEntry] using hentry
      rw [writeWord_of_errorFree hs.errorFree]
      exact poke_stores hs hno hb'
    · exact mergeWrite_stores hs (Nat.le_of_not_lt fun h => hg (tierOf_eq_granary.mpr h)) hb'

/-- Bytes laid down in two parts. -/
theorem overlay_split (c k : Nat) {bs : List Byte} (hk : k ≤ bs.length) (f : Nat → Byte) :
    overlay (c + k) (bs.drop k) (overlay c (bs.take k) f) = overlay c bs f := by
  funext x
  simp only [overlay, List.length_drop, List.length_take, Nat.min_eq_left hk, List.getD_eq_getElem?_getD,
    List.getElem?_drop, List.getElem?_take]
  by_cases h1 : c + k ≤ x ∧ x < c + k + (bs.length - k)
  · rw [if_pos h1, if_pos (by omega), show k + (x - (c + k)) = x - c by omega]
  · rw [if_neg h1]
    by_cases h2 : c ≤ x ∧ x < c + k
    · rw [if_pos h2, if_pos (by omega), if_pos (by omega)]
    · rw [if_neg h2, if_neg (by omega)]

theorem writePieces_stores {o : Owner} {a : Nat} {bs : List Byte} : ∀ {l : List (Nat × Nat)} {c : Nat} {s : State},
    s.Buffering o → a ≤ c → tiles c (a + bs.length) l →
    s.Stores o (State.writePieces o a bs l s) (overlay c (bs.drop (c - a)) s.viewAt)
  | [], c, s, hs, _, (ht : c = a + bs.length) =>
    ⟨⟨_, _, _, rfl⟩, hs, funext fun x => (if_neg (by simp only [List.length_drop]; omega)).symm⟩
  | p :: t, c, s, hs, hac, h => by
    obtain ⟨rfl, hb, ht⟩ := h
    have hle := tiles_le ht
    have hfit : p.2 ≤ (bs.drop (p.1 - a)).length := by simp only [List.length_drop]; omega
    have hdrop : bs.drop (p.1 + p.2 - a) = (bs.drop (p.1 - a)).drop p.2 := by rw [List.drop_drop]; congr 1; omega
    have hstep := writePiece_stores hs hb (List.length_take_of_le hfit)
    have hrest := writePieces_stores hstep.buffering (by omega) ht
    rw [hstep.view, hdrop, overlay_split p.1 p.2 hfit] at hrest
    exact hstep.trans hrest

/-- A write lays its bytes over the view. -/
theorem writeMem_stores {o : Owner} {s : State} (hs : s.Buffering o) (a : Nat) (bs : List Byte) :
    s.Stores o (s.writeMem o a bs) (overlay a bs s.viewAt) := by
  simpa [State.writeMem] using writePieces_stores hs (Nat.le_refl a) (tiles_wordPieces a bs.length)

/-! ### Reads -/

theorem bytesAt_append (s : State) (a m n : Nat) : s.bytesAt a m ++ s.bytesAt (a + m) n = s.bytesAt a (m + n) := by
  simp [State.bytesAt, List.range_add, Nat.add_assoc]

theorem bytesAt_drop_take (s : State) (w : Nat) {k m n : Nat} (h : k + m ≤ n) :
    ((s.bytesAt w n).drop k).take m = s.bytesAt (w + k) m := by
  obtain ⟨r, rfl⟩ := Nat.exists_eq_add_of_le h
  rw [← bytesAt_append, ← bytesAt_append, List.append_assoc, List.drop_left' (by simp [State.bytesAt]),
    List.take_left' (by simp [State.bytesAt])]

theorem readPiece_of_errorFree {s : State} (hs : s.errorFree) (he : s.memory.merge = []) (src : Nat) {p : Nat × Nat}
    (hb : p.1 % 64 + p.2 ≤ 64) : s.readPiece src p = (some (s.bytesAt p.1 p.2), s) := by
  unfold State.readPiece
  simp only
  split
  · simp [hs.badParity]
  · have hw : p.1 / 64 * 64 + p.1 % 64 = p.1 := by omega
    have hov : s.overlayMerge (p.1 / 64 * 64) (s.bytesAt (p.1 / 64 * 64) 64) = s.bytesAt (p.1 / 64 * 64) 64 := by
      simp [State.overlayMerge, he]
    simp only [readWord_of_errorFree hs, Option.map_some, hov, bytesAt_drop_take s _ hb, hw]

theorem readPieces_of_errorFree {s : State} (hs : s.errorFree) (he : s.memory.merge = []) (src : Nat) {e : Nat} :
    ∀ {l : List (Nat × Nat)} {c : Nat}, tiles c e l → State.readPieces src l s = ((s.bytesAt c (e - c), none), s)
  | [], c, (ht : c = e) => by simp [State.readPieces, ht, State.bytesAt]
  | p :: t, c, ⟨hp, hb, ht⟩ => by
    have hle := tiles_le ht
    rw [State.readPieces, readPiece_of_errorFree hs he src (hp ▸ hb)]
    simp only [readPieces_of_errorFree hs he src ht, hp, bytesAt_append]
    rw [show p.2 + (e - (c + p.2)) = e - c by omega]

/-- A range read gives its bytes as last written and changes nothing. -/
theorem readMem_of_errorFree {s : State} (hs : s.errorFree) (he : s.memory.merge = []) (src a n : Nat) :
    s.readMem src a n = ((s.bytesAt a n, none), s) := by
  simpa [State.readMem] using readPieces_of_errorFree hs he src (tiles_wordPieces a n)

end Sys2Proof.Machine
end

section
/-!
PROOFS. MEM_FILL and MEM_COPY (R89, R90, R105).
-/
namespace Sys2Proof.Machine

theorem State.quiet.errorFree {s : State} (hq : s.quiet) : s.errorFree := by
  obtain ⟨herrs, hparity, -, hloft, hsilo, -⟩ := hq
  exact ⟨herrs, hparity, hloft, hsilo⟩

theorem State.quiet.merge {s : State} (hq : s.quiet) : s.memory.merge = [] := by
  obtain ⟨-, -, hmerge, -⟩ := hq
  exact hmerge

theorem State.servesNow.lane_lt {s : State} {h : ReqHdr} {op : Nat} (hs : s.servesNow h op) : h.lane < 16 := by
  obtain ⟨⟨-, hl, -⟩, -⟩ := hs
  exact hl

theorem accept_quiet {s : State} {h : ReqHdr} (hq : s.quiet) : (s.accept h).quiet := by
  simpa [State.quiet] using hq

theorem accept_byteAt (s : State) (h : ReqHdr) (x : Nat) : (s.accept h).byteAt x = s.byteAt x := by simp [State.byteAt]

theorem takeFails_of_no_fails {s : State} (h : s.memory.flushFails = []) (o : Owner) : s.takeFails o = (none, s) := by
  have hf : (s.memory.flushFails.filter fun f => !(f.1 = o)) = s.memory.flushFails := by simp [h]
  have hmine : (s.memory.flushFails.filter fun f => f.1 = o) = [] := by simp [h]
  simp only [State.takeFails, hf, hmine]
  rfl

/-- A command's write to quiet memory stores its bytes and no other, fails nowhere, and leaves the lanes (R91, R330). -/
theorem commandWrite_of_quiet {s : State} (hq : s.quiet) (hw : s.memory.wf = true) (lane a : Nat) (bs : List Byte) :
    ∃ t, s.commandWrite lane a bs = (none, t) ∧ t.lanes = s.lanes ∧ t.byteAt = overlay a bs s.byteAt := by
  obtain ⟨-, -, hmerge, -, -, hfails⟩ := id hq
  have hwrite := writeMem_stores (buffering_of_empty (s := s.uncheck a bs.length) (.lane lane) hq.errorFree hw hmerge) a bs
  obtain ⟨hflush, hempty⟩ := flushOwner_stores hwrite.buffering
  obtain ⟨rg, cells, mg, hframe⟩ := (hwrite.trans hflush).frame
  have hview : (s.uncheck a bs.length).viewAt = s.byteAt := funext (viewAt_of_empty hmerge)
  refine ⟨((s.uncheck a bs.length).writeMem (.lane lane) a bs).flushOwner (.lane lane), ?_, by rw [hframe]; rfl, ?_⟩
  · rw [State.commandWrite, takeFails_of_no_fails (by rw [hframe]; exact hfails)]
    rfl
  · rw [← funext (viewAt_of_empty hempty), hflush.view, hwrite.view, hview]

/-- A written command leaves its job, and memory holds its bytes. -/
theorem commandWrite_setJob {s : State} {h : ReqHdr} (hq : s.quiet) (hi : s.Inv) (hl : h.lane < 16) (a : Nat)
    (bs : List Byte) (op : Nat) (c : Instr) :
    ∃ t, (s.accept h).commandWrite h.lane a bs = (none, t) ∧ (t.setJob h op c (.finish stOk [])).running h op c (.finish stOk []) ∧
      (t.setJob h op c (.finish stOk [])).byteAt = overlay a bs s.byteAt := by
  have hw : (s.accept h).memory.wf = true := by simpa using hi.memory
  obtain ⟨t, hwrite, hlanes, hbyte⟩ := commandWrite_of_quiet (accept_quiet hq) hw h.lane a bs
  have hn : t.lanes.length = 16 := by simp [hlanes, hi.lanes]
  refine ⟨t, hwrite, ?_, ?_⟩
  · rw [State.running, setJob_lane t h op c _ hn hl, if_pos rfl]
  · rw [← show (s.accept h).byteAt = s.byteAt from funext (accept_byteAt s h)]
    exact hbyte

theorem overlay_inside {a i : Nat} {bs : List Byte} (hi : i < bs.length) (f : Nat → Byte) :
    overlay a bs f (a + i) = bs.getD i 0 := by
  rw [overlay, if_pos (by omega), Nat.add_sub_cancel_left]

theorem overlay_outside {a x : Nat} {bs : List Byte} (hx : x < a ∨ a + bs.length ≤ x) (f : Nat → Byte) :
    overlay a bs f x = f x := if_neg (by omega)

theorem fillBytes_getD {n i : Nat} (hi : i < n) (p : List Byte) : (fillBytes n p).getD i 0 = p.getD (i % 8) 0 := by
  simp [fillBytes, List.getD_eq_getElem?_getD, hi]

theorem bytesAt_getD {n i : Nat} (hi : i < n) (s : State) (a : Nat) : (s.bytesAt a n).getD i 0 = s.byteAt (a + i) := by
  simp [State.bytesAt, List.getD_eq_getElem?_getD, hi]

theorem rangeCheck_eq_none {a n : Nat} (h : inTier a n = true) (off : Nat) : rangeCheck off a n = none := by
  simp [rangeCheck, h]

theorem inRange_eq_none {v lo hi : Nat} (hlo : lo ≤ v) (hhi : v ≤ hi) (off : Nat) : inRange off v lo hi = none := by
  simp [inRange, hlo, hhi]

theorem overlaps_eq_false {a m b n : Nat} (h : a + m ≤ b ∨ b + n ≤ a) : overlaps (a, m) (b, n) = false := by
  simp only [overlaps, Bool.and_eq_false_iff, decide_eq_false_iff_not]
  omega

theorem exec_memFill (s : State) (h : ReqHdr) (a n : Nat) (p : List Byte) :
    exec (.memFill h a n p) s = .next (s.hostCommand h (.memFill h a n p) (doMemFill h a n p)) := rfl

theorem exec_memCopy (s : State) (h : ReqHdr) (a b n : Nat) :
    exec (.memCopy h a b n) s = .next (s.hostCommand h (.memCopy h a b n) (doMemCopy h a b n)) := rfl

/-- MEM_FILL of a legal range writes the repeated pattern and leaves its job (R89, R105). -/
theorem exec_memFill_of_servesNow {s : State} {h : ReqHdr} {b n : Nat} (p : List Byte) (hs : s.servesNow h 0x0203)
    (hn : 1 ≤ n) (hmax : n ≤ 2 ^ 30) (hb : inTier b n = true) {t : State}
    (ht : (s.accept h).commandWrite h.lane b (fillBytes n p) = (none, t)) :
    exec (.memFill h b n p) s = .next (t.setJob h 0x0203 (.memFill h b n p) (.finish stOk [])) := by
  have hf : firstFailure ([] ++ [rangeCheck 0 b n, inRange 8 n 0 (2 ^ 30)] ++ []) = none := by
    simp [-Nat.reducePow, rangeCheck_eq_none hb, inRange_eq_none (Nat.zero_le n) hmax]
  rw [exec_memFill, hostCommand_servesNow hs, doMemFill, serve_servesNow hs rfl hf,
    if_neg (by simpa using Nat.ne_of_gt hn)]
  simp only [ht]
  rfl

/-- MEM_COPY between legal ranges that do not overlap writes the bytes of its source and leaves its job (R90, R105). -/
theorem exec_memCopy_of_servesNow {s : State} {h : ReqHdr} {a b n : Nat} (hq : s.quiet) (hs : s.servesNow h 0x0204)
    (hn : 1 ≤ n) (hmax : n ≤ 2 ^ 30) (ha : inTier a n = true) (hb : inTier b n = true) (hab : a + n ≤ b ∨ b + n ≤ a)
    {t : State} (ht : (s.accept h).commandWrite h.lane b ((s.accept h).bytesAt a n) = (none, t)) :
    exec (.memCopy h a b n) s = .next (t.setJob h 0x0204 (.memCopy h a b n) (.finish stOk [])) := by
  have hf : firstFailure ([] ++ [rangeCheck 0 a n, rangeCheck 8 b n, need (!overlaps (a, n) (b, n)) (fRange 8 b),
      inRange 16 n 0 (2 ^ 30)] ++ []) = none := by
    simp [-Nat.reducePow, rangeCheck_eq_none ha, rangeCheck_eq_none hb, overlaps_eq_false hab, inRange_eq_none (Nat.zero_le n) hmax]
  have hq' : (s.accept h).quiet := accept_quiet hq
  rw [exec_memCopy, hostCommand_servesNow hs, doMemCopy, serve_servesNow hs rfl hf,
    if_neg (by simpa using Nat.ne_of_gt hn)]
  simp only [readMem_of_errorFree hq'.errorFree hq'.merge, ht]
  rfl

/-- Settles O23: each command is one write to quiet memory, of the repeated pattern or of the bytes its source holds, and
such a write lays its bytes over its range alone. -/
theorem fillAndCopyWriteTheirRange : Obligations.FillAndCopyWriteTheirRange := by
  intro s h a b n p hi hq hn hmax ha hb
  refine ⟨fun hs => ?_, fun hs hab => ?_⟩
  · have hlen : (fillBytes n p).length = n := by simp [fillBytes]
    obtain ⟨t, hwrite, hrun, hbyte⟩ := commandWrite_setJob hq hi hs.lane_lt b (fillBytes n p) 0x0203 (.memFill h b n p)
    refine ⟨_, exec_memFill_of_servesNow p hs hn hmax hb hwrite, hrun, fun i hin => ?_, fun x hx => ?_⟩
    · rw [hbyte, overlay_inside (hlen.symm ▸ hin), fillBytes_getD hin]
    · rw [hbyte, overlay_outside (hlen.symm ▸ hx)]
  · have hlen : ((s.accept h).bytesAt a n).length = n := by simp [State.bytesAt]
    obtain ⟨t, hwrite, hrun, hbyte⟩ :=
      commandWrite_setJob hq hi hs.lane_lt b ((s.accept h).bytesAt a n) 0x0204 (.memCopy h a b n)
    refine ⟨_, exec_memCopy_of_servesNow hq hs hn hmax ha hb hab hwrite, hrun, fun i hin => ?_, fun x hx => ?_⟩
    · rw [hbyte, overlay_inside (hlen.symm ▸ hin), bytesAt_getD hin, accept_byteAt]
    · rw [hbyte, overlay_outside (hlen.symm ▸ hx)]

end Sys2Proof.Machine
end

section
/-!
SUPPORT. Lists: the element at a place or the default, and a symmetric relation that holds pairwise.
-/
namespace Sys2Proof.Machine

variable {α : Type}

theorem getD_of_lt (l : List α) (d : α) {n : Nat} (h : n < l.length) : l.getD n d = l[n] := by
  rw [List.getD_eq_getElem?_getD, List.getElem?_eq_getElem h, Option.getD_some]

theorem getD_of_length_le (l : List α) (d : α) {n : Nat} (h : l.length ≤ n) : l.getD n d = d := by
  rw [List.getD_eq_getElem?_getD, List.getElem?_eq_none h, Option.getD_none]

theorem pairwise_symm_mem {R : α → α → Prop} (hs : ∀ {a b}, R a b → R b a) : ∀ {l : List α}, l.Pairwise R → ∀ {a b}, a ∈ l → b ∈ l → a ≠ b → R a b
  | [], _, _, _, ha, _, _ => absurd ha List.not_mem_nil
  | x :: l, h, a, b, ha, hb, hne => by
    obtain ⟨hx, hl⟩ := List.pairwise_cons.mp h
    obtain rfl | hal := List.mem_cons.mp ha
    · obtain rfl | hbl := List.mem_cons.mp hb
      · exact absurd rfl hne
      · exact hx b hbl
    · obtain rfl | hbl := List.mem_cons.mp hb
      · exact hs (hx a hal)
      · exact pairwise_symm_mem hs hl hal hbl hne

end Sys2Proof.Machine
end

section
/-!
PROOFS. The request bytes of a host command read back as that command (R2, R54, R67, R75).
-/
namespace Sys2Proof.Machine

/-! ### Fields that fit -/

/-- The first field of a layout, of a value that fits it. -/
@[simp] theorem fieldAt_fits {n v : Nat} (h : fits n v = true) (p : List Byte) : fieldAt (be n v ++ p) 0 n = v := by
  rw [fieldAt_be_append, Nat.mod_eq_of_lt (of_decide_eq_true h)]

/-- The last field of a layout, of a value that fits it. -/
@[simp] theorem fieldAt_fits_last {n v : Nat} (h : fits n v = true) : fieldAt (be n v) 0 n = v := by
  simpa using fieldAt_fits h []

/-- A field behind the first one. -/
@[simp] theorem fieldAt_append {off : Nat} {q : List Byte} (h : q.length ≤ off) (n : Nat) (p : List Byte) :
    fieldAt (q ++ p) off n = fieldAt p (off - q.length) n := by
  simp [fieldAt, List.drop_append, List.drop_eq_nil_of_le, h]

@[simp] theorem sfieldAt_append {off : Nat} {q : List Byte} (h : q.length ≤ off) (n : Nat) (p : List Byte) :
    sfieldAt (q ++ p) off n = sfieldAt p (off - q.length) n := by
  simp only [sfieldAt, fieldAt_append h]

theorem drop_be_append {n k : Nat} (h : n ≤ k) (v : Nat) (p : List Byte) : (be n v ++ p).drop k = p.drop (k - n) := by
  rw [List.drop_append, List.drop_eq_nil_of_le (by simpa using h), be_length, List.nil_append]

theorem fits_ofSigned (i : Int) : fits 4 (ofSigned 32 i) = true := by
  refine decide_eq_true ?_
  unfold ofSigned
  omega

theorem asSigned_ofSigned {i : Int} (h : fitsS i = true) : asSigned 32 (ofSigned 32 i) = i := by
  simp only [fitsS, Bool.and_eq_true, decide_eq_true_eq] at h
  unfold asSigned ofSigned
  split <;> omega

@[simp] theorem sfieldAt_ofSigned {i : Int} (h : fitsS i = true) (p : List Byte) :
    sfieldAt (be 4 (ofSigned 32 i) ++ p) 0 4 = i := by
  rw [sfieldAt, fieldAt_fits (fits_ofSigned i), asSigned_ofSigned h]

@[simp] theorem sfieldAt_ofSigned_last {i : Int} (h : fitsS i = true) : sfieldAt (be 4 (ofSigned 32 i)) 0 4 = i := by
  simpa using sfieldAt_ofSigned h []

/-- Numbers of one width, written one after another, read back. -/
theorem fields_flatMap (n : Nat) : ∀ (l : List Nat) (p : List Byte), l.all (fits n) = true →
    ((List.range l.length).map fun i => fieldAt (l.flatMap (be n) ++ p) (n * i) n) = l
  | [], _, _ => rfl
  | v :: t, p, h => by
    simp only [List.all_cons, Bool.and_eq_true] at h
    rw [List.length_cons, List.range_succ_eq_map, List.map_cons, List.map_map, List.flatMap_cons, List.append_assoc,
      Nat.mul_zero, fieldAt_fits h.1]
    congr 1
    calc _ = (List.range t.length).map fun i => fieldAt (t.flatMap (be n) ++ p) (n * i) n :=
          List.map_congr_left fun i _ => by
            rw [Function.comp_apply, Nat.mul_succ, fieldAt_be_append_of_le (Nat.le_add_left _ _), Nat.add_sub_cancel]
      _ = t := fields_flatMap n t p h.2

/-! ### The commands -/

/-- The expert-only fields stand in the request exactly when its header says so (R75). -/
theorem both_iff {α : Type} {h : ReqHdr} {x : Option α} {ok : α → Bool} :
    h.both x ok = true ↔ h.wf = true ∧ ((∃ y, x = some y ∧ h.expert = true ∧ ok y = true) ∨ (x = none ∧ h.expert = false)) := by
  cases x <;> simp [ReqHdr.both]

theorem basic_iff {h : ReqHdr} : h.basic = true ↔ h.wf = true ∧ h.expert = false := by
  simp [ReqHdr.basic]

theorem fits_of_le {n v m : Nat} (h : v ≤ m) (hm : m < 256 ^ n) : fits n v = true := decide_eq_true (Nat.lt_of_le_of_lt h hm)

/-- The numbers that follow a head of a layout read back. -/
theorem wordsAt_flatMap {vs : List Nat} {q : List Byte} {off n : Nat} (hv : vs.all (fits 4) = true) (hq : q.length = off)
    (hn : n = vs.length) (p : List Byte) : wordsAt (q ++ (vs.flatMap (be 4) ++ p)) off n = vs := by
  subst hn
  unfold wordsAt
  calc _ = (List.range vs.length).map fun i => fieldAt (vs.flatMap (be 4) ++ p) (4 * i) 4 :=
        List.map_congr_left fun i _ => by rw [fieldAt_append (by omega), hq, Nat.add_sub_cancel_left]
    _ = vs := fields_flatMap 4 vs p hv

theorem loopX_bytes_length {x : LoopX} (hx : x.wf = true) : (LoopX.bytes x).length = 64 := by
  simp only [LoopX.wf, Bool.and_eq_true, decide_eq_true_eq] at hx
  obtain ⟨⟨⟨⟨⟨⟨⟨⟨⟨⟨⟨-, hcl⟩, -⟩, hsl⟩, -⟩, -⟩, -⟩, -⟩, -⟩, -⟩, -⟩, -⟩ := hx
  simp [LoopX.bytes, hcl, hsl, List.length_flatMap, List.map_const']

/-- The expert-only fields of VANE_LOOP_SET behind its basic ones (R350). -/
theorem loopXOf_bytes {x : LoopX} (hx : x.wf = true) (a b c : Nat) :
    loopXOf (be 2 a ++ (be 2 b ++ (be 4 c ++ LoopX.bytes x))) = x := by
  obtain ⟨write, cfg, lockN, relockN, sensor, actuator, coef, shifts, rsv, outMin, outMax, vmax, amax, jmax, lockTol⟩ := x
  simp only [LoopX.wf, Bool.and_eq_true, decide_eq_true_eq] at hx
  obtain ⟨⟨⟨⟨⟨⟨⟨⟨⟨⟨⟨⟨⟨⟨⟨⟨h1, h2⟩, h3⟩, h4⟩, h5⟩, h6⟩, hcl⟩, hcf⟩, hsl⟩, hsf⟩, h7⟩, h8⟩, h9⟩, h10⟩, h11⟩, h12⟩, h13⟩ := hx
  obtain ⟨c1, c2, c3, c4, c5, c6, rfl⟩ : ∃ a b c d e f, coef = [a, b, c, d, e, f] := by
    match coef, hcl with
    | [a, b, c, d, e, f], _ => exact ⟨a, b, c, d, e, f, rfl⟩
  obtain ⟨s1, s2, s3, s4, s5, s6, rfl⟩ : ∃ a b c d e f, shifts = [a, b, c, d, e, f] := by
    match shifts, hsl with
    | [a, b, c, d, e, f], _ => exact ⟨a, b, c, d, e, f, rfl⟩
  simp only [List.all_cons, List.all_nil, Bool.and_eq_true, Bool.and_true] at hcf hsf
  simp [loopXOf, LoopX.bytes, wordsAt, List.range_succ, fits_ofSigned, asSigned_ofSigned, *]

/-- Settles O6: each field fits its width, so the layout gives it back; the expert-only fields follow where the header says
so, and data behind a length or a count is as long as it says. -/
theorem requestsReadBack : Obligations.RequestsReadBack := by
  intro c h op hw hh ho
  cases c <;> cases hh <;> cases ho <;> simp only [Instr.wf, basic_iff, both_iff, Bool.and_eq_true, decide_eq_true_eq] at hw <;>
    simp only [parseRequest]
  case vaneLoopSet x =>
    obtain ⟨⟨⟨⟨-, ⟨y, rfl, he, hy⟩ | ⟨rfl, he⟩⟩, hn⟩, hr⟩, ht⟩ := hw
    · have hl := loopX_bytes_length hy
      have hx := loopXOf_bytes hy
      simp_all [requestBytes, sizeIs, onlyExpert]
    · simp_all [requestBytes, sizeIs, onlyExpert]
  case setNet x =>
    obtain ⟨⟨⟨⟨-, ⟨y, rfl, he, hy⟩ | ⟨rfl, he⟩⟩, ha⟩, hp⟩, hr⟩ := hw
    · simp_all [requestBytes, sizeIs, onlyExpert, SetNetX.wf, SetNetX.bytes, setNetXOf]
    · simp_all [requestBytes, sizeIs, onlyExpert]
  case cfgWrite addr rsv vs =>
    obtain ⟨⟨⟨⟨⟨-, he⟩, ha⟩, hr⟩, hl⟩, hv⟩ := hw
    have hn : fits 2 vs.length = true := fits_of_le hl (by decide)
    have hread := wordsAt_flatMap hv (q := be 4 addr ++ be 2 vs.length ++ be 2 rsv) (off := 8) (by simp) rfl []
    simp_all [requestBytes, List.map_const', List.sum_replicate_nat]
    omega
  case memWrite d =>
    obtain ⟨⟨⟨-, ha⟩, hr⟩, hl⟩ := hw
    have hn : fits 4 d.length = true := fits_of_le hl (by decide)
    simp_all [requestBytes, drop_be_append]
    omega
  case fwLoadData d =>
    obtain ⟨⟨-, ho⟩, hl⟩ := hw
    have hn : fits 4 d.length = true := fits_of_le hl (by decide)
    simp_all [requestBytes, drop_be_append]
    omega
  case stepRun x =>
    obtain ⟨⟨⟨⟨⟨-, hx⟩, hp⟩, ht⟩, hn⟩, hr⟩ := hw
    rcases hx with ⟨y, rfl, he, hy⟩ | ⟨rfl, he⟩ <;> simp_all [requestBytes, sizeIs, onlyExpert, StepRunX.wf]
  case sessionOpen x =>
    obtain ⟨⟨-, hx⟩, hb⟩ := hw
    rcases hx with ⟨y, rfl, he, hy⟩ | ⟨rfl, he⟩ <;> simp_all [requestBytes, sizeIs, onlyExpert, SessOpenB.wf]
  case regionSet x =>
    obtain ⟨⟨-, hx⟩, hb⟩ := hw
    rcases hx with ⟨y, rfl, he, hy⟩ | ⟨rfl, he⟩ <;> simp_all [requestBytes, sizeIs, onlyExpert, RegionB.wf]
  case sieveRun x =>
    obtain ⟨⟨-, hx⟩, hb⟩ := hw
    rcases hx with ⟨y, rfl, he, hy⟩ | ⟨rfl, he⟩ <;> simp_all [requestBytes, sizeIs, onlyExpert, SieveB.wf]
  case powerState x =>
    obtain ⟨⟨⟨-, hx⟩, ht⟩, hr⟩ := hw
    rcases hx with ⟨y, rfl, he, hy⟩ | ⟨rfl, he⟩ <;> simp_all [requestBytes, sizeIs, onlyExpert, PowerX.wf]
  case hostWatchdog x =>
    obtain ⟨⟨-, hx⟩, hp⟩ := hw
    rcases hx with ⟨y, rfl, he, hy⟩ | ⟨rfl, he⟩ <;> simp_all [requestBytes, sizeIs, onlyExpert]
  case sievePeriodic x =>
    obtain ⟨⟨⟨-, hx⟩, he⟩, hr⟩ := hw
    rcases hx with ⟨y, rfl, he, hy⟩ | ⟨rfl, he⟩ <;> simp_all [requestBytes, sizeIs, onlyExpert]
  case winnowRun x =>
    obtain ⟨⟨⟨-, hx⟩, hm⟩, hr⟩ := hw
    rcases hx with ⟨y, rfl, he, hy⟩ | ⟨rfl, he⟩ <;> simp_all [requestBytes, sizeIs, onlyExpert]
  case engineStart x =>
    obtain ⟨-, ⟨y, rfl, he, hy⟩ | ⟨rfl, he⟩⟩ := hw <;> simp_all [requestBytes, sizeIs, onlyExpert]
  case marginTest x =>
    obtain ⟨-, ⟨y, rfl, he, hy⟩ | ⟨rfl, he⟩⟩ := hw <;> simp_all [requestBytes, sizeIs, onlyExpert]
  case eccFlipArm => simp_all [requestBytes, sizeIs, FlipB.wf]
  all_goals simp_all [requestBytes, sizeIs, drop_be_append]
end Sys2Proof.Machine
end

section
/-!
SUPPORT. The invariant of the model and the updates of a state. An update of fields that the invariant does not speak of
keeps it; an update of one component keeps it when the component stays in form. A function composed of operations that
keep the invariant keeps it: its proof is a term of the same shape as the function's body.
-/
namespace Sys2Proof.Machine

/-! ### The components -/

/-- Every lane's window holds at most 256 commands (R58). -/
def windowsOk (ls : List Lane) : Prop := ∀ l ∈ ls, l.windowOk

/-- The bytes of memory are in canonical form (R111). -/
def cellsOk (m : List (Nat × Byte)) : Prop := canonical (fun _ => (0 : Byte)) m = true

/-- The registers are in canonical form (R5). -/
def regsOk (l : List (Nat × Word)) : Prop := canonical (fun a => BitVec.ofNat 32 (resetWord a)) l = true

/-- The 48-bit counters are in canonical form (R172). -/
def ctrsOk (l : List (Nat × Nat)) : Prop := canonical (fun _ => (0 : Nat)) l = true

/-- The bank map is in canonical form (R404). -/
def banksOk (l : List (Nat × Nat)) : Prop := canonical (fun b => b) l = true

theorem regsOk_putD {l : List (Nat × Word)} (a : Nat) (v : Word) (h : regsOk l) :
    regsOk (putD (BitVec.ofNat 32 (resetWord a)) l a v) := canonical_putD a v h

theorem ctrsOk_putD {l : List (Nat × Nat)} (a v : Nat) (h : ctrsOk l) : ctrsOk (putD 0 l a v) :=
  canonical_putD (d := fun _ => 0) a v h

theorem banksOk_putD {l : List (Nat × Nat)} (a v : Nat) (h : banksOk l) : banksOk (putD a l a v) :=
  canonical_putD (d := fun b => b) a v h

theorem cellsOk_filter {m : List (Nat × Byte)} (p : Nat × Byte → Bool) (h : cellsOk m) : cellsOk (m.filter p) :=
  canonical_filter p h

theorem cellsOk_pokeCells {m : List (Nat × Byte)} (a : Nat) (bs : List Byte) (h : cellsOk m) : cellsOk (pokeCells m a bs) :=
  canonical_pokeCells bs a h

theorem cellsOk_pokeSome {m : List (Nat × Byte)} (w : Nat) (bs : List (Nat × Byte)) (h : cellsOk m) : cellsOk (pokeSome m w bs) :=
  canonical_pokeSome w bs h

theorem windowsOk_setAt {ls : List Lane} (l : Nat) {x : Lane} (hx : x.windowOk) (h : windowsOk ls) : windowsOk (setAt ls l x) :=
  fun y hy => (mem_setAt hy).elim (fun e => e ▸ hx) (h y)

theorem windowOk_default : ({} : Lane).windowOk := ⟨by decide, by decide, by decide⟩

/-- An update of a lane that leaves its window alone. -/
theorem windowOk_same {l : Lane} {held queue job replies ack dup} (h : l.windowOk) :
    Lane.windowOk ⟨l.e, l.b, held, queue, job, replies, ack, dup⟩ := h

/-- The next request of a lane with room taken (R58, R59). -/
theorem windowOk_next {l : Lane} {held queue job replies ack dup} (h : l.windowOk) (hd : seqDiff l.e l.b < 256) :
    Lane.windowOk ⟨(l.e + 1) % 2 ^ 32, l.b, held, queue, job, replies, ack, dup⟩ := by
  obtain ⟨he, hb, -⟩ := h
  refine ⟨Nat.mod_lt _ (by decide), hb, ?_⟩
  unfold seqDiff at *
  dsimp only
  omega

/-- An ACKNOWLEDGE within the window taken (R61). -/
theorem windowOk_ack {l : Lane} {held queue job replies ack dup} {a : Nat} (h : l.windowOk) (ha : seqDiff a l.b ≤ seqDiff l.e l.b) :
    Lane.windowOk ⟨l.e, a % 2 ^ 32, held, queue, job, replies, ack, dup⟩ := by
  obtain ⟨he, hb, hw⟩ := h
  refine ⟨he, Nat.mod_lt _ (by decide), ?_⟩
  unfold seqDiff at *
  dsimp only
  omega

/-! ### Updates of a state -/

section
variable {s : State} {pending : List Instr} {dev : DState} {engine degraded : Bool} {clocks : Clocks} {net : Net} {events : Events}
  {ledger : Ledger} {lantern : Lantern} {watchdog : Watchdog} {hasp : Hasp} {vane : Vane} {exchanges : List Exchange} {steps : List Step}
  {reaper : Reaper} {down : Option Asleep} {free : Nat}

/-- An update of fields that the invariant does not speak of. -/
theorem inv_same (h : s.Inv) :
    State.Inv ⟨pending, dev, engine, degraded, clocks, s.regs, s.ctrs, s.lanes, net, events, ledger, s.memory, lantern, watchdog, hasp,
      vane, s.sources, exchanges, s.winnow, s.sieve, s.furrows, s.programs, s.sessions, steps, reaper, down, free⟩ :=
  ⟨h.memory, h.regs, h.ctrs, h.lanes, h.windows, h.furrows, h.sources, h.winnow, h.sessions, h.banks, h.loftRegions,
    h.siloRegions, h.programs⟩

theorem inv_regs {regs : List (Nat × Word)} (h : s.Inv) (hr : regsOk s.regs → regsOk regs) :
    State.Inv ⟨pending, dev, engine, degraded, clocks, regs, s.ctrs, s.lanes, net, events, ledger, s.memory, lantern, watchdog, hasp,
      vane, s.sources, exchanges, s.winnow, s.sieve, s.furrows, s.programs, s.sessions, steps, reaper, down, free⟩ :=
  ⟨h.memory, hr h.regs, h.ctrs, h.lanes, h.windows, h.furrows, h.sources, h.winnow, h.sessions, h.banks, h.loftRegions,
    h.siloRegions, h.programs⟩

theorem inv_ctrs {ctrs : List (Nat × Nat)} (h : s.Inv) (hc : ctrsOk s.ctrs → ctrsOk ctrs) :
    State.Inv ⟨pending, dev, engine, degraded, clocks, s.regs, ctrs, s.lanes, net, events, ledger, s.memory, lantern, watchdog, hasp,
      vane, s.sources, exchanges, s.winnow, s.sieve, s.furrows, s.programs, s.sessions, steps, reaper, down, free⟩ :=
  ⟨h.memory, h.regs, hc h.ctrs, h.lanes, h.windows, h.furrows, h.sources, h.winnow, h.sessions, h.banks, h.loftRegions,
    h.siloRegions, h.programs⟩

theorem inv_lanes {lanes : List Lane} (h : s.Inv) (hl : s.lanes.length = 16 → lanes.length = 16) (hw : windowsOk s.lanes → windowsOk lanes) :
    State.Inv ⟨pending, dev, engine, degraded, clocks, s.regs, s.ctrs, lanes, net, events, ledger, s.memory, lantern, watchdog, hasp,
      vane, s.sources, exchanges, s.winnow, s.sieve, s.furrows, s.programs, s.sessions, steps, reaper, down, free⟩ :=
  ⟨h.memory, h.regs, h.ctrs, hl h.lanes, hw h.windows, h.furrows, h.sources, h.winnow, h.sessions, h.banks, h.loftRegions,
    h.siloRegions, h.programs⟩

theorem inv_sources {sources : List Source} (h : s.Inv) (hl : s.sources.length = 20 → sources.length = 20) :
    State.Inv ⟨pending, dev, engine, degraded, clocks, s.regs, s.ctrs, s.lanes, net, events, ledger, s.memory, lantern, watchdog, hasp,
      vane, sources, exchanges, s.winnow, s.sieve, s.furrows, s.programs, s.sessions, steps, reaper, down, free⟩ :=
  ⟨h.memory, h.regs, h.ctrs, h.lanes, h.windows, h.furrows, hl h.sources, h.winnow, h.sessions, h.banks, h.loftRegions,
    h.siloRegions, h.programs⟩

theorem inv_winnow {winnow : List WinnowF} (h : s.Inv) (hl : s.winnow.length = 10 → winnow.length = 10) :
    State.Inv ⟨pending, dev, engine, degraded, clocks, s.regs, s.ctrs, s.lanes, net, events, ledger, s.memory, lantern, watchdog, hasp,
      vane, s.sources, exchanges, winnow, s.sieve, s.furrows, s.programs, s.sessions, steps, reaper, down, free⟩ :=
  ⟨h.memory, h.regs, h.ctrs, h.lanes, h.windows, h.furrows, h.sources, hl h.winnow, h.sessions, h.banks, h.loftRegions,
    h.siloRegions, h.programs⟩

theorem inv_furrows {furrows : List Furrow} (h : s.Inv) (hl : s.furrows.length = 10 → furrows.length = 10) :
    State.Inv ⟨pending, dev, engine, degraded, clocks, s.regs, s.ctrs, s.lanes, net, events, ledger, s.memory, lantern, watchdog, hasp,
      vane, s.sources, exchanges, s.winnow, s.sieve, furrows, s.programs, s.sessions, steps, reaper, down, free⟩ :=
  ⟨h.memory, h.regs, h.ctrs, h.lanes, h.windows, hl h.furrows, h.sources, h.winnow, h.sessions, h.banks, h.loftRegions,
    h.siloRegions, h.programs⟩

theorem inv_programs {programs : List Program} (h : s.Inv) (hl : s.programs.length ≤ 64 → programs.length ≤ 64) :
    State.Inv ⟨pending, dev, engine, degraded, clocks, s.regs, s.ctrs, s.lanes, net, events, ledger, s.memory, lantern, watchdog, hasp,
      vane, s.sources, exchanges, s.winnow, s.sieve, s.furrows, programs, s.sessions, steps, reaper, down, free⟩ :=
  ⟨h.memory, h.regs, h.ctrs, h.lanes, h.windows, h.furrows, h.sources, h.winnow, h.sessions, h.banks, h.loftRegions,
    h.siloRegions, hl h.programs⟩

theorem inv_sessions {sessions : List (Nat × Session)} (h : s.Inv) (hr : risingFrom none s.sessions = true → risingFrom none sessions = true) :
    State.Inv ⟨pending, dev, engine, degraded, clocks, s.regs, s.ctrs, s.lanes, net, events, ledger, s.memory, lantern, watchdog, hasp,
      vane, s.sources, exchanges, s.winnow, s.sieve, s.furrows, s.programs, sessions, steps, reaper, down, free⟩ :=
  ⟨h.memory, h.regs, h.ctrs, h.lanes, h.windows, h.furrows, h.sources, h.winnow, hr h.sessions, h.banks, h.loftRegions,
    h.siloRegions, h.programs⟩

/-- The bank map and what else the Sieve keeps. -/
theorem inv_sieve {sieve : Sieve} (h : s.Inv) (hb : banksOk s.sieve.map → banksOk sieve.map) :
    State.Inv ⟨pending, dev, engine, degraded, clocks, s.regs, s.ctrs, s.lanes, net, events, ledger, s.memory, lantern, watchdog, hasp,
      vane, s.sources, exchanges, s.winnow, sieve, s.furrows, s.programs, s.sessions, steps, reaper, down, free⟩ :=
  ⟨h.memory, h.regs, h.ctrs, h.lanes, h.windows, h.furrows, h.sources, h.winnow, h.sessions, hb h.banks, h.loftRegions,
    h.siloRegions, h.programs⟩

section
variable {cells : List (Nat × Byte)} {errs : List WordErr} {badParity : List Nat} {merge : List MergeEntry} {flipLoft flipSilo : Option Flip}
  {flipFired : List Nat} {scrubNext : List (Nat × Nat)} {trained : Bool} {ceOverflowed : List Nat} {flushFails : List (Owner × Nat)}

/-- The bytes of memory, and what else the memories keep but their region tables. -/
theorem inv_cells (h : s.Inv) (hc : cellsOk s.memory.cells → cellsOk cells) :
    State.Inv ⟨pending, dev, engine, degraded, clocks, s.regs, s.ctrs, s.lanes, net, events, ledger,
      ⟨cells, errs, badParity, s.memory.loftRegions, s.memory.siloRegions, merge, flipLoft, flipSilo, flipFired, scrubNext, trained,
        ceOverflowed, flushFails⟩, lantern, watchdog, hasp,
      vane, s.sources, exchanges, s.winnow, s.sieve, s.furrows, s.programs, s.sessions, steps, reaper, down, free⟩ :=
  ⟨hc h.memory, h.regs, h.ctrs, h.lanes, h.windows, h.furrows, h.sources, h.winnow, h.sessions, h.banks, h.loftRegions,
    h.siloRegions, h.programs⟩

/-- Neither the bytes of memory nor its region tables. -/
theorem inv_memory (h : s.Inv) :
    State.Inv ⟨pending, dev, engine, degraded, clocks, s.regs, s.ctrs, s.lanes, net, events, ledger,
      ⟨s.memory.cells, errs, badParity, s.memory.loftRegions, s.memory.siloRegions, merge, flipLoft, flipSilo, flipFired, scrubNext,
        trained, ceOverflowed, flushFails⟩, lantern, watchdog, hasp,
      vane, s.sources, exchanges, s.winnow, s.sieve, s.furrows, s.programs, s.sessions, steps, reaper, down, free⟩ :=
  inv_cells h id

end
end

/-! ### Choices and folds -/

section
variable {s t : State} {α : Type}

theorem inv_ite {c : Prop} [Decidable c] (hs : s.Inv) (ht : t.Inv) : (if c then s else t).Inv := by
  split
  · exact hs
  · exact ht

/-- A choice whose condition an update needs. -/
theorem inv_ite_of {c : Prop} [Decidable c] (hs : c → s.Inv) (ht : ¬ c → t.Inv) : (if c then s else t).Inv := by
  split
  · exact hs ‹_›
  · exact ht ‹_›

theorem inv_ite_snd {c : Prop} [Decidable c] {p q : α × State} (hp : p.2.Inv) (hq : q.2.Inv) : (if c then p else q).2.Inv := by
  split
  · exact hp
  · exact hq

/-- The state of an answer that has been taken apart. -/
theorem inv_snd {p : α × State} {a : α} (e : p = (a, t)) (h : p.2.Inv) : t.Inv := by
  subst e
  exact h

/-- A fold of steps that keep the invariant keeps it. -/
theorem inv_foldl {f : State → α → State} (hf : ∀ s x, s.Inv → (f s x).Inv) : ∀ (l : List α) {s : State}, s.Inv → (l.foldl f s).Inv
  | [], _, h => h
  | x :: t, _, h => inv_foldl hf t (hf _ x h)

/-- A fold that carries a value along with the state. -/
theorem inv_foldl_snd {β : Type} {f : β × State → α → β × State} (hf : ∀ p x, p.2.Inv → (f p x).2.Inv) :
    ∀ (l : List α) {p : β × State}, p.2.Inv → (l.foldl f p).2.Inv
  | [], _, h => h
  | x :: t, _, h => inv_foldl_snd hf t (hf _ x h)

theorem State.Inv.laneWindow (h : s.Inv) (l : Nat) : (s.lane l).windowOk := by
  unfold State.lane
  by_cases hl : l < s.lanes.length
  · rw [getD_of_lt _ _ hl]
    exact h.windows _ (List.getElem_mem hl)
  · rw [getD_of_length_le _ _ (by omega)]
    exact windowOk_default

theorem inv_setLane (h : s.Inv) (l : Nat) {x : Lane} (hx : x.windowOk) : (s.setLane l x).Inv :=
  inv_lanes h (by simp) (windowsOk_setAt _ hx)

end
end Sys2Proof.Machine
end

section
/-!
SUPPORT. The operations on registers, records, frames, lanes and memory keep the invariant (R58, R325 to R338, R433 to R438).
-/
namespace Sys2Proof.Machine

theorem inv_setReg {s : State} (h : s.Inv) (a v : Nat) : (s.setReg a v).Inv :=
  inv_regs h (regsOk_putD _ _)

theorem inv_setFld {s : State} (h : s.Inv) (a lo w v : Nat) : (s.setFld a lo w v).Inv :=
  inv_setReg h _ _

theorem inv_bump {s : State} (h : s.Inv) (a : Nat) (n : Nat) : (s.bump a n).Inv :=
  inv_ite h (inv_setReg h _ _)

theorem inv_bump48 {s : State} (h : s.Inv) (a n : Nat) : (s.bump48 a n).Inv :=
  inv_ite h (inv_ctrs h (ctrsOk_putD _ _))

theorem inv_clear48 {s : State} (h : s.Inv) (a : Nat) : (s.clear48 a).Inv :=
  inv_ctrs h (ctrsOk_putD _ _)

theorem inv_takeFree {s : State} (h : s.Inv) : s.takeFree.2.Inv :=
  inv_same h

theorem inv_queueLedger {s : State} (h : s.Inv) (r : Record) : (s.queueLedger r).Inv :=
  inv_ite (inv_bump h _ _) (inv_same h)

theorem inv_enterEvent {s : State} (h : s.Inv) (r : Record) : (s.enterEvent r).Inv :=
  inv_same h

theorem inv_raiseAt {s : State} (h : s.Inv) (r : Record) (ck : Nat × Nat) : (s.raiseAt r ck).Inv :=
  inv_ite (inv_same (inv_ite (inv_queueLedger (inv_ite (inv_enterEvent h _) h) _) (inv_ite (inv_enterEvent h _) h)))
      (inv_ite (inv_queueLedger (inv_ite (inv_enterEvent h _) h) _) (inv_ite (inv_enterEvent h _) h))

theorem inv_raise {s : State} (h : s.Inv) (r : Record) (blk : Option Blk) : (s.raise r blk).Inv :=
  inv_raiseAt h _ _

theorem inv_send {s : State} (h : s.Inv) (k : OutKind) : (s.send k).Inv :=
  inv_ite (inv_same h) h

theorem inv_sendReply {s : State} (h : s.Inv) (r : Reply) : (s.sendReply r).Inv :=
  inv_foldl (fun _ _ k => inv_send k _) _ h

theorem inv_sendAckOnly {s : State} (h : s.Inv) (dst : NetAddr) (lane seq tag : Nat) : (s.sendAckOnly dst lane seq tag).Inv :=
  inv_send h _

theorem inv_reply {s : State} (h : s.Inv) (hd : ReqHdr) (op status : Nat) (payload : List Byte) :
    (s.reply hd op status payload).Inv :=
  inv_setLane (inv_sendReply h _) _ (windowOk_same ((inv_sendReply h _).laneWindow _))

theorem inv_failReply {s : State} (h : s.Inv) (hd : ReqHdr) (op : Nat) (f : Failure) (rec : Nat) : (s.failReply hd op f rec).Inv :=
  inv_reply (inv_ite (inv_raiseAt (inv_setLane h _ (windowOk_same (h.laneWindow _))) _ _) (inv_ite (inv_setLane h _
      (windowOk_same (h.laneWindow _))) h)) _ _ _ _

theorem inv_setJob {s : State} (h : s.Inv) (hd : ReqHdr) (op : Nat) (cmd : Instr) (k : JobKind) : (s.setJob hd op cmd k).Inv :=
  inv_setLane h _ (windowOk_same (h.laneWindow _))

theorem inv_poke {s : State} (h : s.Inv) (a : Nat) (bs : List Byte) : (s.poke a bs).Inv :=
  inv_cells h (cellsOk_pokeCells _ _)

theorem inv_zero {s : State} (h : s.Inv) (a n : Nat) : (s.zero a n).Inv :=
  inv_cells h (cellsOk_filter _)

theorem inv_clearErr {s : State} (h : s.Inv) (w : Nat) : (s.clearErr w).Inv :=
  inv_memory h

theorem inv_setErr {s : State} (h : s.Inv) (e : WordErr) : (s.setErr e).Inv :=
  inv_memory h

theorem inv_logCE {s : State} (h : s.Inv) (w : Nat) : (s.logCE w).Inv := by
  unfold State.logCE
  dsimp only
  split
  · exact inv_setFld (inv_bump h _ _) _ _ _ _
  · split
    · exact inv_raise (inv_setReg (inv_setReg (inv_setReg (inv_setReg (inv_bump h _ _) _ _) _ _) _ _) _ _) _ _
    · exact inv_ite (inv_bump (inv_bump h _ _) _ _) (inv_raise (inv_memory (inv_bump (inv_bump h _ _) _ _)) _ _)

theorem inv_logUE {s : State} (h : s.Inv) (w src : Nat) : (s.logUE w src).Inv := by
  unfold State.logUE
  dsimp only
  exact inv_ite (inv_raise (inv_bump h _ _) _ _) (by
      split
      · exact inv_raise (inv_bump h _ _) _ _
      · exact inv_setReg (inv_setReg (inv_setReg (inv_setReg (inv_raise (inv_bump h _ _) _ _) _ _) _ _) _ _) _ _)

theorem inv_readWord {s : State} (h : s.Inv) (w src : Nat) : (s.readWord w src).2.Inv := by
  unfold State.readWord
  dsimp only
  split
  · exact h
  · split
    · exact h
    · exact inv_logCE (inv_clearErr h _) _
    · exact inv_logUE h _ _
    · exact h
    · exact inv_ite_snd (inv_logUE (inv_takeFree h) _ _) (inv_ite_snd (inv_logCE (inv_clearErr (inv_poke (inv_takeFree
        (inv_takeFree h)) _ _) _) _) (inv_takeFree h))

theorem inv_readPiece {s : State} (h : s.Inv) (src : Nat) (p : Nat × Nat) : (s.readPiece src p).2.Inv :=
  inv_ite_snd h (inv_readWord h _ _)

theorem inv_readPieces (src : Nat) : ∀ (l : List (Nat × Nat)) {s : State}, s.Inv → (State.readPieces src l s).2.Inv
  | [], _, h => h
  | p :: t, s, h => by
    unfold State.readPieces
    split
    · next e => exact inv_snd e (inv_readPiece h _ _)
    · next e => exact inv_readPieces src t (inv_snd e (inv_readPiece h _ _))

theorem inv_readMem {s : State} (h : s.Inv) (src a n : Nat) : (s.readMem src a n).2.Inv :=
  inv_readPieces _ _ h

theorem inv_setFlip {s : State} (h : s.Inv) (t : Tier) (f : Option Flip) : (s.setFlip t f).Inv := by
  unfold State.setFlip
  dsimp only
  split
  · exact inv_memory h
  · exact inv_memory h

theorem inv_applyFlip {s : State} (h : s.Inv) (w : Nat) : (s.applyFlip w).Inv := by
  unfold State.applyFlip
  dsimp only
  split
  · exact h
  · exact inv_ite h (inv_setReg (inv_setReg (inv_memory (inv_setErr (inv_setFlip h _ _) _)) _ _) _ _)

theorem inv_writeWord {s : State} (h : s.Inv) (w : Nat) (data : List Byte) : (s.writeWord w data).Inv :=
  inv_applyFlip (inv_clearErr (inv_poke h _ _) _) _

theorem inv_flushEntry {s : State} (h : s.Inv) (m : MergeEntry) : (s.flushEntry m).Inv := by
  unfold State.flushEntry
  dsimp only
  exact inv_ite (inv_writeWord (inv_bump (inv_memory h) _ _) _ _) (inv_ite (inv_applyFlip (inv_cells (by
      split
      · exact inv_bump (inv_bump (inv_memory h) _ _) _ _
      · exact inv_setErr (inv_bump (inv_bump (inv_memory h) _ _) _ _) _) (cellsOk_pokeSome _ _)) _) (by
      split
      · next e => exact inv_memory (inv_snd e (inv_readWord (inv_bump (inv_bump (inv_memory h) _ _) _ _) _ _))
      · next e => exact inv_applyFlip (inv_cells (inv_clearErr (inv_poke (inv_snd e (inv_readWord (inv_bump (inv_bump
          (inv_memory h) _ _) _ _) _ _)) _ _) _) (cellsOk_pokeSome _ _)) _))

theorem inv_flushAll {s : State} (h : s.Inv) (l : List MergeEntry) : (s.flushAll l).Inv :=
  inv_foldl (fun _ _ k => inv_flushEntry k _) _ h

theorem inv_flushOwner {s : State} (h : s.Inv) (o : Owner) : (s.flushOwner o).Inv :=
  inv_flushAll h _

theorem inv_mergeWrite {s : State} (h : s.Inv) (o : Owner) (a : Nat) (bs : List Byte) : (s.mergeWrite o a bs).Inv := by
  unfold State.mergeWrite
  dsimp only
  split
  · exact inv_ite (inv_flushEntry (inv_memory h) _) (inv_memory h)
  · exact inv_memory (inv_ite (by
      split
      · exact inv_flushEntry h _
      · exact h) h)

theorem inv_writePiece {s : State} (h : s.Inv) (o : Owner) (p : Nat × Nat) (bs : List Byte) : (s.writePiece o p bs).Inv :=
  inv_ite (inv_memory (inv_poke h _ _)) (inv_ite (inv_writeWord h _ _) (inv_mergeWrite h _ _ _))

theorem inv_writePieces (o : Owner) (a : Nat) (bs : List Byte) : ∀ (l : List (Nat × Nat)) {s : State}, s.Inv →
    (State.writePieces o a bs l s).Inv
  | [], _, h => h
  | _ :: t, _, h => inv_writePieces o a bs t (inv_writePiece h _ _ _)

theorem inv_writeMem {s : State} (h : s.Inv) (o : Owner) (a : Nat) (bs : List Byte) : (s.writeMem o a bs).Inv :=
  inv_writePieces _ _ _ _ h

theorem inv_takeFails {s : State} (h : s.Inv) (o : Owner) : (s.takeFails o).2.Inv :=
  inv_memory h

end Sys2Proof.Machine
end

section
/-!
SUPPORT. The Reeve, the Hasp, the Walong endpoint and the Journal keep the invariant.
-/
namespace Sys2Proof.Machine

theorem inv_wakeFirst {s : State} (h : s.Inv) (hd : ReqHdr) (cmd : Instr) {body : State → State}
    (hb : ∀ s, s.Inv → (body s).Inv) : (s.wakeFirst hd cmd body).Inv :=
  inv_ite (hb _ (inv_same h)) (inv_ite (inv_failReply h _ _ _ _) (inv_setJob h _ _ _ _))

theorem inv_serveLegal {s : State} (h : s.Inv) (hd : ReqHdr) (cmd : Instr) (pre fields objs : List (Option Failure)) (nothing : Bool)
    {body : State → State} (hb : ∀ s, s.Inv → (body s).Inv) : (s.serveLegal hd cmd pre fields objs nothing body).Inv := by
  unfold State.serveLegal
  dsimp only
  split
  · exact inv_failReply h _ _ _ _
  · split
    · exact inv_failReply h _ _ _ _
    · exact inv_ite (inv_reply h _ _ _ _) (inv_ite (inv_wakeFirst h _ _ hb) (hb _ h))

theorem inv_serve {s : State} (h : s.Inv) (hd : ReqHdr) (cmd : Instr) (pre fields objs : List (Option Failure)) (nothing : Bool)
    {body : State → State} (hb : ∀ s, s.Inv → (body s).Inv) : (s.serve hd cmd pre fields objs nothing body).Inv := by
  unfold State.serve
  dsimp only
  split
  · exact inv_ite (inv_serveLegal h _ _ _ _ _ _ hb) (inv_failReply h _ _ _ _)
  · exact inv_serveLegal h _ _ _ _ _ _ hb

theorem inv_accept {s : State} (h : s.Inv) (hd : ReqHdr) : (s.accept hd).Inv :=
  inv_ite_of (fun c => inv_setLane h _ (windowOk_next (h.laneWindow _) c.2)) fun _ => h

theorem inv_enqueue {s : State} (h : s.Inv) (r : Req) : (s.enqueue r).Inv :=
  inv_setLane h _ (windowOk_same (h.laneWindow _))

theorem inv_hostCommand {s : State} (h : s.Inv) (hd : ReqHdr) (cmd : Instr) {start : State → State}
    (hb : ∀ s, s.Inv → (start s).Inv) : (s.hostCommand hd cmd start).Inv :=
  inv_ite h (inv_ite (inv_enqueue (inv_accept h _) _) (hb _ (inv_accept h _)))

theorem inv_doFwLoadBegin {s : State} (h : s.Inv) (hd : ReqHdr) (total rsv : Nat) : (doFwLoadBegin hd total rsv s).Inv :=
  inv_serve h _ _ _ _ _ _ (fun _ k => inv_reply (inv_same k) _ _ _ _)

theorem inv_doFwLoadData {s : State} (h : s.Inv) (hd : ReqHdr) (off : Nat) (data : List Byte) : (doFwLoadData hd off data s).Inv := by
  unfold doFwLoadData
  dsimp only
  exact inv_serve h _ _ _ _ _ _ (fun _ k => inv_reply (by
      split
      · exact k
      · exact inv_same k) _ _ _ _)

theorem inv_doFwLoadEnd {s : State} (h : s.Inv) (hd : ReqHdr) : (doFwLoadEnd hd s).Inv :=
  inv_serve h _ _ _ _ _ _ (fun _ k => inv_setJob k _ _ _ _)

theorem inv_burnFuses {s : State} (h : s.Inv) (plan : List (Sum Nat Nat)) (env : Env) : (s.burnFuses plan env).Inv :=
  inv_ite h (inv_ite (inv_raise (inv_setFld (inv_setFld (inv_ite (inv_same h) (inv_bump
      (inv_same h) _ _)) _ _ _ _) _ _ _ _) _ _) (inv_setFld (inv_setFld (inv_ite (inv_same h) (inv_bump
      (inv_same h) _ _)) _ _ _ _) _ _ _ _))

theorem inv_cutBurn {s : State} (h : s.Inv) : (s.cutBurn).Inv := by
  unfold State.cutBurn
  dsimp only
  split
  · exact h
  · exact inv_ite (inv_same (inv_takeFree h)) h

theorem inv_startFirmware {s : State} (h : s.Inv) (m : List Byte) : (s.startFirmware m).Inv :=
  inv_cells h fun _ => rfl

theorem inv_finishFwLoadEnd {s : State} (h : s.Inv) (hd : ReqHdr) (env : Env) : (finishFwLoadEnd hd env s).Inv := by
  unfold finishFwLoadEnd
  dsimp only
  split
  · exact inv_failReply h _ _ _ _
  · split
    · exact inv_failReply (inv_raise (inv_setReg (inv_bump (inv_same h) _ _) _ _) _ _) _ _ _ _
    · exact inv_reply (inv_startFirmware (inv_burnFuses h _ _) _) _ _ _ _

theorem inv_doCertRead {s : State} (h : s.Inv) (hd : ReqHdr) : (doCertRead hd s).Inv :=
  inv_serve h _ _ _ _ _ _ (fun _ k => inv_reply k _ _ _ _)

theorem inv_doAttest {s : State} (h : s.Inv) (hd : ReqHdr) (nonce : List Byte) : (doAttest hd nonce s).Inv :=
  inv_serve h _ _ _ _ _ _ (fun _ k => inv_reply (inv_bump (inv_same k) _ _) _ _ _ _)

theorem inv_processAck {s : State} (h : s.Inv) (l a : Nat) : (s.processAck l a).Inv :=
  inv_ite_of (fun c => inv_setLane h _ (windowOk_ack (h.laneWindow _) c)) fun _ => inv_bump h _ _

theorem inv_windowAck {s : State} (h : s.Inv) (src : NetAddr) (l : Nat) : (s.windowAck src l).Inv :=
  inv_ite (inv_sendAckOnly (inv_setLane h _ (windowOk_same (h.laneWindow _))) _ _ _ _) h

theorem inv_duplicate {s : State} (h : s.Inv) (hd : ReqHdr) : (s.duplicate hd).Inv := by
  unfold State.duplicate
  dsimp only
  split
  · exact inv_sendReply (inv_bump h _ _) _
  · exact inv_ite (inv_sendAckOnly (inv_setLane (inv_bump h _ _) _ (windowOk_same ((inv_bump h _ _).laneWindow _))) _ _ _ _)
      (inv_bump h _ _)

theorem inv_replyUnsequenced {s : State} (h : s.Inv) (hd : ReqHdr) (op status : Nat) (payload : List Byte) :
    (s.replyUnsequenced hd op status payload).Inv :=
  inv_sendReply h _

theorem inv_doIdentify {s : State} (h : s.Inv) (hd : ReqHdr) : (doIdentify hd s).Inv :=
  inv_ite h (inv_replyUnsequenced h _ _ _ _)

theorem inv_doPing {s : State} (h : s.Inv) (hd : ReqHdr) (data : List Byte) : (doPing hd data s).Inv :=
  inv_ite h (inv_replyUnsequenced h _ _ _ _)

theorem inv_doWalongPacket {s : State} (h : s.Inv) (src : NetAddr) (p : List Byte) : (doWalongPacket src p s).Inv := by
  have k := inv_processAck h (fieldAt p 4 1) (fieldAt p 12 4)
  exact inv_ite h (inv_ite (inv_bump h _ _) (inv_ite (inv_bump h _ _) (inv_ite (inv_bump h _ _) (inv_ite (inv_bump h _ _)
    (inv_ite (inv_bump h _ _) (inv_ite (inv_ite (inv_bump h _ _) k)
      (inv_ite (inv_ite (inv_doIdentify k _) (inv_replyUnsequenced k _ _ _ _)) (inv_ite (inv_doPing k _ _)
        (inv_ite (inv_duplicate k _) (inv_ite_of
          (fun c => inv_enqueue (inv_setLane k _ (windowOk_next (k.laneWindow _) (c.1 ▸ c.2))) _)
          fun _ => inv_ite (inv_windowAck (inv_bump k _ _) _ _) (inv_ite (inv_windowAck (inv_bump k _ _) _ _)
            (inv_bump k _ _))))))))))))

theorem inv_doAckDelay {s : State} (h : s.Inv) (lane seq : Nat) : (doAckDelay lane seq s).Inv := by
  unfold doAckDelay
  dsimp only
  split
  · exact h
  · exact inv_ite (inv_sendAckOnly h _ _ _ _) h

theorem inv_doArpRequest {s : State} (h : s.Inv) (target senderIp senderMac : Nat) :
    (doArpRequest target senderIp senderMac s).Inv :=
  inv_ite (inv_send h _) h

theorem inv_doNdSolicitation {s : State} (h : s.Inv) (target senderIp senderMac : Nat) :
    (doNdSolicitation target senderIp senderMac s).Inv :=
  inv_ite (inv_ite (inv_send h _) (inv_send h _)) h

theorem inv_doIcmpEcho {s : State} (h : s.Inv) (src : NetAddr) (dst ident seq : Nat) (data : List Byte) :
    (doIcmpEcho src dst ident seq data s).Inv :=
  inv_ite (inv_send (inv_same h) _) h

theorem inv_doPause {s : State} (h : s.Inv) : (doPause s).Inv :=
  inv_ite (inv_bump h _ _) h

theorem inv_learn {s : State} (h : s.Inv) (ip mac : Nat) : (s.learn ip mac).Inv := by
  unfold State.learn
  dsimp only
  split
  · exact inv_ite (inv_same h) h
  · exact h

theorem inv_filtered {s : State} (h : s.Inv) : (s.filtered).Inv :=
  inv_bump h _ _

theorem inv_udpIn {s : State} (h : s.Inv) (v6 : Bool) (ip mac tclass own pseudo : Nat) (u : List Byte) :
    (s.udpIn v6 ip mac tclass own pseudo u).Inv :=
  inv_ite (inv_filtered h) (inv_ite (inv_doWalongPacket h _ _) h)

theorem inv_ip4In {s : State} (h : s.Inv) (mac : Nat) (p : List Byte) : (s.ip4In mac p).Inv :=
  inv_ite (inv_filtered h) (inv_ite (inv_filtered h) (inv_ite (inv_udpIn h _ _ _ _ _ _ _) (inv_ite
      (inv_doIcmpEcho h _ _ _ _ _) (inv_filtered h))))

theorem inv_ip6In {s : State} (h : s.Inv) (mac : Nat) (p : List Byte) : (s.ip6In mac p).Inv :=
  inv_ite (inv_filtered h) (inv_ite (inv_ite (inv_udpIn h _ _ _ _ _ _ _) (inv_filtered h)) (inv_ite (inv_ite
      (inv_doIcmpEcho h _ _ _ _ _) (inv_ite (inv_filtered h) (inv_ite (inv_doNdSolicitation h _ _ _) (inv_ite
      (inv_learn h _ _) (inv_filtered h))))) (inv_filtered h)))

theorem inv_arpIn {s : State} (h : s.Inv) (p : List Byte) : (s.arpIn p).Inv :=
  inv_ite (inv_filtered h) (inv_ite (inv_doArpRequest h _ _ _) (inv_ite (inv_learn h _ _) (inv_filtered h)))

theorem inv_doEthernetFrame {s : State} (h : s.Inv) (f : List Byte) : (doEthernetFrame f s).Inv :=
  inv_ite h (inv_ite (inv_filtered h) (inv_ite (inv_bump h _ _) (inv_ite (inv_doPause h) (inv_ite (inv_filtered h) (inv_ite
      (inv_arpIn h _) (inv_ite (inv_ip4In h _ _) (inv_ite (inv_ip6In h _ _) (inv_filtered h))))))))

theorem inv_probeLl4 {s : State} (h : s.Inv) : (s.probeLl4).Inv :=
  inv_same h

theorem inv_dadGlobal {s : State} (h : s.Inv) : (s.dadGlobal).Inv :=
  inv_ite (inv_send (inv_send (inv_same h) _) _) (inv_same h)

theorem inv_startDad {s : State} (h : s.Inv) : (s.startDad).Inv :=
  inv_probeLl4 (inv_dadGlobal (inv_send (inv_send (inv_same h) _) _))

theorem inv_netChanged {s : State} (h : s.Inv) (old : State) : (old.netChanged s).Inv :=
  inv_ite (inv_dadGlobal (inv_ite (inv_probeLl4 h) h)) (inv_ite (inv_probeLl4 h) h)

theorem inv_doArpProbe {s : State} (h : s.Inv) (conflict : Bool) : (doArpProbe conflict s).Inv := by
  unfold doArpProbe
  dsimp only
  split
  · exact h
  · exact inv_ite (inv_setFld (inv_same h) _ _ _ _) (inv_ite (inv_send (inv_same h) _) (inv_setFld (inv_same h) _ _ _ _))

theorem inv_doDadComplete {s : State} (h : s.Inv) (which : AddrKind) (conflict : Bool) : (doDadComplete which conflict s).Inv := by
  unfold doDadComplete
  dsimp only
  exact inv_ite h (by
      split
      · exact inv_setFld (inv_same h) _ _ _ _
      · exact inv_setFld (inv_same h) _ _ _ _
      · exact inv_setFld (inv_same h) _ _ _ _
      · exact inv_setFld (inv_same h) _ _ _ _)

theorem inv_doLinkUp {s : State} (h : s.Inv) : (doLinkUp s).Inv :=
  inv_ite h (inv_raise (inv_startDad (inv_same h)) _ _)

theorem inv_doLinkDown {s : State} (h : s.Inv) : (doLinkDown s).Inv :=
  inv_same h

theorem inv_doSetNet {s : State} (h : s.Inv) (hd : ReqHdr) (a p r : Nat) (x : Option SetNetX) : (doSetNet hd a p r x s).Inv :=
  inv_serve h _ _ _ _ _ _ (fun _ k => inv_reply (inv_same k) _ _ _ _)

theorem inv_doSetNetApply {s : State} (h : s.Inv) : (doSetNetApply s).Inv := by
  unfold doSetNetApply
  dsimp only
  split
  · exact h
  · exact inv_ite (inv_ite (inv_send (inv_setFld (inv_foldl (fun _ _ k1 => inv_setReg k1 _ _) _ (inv_same h)) _ _ _ _) _)
      (inv_foldl (fun _ _ k1 => inv_setReg k1 _ _) _ (inv_same h))) (inv_ite (inv_dadGlobal (inv_ite (inv_send (inv_setFld
      (inv_foldl (fun _ _ k1 => inv_setReg k1 _ _) _ (inv_same h)) _ _ _ _) _) (inv_foldl
      (fun _ _ k1 => inv_setReg k1 _ _) _ (inv_same h)))) (inv_send (inv_dadGlobal (inv_ite (inv_send (inv_setFld (inv_foldl
      (fun _ _ k1 => inv_setReg k1 _ _) _ (inv_same h)) _ _ _ _) _) (inv_foldl (fun _ _ k1 => inv_setReg k1 _ _) _
      (inv_same h)))) _))

theorem inv_dropEvent {s : State} (h : s.Inv) : (s.dropEvent).Inv :=
  inv_bump (inv_same h) _ _

theorem inv_emitEvent {s : State} (h : s.Inv) (r : Record) (mac : Nat) : (s.emitEvent r mac).Inv :=
  inv_send (inv_same h) _

theorem inv_doEventSend {s : State} (h : s.Inv) : (doEventSend s).Inv := by
  unfold doEventSend
  dsimp only
  split
  · exact h
  · exact inv_ite (inv_dropEvent h) (by
      split
      · exact inv_dropEvent h
      · split
        · exact inv_emitEvent h _ _
        · exact inv_ite h (inv_send (inv_same h) _))

theorem inv_doResolutionRetry {s : State} (h : s.Inv) : (doResolutionRetry s).Inv := by
  unfold doResolutionRetry
  dsimp only
  split
  · exact h
  · exact inv_ite (inv_send (inv_same h) _) (inv_ite (inv_dropEvent h) (inv_same h))

theorem inv_doCacheAgeing {s : State} (h : s.Inv) (ip : Nat) : (doCacheAgeing ip s).Inv :=
  inv_same h

theorem inv_doLedgerWrite {s : State} (h : s.Inv) : (doLedgerWrite s).Inv := by
  unfold doLedgerWrite
  dsimp only
  exact inv_ite h (by
      split
      · exact h
      · exact inv_same h)

theorem inv_storeWrite {s : State} (h : s.Inv) : (s.storeWrite).Inv := by
  unfold State.storeWrite
  split
  · exact h
  · exact inv_bump (inv_same h) _ _

theorem inv_tearWrite {s : State} (h : s.Inv) : (s.tearWrite).Inv := by
  unfold State.tearWrite
  dsimp only
  split
  · exact h
  · exact inv_same (inv_takeFree h)

theorem inv_doLedgerRead {s : State} (h : s.Inv) (hd : ReqHdr) (first count rsv : Nat) : (doLedgerRead hd first count rsv s).Inv :=
  inv_serve h _ _ _ _ _ _ (fun _ k => inv_reply (inv_bump (inv_same k) _ _) _ _ _ _)

theorem inv_doLedgerClear {s : State} (h : s.Inv) (hd : ReqHdr) (upTo : Nat) : (doLedgerClear hd upTo s).Inv :=
  inv_serve h _ _ _ _ _ _ (fun _ k => inv_setJob (inv_same k) _ _ _ _)

theorem inv_doEventsRead {s : State} (h : s.Inv) (hd : ReqHdr) (first count rsv : Nat) : (doEventsRead hd first count rsv s).Inv :=
  inv_serve h _ _ _ _ _ _ (fun _ k => inv_reply k _ _ _ _)

theorem inv_uncheck {s : State} (h : s.Inv) (a n : Nat) : (s.uncheck a n).Inv :=
  inv_programs h (by simp)

theorem length_filter_addr_lt {l : List Program} {old : Program} (h : old ∈ l) :
    (l.filter fun p => p.addr ≠ old.addr).length < l.length :=
  List.length_filter_lt_length_iff_exists.mpr ⟨old, h, by simp⟩

/-- The entries that make room for a range: none of them overlaps it, and the table has a place left (R302). -/
theorem makeRoom_spec {s : State} {a slots : Nat} {rest : List Program} (h : s.makeRoom a slots = some rest) :
    (∀ p ∈ rest, p ∈ s.programs ∧ overlaps (p.addr, 64 * p.slots) (a, 64 * slots) = false) ∧
      (s.programs.length ≤ 64 → rest.length < 64) := by
  have hsub : ∀ p ∈ s.programs.filter fun p => !overlaps (p.addr, 64 * p.slots) (a, 64 * slots),
      p ∈ s.programs ∧ overlaps (p.addr, 64 * p.slots) (a, 64 * slots) = false := fun p hp => by simpa using hp
  unfold State.makeRoom at h
  dsimp only at h
  split at h
  · cases h
  · split at h
    · cases h
      exact ⟨hsub, fun _ => ‹_›⟩
    · split at h
      · cases h
      · next old hold =>
        cases h
        refine ⟨fun p hp => hsub p (List.mem_filter.mp hp).1, fun hl => ?_⟩
        calc _ < _ := length_filter_addr_lt (List.mem_of_find?_eq_some hold)
          _ ≤ s.programs.length := List.length_filter_le _ _
          _ ≤ 64 := hl

theorem inv_doProgramLoad {s : State} (h : s.Inv) (hd : ReqHdr) (a slots rsv : Nat) : (doProgramLoad hd a slots rsv s).Inv := by
  unfold doProgramLoad
  refine inv_serve h _ _ _ _ _ _ fun u k => ?_
  split
  · exact inv_failReply k _ _ _ _
  · next hroom => exact inv_reply (inv_programs k fun hl => by have := (makeRoom_spec hroom).2 hl; simp; omega) _ _ _ _

theorem inv_doProgramCheck {s : State} (h : s.Inv) (hd : ReqHdr) (a : Nat) : (doProgramCheck hd a s).Inv := by
  unfold doProgramCheck
  dsimp only
  exact inv_serve h _ _ _ _ _ _ (fun _ k => (by
      split
      · exact inv_failReply k _ _ _ _
      · split
        · exact inv_failReply (inv_programs k (by simp)) _ _ _ _
        · exact inv_reply (inv_programs k (by simp)) _ _ _ _))

theorem inv_setSession {s : State} (h : s.Inv) (n : Nat) (x : Session) : (s.setSession n x).Inv :=
  inv_sessions h fun k => risingFrom_put k (by simp)

theorem inv_bumpLanes {s : State} (h : s.Inv) (x : Session) (off n : Nat) : (s.bumpLanes x off n).Inv :=
  inv_foldl (fun _ _ k => inv_bump k _ _) _ h

theorem inv_discardSlots {s : State} (h : s.Inv) (x : Session) (n : Nat) : (s.discardSlots x n).Inv :=
  inv_ite h (inv_bumpLanes h _ _ _)

theorem inv_dropHeld {s : State} (h : s.Inv) (n : Nat) : (s.dropHeld n).Inv := by
  unfold State.dropHeld
  split
  · exact h
  · exact inv_setSession (inv_discardSlots h _ _) _ _

theorem inv_commitRow {s : State} (h : s.Inv) (x : Session) (stage slot layer head kv : Nat) (pos : Nat) :
    (s.commitRow x stage slot layer head kv pos).Inv :=
  inv_foldl (fun _ _ k => inv_writeMem k _ _ _) _ (inv_foldl_snd (fun _ _ k => inv_writeMem k _ _ _) _ h)

theorem inv_poisonWord {s : State} (h : s.Inv) (w : Nat) : (s.poisonWord w).Inv :=
  inv_logUE (inv_setErr h _) _ _

theorem inv_commitSlots {s : State} (h : s.Inv) (n stage count total : Nat) : (s.commitSlots n stage count total).2.Inv := by
  unfold State.commitSlots
  dsimp only
  split
  · exact h
  · exact inv_setSession (inv_discardSlots (inv_bumpLanes (inv_foldl (fun _ _ k1 => inv_poisonWord k1 _) _ (inv_takeFails
      (inv_flushOwner (inv_foldl (fun _ _ k1 => inv_foldl
      (fun _ _ k2 => inv_commitRow k2 _ _ _ _ _ _ _) _ k1) _ h) _) _)) _ _ _) _ _) _ _

theorem inv_doSessionOpen {s : State} (h : s.Inv) (hd : ReqHdr) (b : SessOpenB) (x : Option (Nat × Nat × Nat)) :
    (doSessionOpen hd b x s).Inv :=
  inv_serve h _ _ _ _ _ _ (fun _ k => inv_reply (inv_setSession k _ _) _ _ _ _)

theorem inv_doSessionClose {s : State} (h : s.Inv) (hd : ReqHdr) (n rsv : Nat) : (doSessionClose hd n rsv s).Inv :=
  inv_serve h _ _ _ _ _ _ (fun _ k => inv_reply (inv_sessions (inv_dropHeld k _) risingFrom_del) _ _ _ _)

theorem inv_doSessionCommit {s : State} (h : s.Inv) (hd : ReqHdr) (n count : Nat) : (doSessionCommit hd n count s).Inv := by
  unfold doSessionCommit
  dsimp only
  exact inv_serve h _ _ _ _ _ _ (fun _ k => (by
      split
      · exact inv_reply k _ _ _ _
      · exact inv_reply (inv_commitSlots k _ _ _ _) _ _ _ _))

theorem inv_doSessionRollback {s : State} (h : s.Inv) (hd : ReqHdr) (n rsv : Nat) : (doSessionRollback hd n rsv s).Inv :=
  inv_serve h _ _ _ _ _ _ (fun _ k => inv_reply (inv_dropHeld k _) _ _ _ _)

end Sys2Proof.Machine
end

section
/-!
SUPPORT. The invariant: jobs, sensors, the Winnow, the Vane and its sources.
-/
namespace Sys2Proof.Machine

theorem inv_modStep {s : State} (h : s.Inv) (l : Nat) (f : Step → Step) : (s.modStep l f).Inv :=
  inv_same h

theorem inv_setFurrow {s : State} (h : s.Inv) (f : Nat) (x : Furrow) : (s.setFurrow f x).Inv :=
  inv_furrows h (by simp)

theorem inv_modFurrow {s : State} (h : s.Inv) (f : Nat) (g : Furrow → Furrow) : (s.modFurrow f g).Inv :=
  inv_setFurrow h _ _

theorem inv_abortStep {s : State} (h : s.Inv) (l : Nat) (f : Failure) (rec : Nat) : (s.abortStep l f rec).Inv :=
  inv_modStep h _ _

theorem inv_noteAbort {s : State} (h : s.Inv) (f status : Nat) : (s.noteAbort f status).Inv :=
  inv_setReg (inv_modFurrow h _ _) _ _

theorem windowsOk_map {ls : List Lane} {f : Lane → Lane} (hf : ∀ l, l.windowOk → (f l).windowOk) (h : windowsOk ls) :
    windowsOk (ls.map f) := by
  intro y hy
  obtain ⟨x, hx, rfl⟩ := List.mem_map.mp hy
  exact hf x (h x hx)

theorem inv_failQueued {s : State} (h : s.Inv) (f : Failure) : (s.failQueued f).Inv :=
  inv_lanes h (by simp) (windowsOk_map fun _ k => windowOk_same k)

theorem inv_failWaking {s : State} (h : s.Inv) (f : Failure) : (s.failWaking f).Inv := by
  unfold State.failWaking
  exact inv_foldl (fun _ _ k => (by
      split
      · exact inv_ite (inv_failReply k _ _ _ _) k
      · exact k)) _ h

theorem inv_endAllSteps {s : State} (h : s.Inv) (f : Failure) : (s.endAllSteps f).Inv :=
  inv_failQueued (inv_foldl (fun _ _ k => inv_abortStep k _ _ _) _ (inv_failWaking h _)) _

theorem inv_toFault {s : State} (h : s.Inv) (f : Failure) : (s.toFault f).Inv :=
  inv_sources (inv_endAllSteps h _) (by simp)

theorem inv_enterFault {s : State} (h : s.Inv) (f : Failure) (blk : Option Blk) : (s.enterFault f blk).Inv :=
  inv_toFault (inv_raise h _ _) _

theorem inv_abandonRun {s : State} (h : s.Inv) (f : Nat) (keep : Bool) : (s.abandonRun f keep).Inv :=
  inv_ite h (inv_bump (inv_winnow h (by simp)) _ _)

theorem inv_abandonPatterns {s : State} (h : s.Inv) : (s.abandonPatterns).Inv := by
  unfold State.abandonPatterns
  exact inv_foldl (fun _ _ k => (by
      split
      · exact inv_ite (inv_abandonRun k _ _) k
      · exact k)) _ h

theorem inv_freshStart {s : State} (h : s.Inv) : (s.freshStart).Inv :=
  inv_foldl (fun _ _ k => inv_setFld k _ _ _ _) _ (inv_furrows h (by simp))

theorem inv_passEngines {s : State} (h : s.Inv) : (s.passEngines).Inv := by
  unfold State.passEngines
  dsimp only
  exact inv_ite h (by
      split
      · exact h
      · exact inv_modStep (inv_ite (inv_furrows (inv_abandonPatterns h) (by simp)) (inv_freshStart (inv_furrows
          (inv_abandonPatterns h) (by simp)))) _ _)

theorem inv_abandonRuns {s : State} (h : s.Inv) : (s.abandonRuns).Inv :=
  inv_foldl (fun _ _ k => inv_abandonRun k _ _) _ h

theorem inv_endExchanges {s : State} (h : s.Inv) : (s.endExchanges).Inv := by
  unfold State.endExchanges
  dsimp only
  exact inv_foldl (fun _ _ k => (by
      split
      · split
        · exact inv_reply k _ _ _ _
        · exact k
      · exact k)) _ (inv_sources h (by simp))

theorem inv_beginEntry {s : State} (h : s.Inv) (target : DState) : (s.beginEntry target).Inv :=
  inv_ite (inv_same h) (inv_sources (inv_endExchanges (inv_abandonRuns (inv_flushAll (inv_same h) _))) (by simp))

theorem inv_dozeIfDue {s : State} (h : s.Inv) : (s.dozeIfDue).Inv :=
  inv_ite (inv_beginEntry (inv_same h) _) h

theorem inv_dropStep {s : State} (h : s.Inv) (l : Nat) : (s.dropStep l).Inv :=
  inv_passEngines (inv_dozeIfDue (inv_ite (inv_same (inv_same h)) (inv_same h)))

theorem inv_noteCounts {s : State} (h : s.Inv) (l seq : Nat) (c : Nat × Nat × Nat) : (s.noteCounts l seq c).Inv :=
  inv_setLane h _ (windowOk_same (h.laneWindow _))

theorem inv_cancelQueued {s : State} (h : s.Inv) (hd : ReqHdr) (lane seq : Nat) (f : Failure) :
    (doTaskCancel.cancelQueued s hd lane seq f).Inv :=
  inv_ite (inv_reply (inv_setLane h _ (windowOk_same (h.laneWindow _))) _ _ _ _) (inv_reply h _ _ _ _)

theorem inv_doTaskCancel {s : State} (h : s.Inv) (hd : ReqHdr) (lane rsv seq : Nat) : (doTaskCancel hd lane rsv seq s).Inv := by
  unfold doTaskCancel
  dsimp only
  exact inv_serve h _ _ _ _ _ _ (fun _ k => inv_ite (inv_reply k _ _ _ _) (by
      split
      · exact inv_ite (inv_ite (inv_reply (inv_failReply k _ _ _ _) _ _ _ _) (by
          split
          · exact inv_ite (inv_setJob (inv_abortStep k _ _ _) _ _ _ _) (inv_reply k _ _ _ _)
          · exact inv_reply k _ _ _ _)) (inv_cancelQueued k _ _ _ _)
      · exact inv_cancelQueued k _ _ _ _))

theorem inv_doLaneResume {s : State} (h : s.Inv) (hd : ReqHdr) : (doLaneResume hd s).Inv :=
  inv_serve h _ _ _ _ _ _ (fun _ k => inv_reply (inv_setLane k _ (windowOk_same (k.laneWindow _))) _ _ _ _)

theorem inv_doTaskStatus {s : State} (h : s.Inv) (hd : ReqHdr) (lane rsv seq : Nat) : (doTaskStatus hd lane rsv seq s).Inv :=
  inv_serve h _ _ _ _ _ _ (fun _ k => inv_reply k _ _ _ _)

theorem inv_doHostWatchdog {s : State} (h : s.Inv) (hd : ReqHdr) (p : Nat) (x : Option (Nat × Nat)) :
    (doHostWatchdog hd p x s).Inv :=
  inv_serve h _ _ _ _ _ _ (fun _ k => inv_reply (inv_same k) _ _ _ _)

theorem inv_doHostWatchdogExpiry {s : State} (h : s.Inv) : (doHostWatchdogExpiry s).Inv :=
  inv_ite h (inv_ite (inv_raise (inv_same h) _ _) (inv_ite (inv_dozeIfDue (inv_same (inv_endAllSteps (inv_raise
      (inv_same h) _ _) _))) (inv_endAllSteps (inv_raise (inv_same h) _ _) _)))

theorem inv_modWin {s : State} (h : s.Inv) (f : Nat) (g : WinnowF → WinnowF) : (s.modWin f g).Inv :=
  inv_winnow h (by simp)

theorem inv_writeSet {s : State} (h : s.Inv) (f : Nat) : (s.writeSet f).Inv :=
  inv_ite h (inv_bump (inv_modWin h _ _) _ _)

theorem inv_doInterpSetWrite {s : State} (h : s.Inv) (f : Nat) : (doInterpSetWrite f s).Inv := by
  unfold doInterpSetWrite
  split
  · exact inv_writeSet h _
  · exact inv_ite (inv_writeSet h _) h

theorem inv_swapSet {s : State} (h : s.Inv) (f : Nat) : (s.swapSet f).Inv := by
  unfold State.swapSet
  split
  · exact h
  · exact inv_setFld (inv_modWin h _ _) _ _ _ _

theorem inv_markDue {s : State} (h : s.Inv) (f : Nat) : (s.markDue f).Inv :=
  inv_modWin h _ _

theorem inv_doWinnowRunDue {s : State} (h : s.Inv) (f : Nat) : (doWinnowRunDue f s).Inv := by
  unfold doWinnowRunDue
  dsimp only
  split
  · exact inv_ite (inv_markDue h _) h
  · exact inv_ite (inv_modWin (inv_ite (inv_markDue h _) h) _ _) (inv_ite (inv_markDue h _) h)

theorem inv_collect {s : State} (h : s.Inv) (f : Nat) (samples : List (Nat × Nat × Nat)) : (s.collect f samples).Inv :=
  inv_modWin h _ _

theorem inv_doWinnowCollectionEnd {s : State} (h : s.Inv) (f : Nat) (pattern : List (Nat × List LevelStat)) :
    (doWinnowCollectionEnd f pattern s).Inv := by
  unfold doWinnowCollectionEnd
  dsimp only
  exact inv_modWin h _ _

theorem inv_fitSlice {s : State} (h : s.Inv) (f : Nat) : (s.fitSlice f).Inv :=
  inv_modWin h _ _

theorem inv_storeFit {s : State} (h : s.Inv) (f : Nat) (t : Int) (fits : List DetFit) : (s.storeFit f t fits).Inv := by
  unfold State.storeFit
  dsimp only
  exact inv_modWin h _ _

theorem inv_doWinnowRunComplete {s : State} (h : s.Inv) (f : Nat) : (doWinnowRunComplete f s).Inv := by
  unfold doWinnowRunComplete
  dsimp only
  split
  · exact h
  · split
    · exact h
    · exact inv_ite h (inv_ite (inv_raise (inv_bump (inv_modWin (inv_bump (inv_setFld h _ _ _ _) _ _) _ _) _ _) _ _)
        (inv_setFld (inv_setReg (inv_bump (inv_bump (inv_modWin (inv_storeFit (inv_bump
        (inv_setFld h _ _ _ _) _ _) _ _ _) _ _) _ _) _ _) _ _) _ _ _ _))

theorem inv_doWinnowRun {s : State} (h : s.Inv) (hd : ReqHdr) (mask rsv : Nat) (x : Option (Nat × Nat)) :
    (doWinnowRun hd mask rsv x s).Inv :=
  inv_serve h _ _ _ _ _ _ (fun _ k => inv_ite (inv_reply (inv_foldl (fun _ _ k1 => inv_modWin
      (inv_markDue k1 _) _ _) _ k) _ _ _ _) (inv_setJob (inv_foldl (fun _ _ k1 => inv_modWin
      (inv_markDue k1 _) _ _) _ k) _ _ _ _))

theorem inv_restartSlots {s : State} (h : s.Inv) (l : List Nat) : (s.restartSlots l).Inv :=
  inv_same h

theorem inv_offSource {s : State} (h : s.Inv) (k : Nat) : (s.offSource k).Inv :=
  inv_restartSlots (inv_same h) _

theorem inv_vaneRestart {s : State} (h : s.Inv) : (s.vaneRestart).Inv :=
  inv_same h

theorem inv_vaneStop {s : State} (h : s.Inv) : (s.vaneStop).Inv :=
  inv_same h

theorem inv_resumeHeat {s : State} (h : s.Inv) : (s.resumeHeat).Inv :=
  inv_ite h (inv_ite (inv_restartSlots h _) (inv_same h))

theorem inv_swapBanks {s : State} (h : s.Inv) : (s.swapBanks).Inv :=
  inv_bump (inv_same h) _ _

theorem inv_applyWrites {s : State} (h : s.Inv) : (s.applyWrites).Inv :=
  inv_foldl (fun _ _ k => inv_same k) _ (inv_same h)

theorem inv_furrowLocks {s : State} (h : s.Inv) : (s.furrowLocks).Inv :=
  inv_foldl (fun _ _ k => inv_modFurrow k _ _) _ h

theorem inv_heatThrottle {s : State} (h : s.Inv) : (s.heatThrottle).Inv :=
  inv_ite (inv_ite (inv_same h) (inv_bump (inv_same h) _ _)) (inv_ite h (inv_ite (inv_same h) (inv_ite (inv_same h)
      (inv_same h))))

theorem inv_answerSwaps {s : State} (h : s.Inv) : (s.answerSwaps).Inv := by
  unfold State.answerSwaps
  exact inv_foldl (fun _ _ k => (by
      split
      · exact inv_ite (inv_reply k _ _ _ _) k
      · exact k)) _ h

theorem inv_combLocks {s : State} (h : s.Inv) : (s.combLocks).Inv :=
  inv_sources h (by simp)

theorem inv_doVaneSample {s : State} (h : s.Inv) (inp : VaneInput) : (doVaneSample inp s).Inv := by
  unfold doVaneSample
  dsimp only
  exact inv_ite h (inv_answerSwaps (inv_heatThrottle (inv_furrowLocks (inv_combLocks (by
      split
      · exact inv_setReg (inv_bump (inv_bump (inv_bump (inv_furrows (inv_same (inv_applyWrites (inv_ite
          (inv_swapBanks h) h))) (by simp)) _ _) _ _) _ _) _ _
      · exact inv_bump (inv_bump (inv_bump (inv_furrows (inv_same (inv_applyWrites (inv_ite (inv_swapBanks h) h)))
          (by simp)) _ _) _ _) _ _)))))

theorem inv_doVaneLoopSet {s : State} (h : s.Inv) (hd : ReqHdr) (n rsv : Nat) (target : Int) (x : Option LoopX) :
    (doVaneLoopSet hd n rsv target x s).Inv :=
  inv_serve h _ _ _ _ _ _ (fun _ k => inv_reply (inv_ite (inv_applyWrites (inv_same k)) (inv_same k)) _ _ _ _)

theorem inv_doVaneBankSwap {s : State} (h : s.Inv) (hd : ReqHdr) : (doVaneBankSwap hd s).Inv :=
  inv_serve h _ _ _ _ _ _ (fun _ k => inv_ite (inv_reply (inv_swapBanks k) _ _ _ _) (inv_setJob (inv_same k) _ _ _ _))

theorem inv_modSource {s : State} (h : s.Inv) (n : Nat) (g : Source → Source) : (s.modSource n g).Inv :=
  inv_sources h (by simp)

theorem inv_moveTarget {s : State} (h : s.Inv) (n : Nat) (t : Int) : (s.moveTarget n t).Inv :=
  inv_same h

theorem inv_applyBias {s : State} (h : s.Inv) : (s.applyBias).Inv :=
  inv_foldl (fun _ _ k => inv_moveTarget k _ _) _ h

theorem inv_startWarm {s : State} (h : s.Inv) (spare out : Nat) : (s.startWarm spare out).Inv :=
  inv_modSource (inv_moveTarget (inv_restartSlots h _) _ _) _ _

theorem inv_queueExchange {s : State} (h : s.Inv) (e : Exchange) : (s.queueExchange e).Inv :=
  inv_ite h (inv_same h)

theorem inv_assignSpares {s : State} (h : s.Inv) (n : Nat) : (State.assignSpares n s).Inv := by
  induction n generalizing s with
  | zero => exact h
  | succ n ih =>
    unfold State.assignSpares
    dsimp only
    split
    · exact h
    · split
      · exact ih (inv_startWarm (inv_same h) _ _)
      · refine ih ?_
        split
        · split
          · exact inv_reply (inv_same h) _ _ _ _
          · exact inv_same h
        · exact inv_same h

theorem inv_wantExchange {s : State} (h : s.Inv) (e : Exchange) : (s.wantExchange e).Inv :=
  inv_assignSpares (inv_queueExchange h _) _

theorem inv_moveSwitch {s : State} (h : s.Inv) : (s.moveSwitch).Inv :=
  inv_same (inv_setReg (inv_takeFree h) _ _)

theorem inv_exchange {s : State} (h : s.Inv) (e : Exchange) (into reason : Nat) : (s.exchange e into reason).Inv :=
  inv_moveSwitch (inv_ite (inv_bump (inv_setReg (inv_bump (inv_same (inv_modSource (inv_offSource
      (inv_modSource h _ _) _) _ _)) _ _) _ _) _ _) (inv_setReg (inv_bump (inv_same (inv_modSource (inv_offSource
      (inv_modSource h _ _) _) _ _)) _ _) _ _))

theorem inv_makeExchanges {s : State} (h : s.Inv) (onlyForced : Bool) : (s.makeExchanges onlyForced).Inv := by
  unfold State.makeExchanges
  exact inv_foldl (fun _ _ k => (by
      split
      · exact inv_ite (inv_exchange k _ _ _) k
      · exact k)) _ h

theorem inv_settleExchanges {s : State} (h : s.Inv) : (s.settleExchanges).Inv :=
  inv_ite (inv_makeExchanges h _) h

theorem inv_judgeFade {s : State} (h : s.Inv) (n : Nat) (now : Int) : (s.judgeFade n now).Inv :=
  inv_ite (inv_modSource (inv_modSource h _ _) _ _) (inv_ite (inv_queueExchange (inv_ite (inv_raise (inv_bump (inv_ite
      (inv_raise (inv_bump (inv_modSource (inv_modSource h _ _) _ _) _ _) _ _) (inv_modSource
      (inv_modSource h _ _) _ _)) _ _) _ _) (inv_ite (inv_raise (inv_bump (inv_modSource
      (inv_modSource h _ _) _ _) _ _) _ _) (inv_modSource (inv_modSource h _ _) _ _))) _) (inv_ite (inv_raise (inv_bump
      (inv_ite (inv_raise (inv_bump (inv_modSource (inv_modSource h _ _) _ _) _ _) _ _) (inv_modSource
      (inv_modSource h _ _) _ _)) _ _) _ _) (inv_ite (inv_raise (inv_bump (inv_modSource
      (inv_modSource h _ _) _ _) _ _) _ _) (inv_modSource (inv_modSource h _ _) _ _))))

theorem inv_doSourceFadeCheck {s : State} (h : s.Inv) (powers : List (Nat × Int)) : (doSourceFadeCheck powers s).Inv :=
  inv_ite h (inv_assignSpares (inv_foldl (fun _ _ k => inv_judgeFade k _ _) _ h) _)

theorem inv_answerSpare {s : State} (h : s.Inv) (l : Nat) : (s.answerSpare l).Inv := by
  unfold State.answerSpare
  split
  · split
    · exact inv_reply h _ _ _ _
    · exact h
  · exact h

theorem inv_doSpareReady {s : State} (h : s.Inv) (n : Nat) : (doSpareReady n s).Inv := by
  unfold doSpareReady
  dsimp only
  exact inv_ite h (inv_settleExchanges (by
      split
      · split
        · exact inv_answerSpare (inv_modSource h _ _) _
        · exact inv_modSource h _ _
      · exact inv_modSource h _ _))

theorem inv_doPrewarmTimeout {s : State} (h : s.Inv) (n : Nat) : (doPrewarmTimeout n s).Inv :=
  inv_ite h (inv_assignSpares (inv_same (inv_bump (inv_modSource h _ _) _ _)) _)

theorem inv_forceExchange {s : State} (h : s.Inv) (n : Nat) : (s.forceExchange n).Inv :=
  inv_ite (inv_makeExchanges (inv_same (inv_wantExchange h _)) _) (inv_same (inv_wantExchange h _))

theorem inv_doSourceSpare {s : State} (h : s.Inv) (hd : ReqHdr) (src spare rsv : Nat) : (doSourceSpare hd src spare rsv s).Inv :=
  inv_serve h _ _ _ _ _ _ (fun _ k => inv_ite (inv_startWarm (inv_same (inv_setJob k _ _ _ _)) _ _) (inv_wantExchange
      (inv_setJob k _ _ _ _) _))

theorem inv_furrowLostFault {s : State} (h : s.Inv) (f : Nat) : (s.furrowLostFault f).Inv :=
  inv_enterFault h _ _

theorem inv_handSources {s : State} (h : s.Inv) (f g : Nat) : (s.handSources f g).2.Inv := by
  unfold State.handSources
  refine inv_foldl_snd (fun p n k => ?_) _ h
  have km := inv_modSource k n fun x => { x with furrow := g }
  refine inv_ite_snd ?_ km
  dsimp only
  split
  · refine inv_exchange ?_ _ _ _
    split
    · exact inv_answerSpare km _
    · exact km
  · exact km

theorem inv_retireFurrow {s : State} (h : s.Inv) (f cause : Nat) : (s.retireFurrow f cause).Inv := by
  unfold State.retireFurrow
  dsimp only
  split
  · exact inv_furrowLostFault (inv_modWin (inv_abandonRun (inv_modFurrow (inv_setReg (inv_raise h _ _) _ _) _ _) _ _) _ _) _
  · exact inv_ite (inv_moveSwitch (inv_handSources (inv_markDue (inv_modWin (inv_modFurrow (inv_modWin (inv_abandonRun
      (inv_modFurrow (inv_setReg (inv_raise h _ _) _ _) _ _) _ _) _ _) _ _) _ _) _) _ _)) (inv_furrowLostFault
      (inv_moveSwitch (inv_handSources (inv_markDue (inv_modWin (inv_modFurrow (inv_modWin (inv_abandonRun (inv_modFurrow
      (inv_setReg (inv_raise h _ _) _ _) _ _) _ _) _ _) _ _) _ _) _) _ _)) _)

end Sys2Proof.Machine
end

section
/-!
SUPPORT. The Reaper and the Tally keep the invariant.
-/
namespace Sys2Proof.Machine

theorem inv_countIndexes {s : State} (h : s.Inv) (lane idx : Nat) (ds : List Desc) : (s.countIndexes lane idx ds).Inv := by
  unfold State.countIndexes
  dsimp only
  split
  · split
    · exact inv_raise (inv_bump h _ _) _ _
    · exact h
  · exact inv_raise (inv_bump (by
      split
      · exact inv_raise (inv_bump h _ _) _ _
      · exact h) _ _) _ _

theorem inv_chargeReads {s : State} (h : s.Inv) (ps : List Piece) : (s.chargeReads ps).Inv :=
  inv_bump (inv_bump48 h _ _) _ _

theorem inv_beginFetch {s : State} (h : s.Inv) (lane idx : Nat) (ds : List Desc) : (s.beginFetch lane idx ds).Inv := by
  unfold State.beginFetch
  split
  · exact h
  · exact inv_ite h (inv_modStep h _ _)

theorem inv_issue {s : State} (h : s.Inv) (lane idx : Nat) (spec : Bool) (p : Piece) (tag : Nat) :
    (s.issue lane idx spec p tag).Inv :=
  inv_modStep (inv_ite (inv_bump (inv_ite (inv_bump (inv_setFld (inv_bump48 h _ _) _ _ _ _) _ _) (inv_setFld
      (inv_bump48 h _ _) _ _ _ _)) _ _) (inv_ite (inv_bump (inv_setFld (inv_bump48 h _ _) _ _ _ _) _ _) (inv_setFld
      (inv_bump48 h _ _) _ _ _ _))) _ _

theorem inv_issueNext {s u : State} (h : s.Inv) {t : Step} {spec : Bool} (e : s.issueNext t spec = some u) : u.Inv := by
  unfold State.issueNext at e
  split at e
  · split at e
    · exact Option.some.inj e ▸ inv_issue h _ _ _ _ _
    · cases e
  · cases e

theorem inv_noteFault {s : State} (h : s.Inv) (a kind : Nat) (spec tear : Bool) : (s.noteFault a kind spec tear).Inv :=
  inv_setReg (inv_setReg (inv_setReg h _ _) _ _) _ _

theorem inv_stopAhead {s : State} (h : s.Inv) (t : Step) : (s.stopAhead t).Inv :=
  inv_ite h (inv_bump (inv_modStep h _ _) _ _)

theorem inv_speculate {s : State} (h : s.Inv) (t : Step) (r : DepR) : (s.speculate t r).Inv := by
  unfold State.speculate
  dsimp only
  exact inv_ite (inv_ite h (by
      split
      · exact inv_noteFault (inv_chargeReads h _) _ _ _ _
      · exact inv_modStep (inv_chargeReads h _) _ _)) h

theorem inv_advance {s u : State} (h : s.Inv) {t : Step} (e : s.advance t = some u) : u.Inv := by
  unfold State.advance at e
  split at e
  · cases e
  · split at e
    · cases e
    · have k := inv_stopAhead h t
      dsimp only at e
      split at e
      · exact Option.some.inj e ▸ inv_speculate k _ _
      · exact Option.some.inj e ▸ k
  · exact Option.some.inj e ▸ inv_ite (inv_beginFetch (inv_modStep h _ _) _ _ _) (inv_modStep h _ _)

theorem inv_reapOnce {s u : State} (h : s.Inv) {lane : Nat} (e : s.reapOnce lane = some u) : u.Inv := by
  unfold State.reapOnce at e
  split at e
  · cases e
  · split at e
    · cases e
    · split at e
      · exact inv_issueNext h e
      · exact inv_advance h e

theorem inv_reapStep {s : State} (h : s.Inv) (lane n : Nat) : (State.reapStep lane n s).Inv := by
  induction n generalizing s with
  | zero => exact h
  | succ n ih =>
    unfold State.reapStep
    split
    · exact h
    · next e => exact ih (inv_reapOnce h e)

theorem inv_reapSpec {s : State} (h : s.Inv) (lane n : Nat) : (State.reapSpec lane n s).Inv := by
  induction n generalizing s with
  | zero => exact h
  | succ n ih =>
    unfold State.reapSpec
    split
    · exact h
    · refine inv_ite h ?_
      split
      · exact h
      · next e => exact ih (inv_issueNext h e)

theorem inv_finishCopies {s : State} (h : s.Inv) (lane : Nat) : (s.finishCopies lane).Inv :=
  inv_modStep h _ _

theorem inv_deliver3 {s : State} (h : s.Inv) (lane idx n : Nat) : (State.deliver3 lane idx n s).Inv := by
  induction n generalizing s with
  | zero => exact h
  | succ n ih =>
    unfold State.deliver3
    split
    · exact h
    · refine inv_ite h ?_
      split
      · exact h
      · split
        · exact inv_abortStep h _ _ _
        · split
          · exact h
          · split
            · exact h
            · exact inv_abortStep h _ _ _
            · exact ih (inv_modStep (inv_bump48 (inv_writeMem h _ _ _) _ _) _ _)

theorem inv_deliverStep {s : State} (h : s.Inv) (lane : Nat) : (s.deliverStep lane).Inv := by
  unfold State.deliverStep
  dsimp only
  split
  · exact h
  · exact inv_modStep (inv_finishCopies (inv_foldl (fun _ _ k1 => inv_deliver3 k1 _ _ _) _ h) _) _ _

theorem inv_reap {s : State} (h : s.Inv) : (s.reap).Inv :=
  inv_foldl (fun _ _ k => inv_reapSpec k _ _) _ (inv_foldl (fun _ _ k => inv_reapStep (inv_deliverStep k _) _ _) _ h)

theorem inv_modPiece {s : State} (h : s.Inv) (lane : Nat) (tag : Nat) (g : Piece → Option Piece) : (s.modPiece lane tag g).Inv :=
  inv_modStep h _ _

theorem inv_listsDone {s : State} (h : s.Inv) (lane idx : Nat) : (s.listsDone lane idx).Inv := by
  unfold State.listsDone
  split
  · exact h
  · exact inv_ite h (inv_ite (inv_modStep h _ _) (inv_countIndexes (inv_modStep h _ _) _ _ _))

theorem inv_listReturn {s : State} (h : s.Inv) (lane idx tag : Nat) (x : Option Failure) : (s.listReturn lane idx tag x).Inv :=
  inv_listsDone (inv_modStep (inv_modPiece h _ _ _) _ _) _ _

theorem inv_dropReturn {s : State} (h : s.Inv) (d : Dropped) : (s.dropReturn d).Inv :=
  inv_ite (inv_bump (inv_same h) _ _) (inv_same h)

theorem inv_tagReturn {s : State} (h : s.Inv) (e : TagEv) : (s.tagReturn e).Inv := by
  unfold State.tagReturn
  dsimp only
  exact inv_ite (inv_ite (inv_bump (inv_same h) _ _) h) (by
      split
      · exact inv_ite (inv_bump (inv_bump (inv_modPiece (by
          split
          · exact inv_noteFault (inv_readMem h _ _ _) _ _ _ _
          · exact inv_readMem h _ _ _) _ _ _) _ _) _ _) (inv_ite (inv_listReturn (by
          split
          · exact inv_noteFault (inv_readMem h _ _ _) _ _ _ _
          · exact inv_readMem h _ _ _) _ _ _ _) (by
          split
          · exact inv_modPiece (by
              split
              · exact inv_noteFault (inv_readMem h _ _ _) _ _ _ _
              · exact inv_readMem h _ _ _) _ _ _
          · exact inv_ite (inv_bump (inv_modPiece (by
              split
              · exact inv_noteFault (inv_readMem h _ _ _) _ _ _ _
              · exact inv_readMem h _ _ _) _ _ _) _ _) (inv_modPiece (by
              split
              · exact inv_noteFault (inv_readMem h _ _ _) _ _ _ _
              · exact inv_readMem h _ _ _) _ _ _)))
      · split
        · exact inv_dropReturn (by
            split
            · exact inv_noteFault (inv_readMem h _ _ _) _ _ _ _
            · exact inv_readMem h _ _ _) _
        · exact inv_ite (inv_bump (inv_same h) _ _) h)

theorem inv_tagTimeout {s : State} (h : s.Inv) (tag : Nat) : (s.tagTimeout tag).Inv := by
  unfold State.tagTimeout
  dsimp only
  split
  · exact inv_ite (inv_bump (inv_modPiece (inv_noteFault (inv_bump (inv_same h) _ _) _ _ _ _) _ _ _) _ _) (inv_ite
      (inv_listReturn (inv_noteFault (inv_bump (inv_same h) _ _) _ _ _ _) _ _ _ _) (inv_ite (inv_bump (inv_modPiece
      (inv_noteFault (inv_bump (inv_same h) _ _) _ _ _ _) _ _ _) _ _) (inv_modPiece (inv_noteFault (inv_bump
      (inv_same h) _ _) _ _ _ _) _ _ _)))
  · split
    · exact inv_same (inv_noteFault (inv_bump (inv_same h) _ _) _ _ _ _)
    · exact h

theorem inv_matchFetch {s : State} (h : s.Inv) (t : Step) (f : Fetch) : (s.matchFetch t f).Inv :=
  inv_ite (inv_modStep (inv_bump (inv_bump (inv_same (inv_chargeReads h _)) _ _) _ _) _ _) (inv_countIndexes (inv_modStep
      (inv_bump (inv_bump (inv_same (inv_chargeReads h _)) _ _) _ _) _ _) _ _ _)

theorem inv_matchSpec {s : State} (h : s.Inv) (lane : Nat) : (s.matchSpec lane).Inv := by
  unfold State.matchSpec
  split
  · exact h
  · exact inv_foldl (fun _ _ k1 => inv_matchFetch k1 _ _) _ h

theorem inv_modPass {s : State} (h : s.Inv) (f lane rec : Nat) (g : Pass → Pass) : (s.modPass f lane rec g).Inv :=
  inv_modFurrow h _ _

theorem inv_notePeak {s : State} (h : s.Inv) (f : Nat) : (s.notePeak f).Inv :=
  inv_setFld h _ _ _ _

theorem inv_saturate {s : State} (h : s.Inv) (lane f row rec n : Nat) : (s.saturate lane f row rec n).Inv :=
  inv_ite h (inv_abortStep (inv_setFld (inv_setReg (inv_setFld (inv_bump h _ _) _ _ _ _) _ _) _ _ _ _) _ _ _)

theorem inv_writeJoined {s : State} (h : s.Inv) (t : Step) (mask slot row : Nat) (v : List Int) :
    (s.writeJoined t mask slot row v).Inv := by
  unfold State.writeJoined
  split
  · exact h
  · exact inv_writeMem h _ _ _

theorem inv_closeChain {s : State} (h : s.Inv) (lane mask row : Nat) : (s.closeChain lane mask row).Inv := by
  unfold State.closeChain
  dsimp only
  split
  · split
    · exact inv_saturate (inv_modStep (inv_writeJoined h _ _ _ _ _) _ _) _ _ _ _ _
    · exact h
  · exact h

theorem inv_chainHop {s : State} (h : s.Inv) (lane rec mask slot : Nat) : (s.chainHop lane rec mask slot).Inv := by
  unfold State.chainHop
  dsimp only
  split
  · split
    · exact h
    · exact inv_ite h (inv_closeChain (inv_saturate (inv_notePeak (inv_modStep h _ _) _) _ _ _ _ _) _ _ _)
  · exact h

theorem inv_treeLevels {s : State} (h : s.Inv) (lane mask row n : Nat) (l : List (Nat × List Int × Nat)) :
    (State.treeLevels lane mask row n l s).Inv := by
  induction n generalizing s l with
  | zero => exact h
  | succ n ih =>
    unfold State.treeLevels
    split
    · exact inv_modStep (inv_writeJoined h _ _ _ _ _) _ _
    · exact ih (inv_foldl (fun _ _ k => inv_saturate k _ _ _ _ _) _ h) _
    · exact h

theorem inv_treeHop {s : State} (h : s.Inv) (lane mask : Nat) : (s.treeHop lane mask).Inv := by
  unfold State.treeHop
  split
  · exact h
  · split
    · exact h
    · exact inv_treeLevels h _ _ _ _ _

theorem inv_checkJoin {s : State} (h : s.Inv) (lane rec mask : Nat) : (s.checkJoin lane rec mask).Inv := by
  unfold State.checkJoin
  dsimp only
  split
  · exact h
  · split
    · exact h
    · exact inv_abortStep (inv_bump (inv_setReg h _ _) _ _) _ _ _

theorem inv_addRow {s : State} (h : s.Inv) (lane : Nat) (w : WaitRow) : (s.addRow lane w).Inv := by
  unfold State.addRow
  dsimp only
  split
  · split
    · exact h
    · split
      · exact inv_abortStep h _ _ _
      · exact inv_ite (inv_saturate (inv_ite (inv_writeMem (inv_bump48 h _ _) _ _ _) (inv_modStep
          (inv_bump48 h _ _) _ _)) _ _ _ _ _) (inv_checkJoin (inv_ite (inv_closeChain (inv_saturate (inv_ite (inv_writeMem
          (inv_bump48 h _ _) _ _ _) (inv_modStep (inv_bump48 h _ _) _ _)) _ _ _ _ _) _ _ _) (inv_saturate (inv_ite
          (inv_writeMem (inv_bump48 h _ _) _ _ _) (inv_modStep (inv_bump48 h _ _) _ _)) _ _ _ _ _)) _ _ _)
  · exact h

theorem inv_retryWaits {s : State} (h : s.Inv) (lane n : Nat) : (State.retryWaits lane n s).Inv := by
  induction n generalizing s with
  | zero => exact h
  | succ n ih =>
    unfold State.retryWaits
    split
    · exact h
    · split
      · exact h
      · exact ih (inv_addRow (inv_modStep h _ _) _ _)

theorem inv_freeWaits {s : State} (h : s.Inv) (lane : Nat) : (s.freeWaits lane).Inv :=
  inv_retryWaits h _ _

theorem inv_contribute {s : State} (h : s.Inv) (lane : Nat) (w : WaitRow) : (s.contribute lane w).Inv := by
  unfold State.contribute
  dsimp only
  split
  · exact h
  · exact inv_ite (inv_modStep h _ _) (inv_freeWaits (inv_addRow h _ _) _)

theorem inv_finishStreams {s : State} (h : s.Inv) (lane : Nat) : (s.finishStreams lane).Inv := by
  unfold State.finishStreams
  dsimp only
  split
  · exact h
  · exact inv_foldl (fun _ _ k1 => inv_modStep k1 _ _) _ (inv_furrows (inv_foldl (fun _ _ k1 => inv_ite (inv_bump
      (inv_bump k1 _ _) _ _) (inv_bump k1 _ _)) _ h) (by simp))

theorem inv_settle {s : State} (h : s.Inv) : (s.settle).Inv :=
  inv_reap (inv_foldl (fun _ _ k => inv_finishStreams k _) _ (inv_reap h))

theorem inv_doReadTagReturn {s : State} (h : s.Inv) (e : TagEv) : (doReadTagReturn e s).Inv :=
  inv_settle (inv_tagReturn h _)

theorem inv_doTagTimeout {s : State} (h : s.Inv) (tag : Nat) : (doTagTimeout tag s).Inv :=
  inv_settle (inv_tagTimeout h _)

theorem inv_doWindrowHop {s : State} (h : s.Inv) (lane rec : Nat) : (doWindrowHop lane rec s).Inv := by
  unfold doWindrowHop
  dsimp only
  split
  · exact h
  · split
    · exact h
    · exact inv_ite h (inv_settle (inv_finishStreams (inv_freeWaits (inv_checkJoin (inv_ite (inv_chainHop h _ _ _ _)
        (inv_treeHop h _ _)) _ _ _) _) _))

theorem inv_writeColumns {s : State} (h : s.Inv) (lane a stride : Nat) (cols : List (List Byte)) :
    (s.writeColumns lane a stride cols).Inv :=
  inv_foldl (fun _ _ k => inv_writeMem k _ _ _) _ h

theorem inv_writeCodes {s : State} (h : s.Inv) (lane : Nat) (r : EpilogueR) (bytes a stride : Nat) (cs : List (List Code)) :
    (s.writeCodes lane r bytes a stride cs).Inv :=
  inv_writeMem (inv_writeColumns h _ _ _ _) _ _ _

theorem inv_epiWrite {s : State} (h : s.Inv) (lane : Nat) (r : EpilogueR) (ys : List (List Nat)) : (s.epiWrite lane r ys).2.Inv := by
  unfold State.epiWrite
  dsimp only
  split
  · exact inv_writeCodes h _ _ _ _ _ _
  · exact inv_writeCodes h _ _ _ _ _ _
  · exact inv_writeColumns h _ _ _ _
  · exact inv_writeColumns h _ _ _ _

theorem inv_countSlots {s : State} (h : s.Inv) (r : EpilogueR) (cs : List (List Code)) (rerun : Bool) :
    (s.countSlots r cs rerun).Inv := by
  unfold State.countSlots
  dsimp only
  exact inv_foldl (fun _ _ k => (by
      split
      · exact k
      · exact inv_ite k (inv_ite (inv_bump (inv_bump (inv_bump48 k _ _) _ _) _ _) (inv_bump (inv_bump48 k _ _) _ _)))) _ h

theorem inv_epiStats {s : State} (h : s.Inv) (lane : Nat) (r : EpilogueR) (ys : List (List Nat)) : (s.epiStats lane r ys).Inv :=
  inv_ite h (inv_ite (inv_writeMem h _ _ _) (inv_ite (inv_bump (inv_bump (inv_writeMem h _ _ _) _ _) _ _) (inv_bump
      (inv_writeMem h _ _ _) _ _)))

theorem inv_doEpilogue {s : State} (h : s.Inv) (lane rec : Nat) : (doEpilogue lane rec s).Inv := by
  unfold doEpilogue
  dsimp only
  split
  · exact h
  · split
    · exact inv_ite h (by
        split
        · exact inv_abortStep h _ _ _
        · exact inv_modStep (inv_epiStats (inv_countSlots (inv_epiWrite h _ _ _) _ _ _) _ _ _) _ _)
    · exact h

theorem inv_epiRerun {s : State} (h : s.Inv) (lane rec : Nat) (r : EpilogueR) : (s.epiRerun lane rec r).2.Inv := by
  unfold State.epiRerun
  dsimp only
  split
  · exact inv_abortStep h _ _ _
  · exact inv_countSlots (inv_writeCodes h _ _ _ _ _ _) _ _ _

theorem inv_doClipDecision {s : State} (h : s.Inv) (lane rec : Nat) : (doClipDecision lane rec s).Inv := by
  unfold doClipDecision
  dsimp only
  split
  · exact h
  · split
    · exact inv_ite h (inv_settle (inv_modStep (inv_writeMem (inv_ite_snd (inv_epiRerun h _ _ _) h) _ _ _) _ _))
    · exact h

end Sys2Proof.Machine
end

section
/-!
SUPPORT. The Furrows keep the invariant.
-/
namespace Sys2Proof.Machine

theorem inv_beginLoad {s : State} (h : s.Inv) (t : Step) (idx : Nat) (r : BayLoadR) (slot f : Nat) :
    (s.beginLoad t idx r slot f).Inv := by
  unfold State.beginLoad
  dsimp only
  split
  · exact inv_abortStep h _ _ _
  · exact inv_bump (inv_setFurrow h _ _) _ _

theorem inv_reloadBays {s : State} (h : s.Inv) (t : Step) (rec : Nat) : (s.reloadBays t rec).Inv := by
  unfold State.reloadBays
  split
  · exact inv_abortStep h _ _ _
  · exact inv_foldl (fun _ _ k1 => (by
      split
      · exact inv_ite (inv_beginLoad k1 _ _ _ _ _) k1
      · exact k1)) _ h
  · exact h

theorem inv_doBayLoad {s : State} (h : s.Inv) (lane rec : Nat) : (doBayLoad lane rec s).Inv := by
  unfold doBayLoad
  dsimp only
  split
  · exact h
  · exact inv_ite h (inv_ite (inv_reloadBays h _ _) (by
      split
      · split
        · exact inv_ite h (inv_foldl (fun _ _ k3 => inv_modStep (inv_beginLoad k3 _ _ _ _ _) _ _) _ h)
        · exact h
      · exact h))

theorem inv_bayLoaded {s : State} (h : s.Inv) (slot : Nat) (tile : Tile) : (s.bayLoaded slot tile).Inv :=
  inv_same h

theorem inv_doBayLoadComplete {s : State} (h : s.Inv) (f : Nat) : (doBayLoadComplete f s).Inv := by
  unfold doBayLoadComplete
  dsimp only
  split
  · exact h
  · exact inv_settle (inv_bayLoaded (inv_setReg (inv_setFurrow h _ _) _ _) _ _)

theorem inv_skew {s : State} (h : s.Inv) (lane rec leader : Nat) (zp : Bool) (want got : Nat) :
    (s.skew lane rec leader zp want got).Inv :=
  inv_abortStep (inv_bump (inv_setReg (inv_setReg h _ _) _ _) _ _) _ _ _

theorem inv_startStream {s : State} (h : s.Inv) (t : Step) (v : Live) (r : StreamR) (f : Fetch) : (s.startStream t v r f).Inv := by
  unfold State.startStream
  dsimp only
  split
  · exact inv_skew (inv_ite (inv_modStep (inv_foldl (fun _ _ k1 => inv_ite (inv_bump (inv_modFurrow k1 _ _) _ _)
      (inv_modFurrow k1 _ _)) _ h) _ _) (inv_checkJoin (inv_modStep (inv_foldl (fun _ _ k1 => inv_ite (inv_bump
      (inv_modFurrow k1 _ _) _ _) (inv_modFurrow k1 _ _)) _ h) _ _) _ _ _)) _ _ _ _ _ _
  · exact inv_finishStreams (inv_ite (inv_modStep (inv_foldl (fun _ _ k1 => inv_ite (inv_bump (inv_modFurrow k1 _ _) _ _)
      (inv_modFurrow k1 _ _)) _ h) _ _) (inv_checkJoin (inv_modStep (inv_foldl (fun _ _ k1 => inv_ite (inv_bump
      (inv_modFurrow k1 _ _) _ _) (inv_modFurrow k1 _ _)) _ h) _ _) _ _ _)) _

theorem inv_ensureFetch {s : State} (h : s.Inv) (t : Step) (rec : Nat) : (s.ensureFetch t rec).Inv := by
  unfold State.ensureFetch
  exact inv_ite h (by
      split
      · exact inv_beginFetch h _ _ _
      · exact inv_abortStep h _ _ _
      · exact h)

theorem inv_doStream {s : State} (h : s.Inv) (lane rec : Nat) : (doStream lane rec s).Inv := by
  unfold doStream
  dsimp only
  split
  · exact h
  · split
    · split
      · exact inv_ite h (by
          split
          · exact inv_settle (inv_ensureFetch h _ _)
          · exact inv_ite (inv_settle (inv_ensureFetch h _ _)) (by
              split
              · exact inv_abortStep (inv_settle (inv_ensureFetch h _ _)) _ _ _
              · exact inv_settle (inv_startStream (inv_settle (inv_ensureFetch h _ _)) _ _ _ _)))
      · exact h
    · exact h

theorem inv_countSymbols {s : State} (h : s.Inv) (f off n : Nat) : (s.countSymbols f off n).Inv :=
  inv_modFurrow (inv_bump48 h _ _) _ _

theorem inv_light {s : State} (h : s.Inv) (f : Nat) (b : Bool) : (s.light f b).Inv :=
  inv_swapSet (inv_modFurrow h _ _) _

theorem inv_swapBay {s : State} (h : s.Inv) (f : Nat) (b : Bool) : (s.swapBay f b).Inv :=
  inv_light (inv_countSymbols h _ _ _) _ _

theorem inv_noteCause {s : State} (h : s.Inv) (f status : Nat) : (s.noteCause f status).Inv :=
  inv_setReg h _ _

theorem inv_stallAbort {s : State} (h : s.Inv) (t : Step) (f cause : Nat) : (s.stallAbort t f cause).Inv :=
  inv_abortStep (inv_noteCause h _ _) _ _ _

theorem inv_darkSwap {s : State} (h : s.Inv) (t : Step) (f : Nat) : (s.darkSwap t f).Inv :=
  inv_stallAbort (inv_setReg h _ _) _ _ _

theorem inv_doPassStart {s : State} (h : s.Inv) (f : Nat) (light : Bool) : (doPassStart f light s).Inv := by
  unfold doPassStart
  dsimp only
  split
  · exact h
  · split
    · exact h
    · split
      · exact h
      · exact inv_ite h (inv_ite (inv_darkSwap h _ _) (inv_modPass (inv_modFurrow (inv_ite (inv_swapBay h _ _) h) _ _) _ _ _ _))

theorem inv_doWinnowFitSlice {s : State} (h : s.Inv) : (doWinnowFitSlice s).Inv := by
  unfold doWinnowFitSlice
  split
  · exact h
  · exact inv_ite (inv_fitSlice h _) h

theorem inv_encode {s : State} (h : s.Inv) (fmt : Nat) (bytes : List Byte) : (s.encode fmt bytes).Inv :=
  inv_bump48 (inv_bump (inv_bump h _ _) _ _) _ _

theorem inv_sendOn {s : State} (h : s.Inv) (lane rec f row fmt : Nat) (bytes : List Byte) (exps zp : Nat) :
    (s.sendOn lane rec f row fmt bytes exps zp).Inv :=
  inv_notePeak (inv_countSymbols (inv_modPass (inv_modFurrow h _ _) _ _ _ _) _ _ _) _

theorem inv_noteDelivered {s : State} (h : s.Inv) (lane rec k : Nat) : (s.noteDelivered lane rec k).Inv :=
  inv_modStep h _ _

theorem inv_arriveOn {s : State} (h : s.Inv) (lane rec : Nat) (ev : ArrivalEv) (f : Nat) : (s.arriveOn lane rec ev f).Inv := by
  unfold State.arriveOn
  dsimp only
  split
  · exact inv_ite h (by
      split
      · exact inv_skew h _ _ _ _ _ _
      · exact h
      · exact inv_ite (inv_abortStep h _ _ _) h
      · exact inv_ite (inv_noteDelivered (inv_sendOn (inv_ite (inv_encode h _ _) h) _ _ _ _ _ _ _ _) _ _ _) h)
  · exact h

theorem inv_checkEnd {s : State} (h : s.Inv) (lane rec leader : Nat) : (s.checkEnd lane rec leader).Inv := by
  unfold State.checkEnd
  split
  · exact h
  · exact inv_ite (by
      split
      · exact inv_skew h _ _ _ _ _ _
      · exact h) h

theorem inv_doRowChunkArrival {s : State} (h : s.Inv) (lane rec : Nat) (ev : ArrivalEv) : (doRowChunkArrival lane rec ev s).Inv := by
  unfold doRowChunkArrival
  dsimp only
  split
  · exact h
  · split
    · exact inv_ite h (inv_settle (inv_checkEnd (inv_foldl (fun _ _ k2 => inv_arriveOn k2 _ _ _ _) _ h) _ _ _))
    · exact h

theorem inv_doMcastCredit {s : State} (h : s.Inv) (lane rec leader : Nat) : (doMcastCredit lane rec leader s).Inv := by
  unfold doMcastCredit
  dsimp only
  split
  · exact h
  · split
    · exact inv_ite h (inv_ite (inv_noteDelivered (inv_foldl (fun _ _ k2 => inv_modPass k2 _ _ _ _) _ (inv_foldl
        (fun _ _ k2 => inv_modFurrow k2 _ _) _ h)) _ _ _) (inv_foldl (fun _ _ k2 => inv_modFurrow k2 _ _) _ h))
    · exact h

theorem inv_stallOut {s : State} (h : s.Inv) (t : Step) (f : Nat) : (s.stallOut t f).Inv :=
  inv_stallAbort (inv_ite (inv_setReg h _ _) h) _ _ _

theorem inv_doMcastTimeout {s : State} (h : s.Inv) (lane rec leader : Nat) : (doMcastTimeout lane rec leader s).Inv := by
  unfold doMcastTimeout
  dsimp only
  split
  · exact h
  · split
    · exact h
    · exact inv_ite h (by
        split
        · exact h
        · exact inv_ite h (by
            split
            · exact inv_stallOut h _ _
            · exact inv_abortStep (inv_bump (inv_setReg h _ _) _ _) _ _ _))

theorem inv_doStallTimeout {s : State} (h : s.Inv) (f cause : Nat) : (doStallTimeout f cause s).Inv := by
  unfold doStallTimeout
  split
  · exact h
  · exact inv_ite h (inv_stallOut h _ _)

theorem inv_furrowAbort {s : State} (h : s.Inv) (lane f rec : Nat) (x : Failure) : (s.furrowAbort lane f rec x).Inv := by
  unfold State.furrowAbort
  split
  · exact h
  · exact inv_ite (inv_abortStep (inv_noteAbort h _ _) _ _ _) h

theorem inv_limitAbort {s : State} (h : s.Inv) (lane f rec : Nat) (ambiguous : Bool) : (s.limitAbort lane f rec ambiguous).Inv := by
  unfold State.limitAbort
  split
  · exact inv_furrowAbort h _ _ _ _
  · exact inv_furrowAbort h _ _ _ _

theorem inv_freeLines {s : State} (h : s.Inv) (lane rec : Nat) : (s.freeLines lane rec).Inv :=
  inv_modStep h _ _

theorem inv_confirm {s : State} (h : s.Inv) (f : Nat) (p : Pass) (c : Chunk) (part : Nat) (a : Attempt) :
    (s.confirm f p c part a).Inv :=
  inv_finishStreams (inv_freeWaits (inv_freeLines (inv_contribute (inv_ite (inv_collect (inv_ite (inv_bump (inv_modPass
      (inv_modFurrow h _ _) _ _ _ _) _ _) (inv_modPass (inv_modFurrow h _ _) _ _ _ _)) _ _) (inv_ite (inv_bump (inv_modPass
      (inv_modFurrow h _ _) _ _ _ _) _ _) (inv_modPass (inv_modFurrow h _ _) _ _ _ _))) _ _) _ _) _) _

theorem inv_queueReplay {s : State} (h : s.Inv) (f : Nat) (c : Chunk) : (s.queueReplay f c).Inv :=
  inv_modFurrow h _ _

theorem inv_refuse {s : State} (h : s.Inv) (f : Nat) (tile : Tile) (c : Chunk) (ambiguous : Bool) (mm : Option
    (Nat × Nat)) : (s.refuse f tile c ambiguous mm).Inv := by
  unfold State.refuse
  dsimp only
  exact inv_ite (inv_furrowAbort (by
      split
      · exact inv_setReg (inv_bump (inv_ite (inv_bump h _ _) h) _ _) _ _
      · exact inv_ite (inv_bump h _ _) h) _ _ _ _) (inv_ite (inv_limitAbort (by
      split
      · exact inv_setReg (inv_bump (inv_ite (inv_bump h _ _) h) _ _) _ _
      · exact inv_ite (inv_bump h _ _) h) _ _ _ _) (inv_queueReplay (by
      split
      · exact inv_setReg (inv_bump (inv_ite (inv_bump h _ _) h) _ _) _ _
      · exact inv_ite (inv_bump h _ _) h) _ _))

theorem inv_doRowChunkDecision {s : State} (h : s.Inv) (f : Nat) (devs : List SampleDev) : (doRowChunkDecision f devs s).Inv := by
  unfold doRowChunkDecision
  dsimp only
  split
  · exact h
  · split
    · split
      · exact inv_ite h (inv_ite (inv_refuse h _ _ _ _ _) (inv_settle (inv_confirm h _ _ _ _ _)))
      · exact h
    · exact h

theorem inv_replayAt {s : State} (h : s.Inv) (t : Step) (c : Chunk) (f : Nat) (p : Pass) : (s.replayAt t c f p).Inv := by
  unfold State.replayAt
  dsimp only
  split
  · exact inv_bump (inv_countSymbols (by
      split
      · exact inv_light (inv_light h _ _) _ _
      · exact h) _ _ _) _ _
  · exact inv_setFurrow (inv_ite (inv_bump (inv_bump (inv_countSymbols (by
      split
      · exact inv_light (inv_light h _ _) _ _
      · exact h) _ _ _) _ _) _ _) (inv_bump (inv_countSymbols (by
      split
      · exact inv_light (inv_light h _ _) _ _
      · exact h) _ _ _) _ _)) _ _

theorem inv_doRowChunkReplay {s : State} (h : s.Inv) (ev : ReplayEv) : (doRowChunkReplay ev s).Inv := by
  unfold doRowChunkReplay
  dsimp only
  split
  · exact h
  · split
    · exact h
    · exact inv_ite h (by
        split
        · exact inv_skew h _ _ _ _ _ _
        · split
          · exact inv_darkSwap h _ _
          · exact inv_modStep (inv_foldl (fun _ _ k4 => inv_replayAt (k4) _ _ _ _) _ h) _ _)

end Sys2Proof.Machine
end

section
/-!
SUPPORT. The Gleaners, the Mills and the flow of records keep the invariant.
-/
namespace Sys2Proof.Machine

theorem inv_gleanRead {s : State} (h : s.Inv) (lane rec g a n : Nat) : (s.gleanRead lane rec g a n).2.Inv := by
  unfold State.gleanRead
  dsimp only
  split
  · exact inv_readMem h _ _ _
  · exact inv_abortStep (inv_readMem h _ _ _) _ _ _

theorem inv_appendRow {s : State} (h : s.Inv) (lane rec : Nat) (r : GleanR) (x : Session) (c : Column)
    (i hd kv scale : Nat) : (s.appendRow lane rec r x c i hd kv scale).2.Inv := by
  unfold State.appendRow
  dsimp only
  split
  · next e => exact inv_snd e (inv_gleanRead h _ _ _ _ _)
  · next e => exact inv_bump (inv_bump (inv_bump (inv_writeMem (inv_snd e (inv_gleanRead h _ _ _ _ _)) _ _ _) _ _) _ _) _ _

theorem inv_appends {s : State} (h : s.Inv) (lane rec : Nat) (r : GleanR) (sc : List (Nat × List (Nat × Nat)))
    (l : List ((Column × Nat) × Nat × Nat)) : (State.appends lane rec r sc l s).2.Inv := by
  induction l generalizing s with
  | nil => exact h
  | cons a t ih =>
    unfold State.appends
    dsimp only
    split
    · exact ih h
    · split
      · next e => exact inv_snd e (inv_appendRow h _ _ _ _ _ _ _ _ _)
      · next e => exact ih (inv_snd e (inv_appendRow h _ _ _ _ _ _ _ _ _))

theorem inv_gleanReads {s : State} (h : s.Inv) (lane rec g : Nat) (l : List (Nat × Nat)) :
    (State.gleanReads lane rec g l s).2.Inv := by
  induction l generalizing s with
  | nil => exact h
  | cons p t ih =>
    unfold State.gleanReads
    split
    · next e => exact inv_snd e (inv_gleanRead h _ _ _ _ _)
    · next e =>
      have k := ih (inv_snd e (inv_gleanRead h _ _ _ _ _))
      split
      · next e1 => exact inv_snd e1 k
      · next e1 => exact inv_snd e1 k

theorem inv_readScales {s : State} (h : s.Inv) (lane rec layer : Nat) (x : Session) (l : List Nat) :
    (State.readScales lane rec layer x l s).2.Inv := by
  induction l generalizing s with
  | nil => exact h
  | cons p t ih =>
    unfold State.readScales
    dsimp only
    split
    · next e => exact inv_snd e (inv_gleanRead h _ _ _ _ _)
    · next e =>
      have k := fun a n => ih (inv_bump (inv_snd e (inv_gleanRead h _ _ _ _ _)) a n)
      split
      · next e1 => exact inv_snd e1 (k _ _)
      · next e1 => exact inv_snd e1 (k _ _)

theorem inv_allScales {s : State} (h : s.Inv) (lane rec : Nat) (r : GleanR) (l : List Nat) :
    (State.allScales lane rec r l s).2.Inv := by
  induction l generalizing s with
  | nil => exact h
  | cons p t ih =>
    unfold State.allScales
    split
    · exact ih h
    · split
      · next e => exact inv_snd e (inv_readScales h _ _ _ _ _)
      · next e =>
        have k := ih (inv_snd e (inv_readScales h _ _ _ _ _))
        split
        · next e1 => exact inv_snd e1 k
        · next e1 => exact inv_snd e1 k

theorem inv_kvRow {s : State} (h : s.Inv) (lane rec : Nat) (r : GleanR) (x : Session) (c : Column) (hd kv pos : Nat) :
    (s.kvRow lane rec r x c hd kv pos).2.Inv := by
  unfold State.kvRow
  dsimp only
  exact inv_ite_snd (by
      split
      · next e => exact inv_snd e (inv_gleanReads h _ _ _ _)
      · next e => exact inv_snd e (inv_gleanReads h _ _ _ _)) (by
      split
      · next e => exact inv_snd e (inv_gleanRead h _ _ _ _ _)
      · next e => exact inv_snd e (inv_gleanRead h _ _ _ _ _))

theorem inv_takePosition {s : State} (h : s.Inv) (r : GleanR) (x : Session) (c : Column) (hd gq p : Nat) :
    (s.takePosition r x c hd gq p).Inv :=
  inv_ite (inv_bump48 (inv_bump48 h _ _) _ _) (inv_bump48 h _ _)

theorem inv_attend {s : State} (h : s.Inv) (lane rec : Nat) (r : GleanR) (x : Session) (c : Column) (hd gq : Nat)
    (q : List Nat) (hk : Nat) (l : List Nat) (a : Attn) : (State.attend lane rec r x c hd gq q hk l a s).2.Inv := by
  induction l generalizing s a with
  | nil => exact h
  | cons p t ih =>
    unfold State.attend
    have k0 := inv_kvRow (inv_takePosition h r x c hd gq p) lane rec r x c hd 0 p
    split
    · next e => exact inv_snd e k0
    · next e =>
      split
      · next e1 => exact inv_snd e1 (inv_kvRow (inv_snd e k0) _ _ _ _ _ _ _ _)
      · next e1 => exact ih (inv_snd e1 (inv_kvRow (inv_snd e k0) _ _ _ _ _ _ _ _)) _

theorem inv_queryHead {s : State} (h : s.Inv) (lane rec : Nat) (r : GleanR) (x : Session) (c : Column) (i gq : Nat)
    (hs : Nat × Nat) : (s.queryHead lane rec r x c i gq hs).2.Inv := by
  unfold State.queryHead
  dsimp only
  split
  · next e => exact inv_snd e (inv_gleanRead h _ _ _ _ _)
  · next e =>
      split
      · next e1 => exact inv_snd e1 (inv_attend (inv_snd e (inv_gleanRead h _ _ _ _ _)) _ _ _ _ _ _ _ _ _ _ _)
      · next e1 => exact inv_ite (inv_bump (inv_writeMem (inv_snd e1 (inv_attend (inv_snd e
          (inv_gleanRead h _ _ _ _ _)) _ _ _ _ _ _ _ _ _ _ _)) _ _ _) _ _) (inv_writeMem (inv_snd e1 (inv_attend (inv_snd e
          (inv_gleanRead h _ _ _ _ _)) _ _ _ _ _ _ _ _ _ _ _)) _ _ _)

theorem inv_queries {s : State} (h : s.Inv) (lane rec : Nat) (r : GleanR) (sc : List (Nat × List (Nat × Nat)))
    (l : List ((Column × Nat) × Nat)) : (State.queries lane rec r sc l s).2.Inv := by
  induction l generalizing s with
  | nil => exact h
  | cons a t ih =>
    unfold State.queries
    dsimp only
    split
    · exact ih h
    · split
      · next e => exact inv_snd e (inv_queryHead h _ _ _ _ _ _ _ _)
      · next e => exact ih (inv_snd e (inv_queryHead h _ _ _ _ _ _ _ _))

theorem inv_gleanWork {s : State} (h : s.Inv) (t : Step) (rec : Nat) (r : GleanR) : (s.gleanWork t rec r).2.Inv := by
  unfold State.gleanWork
  dsimp only
  split
  · next e => exact inv_snd e (inv_allScales h _ _ _ _)
  · next e =>
      split
      · next e1 => exact inv_snd e1 (inv_ite_snd (inv_appends (inv_ite (inv_modStep (inv_snd e
          (inv_allScales h _ _ _ _)) _ _) (inv_snd e (inv_allScales h _ _ _ _))) _ _ _ _ _) (inv_ite (inv_modStep (inv_snd e
          (inv_allScales h _ _ _ _)) _ _) (inv_snd e (inv_allScales h _ _ _ _))))
      · next e1 => exact inv_ite_snd (inv_queries (inv_snd e1 (inv_ite_snd (inv_appends (inv_ite (inv_modStep (inv_snd e
          (inv_allScales h _ _ _ _)) _ _) (inv_snd e (inv_allScales h _ _ _ _))) _ _ _ _ _) (inv_ite (inv_modStep (inv_snd e
          (inv_allScales h _ _ _ _)) _ _) (inv_snd e (inv_allScales h _ _ _ _))))) _ _ _ _ _) (inv_snd e1 (inv_ite_snd
          (inv_appends (inv_ite (inv_modStep (inv_snd e (inv_allScales h _ _ _ _)) _ _) (inv_snd e
          (inv_allScales h _ _ _ _))) _ _ _ _ _) (inv_ite (inv_modStep (inv_snd e (inv_allScales h _ _ _ _)) _ _) (inv_snd e
          (inv_allScales h _ _ _ _)))))

theorem inv_doGlean {s : State} (h : s.Inv) (lane rec : Nat) : (doGlean lane rec s).Inv := by
  unfold doGlean
  dsimp only
  split
  · exact h
  · split
    · exact h
    · split
      · exact inv_ite h (by
          split
          · next e3 => exact inv_snd e3 (inv_gleanWork (inv_foldl (fun _ _ k4 => inv_setReg (k4) _ _) _ h) _ _ _)
          · next e3 => exact inv_settle (inv_modStep (inv_snd e3 (inv_gleanWork (inv_foldl (fun _ _ k4 => inv_setReg
              (k4) _ _) _ h) _ _ _)) _ _))
      · exact h

theorem inv_millOut {s : State} (h : s.Inv) (t : Step) (r : MillOpR) (m i : Nat) (y : List Nat) : (s.millOut t r m i y).Inv :=
  inv_ite (inv_bump (inv_writeMem h _ _ _) _ _) (inv_bump (inv_bump (inv_ite (inv_writeMem (inv_writeMem
      (inv_writeMem h _ _ _) _ _ _) _ _ _) (inv_writeMem (inv_writeMem h _ _ _) _ _ _)) _ _) _ _)

theorem inv_runTithe {s : State} (h : s.Inv) (t : Step) (r : MillOpR) (m i : Nat) : (s.runTithe t r m i).Inv :=
  inv_bump (inv_bump (inv_bump (inv_foldl (fun _ _ k => inv_writeMem k _ _ _) _ h) _ _) _ _) _ _

theorem inv_runRouter {s : State} (h : s.Inv) (t : Step) (r : MillOpR) (mills : List Nat) : (s.runRouter t r mills).Inv :=
  inv_modStep (inv_writeMem (inv_foldl (fun _ _ k => inv_bump (inv_writeMem k _ _ _) _ _) _ h) _ _ _) _ _

theorem inv_runSample {s : State} (h : s.Inv) (t : Step) (r : MillOpR) (m i : Nat) : (s.runSample t r m i).Inv :=
  inv_bump (inv_bump (inv_writeMem h _ _ _) _ _) _ _

theorem inv_runDraft {s : State} (h : s.Inv) (t : Step) (r : MillOpR) (m i : Nat) : (s.runDraft t r m i).Inv := by
  unfold State.runDraft
  dsimp only
  split
  · exact h
  · exact inv_bump (inv_bump (inv_bump (inv_modStep h _ _) _ _) _ _) _ _

theorem inv_runItem {s : State} (h : s.Inv) (t : Step) (r : MillOpR) (m i : Nat) : (s.runItem t r m i).Inv := by
  unfold State.runItem
  dsimp only
  exact inv_bump (by
      split
      · exact inv_writeMem h _ _ _
      · exact inv_runTithe h _ _ _ _
      · exact h
      · exact inv_runSample h _ _ _ _
      · exact inv_runDraft h _ _ _ _
      · exact inv_millOut h _ _ _ _ _) _ _

theorem inv_runItems {s : State} (h : s.Inv) (t : Step) (rec : Nat) (r : MillOpR) (mills l : List Nat) :
    (State.runItems t rec r mills l s).Inv := by
  induction l generalizing s with
  | nil => exact h
  | cons i rest ih =>
    unfold State.runItems
    split
    · exact inv_abortStep h _ _ _
    · exact ih (inv_runItem h _ _ _ _)

theorem inv_doMillOp {s : State} (h : s.Inv) (lane rec : Nat) : (doMillOp lane rec s).Inv := by
  unfold doMillOp
  dsimp only
  split
  · exact h
  · split
    · exact h
    · split
      · exact inv_ite h (by
          split
          · exact inv_runItems (inv_foldl (fun _ _ k4 => inv_setReg (k4) _ _) _ h) _ _ _ _ _
          · exact inv_ite (inv_runItems (inv_foldl (fun _ _ k4 => inv_setReg (k4) _ _) _ h) _ _ _ _ _) (inv_settle
              (inv_modStep (inv_ite (inv_runRouter (inv_runItems (inv_foldl (fun _ _ k4 => inv_setReg
              (k4) _ _) _ h) _ _ _ _ _) _ _ _) (inv_runItems (inv_foldl (fun _ _ k4 => inv_setReg
              (k4) _ _) _ h) _ _ _ _ _)) _ _)))
      · exact h

theorem inv_latchExclude {s : State} (h : s.Inv) : (s.latchExclude).Inv :=
  inv_foldl (fun _ _ k => inv_setFld k _ _ _ _) _ h

theorem inv_enterStep {s : State} (h : s.Inv) (hd : ReqHdr) (cmd : Instr) (t : Step) : (s.enterStep hd cmd t).Inv :=
  inv_settle (inv_passEngines (inv_same (inv_setJob (inv_latchExclude h) _ _ _ _)))

theorem inv_doStepRun {s : State} (h : s.Inv) (hd : ReqHdr) (program table batch rsv : Nat) (x : Option StepRunX) :
    (doStepRun hd program table batch rsv x s).Inv := by
  unfold doStepRun
  dsimp only
  exact inv_serve h _ _ _ _ _ _ (fun _ k => inv_ite (inv_setJob k _ _ _ _) (by
      split
      · exact inv_failReply k _ _ _ _
      · exact inv_enterStep k _ _ _))

theorem inv_atRecord {s : State} (h : s.Inv) (lane : Nat) : (s.atRecord lane).Inv :=
  inv_modStep h _ _

theorem inv_dispatch {s : State} (h : s.Inv) (t : Step) (op : PRec) : (s.dispatch t op).Inv :=
  inv_modStep h _ _

theorem inv_doRecordDispatch {s : State} (h : s.Inv) (lane : Nat) : (doRecordDispatch lane s).Inv := by
  unfold doRecordDispatch
  dsimp only
  split
  · exact h
  · exact inv_ite h (by
      split
      · exact h
      · exact inv_abortStep (inv_atRecord h _) _ _ _
      · exact inv_ite h (by
          split
          · exact inv_atRecord h _
          · exact inv_atRecord h _
          · exact inv_settle (inv_modStep (inv_atRecord h _) _ _)
          · exact inv_settle (inv_dispatch (inv_atRecord h _) _ _)))

theorem inv_doDep {s : State} (h : s.Inv) (lane idx : Nat) : (doDep lane idx s).Inv := by
  unfold doDep
  dsimp only
  split
  · exact h
  · exact inv_ite h (by
      split
      · exact inv_ite (inv_atRecord h _) (inv_settle (inv_matchSpec (inv_modStep (inv_atRecord h _) _ _) _))
      · exact h)

theorem inv_doDepTimeout {s : State} (h : s.Inv) (lane : Nat) : (doDepTimeout lane s).Inv := by
  unfold doDepTimeout
  split
  · exact h
  · exact inv_ite h (by
      split
      · split
        · exact inv_abortStep h _ _ _
        · exact h
      · exact h)

theorem inv_doCopy {s : State} (h : s.Inv) (lane idx : Nat) : (doCopy lane idx s).Inv := by
  unfold doCopy
  split
  · exact h
  · split
    · exact h
    · exact inv_ite h (inv_settle (inv_modStep (inv_ensureFetch h _ _) _ _))

theorem inv_doRoute {s : State} (h : s.Inv) (lane idx : Nat) : (doRoute lane idx s).Inv := by
  unfold doRoute
  dsimp only
  split
  · exact h
  · split
    · exact h
    · split
      · exact inv_ite h (inv_settle (inv_modStep (inv_ite h (inv_bump (inv_foldl
          (fun _ _ k3 => inv_countSymbols k3 _ _ _) _ h) _ _)) _ _))
      · exact h

theorem inv_armGate {s : State} (h : s.Inv) (t : Step) : (s.armGate t).Inv :=
  inv_ite h (inv_modStep (inv_makeExchanges h _) _ _)

theorem inv_yieldEngines {s : State} (h : s.Inv) (t : Step) : (s.yieldEngines t).Inv :=
  inv_passEngines (inv_same (inv_modStep h _ _))

theorem inv_doGateOpen {s : State} (h : s.Inv) (lane : Nat) : (doGateOpen lane s).Inv := by
  unfold doGateOpen
  dsimp only
  split
  · exact h
  · split
    · exact inv_ite (inv_armGate h _) (inv_settle (inv_ite (inv_yieldEngines (inv_modStep (inv_armGate h _) _ _) _)
        (inv_modStep (inv_armGate h _) _ _)))
    · exact h

theorem inv_doGateTimeout {s : State} (h : s.Inv) (lane : Nat) : (doGateTimeout lane s).Inv := by
  unfold doGateTimeout
  dsimp only
  split
  · exact h
  · split
    · exact h
    · exact inv_ite h (inv_abortStep h _ _ _)

theorem inv_commitStep {s : State} (h : s.Inv) (t : Step) : (s.commitStep t).2.Inv := by
  unfold State.commitStep
  refine inv_foldl_snd (fun p n k => ?_) _ h
  dsimp only
  exact inv_commitSlots k _ _ _ _

theorem inv_holdStep {s : State} (h : s.Inv) (t : Step) : (s.holdStep t).Inv := by
  unfold State.holdStep
  exact inv_foldl (fun _ _ k => (by
      split
      · exact inv_setSession k _ _
      · exact k)) _ h

theorem inv_clearAborts {s : State} (h : s.Inv) (t : Step) : (s.clearAborts t).Inv := by
  unfold State.clearAborts
  exact inv_foldl (fun _ _ k => (by
      split
      · exact inv_modFurrow k _ _
      · exact k)) _ h

theorem inv_endStep {s : State} (h : s.Inv) (t : Step) (status : Nat) (payload : List Byte) : (s.endStep t status payload).Inv := by
  unfold State.endStep
  dsimp only
  split
  · exact inv_dropStep h _
  · exact inv_dropStep (inv_noteCounts (inv_reply h _ _ _ _) _ _ _) _

theorem inv_finishStep {s : State} (h : s.Inv) (t : Step) (idx tokens : Nat) : (s.finishStep t idx tokens).Inv := by
  unfold State.finishStep
  dsimp only
  split
  · exact inv_abortStep h _ _ _
  · split
    · exact inv_abortStep (inv_takeFails (inv_flushOwner h _) _) _ _ _
    · exact inv_settle (inv_endStep (inv_clearAborts (inv_ite_snd (inv_commitStep (inv_takeFails (inv_flushOwner h _) _) _)
        (inv_holdStep (inv_takeFails (inv_flushOwner h _) _) _)) _) _ _ _)

theorem inv_doEndRecord {s : State} (h : s.Inv) (lane : Nat) : (doEndRecord lane s).Inv := by
  unfold doEndRecord
  dsimp only
  split
  · exact h
  · split
    · exact inv_ite (inv_finishStep (inv_armGate h _) _ _ _) (inv_armGate h _)
    · exact h

theorem inv_clearFurrows {s : State} (h : s.Inv) : (s.clearFurrows).Inv :=
  inv_furrows h (by simp)

theorem inv_scramble {s : State} (h : s.Inv) (g : Nat × Nat) : (s.scramble g).Inv :=
  inv_poke (inv_takeFree h) _ _

theorem inv_retireFailing {s : State} (h : s.Inv) : (s.retireFailing).Inv :=
  inv_foldl (fun _ _ k => inv_ite k (inv_ite (inv_retireFurrow k _ _) (inv_ite (inv_retireFurrow k _ _) k))) _ h

theorem inv_recordAbort {s : State} (h : s.Inv) (t : Step) (f : Failure) (idx : Nat) : (s.recordAbort t f idx).Inv := by
  unfold State.recordAbort
  dsimp only
  split
  · exact h
  · exact inv_ite (inv_raiseAt (inv_setLane h _ (windowOk_same (h.laneWindow _))) _ _) (inv_setLane h _ (windowOk_same
      (h.laneWindow _)))

theorem inv_discardStaged {s : State} (h : s.Inv) (t : Step) : (s.discardStaged t).Inv := by
  unfold State.discardStaged
  exact inv_foldl (fun _ _ k => (by
      split
      · exact inv_discardSlots k _ _
      · exact k)) _ h

theorem inv_doTaskAbort {s : State} (h : s.Inv) (lane : Nat) : (doTaskAbort lane s).Inv := by
  unfold doTaskAbort
  dsimp only
  split
  · exact h
  · split
    · exact h
    · exact inv_ite h (inv_retireFailing (inv_ite (inv_forceExchange (inv_modStep (inv_recordAbort (inv_discardStaged
        (inv_bump (inv_foldl (fun _ _ k2 => inv_scramble k2 _) _ (inv_takeFails (inv_flushOwner (inv_ite
        (inv_clearFurrows h) h) _) _)) _ _) _) _ _ _) _ _) _) (inv_modStep (inv_recordAbort (inv_discardStaged (inv_bump
        (inv_foldl (fun _ _ k2 => inv_scramble k2 _) _ (inv_takeFails (inv_flushOwner (inv_ite
        (inv_clearFurrows h) h) _) _)) _ _) _) _ _ _) _ _)))

theorem inv_answerCancels {s : State} (h : s.Inv) (lane seq : Nat) : (s.answerCancels lane seq).Inv := by
  unfold State.answerCancels
  exact inv_foldl (fun _ _ k => (by
      split
      · split
        · exact inv_ite (inv_reply k _ _ _ _) k
        · exact k
      · exact k)) _ h

theorem inv_doTeardownComplete {s : State} (h : s.Inv) (lane : Nat) : (doTeardownComplete lane s).Inv := by
  unfold doTeardownComplete
  dsimp only
  split
  · exact h
  · split
    · exact h
    · exact inv_ite h (inv_settle (inv_settleExchanges (inv_answerCancels (inv_endStep h _ _ _) _ _)))

end Sys2Proof.Machine
end

section
/-!
SUPPORT. The memory commands, the engines and the Sieve keep the invariant.
-/
namespace Sys2Proof.Machine

theorem inv_commandWrite {s : State} (h : s.Inv) (lane a : Nat) (bs : List Byte) : (s.commandWrite lane a bs).2.Inv :=
  inv_takeFails (inv_flushOwner (inv_writeMem (inv_uncheck h _ _) _ _ _) _) _

theorem inv_doMemWrite {s : State} (h : s.Inv) (hd : ReqHdr) (a rsv : Nat) (data : List Byte) : (doMemWrite hd a rsv data s).Inv := by
  unfold doMemWrite
  exact inv_serve h _ _ _ _ _ _ (fun _ k => (by
      split
      · next e1 => exact inv_failReply (inv_snd e1 (inv_commandWrite k _ _ _)) _ _ _ _
      · next e1 => exact inv_reply (inv_snd e1 (inv_commandWrite k _ _ _)) _ _ _ _))

theorem inv_doMemRead {s : State} (h : s.Inv) (hd : ReqHdr) (a n rsv : Nat) : (doMemRead hd a n rsv s).Inv := by
  unfold doMemRead
  exact inv_serve h _ _ _ _ _ _ (fun _ k => (by
      split
      · next e1 => exact inv_failReply (inv_snd e1 (inv_readMem k _ _ _)) _ _ _ _
      · next e1 => exact inv_reply (inv_snd e1 (inv_readMem k _ _ _)) _ _ _ _))

theorem inv_doMemFill {s : State} (h : s.Inv) (hd : ReqHdr) (a n : Nat) (p : List Byte) : (doMemFill hd a n p s).Inv :=
  inv_serve h _ _ _ _ _ _ (fun _ k => inv_setJob (inv_commandWrite k _ _ _) _ _ _ _)

theorem inv_doMemCopy {s : State} (h : s.Inv) (hd : ReqHdr) (src dst n : Nat) : (doMemCopy hd src dst n s).Inv :=
  inv_serve h _ _ _ _ _ _ (fun _ k => inv_setJob (inv_commandWrite (inv_readMem k _ _ _) _ _ _) _ _ _ _)

/-- A region table replaced, and what else the memories keep beside the bytes and the other table. -/
theorem inv_setRegions_length {s : State} (h : s.Inv) {t : Tier} {l : List Region} (hl : l.length = 16) : (s.setRegions t l).Inv := by
  unfold State.setRegions
  split
  · exact ⟨h.memory, h.regs, h.ctrs, h.lanes, h.windows, h.furrows, h.sources, h.winnow, h.sessions, h.banks, h.loftRegions, hl,
      h.programs⟩
  · exact ⟨h.memory, h.regs, h.ctrs, h.lanes, h.windows, h.furrows, h.sources, h.winnow, h.sessions, h.banks, hl, h.siloRegions,
      h.programs⟩

theorem State.Inv.regions_length {s : State} (h : s.Inv) {t : Tier} (ht : t ≠ .granary) : (s.regions t).length = 16 := by
  cases t with
  | granary => exact absurd rfl ht
  | loft => exact h.loftRegions
  | silo => exact h.siloRegions

theorem tierNamed_ne_granary (n : Nat) : tierNamed n ≠ .granary := by
  unfold tierNamed
  split <;> decide



theorem inv_convertWord {s : State} (h : s.Inv) (w : Nat) : (s.convertWord w).2.Inv := by
  unfold State.convertWord
  split
  · next e => exact inv_setErr (inv_snd e (inv_readWord h _ _)) _
  · next e => exact inv_clearErr (inv_poke (inv_snd e (inv_readWord h _ _)) _ _) _

theorem inv_convertWords {s : State} (h : s.Inv) (l : List Nat) : (s.convertWords l).2.Inv := by
  unfold State.convertWords
  refine inv_foldl_snd (fun p w k => ?_) _ h
  dsimp only
  exact inv_convertWord k w

theorem inv_applyRegion {s : State} (h : s.Inv) {t : Tier} (ht : t ≠ .granary) (n mode : Nat) (r : Region) :
    (s.applyRegion t n mode r).2.Inv :=
  inv_memory (inv_setFlip (inv_setRegions_length (inv_zero (inv_convertWords h _) _ _)
    ((setAt_length _ _ _).trans (h.regions_length ht))) _ _)

theorem inv_doRegionSet {s : State} (h : s.Inv) (hd : ReqHdr) (b : RegionB) (x : Option (Nat × Nat)) :
    (doRegionSet hd b x s).Inv :=
  inv_serve h _ _ _ _ _ _ (fun _ k => inv_setJob (inv_applyRegion k (tierNamed_ne_granary _) _ _ _) _ _ _ _)

theorem inv_doEccFlipArm {s : State} (h : s.Inv) (hd : ReqHdr) (b : FlipB) : (doEccFlipArm hd b s).Inv :=
  inv_serve h _ _ _ _ _ _ (fun _ k => inv_reply (inv_setFlip (inv_memory k) _ _) _ _ _ _)

theorem inv_stepFlushFails {s : State} (h : s.Inv) (o : Owner) : (s.stepFlushFails o).Inv := by
  unfold State.stepFlushFails
  split
  · exact h
  · split
    · exact h
    · split
      · next e2 => exact inv_abortStep (inv_snd e2 (inv_takeFails h _)) _ _ _
      · next e2 => exact inv_snd e2 (inv_takeFails h _)

theorem inv_doMergeFlushTimer {s : State} (h : s.Inv) (ctl word : Nat) : (doMergeFlushTimer ctl word s).Inv := by
  unfold doMergeFlushTimer
  split
  · exact h
  · exact inv_stepFlushFails (inv_flushEntry h _) _

theorem inv_scrubWord {s : State} (h : s.Inv) (w : Nat) : (s.scrubWord w).Inv := by
  unfold State.scrubWord
  split
  · next e => exact inv_snd e (inv_readWord h _ _)
  · next e => exact inv_ite (inv_bump (inv_snd e (inv_readWord h _ _)) _ _) (inv_snd e (inv_readWord h _ _))

theorem inv_doPatrolScrub {s : State} (h : s.Inv) (ctl word : Nat) : (doPatrolScrub ctl word s).Inv :=
  inv_ite h (inv_memory (inv_ite (inv_bump (inv_ite (inv_foldl (fun _ _ k => inv_scrubWord k _) _ h) (inv_foldl
      (fun _ _ k => inv_scrubWord k _) _ (inv_bump (inv_foldl (fun _ _ k => inv_scrubWord k _) _ h) _ _))) _ _) (inv_ite
      (inv_foldl (fun _ _ k => inv_scrubWord k _) _ h) (inv_foldl (fun _ _ k => inv_scrubWord k _) _ (inv_bump (inv_foldl
      (fun _ _ k => inv_scrubWord k _) _ h) _ _)))))

theorem inv_doRefreshBandUpdate {s : State} (h : s.Inv) (ctl : Nat) (dram : Option Nat) : (doRefreshBandUpdate ctl dram s).Inv :=
  inv_ite h (inv_setFld h _ _ _ _)

theorem inv_assignFurrow {s : State} (h : s.Inv) (a : Assignment) (env : Env) (qMin : Nat) (keep : Bool) (f : Nat) :
    (s.assignFurrow a env qMin keep f).Inv :=
  inv_setReg (inv_setReg (inv_setReg (inv_modFurrow h _ _) _ _) _ _) _ _

theorem inv_assignSource {s : State} (h : s.Inv) (a : Assignment) (env : Env) (n : Nat) : (s.assignSource a env n).Inv :=
  inv_ite (inv_offSource (inv_modSource (inv_modSource h _ _) _ _) _) (inv_ite (inv_modSource (inv_modSource h _ _) _ _)
      (inv_offSource (inv_modSource (inv_modSource h _ _) _ _) _))

theorem inv_assign {s : State} (h : s.Inv) (env : Env) (qMin : Nat) (keep : Bool) : (s.assign env qMin keep).Inv :=
  inv_same (inv_moveSwitch (inv_foldl (fun _ _ k => inv_assignSource k _ _ _) _ (inv_foldl
      (fun _ _ k => inv_assignFurrow k _ _ _ _ _) _ (inv_endExchanges h))))

theorem inv_storeMargin {s : State} (h : s.Inv) (env : Env) : (s.storeMargin env).Inv := by
  unfold State.storeMargin
  exact inv_foldl (fun _ _ k => (by
      split
      · exact inv_writeSet (inv_storeFit k _ _ _) _
      · exact k)) _ h

theorem inv_noteSpared {s : State} (h : s.Inv) (env : Env) (qMin : Nat) : (s.noteSpared env qMin).Inv :=
  inv_ite h (inv_raise h _ _)

theorem inv_engineOutcome {s : State} (h : s.Inv) (hd : ReqHdr) (op : Nat) (env : Env) (qMin minFurrows : Nat) :
    (s.engineOutcome hd op env qMin minFurrows).Inv :=
  inv_ite (inv_failReply (inv_enterFault (inv_noteSpared h _ _) _ _) _ _ _ _) (inv_reply (inv_noteSpared h _ _) _ _ _ _)

theorem inv_loadLoops {s : State} (h : s.Inv) : (s.loadLoops).Inv :=
  inv_vaneRestart (inv_ite (inv_same h) (inv_applyBias (inv_same h)))

theorem inv_doEngineStart {s : State} (h : s.Inv) (hd : ReqHdr) (x : Option (Nat × Nat × Nat)) : (doEngineStart hd x s).Inv :=
  inv_serve h _ _ _ _ _ _ (fun _ k => inv_loadLoops (inv_setJob (inv_winnow k (by simp)) _ _ _ _))

theorem inv_finishEngineStart {s : State} (h : s.Inv) (hd : ReqHdr) (qMin minFurrows : Nat) (env : Env) :
    (finishEngineStart hd qMin minFurrows env s).Inv :=
  inv_engineOutcome (inv_ite (inv_same (inv_storeMargin (inv_assign (inv_swapBanks h) _ _ _) _)) (inv_vaneStop
      (inv_storeMargin (inv_assign (inv_swapBanks h) _ _ _) _))) _ _ _ _ _

theorem inv_failEngineStart {s : State} (h : s.Inv) (hd : ReqHdr) (f : Failure) : (s.failEngineStart hd f).Inv :=
  inv_vaneStop (inv_failReply h _ _ _ _)

theorem inv_heatFailure {s : State} (h : s.Inv) : (s.heatFailure).2.Inv :=
  inv_takeFree h

theorem inv_stopEngine {s : State} (h : s.Inv) : (s.stopEngine).Inv := by
  unfold State.stopEngine
  have k := inv_endExchanges (inv_abandonRuns h)
  generalize s.abandonRuns.endExchanges = u at k
  refine inv_vaneStop ⟨k.memory, k.regs, k.ctrs, k.lanes, k.windows, ?_, ?_, k.winnow, k.sessions, k.banks, k.loftRegions,
    k.siloRegions, k.programs⟩
  · exact (List.length_map _).trans k.furrows
  · exact (List.length_map _).trans k.sources

theorem inv_doEngineStop {s : State} (h : s.Inv) (hd : ReqHdr) : (doEngineStop hd s).Inv :=
  inv_serve h _ _ _ _ _ _ (fun _ k => inv_ite (inv_setJob k _ _ _ _) (inv_reply (inv_stopEngine k) _ _ _ _))

theorem inv_doMarginTest {s : State} (h : s.Inv) (hd : ReqHdr) (x : Option (Nat × Nat × Nat)) : (doMarginTest hd x s).Inv :=
  inv_serve h _ _ _ _ _ _ (fun _ k => inv_setJob (inv_abandonRuns k) _ _ _ _)

theorem inv_finishMarginTest {s : State} (h : s.Inv) (hd : ReqHdr) (qMin reassign minFurrows : Nat) (env : Env) :
    (finishMarginTest hd qMin reassign minFurrows env s).Inv :=
  inv_ite (inv_engineOutcome (inv_storeMargin (inv_assign h _ _ _) _) _ _ _ _ _) (inv_reply (inv_storeMargin h _) _ _ _ _)

theorem inv_logSieve {s : State} (h : s.Inv) (addr src bank : Nat) : (s.logSieve addr src bank).Inv := by
  unfold State.logSieve
  dsimp only
  split
  · exact h
  · exact inv_setReg (inv_setReg (inv_setReg (inv_setReg h _ _) _ _) _ _) _ _

theorem inv_sieveRecord {s : State} (h : s.Inv) (detail : Nat) : (s.sieveRecord detail).Inv :=
  inv_raise h _ _

theorem banksOk_move {v : Sieve} (b p : Nat) (h : banksOk v.map) : banksOk (v.move b p).map := banksOk_putD b p h

theorem banksOk_fail {v : Sieve} (p : Nat) (h : banksOk v.map) : banksOk (v.fail p).map := by
  unfold Sieve.fail
  split
  · exact h
  · exact h

theorem inv_dropTouched {s : State} (h : s.Inv) (g : Nat × Nat) : (s.dropTouched g).Inv :=
  inv_programs (inv_foldl (fun _ _ k => inv_dropHeld k _) _ h) fun _ => Nat.le_trans (List.length_filter_le _ _) h.programs

theorem inv_eraseBanks {s : State} (h : s.Inv) (units : List Nat) : (s.eraseBanks units).Inv := by
  unfold State.eraseBanks
  exact inv_foldl (fun _ _ k => inv_zero k _ _) _ (inv_foldl (fun _ _ k => inv_dropTouched k _) _ h)

theorem inv_replaceBank {s : State} (h : s.Inv) (p : Nat) : (s.replaceBank p).2.Inv := by
  unfold State.replaceBank
  split
  · exact inv_sieve (inv_zero h _ _) (banksOk_move _ _)
  · exact h

theorem inv_markUnit {s : State} (h : s.Inv) (target : Nat) (e : UnitFail) : (s.markUnit target e).Inv := by
  unfold State.markUnit
  split
  · exact inv_sieve h (banksOk_fail _)
  · exact inv_setFld h _ _ _ _
  · exact inv_setFld h _ _ _ _
  · exact h

theorem inv_noteUnit {s : State} (h : s.Inv) (target : Nat) (e : UnitFail) : (s.noteUnit target e).Inv :=
  inv_bump (inv_logSieve (inv_sieveRecord h _) _ _ _) _ _

theorem inv_sieveOpen {s : State} (h : s.Inv) (r : Run) : (s.sieveOpen r).Inv := by
  unfold State.sieveOpen
  exact inv_ite (inv_foldl (fun _ _ k => inv_poke k _ _) _ (inv_foldl (fun _ _ k => inv_dropTouched k _) _ (inv_takeFree h)))
    (inv_ite (inv_poke (inv_takeFree h) _ _) h)

theorem inv_doSieveRun {s : State} (h : s.Inv) (hd : ReqHdr) (b : SieveB) (x : Option (Nat × Nat × Nat)) :
    (doSieveRun hd b x s).Inv :=
  inv_serve h _ _ _ _ _ _ (fun _ k => inv_setJob (inv_sieveOpen k _) _ _ _ _)

theorem inv_finishSieveRun {s : State} (h : s.Inv) (hd : ReqHdr) (r : Run) (env : Env) : (finishSieveRun hd r env s).Inv := by
  unfold finishSieveRun
  have k1 := inv_foldl (fun _ (e : UnitFail) k => inv_noteUnit k r.target e) (r.fails env) h
  have k2 := inv_ite (c := r.target = 0) (inv_eraseBanks k1 r.units) (inv_ite (c := 5 ≤ r.target) (inv_zero k1 r.base r.size) k1)
  have k3 := inv_foldl (fun _ (e : UnitFail) k => inv_markUnit k r.target e) (r.fails env) k2
  refine inv_reply (inv_bump (inv_bump (inv_ite_snd ?_ k3) _ _) _ _) _ _ _ _
  refine inv_foldl_snd (p := (0, _)) (fun p e k => ?_) _ k3
  dsimp only
  exact inv_replaceBank k e.unit

theorem inv_doSievePeriodic {s : State} (h : s.Inv) (hd : ReqHdr) (enable rsv : Nat) (x : Option (Nat × Nat × Nat × Nat)) :
    (doSievePeriodic hd enable rsv x s).Inv :=
  inv_serve h _ _ _ _ _ _ fun _ k => by
    refine inv_reply (inv_sieve k ?_) _ _ _ _
    exact id

theorem inv_doGranarySlice {s : State} (h : s.Inv) (failAt : Option Nat) : (doGranarySlice failAt s).Inv := by
  unfold doGranarySlice
  refine inv_ite h ?_
  split
  · exact inv_sieve h id
  · dsimp only
    split
    · exact inv_bump (inv_sieve h fun k => banksOk_putD _ _ k) _ _
    · refine inv_logSieve (inv_sieveRecord (inv_bump (inv_bump (inv_sieve (inv_takeFree h) fun k => ?_) _ _) _ _) _) _ _ _
      exact banksOk_fail _ (banksOk_putD _ _ k)

theorem inv_pages {s : State} (h : s.Inv) (p : List (Nat × Nat)) : { s with sieve := { s.sieve with pages := p } }.Inv :=
  inv_sieve h fun k => k

theorem inv_doExternalSlice {s : State} (h : s.Inv) (ctl : Nat) (failAt : Option Nat) : (doExternalSlice ctl failAt s).Inv := by
  unfold doExternalSlice
  refine inv_ite h ?_
  have k (l : List MergeEntry) : (l.foldl (fun s m => (s.flushEntry m).stepFlushFails m.owner) s).Inv :=
    inv_foldl (fun _ _ k => inv_stepFlushFails (inv_flushEntry k _) _) l h
  have kp (l : List MergeEntry) (p : List (Nat × Nat)) := inv_pages (k l) p
  dsimp only
  split
  · exact inv_bump (kp _ _) _ _
  · exact inv_logSieve (inv_sieveRecord (inv_bump (inv_setErr (inv_bump (kp _ _) _ _) _) _ _) _) _ _ _

end Sys2Proof.Machine
end

section
/-!
SUPPORT. Power, reset and temperatures keep the invariant.
-/
namespace Sys2Proof.Machine

/-- After power-up every component is in form (R5, R111). -/
theorem inv_reset : State.reset.Inv where
  memory := wf_reset
  regs := rfl
  ctrs := rfl
  lanes := List.length_replicate
  windows := fun _ hl => List.eq_of_mem_replicate hl ▸ windowOk_default
  furrows := List.length_replicate
  sources := List.length_replicate
  winnow := List.length_replicate
  sessions := rfl
  banks := rfl
  loftRegions := rfl
  siloRegions := rfl
  programs := Nat.zero_le _

theorem inv_unpower {s0 : State} (h : s0.Inv) (d : DState) (rails : Bool) : (s0.unpower d rails).Inv :=
  inv_regs inv_reset fun _ => canonical_filter _ (inv_cutBurn h).regs

theorem inv_supplyRead {s : State} (h : s.Inv) (m : Nat) : (s.supplyRead m).Inv :=
  inv_ite (inv_same (inv_takeFree h)) (inv_same h)

theorem inv_supplyRises {s : State} (h : s.Inv) : (s.supplyRises).Inv :=
  inv_ite h (inv_supplyRead (inv_takeFree h) _)

theorem inv_supplyGone {s : State} (h : s.Inv) : (s.supplyGone).Inv :=
  inv_ite h (inv_supplyRead (inv_takeFree h) _)

theorem inv_sequenceRails {s : State} (h : s.Inv) : (s.sequenceRails).Inv :=
  inv_ite (inv_same h) h

theorem inv_tryLeave {s : State} (h : s.Inv) : (s.tryLeave).Inv :=
  inv_ite (inv_same h) h

theorem inv_shutDown {s : State} (h : s.Inv) (cause : ShutCause) : (s.shutDown cause).Inv :=
  inv_same (inv_unpower h _ _)

theorem inv_doStartCondition {s : State} (h : s.Inv) : (doStartCondition s).Inv :=
  inv_ite (inv_same (inv_supplyRises h)) (inv_ite (inv_tryLeave (inv_same (inv_supplyRises h))) h)

theorem inv_doCrystalStable {s : State} (h : s.Inv) : (doCrystalStable s).Inv :=
  inv_ite (inv_same h) h

theorem inv_doBootEntry {s : State} (h : s.Inv) : (doBootEntry s).Inv :=
  inv_ite (inv_regs (inv_unpower h _ _) fun _ => rfl) h

theorem inv_resetBy {s : State} (h : s.Inv) (kind detail : Nat) : (s.resetBy kind detail).Inv :=
  inv_unpower (inv_raise h _ _) _ _

theorem inv_resetLow {s : State} (h : s.Inv) (first : Bool) : (s.resetLow first).Inv :=
  inv_ite h (inv_ite (inv_sequenceRails h) (inv_resetBy h _ _))

theorem inv_hwsdLow {s : State} (h : s.Inv) (first : Bool) : (s.hwsdLow first).Inv :=
  inv_ite h (inv_ite (inv_shutDown h _) (inv_shutDown (inv_raise h _ _) _))

theorem inv_thermalLow {s : State} (h : s.Inv) : (s.thermalLow).Inv :=
  inv_ite h (inv_same (inv_shutDown (inv_ite (inv_raise (inv_bump h _ _) _ _) (inv_bump h _ _)) _))

theorem inv_softLow {s : State} (h : s.Inv) (kind detail : Nat) : (s.softLow kind detail).Inv :=
  inv_ite h (inv_resetBy h _ _)

theorem inv_pinAct {s : State} (h : s.Inv) (a : PinAction) : (s.pinAct a).Inv := by
  cases a with
  | resetLow first => exact inv_resetLow h first
  | hwsdLow first => exact inv_hwsdLow h first
  | thermalHwsd => exact inv_thermalLow h
  | softReset => exact inv_softLow h _ _
  | fwWatchdog => exact inv_softLow h _ _

theorem inv_pinOrDefer {s : State} (h : s.Inv) (a : PinAction) : (s.pinOrDefer a).Inv :=
  inv_ite (inv_same h) (inv_pinAct h _)

theorem inv_doResetNAsserted {s : State} (h : s.Inv) : (doResetNAsserted s).Inv :=
  inv_ite h (inv_pinOrDefer (inv_same h) _)

theorem inv_doHwShutdown {s : State} (h : s.Inv) : (doHwShutdown s).Inv :=
  inv_ite h (inv_pinOrDefer (inv_same h) _)

theorem inv_releaseInternal {s : State} (h : s.Inv) : (s.releaseInternal).Inv :=
  inv_ite (inv_same h) h

theorem inv_doResetNReleased {s : State} (h : s.Inv) : (doResetNReleased s).Inv :=
  inv_ite h (inv_sequenceRails (inv_tryLeave (inv_ite (inv_releaseInternal (inv_same h)) (inv_same h))))

theorem inv_doHwsdNReleased {s : State} (h : s.Inv) : (doHwsdNReleased s).Inv :=
  inv_ite h (inv_sequenceRails (inv_tryLeave (inv_ite (inv_releaseInternal (inv_same h)) (inv_same h))))

theorem inv_doSoftReset {s : State} (h : s.Inv) : (doSoftReset s).Inv :=
  inv_pinOrDefer (inv_same h) _

theorem inv_doFwWatchdog {s : State} (h : s.Inv) : (doFwWatchdog s).Inv :=
  inv_ite h (inv_pinOrDefer h _)

theorem inv_doPowerLoss {s : State} (h : s.Inv) (magnitude : Nat) : (doPowerLoss magnitude s).Inv :=
  inv_ite h (inv_same (inv_shutDown (inv_raise (inv_ite (inv_same (inv_supplyRead h _)) (inv_supplyRead h _)) _ _) _))

theorem inv_doLanternOff {s : State} (h : s.Inv) : (doLanternOff s).Inv :=
  inv_ite (inv_same (inv_supplyGone h)) (inv_regs (inv_unpower (inv_tearWrite (inv_supplyGone h)) _ _) fun _ => rfl)

theorem inv_doLedgerWriteComplete {s : State} (h : s.Inv) : (doLedgerWriteComplete s).Inv :=
  inv_ite h (inv_tryLeave (inv_foldl (fun _ _ k => inv_pinAct k _) _ (inv_same (inv_storeWrite h))))

theorem inv_copyCells {s : State} (h : s.Inv) (src dst n : Nat) : (s.copyCells src dst n).Inv :=
  inv_cells h fun _ => wf_copyCells src dst n h.memory

theorem inv_nightSave {s : State} (h : s.Inv) (base dest n : Nat) : (s.nightSave base dest n).Inv := by
  unfold State.nightSave
  dsimp only
  exact inv_uncheck (by
      split
      · exact inv_applyFlip (inv_foldl (fun _ _ k1 => inv_setErr k1 _) _ (inv_memory (inv_copyCells h _ _ _))) _
      · exact inv_foldl (fun _ _ k1 => inv_setErr k1 _) _ (inv_memory (inv_copyCells h _ _ _))) _ _

theorem inv_restoreWord {s : State} (h : s.Inv) (base dest : Nat) (w : Nat) : (State.restoreWord base dest s w).Inv := by
  unfold State.restoreWord
  dsimp only
  split
  · next e => exact inv_poke (inv_snd e (inv_readWord h _ _)) _ _
  · next e => exact inv_memory (inv_snd e (inv_readWord h _ _))

theorem inv_nightRestore {s : State} (h : s.Inv) : (s.nightRestore).Inv := by
  unfold State.nightRestore
  dsimp only
  split
  · exact inv_zero h _ _
  · exact inv_same (inv_foldl (fun _ _ k1 => inv_restoreWord k1 _ _ _) _ (inv_copyCells (inv_zero h _ _) _ _ _))

theorem inv_enterNight {s : State} (h : s.Inv) (base dest n : Nat) : (s.enterNight base dest n).Inv :=
  inv_same (inv_nightSave (inv_programs (inv_foldl (fun _ _ k => inv_dropHeld k _) _ (inv_beginEntry (inv_ite
      (inv_bump h _ _) h) _)) fun k => Nat.le_trans (List.length_filter_le _ _) k) _ _ _)

theorem inv_failJobs {s : State} (h : s.Inv) (p : Job → Option Failure) : (s.failJobs p).Inv := by
  unfold State.failJobs
  exact inv_foldl (fun _ _ k => (by
      split
      · split
        · exact inv_failReply k _ _ _ _
        · exact k
      · exact k)) _ h

theorem inv_beginWake {s : State} (h : s.Inv) (target : DState) : (s.beginWake target).Inv :=
  inv_vaneRestart (inv_same h)

theorem inv_doWake {s : State} (h : s.Inv) : (doWake s).Inv := by
  unfold doWake
  exact inv_ite h (by
      split
      · exact inv_beginWake h _
      · exact h)

theorem inv_doWakeTimer {s : State} (h : s.Inv) : (doWakeTimer s).Inv :=
  inv_ite h (inv_ite (inv_beginWake (inv_same h) _) (inv_same h))

theorem inv_replaceFailed {s : State} (h : s.Inv) (failed : List Nat) (n k : Nat) : (State.replaceFailed failed n k s).Inv := by
  induction k generalizing s with
  | zero => exact h
  | succ k ih =>
    unfold State.replaceFailed
    split
    · exact inv_ite (ih (inv_bump (inv_modSource h _ _) _ _)) (inv_modSource (inv_exchange (inv_takeFree h) _ _ _) _ _)
    · exact inv_furrowLostFault (inv_modSource h _ _) _

theorem inv_relock {s : State} (h : s.Inv) (failed : List Nat) : (s.relock failed).Inv :=
  inv_foldl (fun _ _ k => inv_replaceFailed k _ _ _) _ (inv_foldl (fun _ _ k => inv_ite k (inv_modSource k _ _)) _ h)

theorem inv_finishWake {s : State} (h : s.Inv) (failed : List Nat) : (s.finishWake failed).Inv := by
  unfold State.finishWake
  dsimp only
  split
  · exact h
  · exact inv_ite (inv_bump (inv_same (inv_ite (inv_nightRestore h) h)) _ _) (inv_relock (inv_foldl
      (fun _ _ k1 => inv_markDue k1 _) _ (inv_bump (inv_same (inv_ite (inv_nightRestore h) h)) _ _)) _)

theorem inv_dropWake {s : State} (h : s.Inv) : (s.dropWake).Inv :=
  inv_same h

theorem inv_powerDone {s : State} (h : s.Inv) (j : Job) (t wakeAfter : Nat) : (s.powerDone j t wakeAfter).Inv :=
  inv_reply (inv_same h) _ _ _ _

theorem inv_powerGo {s : State} (h : s.Inv) (j : Job) (t wakeAfter base dest n : Nat) :
    (s.powerGo j t wakeAfter base dest n).Inv :=
  inv_ite h (inv_ite (inv_powerDone h _ _ _) (inv_ite h (inv_ite (inv_ite (inv_powerDone (inv_same h) _ _ _) (inv_ite
      (inv_enterNight h _ _ _) (inv_beginEntry h _))) (inv_ite (inv_enterNight h _ _ _) (inv_ite (inv_beginWake h _)
      (inv_ite (inv_ite (inv_failReply h _ _ _ _) (inv_beginWake h _)) (inv_failReply h _ _ _ _)))))))

theorem inv_powerNext {s : State} (h : s.Inv) : (s.powerNext).Inv := by
  unfold State.powerNext
  exact inv_foldl (fun _ _ k => (by
      split
      · split
        · exact inv_powerGo k _ _ _ _ _ _
        · exact k
      · exact k)) _ h

theorem inv_doPowerState {s : State} (h : s.Inv) (hd : ReqHdr) (t r : Nat) (x : Option PowerX) : (doPowerState hd t r x s).Inv :=
  inv_serve h _ _ _ _ _ _ (fun _ k => inv_powerGo (inv_setJob k _ _ _ _) _ _ _ _ _ _)

theorem inv_doAutoIdle {s : State} (h : s.Inv) : (doAutoIdle s).Inv :=
  inv_ite (inv_beginEntry h _) h

theorem inv_entryComplete {s : State} (h : s.Inv) : (s.entryComplete).Inv := by
  unfold State.entryComplete
  dsimp only
  split
  · exact inv_powerNext (inv_same h)
  · exact inv_ite (inv_powerNext (inv_finishWake h _)) h
  · exact h

theorem inv_doHeatLimit {s : State} (h : s.Inv) : (doHeatLimit s).Inv := by
  unfold doHeatLimit
  dsimp only
  split
  · exact inv_failEngineStart (inv_heatFailure h) _ _
  · split
    · exact h
    · exact inv_powerNext (inv_vaneStop (inv_failJobs (inv_same (inv_heatFailure h)) _))

theorem inv_doSupplyHold {s : State} (h : s.Inv) (magnitude : Nat) : (doSupplyHold magnitude s).Inv := by
  unfold doSupplyHold
  refine inv_ite h ?_
  have kr := inv_supplyRead h magnitude
  generalize s.supplyRead magnitude = u at kr
  extract_lets +onlyGivenNames read
  have k : ({ read with lantern := { read.lantern with warn := true } } : State).Inv := inv_same kr
  generalize ({ read with lantern := { read.lantern with warn := true } } : State) = w at k
  extract_lets +onlyGivenNames warned told
  have kt (kind ctr : Nat) : (told kind ctr).Inv := inv_bump (inv_raise k _ _) _ _
  clear_value told
  split
  · exact inv_same (kt _ _)
  · exact inv_same (kt _ _)
  · exact inv_same (kt _ _)
  · refine inv_failJobs ?_ _
    split
    · exact inv_ite (kt _ _) (inv_dropWake (kt _ _))
    · exact kt _ _
  · refine inv_failJobs ?_ _
    split
    · exact inv_ite (kt _ _) (inv_dropWake (kt _ _))
    · exact kt _ _
  · exact kt _ _
  · exact kt _ _
  · exact kt _ _
  · exact k

theorem inv_doSupplyRestore {s : State} (h : s.Inv) : (doSupplyRestore s).Inv := by
  unfold doSupplyRestore
  dsimp only
  exact inv_ite h (by
      split
      · exact inv_settle (inv_bump (inv_resumeHeat (inv_same (inv_supplyRises h))) _ _)
      · exact inv_resumeHeat (inv_same (inv_supplyRises h)))

theorem inv_cutTests {s : State} (h : s.Inv) (f : Failure) : (s.cutTests f).Inv := by
  unfold State.cutTests
  exact inv_foldl (fun _ _ k => (by
      split
      · split
        · exact inv_failReply k _ _ _ _
        · exact inv_failReply (inv_sieveOpen k _) _ _ _ _
        · exact inv_ite (inv_failReply k _ _ _ _) k
        · exact k
      · exact k)) _ h

theorem inv_doSupplyFault {s : State} (h : s.Inv) (magnitude : Nat) : (doSupplyFault magnitude s).Inv := by
  unfold doSupplyFault
  dsimp only
  exact inv_ite h (inv_ite (inv_dozeIfDue (inv_same (inv_cutTests (inv_endAllSteps (inv_bump (inv_raise (inv_same
      (inv_supplyRead h _)) _ _) _ _) _) _))) (inv_ite h (by
      split
      · exact inv_failEngineStart h _ _
      · exact h)))

theorem inv_hotBand {s : State} (h : s.Inv) (f : Nat) : (s.hotBand f).Inv := by
  unfold State.hotBand
  dsimp only
  split
  · exact h
  · exact inv_ite (inv_same h) (inv_ite (inv_same h) h)

theorem inv_photonicBand {s : State} (h : s.Inv) : (s.photonicBand).Inv := by
  unfold State.photonicBand
  dsimp only
  split
  · exact h
  · exact inv_ite (inv_raise (inv_ite (inv_applyBias (inv_same h)) (inv_same h)) _ _) (inv_ite (inv_applyBias (inv_same h))
      (inv_same h))

theorem inv_thermAlert {s : State} (h : s.Inv) (n : Nat) : (s.thermAlert n).Inv := by
  unfold State.thermAlert
  dsimp only
  split
  · exact h
  · exact inv_ite h (inv_ite (inv_same (inv_raise h _ _)) (inv_ite (inv_same h) h))

theorem inv_doTempConversion {s : State} (h : s.Inv) (conv therm : List Conv) : (doTempConversion conv therm s).Inv :=
  inv_ite h (inv_foldl (fun _ _ k => inv_thermAlert k _) _ (inv_photonicBand (inv_foldl (fun _ _ k => inv_hotBand k _) _
      (inv_same h))))

theorem inv_sensorOut {s : State} (h : s.Inv) (detail : Nat) : (s.sensorOut detail).Inv :=
  inv_ite (inv_enterFault (inv_bump (inv_raise h _ _) _ _) _ _) (inv_bump (inv_raise h _ _) _ _)

theorem inv_doSensorBroken {s : State} (h : s.Inv) (which : SensorId) (cause : Nat) : (doSensorBroken which cause s).Inv := by
  unfold doSensorBroken
  dsimp only
  exact inv_ite h (by
      split
      · exact inv_ite (inv_sensorOut (inv_same h) _) h
      · exact inv_ite (inv_sensorOut (inv_same h) _) h)

theorem inv_doThermistorBroken {s : State} (h : s.Inv) (n cause : Nat) : (doThermistorBroken n cause s).Inv :=
  inv_ite h (inv_same h)

theorem inv_doThrottleStep {s : State} (h : s.Inv) : (doThrottleStep s).Inv := by
  unfold doThrottleStep
  dsimp only
  split
  · exact h
  · exact inv_ite h (inv_same h)

theorem inv_doThermalShutdown {s : State} (h : s.Inv) (ch : Nat) : (doThermalShutdown ch s).Inv :=
  inv_ite h (inv_ite (inv_ite (inv_same h) h) (inv_ite (inv_raise (inv_same h) _ _) (inv_toFault (inv_raise
      (inv_same h) _ _) _)))

theorem inv_doInternalHwsd {s : State} (h : s.Inv) : (doInternalHwsd s).Inv :=
  inv_ite h (inv_pinOrDefer h _)

theorem inv_doAutoRestart {s : State} (h : s.Inv) : (doAutoRestart s).Inv :=
  inv_ite (inv_tryLeave (inv_same h)) h

theorem inv_doThermalRead {s : State} (h : s.Inv) (hd : ReqHdr) : (doThermalRead hd s).Inv :=
  inv_serve h _ _ _ _ _ _ (fun _ k => inv_reply k _ _ _ _)

end Sys2Proof.Machine
end

section
/-!
SUPPORT. The registers, the reports and the starts of commands keep the invariant.
-/
namespace Sys2Proof.Machine

theorem inv_doLoReadCopiesHi {s : State} (h : s.Inv) (a : Nat) : (doLoReadCopiesHi a s).Inv := by
  unfold doLoReadCopiesHi
  split
  · exact inv_setReg h _ _
  · exact h

theorem inv_doRcCounterRead {s : State} (h : s.Inv) (a : Nat) : (doRcCounterRead a s).Inv := by
  unfold doRcCounterRead
  split
  · exact h
  · exact inv_foldl (fun _ _ k1 => inv_setFld k1 _ _ _ _) _ h

theorem inv_afterRead {s : State} (h : s.Inv) (a : Nat) : (s.afterRead a).Inv :=
  inv_doRcCounterRead (inv_doLoReadCopiesHi h _) _

theorem inv_writeLater {s : State} (h : s.Inv) (a v : Nat) : (s.writeLater a v).Inv :=
  inv_same h

theorem inv_doRegisterWrite {s : State} (h : s.Inv) (a v : Nat) : (doRegisterWrite a v s).Inv := by
  unfold doRegisterWrite
  split
  · exact h
  · exact inv_ite (inv_writeLater h _ _) (inv_ite h (inv_setReg h _ _))

theorem inv_doFurrowCountClear {s : State} (h : s.Inv) (f : Nat) : (doFurrowCountClear f s).Inv :=
  inv_ite h (inv_foldl (fun _ _ k => inv_clear48 k _) _ h)

theorem inv_doReaperCountClear {s : State} (h : s.Inv) : (doReaperCountClear s).Inv :=
  inv_clear48 (inv_clear48 h _) _

theorem inv_doTallyCountClear {s : State} (h : s.Inv) (t : Nat) : (doTallyCountClear t s).Inv :=
  inv_ite h (inv_clear48 (inv_clear48 h _) _)

theorem inv_doGleanerCountClear {s : State} (h : s.Inv) (g : Nat) : (doGleanerCountClear g s).Inv :=
  inv_ite h (inv_clear48 (inv_clear48 h _) _)

theorem inv_zeroRegs {s : State} (h : s.Inv) (l : List Nat) : (s.zeroRegs l).Inv :=
  inv_foldl (fun _ _ k => inv_setReg k _ _) _ h

theorem inv_doCeLogClear {s : State} (h : s.Inv) (c : Nat) : (doCeLogClear c s).Inv :=
  inv_ite h (inv_memory (inv_zeroRegs h _))

theorem inv_doUeLogClear {s : State} (h : s.Inv) (c : Nat) : (doUeLogClear c s).Inv :=
  inv_ite h (inv_zeroRegs h _)

theorem inv_doSieveLogClear {s : State} (h : s.Inv) : (doSieveLogClear s).Inv :=
  inv_zeroRegs h _

theorem inv_doAlertLatchClear {s : State} (h : s.Inv) : (doAlertLatchClear s).Inv :=
  inv_same h

theorem inv_doSessLenWrite {s : State} (h : s.Inv) (v : Nat) : (doSessLenWrite v s).Inv := by
  unfold doSessLenWrite
  dsimp only
  exact inv_ite (by
      split
      · exact inv_setSession h _ _
      · exact h) h

theorem inv_doSplitTakesEffect {s : State} (h : s.Inv) : (doSplitTakesEffect s).Inv :=
  inv_same h

theorem inv_writeAction {s : State} (h : s.Inv) (a v : Nat) : (s.writeAction a v).Inv := by
  unfold State.writeAction
  dsimp only
  split
  · exact h
  · split
    · exact inv_ite (inv_same h) h
    · exact inv_ite (inv_doFurrowCountClear h _) h
    · exact inv_ite (inv_doReaperCountClear h) h
    · exact inv_ite (inv_doTallyCountClear h _) h
    · exact inv_ite (inv_doGleanerCountClear h _) h
    · exact inv_ite (inv_doUeLogClear (inv_ite (inv_doCeLogClear h _) h) _) (inv_ite (inv_doCeLogClear h _) h)
    · exact inv_ite (inv_doSieveLogClear h) h
    · exact inv_ite (inv_doAlertLatchClear h) h
    · exact h

theorem inv_thermChanged {s : State} (h : s.Inv) : (s.thermChanged).Inv :=
  inv_same h

theorem inv_writeAll {s : State} (h : s.Inv) (ws : List (Nat × Nat)) : (s.writeAll ws).Inv := by
  unfold State.writeAll
  have k1 := inv_foldl (fun _ (w : Nat × Nat) k => inv_doRegisterWrite k w.1 w.2) ws h
  generalize ws.foldl (fun s w => doRegisterWrite w.1 w.2 s) s = t1 at k1
  generalize ws.filter (fun w => !s.blockDown w.1) = vs
  have k2 : State.Inv (match look vs (aGleaner 0 0x64) with
      | some v => doSessLenWrite v t1
      | none => t1) := by
    split
    · exact inv_doSessLenWrite k1 _
    · exact k1
  have k3 := inv_foldl (fun _ (w : Nat × Nat) k => inv_writeAction k w.1 w.2) vs k2
  have k4 := inv_ite (c := (vs.any fun w => w.1 = aLantern 0x10) = true) (inv_thermChanged k3) k3
  exact inv_ite (inv_netChanged k4 s) k4

theorem inv_restartBlocks {s : State} (h : s.Inv) : (s.restartBlocks).Inv := by
  unfold State.restartBlocks
  split
  · exact h
  · exact inv_foldl (fun _ _ k1 => inv_writeAll k1 _) _ (inv_same h)

theorem inv_readAll {s : State} (h : s.Inv) (l : List Nat) : (readAll l s).2.Inv := by
  induction l generalizing s with
  | nil => exact h
  | cons a t ih => exact ih (inv_afterRead h a)

theorem inv_doCfgRead {s : State} (h : s.Inv) (hd : ReqHdr) (a n rsv : Nat) : (doCfgRead hd a n rsv s).Inv :=
  inv_serve h _ _ _ _ _ _ (fun _ k => inv_reply (inv_readAll k _) _ _ _ _)

theorem inv_doCfgWrite {s : State} (h : s.Inv) (hd : ReqHdr) (a rsv : Nat) (values : List Nat) :
    (doCfgWrite hd a rsv values s).Inv :=
  inv_serve h _ _ _ _ _ _ (fun _ k => inv_reply (inv_writeAll k _) _ _ _ _)

theorem inv_doCfgWriteMasked {s : State} (h : s.Inv) (hd : ReqHdr) (a mask value : Nat) :
    (doCfgWriteMasked hd a mask value s).Inv :=
  inv_serve h _ _ _ _ _ _ (fun _ k => inv_reply (inv_writeAll k _) _ _ _ _)

theorem inv_clearSet {s : State} (h : s.Inv) (n : Nat) : (s.clearSet n).Inv :=
  inv_ite h (inv_ite (inv_foldl (fun _ _ k => inv_doFurrowCountClear k _) _ h) (inv_foldl
      (fun _ _ k => inv_doRcCounterRead k _) _ h))

theorem inv_doCountersRead {s : State} (h : s.Inv) (hd : ReqHdr) (set clear rsv : Nat) : (doCountersRead hd set clear rsv s).Inv :=
  inv_serve h _ _ _ _ _ _ (fun _ k => inv_reply (inv_ite (inv_clearSet k _) k) _ _ _ _)

/-- A host command starts by its chapter's own meaning; an event is no command. -/
theorem inv_startHost {s : State} (h : s.Inv) (cmd : Instr) : (startHost cmd s).Inv := by
  cases cmd
  case identify hd => exact inv_doIdentify h hd
  case ping hd d => exact inv_doPing h hd d
  case setNet hd a p r x => exact inv_doSetNet h hd a p r x
  case hostWatchdog hd p x => exact inv_doHostWatchdog h hd p x
  case cfgRead hd a n r => exact inv_doCfgRead h hd a n r
  case cfgWrite hd a r vs => exact inv_doCfgWrite h hd a r vs
  case cfgWriteMasked hd a m v => exact inv_doCfgWriteMasked h hd a m v
  case memWrite hd a r d => exact inv_doMemWrite h hd a r d
  case memRead hd a n r => exact inv_doMemRead h hd a n r
  case memFill hd a n p => exact inv_doMemFill h hd a n p
  case memCopy hd a b n => exact inv_doMemCopy h hd a b n
  case regionSet hd b x => exact inv_doRegionSet h hd b x
  case programLoad hd a n r => exact inv_doProgramLoad h hd a n r
  case programCheck hd a => exact inv_doProgramCheck h hd a
  case sessionOpen hd b x => exact inv_doSessionOpen h hd b x
  case sessionClose hd n r => exact inv_doSessionClose h hd n r
  case stepRun hd p t b r x => exact inv_doStepRun h hd p t b r x
  case taskCancel hd l r q => exact inv_doTaskCancel h hd l r q
  case laneResume hd => exact inv_doLaneResume h hd
  case sessionCommit hd n c => exact inv_doSessionCommit h hd n c
  case sessionRollback hd n r => exact inv_doSessionRollback h hd n r
  case taskStatus hd l r q => exact inv_doTaskStatus h hd l r q
  case engineStart hd x => exact inv_doEngineStart h hd x
  case engineStop hd => exact inv_doEngineStop h hd
  case marginTest hd x => exact inv_doMarginTest h hd x
  case winnowRun hd m r x => exact inv_doWinnowRun h hd m r x
  case vaneLoopSet hd n r t x => exact inv_doVaneLoopSet h hd n r t x
  case vaneBankSwap hd => exact inv_doVaneBankSwap h hd
  case sourceSpare hd a b r => exact inv_doSourceSpare h hd a b r
  case powerState hd t r x => exact inv_doPowerState h hd t r x
  case thermalRead hd => exact inv_doThermalRead h hd
  case sieveRun hd b x => exact inv_doSieveRun h hd b x
  case sievePeriodic hd e r x => exact inv_doSievePeriodic h hd e r x
  case eccFlipArm hd b => exact inv_doEccFlipArm h hd b
  case fwLoadBegin hd t r => exact inv_doFwLoadBegin h hd t r
  case fwLoadData hd o d => exact inv_doFwLoadData h hd o d
  case fwLoadEnd hd => exact inv_doFwLoadEnd h hd
  case attest hd n => exact inv_doAttest h hd n
  case certRead hd => exact inv_doCertRead h hd
  case ledgerRead hd f c r => exact inv_doLedgerRead h hd f c r
  case ledgerClear hd u => exact inv_doLedgerClear h hd u
  case countersRead hd a c r => exact inv_doCountersRead h hd a c r
  case eventsRead hd f c r => exact inv_doEventsRead h hd f c r
  all_goals exact h

theorem inv_doCommandStart {s : State} (h : s.Inv) (lane : Nat) : (doCommandStart lane s).Inv := by
  unfold doCommandStart
  dsimp only
  exact inv_ite h (by
      split
      · split
        · exact inv_failReply (inv_setLane h _ (windowOk_same (h.laneWindow _))) _ _ _ _
        · split
          · exact inv_startHost (inv_setLane h _ (windowOk_same (h.laneWindow _))) _
          · exact inv_failReply (inv_setLane h _ (windowOk_same (h.laneWindow _))) _ _ _ _
      · exact h)

theorem inv_resumeWaiting {s : State} (h : s.Inv) : (s.resumeWaiting).Inv := by
  unfold State.resumeWaiting
  exact inv_ite h (inv_foldl (fun _ _ k => (by
      split
      · exact inv_ite (inv_startHost k _) k
      · exact k)) _ h)

theorem inv_doWakeComplete {s : State} (h : s.Inv) (failed : List Nat) : (doWakeComplete failed s).Inv := by
  unfold doWakeComplete
  split
  · exact inv_ite h (inv_resumeWaiting (inv_powerNext (inv_finishWake (inv_restartBlocks h) _)))
  · exact h

theorem inv_doPowerEntryComplete {s : State} (h : s.Inv) : (doPowerEntryComplete s).Inv :=
  inv_ite (inv_resumeWaiting (inv_entryComplete h)) h

theorem inv_testEnded {s : State} (h : s.Inv) : (s.testEnded).Inv :=
  inv_powerNext (inv_dozeIfDue (inv_resumeWaiting h))

theorem inv_doCommandCompletion {s : State} (h : s.Inv) (lane : Nat) (env : Env) : (doCommandCompletion lane env s).Inv := by
  unfold doCommandCompletion
  dsimp only
  split
  · exact h
  · split
    · exact inv_reply h _ _ _ _
    · exact inv_failReply h _ _ _ _
    · exact inv_ite h (inv_startHost h _)
    · exact inv_ite (inv_failReply h _ _ _ _) (inv_ite h (inv_finishEngineStart h _ _ _ _))
    · exact inv_ite (inv_failReply h _ _ _ _) (inv_testEnded (inv_finishMarginTest h _ _ _ _ _))
    · exact inv_ite (inv_failReply (inv_sieveOpen h _) _ _ _ _) (inv_testEnded (inv_finishSieveRun h _ _ _))
    · exact inv_ite (inv_finishFwLoadEnd h _ _) (inv_failReply h _ _ _ _)
    · exact inv_reply h _ _ _ _
    · exact inv_ite (inv_failReply h _ _ _ _) (inv_powerGo h _ _ _ _ _ _)
    · exact inv_ite (inv_answerSwaps (inv_ite (inv_swapBanks h) h)) h
    · exact inv_ite (inv_endExchanges h) h
    · exact h
    · exact h

end Sys2Proof.Machine
end

section
/-!
MAIN. Every step keeps the invariant: the tick, every command and every event (O5); it holds after reset (O4).
-/
namespace Sys2Proof.Machine

theorem inv_classTick {s : State} (h : s.Inv) (f : Nat) : (s.classTick f).Inv :=
  inv_bump48 (inv_modFurrow h _ _) _ _

theorem inv_tick {s : State} (h : s.Inv) : (s.tick).Inv :=
  inv_ite h (inv_ite (inv_bump (inv_ite (inv_foldl (fun _ _ k => inv_classTick k _) _ (inv_same (inv_same (inv_ite
      (inv_doSoftReset h) h)))) (inv_same (inv_same (inv_ite (inv_doSoftReset h) h)))) _ _) (inv_ite (inv_foldl
      (fun _ _ k => inv_classTick k _) _ (inv_same (inv_same (inv_ite (inv_doSoftReset h) h)))) (inv_same (inv_same (inv_ite
      (inv_doSoftReset h) h)))))

theorem inv_of_next {s t : State} (e : (Host.Outcome.next s : Host.Outcome State Fault Refusal) = .next t) (h : s.Inv) : t.Inv := by
  cases e
  exact h

/-- Every command and event keeps the invariant. -/
theorem inv_exec {s t : State} (h : s.Inv) (c : Instr) (e : exec c s = .next t) : t.Inv := by
  cases c with
  | identify _ => exact inv_of_next e (inv_doIdentify h _)
  | ping _ _ => exact inv_of_next e (inv_doPing h _ _)
  | setNet _ _ _ _ _ => exact inv_of_next e (inv_hostCommand h _ _ fun _ k => inv_doSetNet k _ _ _ _ _)
  | hostWatchdog _ _ _ => exact inv_of_next e (inv_hostCommand h _ _ fun _ k => inv_doHostWatchdog k _ _ _)
  | cfgRead _ _ _ _ => exact inv_of_next e (inv_hostCommand h _ _ fun _ k => inv_doCfgRead k _ _ _ _)
  | cfgWrite _ _ _ _ => exact inv_of_next e (inv_hostCommand h _ _ fun _ k => inv_doCfgWrite k _ _ _ _)
  | cfgWriteMasked _ _ _ _ => exact inv_of_next e (inv_hostCommand h _ _ fun _ k => inv_doCfgWriteMasked k _ _ _ _)
  | registerWrite _ _ => exact inv_of_next e (inv_doRegisterWrite h _ _)
  | rcCounterRead _ => exact inv_of_next e (inv_doRcCounterRead h _)
  | loReadCopiesHi _ => exact inv_of_next e (inv_doLoReadCopiesHi h _)
  | softReset => exact inv_of_next e (inv_doSoftReset h)
  | furrowCountClear _ => exact inv_of_next e (inv_doFurrowCountClear h _)
  | reaperCountClear => exact inv_of_next e (inv_doReaperCountClear h)
  | tallyCountClear _ => exact inv_of_next e (inv_doTallyCountClear h _)
  | gleanerCountClear _ => exact inv_of_next e (inv_doGleanerCountClear h _)
  | ceLogClear _ => exact inv_of_next e (inv_doCeLogClear h _)
  | ueLogClear _ => exact inv_of_next e (inv_doUeLogClear h _)
  | sieveLogClear => exact inv_of_next e (inv_doSieveLogClear h)
  | alertLatchClear => exact inv_of_next e (inv_doAlertLatchClear h)
  | sessLenWrite _ => exact inv_of_next e (inv_doSessLenWrite h _)
  | splitTakesEffect => exact inv_of_next e (inv_doSplitTakesEffect h)
  | memWrite _ _ _ _ => exact inv_of_next e (inv_hostCommand h _ _ fun _ k => inv_doMemWrite k _ _ _ _)
  | memRead _ _ _ _ => exact inv_of_next e (inv_hostCommand h _ _ fun _ k => inv_doMemRead k _ _ _ _)
  | memFill _ _ _ _ => exact inv_of_next e (inv_hostCommand h _ _ fun _ k => inv_doMemFill k _ _ _ _)
  | memCopy _ _ _ _ => exact inv_of_next e (inv_hostCommand h _ _ fun _ k => inv_doMemCopy k _ _ _ _)
  | regionSet _ _ _ => exact inv_of_next e (inv_hostCommand h _ _ fun _ k => inv_doRegionSet k _ _ _)
  | programLoad _ _ _ _ => exact inv_of_next e (inv_hostCommand h _ _ fun _ k => inv_doProgramLoad k _ _ _ _)
  | programCheck _ _ => exact inv_of_next e (inv_hostCommand h _ _ fun _ k => inv_doProgramCheck k _ _)
  | sessionOpen _ _ _ => exact inv_of_next e (inv_hostCommand h _ _ fun _ k => inv_doSessionOpen k _ _ _)
  | sessionClose _ _ _ => exact inv_of_next e (inv_hostCommand h _ _ fun _ k => inv_doSessionClose k _ _ _)
  | stepRun _ _ _ _ _ _ => exact inv_of_next e (inv_hostCommand h _ _ fun _ k => inv_doStepRun k _ _ _ _ _ _)
  | taskCancel _ _ _ _ => exact inv_of_next e (inv_hostCommand h _ _ fun _ k => inv_doTaskCancel k _ _ _ _)
  | laneResume _ => exact inv_of_next e (inv_hostCommand h _ _ fun _ k => inv_doLaneResume k _)
  | sessionCommit _ _ _ => exact inv_of_next e (inv_hostCommand h _ _ fun _ k => inv_doSessionCommit k _ _ _)
  | sessionRollback _ _ _ => exact inv_of_next e (inv_hostCommand h _ _ fun _ k => inv_doSessionRollback k _ _ _)
  | taskStatus _ _ _ _ => exact inv_of_next e (inv_hostCommand h _ _ fun _ k => inv_doTaskStatus k _ _ _ _)
  | engineStart _ _ => exact inv_of_next e (inv_hostCommand h _ _ fun _ k => inv_doEngineStart k _ _)
  | engineStop _ => exact inv_of_next e (inv_hostCommand h _ _ fun _ k => inv_doEngineStop k _)
  | marginTest _ _ => exact inv_of_next e (inv_hostCommand h _ _ fun _ k => inv_doMarginTest k _ _)
  | winnowRun _ _ _ _ => exact inv_of_next e (inv_hostCommand h _ _ fun _ k => inv_doWinnowRun k _ _ _ _)
  | vaneLoopSet _ _ _ _ _ => exact inv_of_next e (inv_hostCommand h _ _ fun _ k => inv_doVaneLoopSet k _ _ _ _ _)
  | vaneBankSwap _ => exact inv_of_next e (inv_hostCommand h _ _ fun _ k => inv_doVaneBankSwap k _)
  | sourceSpare _ _ _ _ => exact inv_of_next e (inv_hostCommand h _ _ fun _ k => inv_doSourceSpare k _ _ _ _)
  | powerState _ _ _ _ => exact inv_of_next e (inv_hostCommand h _ _ fun _ k => inv_doPowerState k _ _ _ _)
  | thermalRead _ => exact inv_of_next e (inv_hostCommand h _ _ fun _ k => inv_doThermalRead k _)
  | sieveRun _ _ _ => exact inv_of_next e (inv_hostCommand h _ _ fun _ k => inv_doSieveRun k _ _ _)
  | sievePeriodic _ _ _ _ => exact inv_of_next e (inv_hostCommand h _ _ fun _ k => inv_doSievePeriodic k _ _ _ _)
  | eccFlipArm _ _ => exact inv_of_next e (inv_hostCommand h _ _ fun _ k => inv_doEccFlipArm k _ _)
  | fwLoadBegin _ _ _ => exact inv_of_next e (inv_hostCommand h _ _ fun _ k => inv_doFwLoadBegin k _ _ _)
  | fwLoadData _ _ _ => exact inv_of_next e (inv_hostCommand h _ _ fun _ k => inv_doFwLoadData k _ _ _)
  | fwLoadEnd _ => exact inv_of_next e (inv_hostCommand h _ _ fun _ k => inv_doFwLoadEnd k _)
  | attest _ _ => exact inv_of_next e (inv_hostCommand h _ _ fun _ k => inv_doAttest k _ _)
  | certRead _ => exact inv_of_next e (inv_hostCommand h _ _ fun _ k => inv_doCertRead k _)
  | ledgerRead _ _ _ _ => exact inv_of_next e (inv_hostCommand h _ _ fun _ k => inv_doLedgerRead k _ _ _ _)
  | ledgerClear _ _ => exact inv_of_next e (inv_hostCommand h _ _ fun _ k => inv_doLedgerClear k _ _)
  | countersRead _ _ _ _ => exact inv_of_next e (inv_hostCommand h _ _ fun _ k => inv_doCountersRead k _ _ _ _)
  | eventsRead _ _ _ _ => exact inv_of_next e (inv_hostCommand h _ _ fun _ k => inv_doEventsRead k _ _ _ _)
  | ethernetFrameReceive _ => exact inv_of_next e (inv_doEthernetFrame h _)
  | pauseFrameReceive => exact inv_of_next e (inv_doPause h)
  | arpRequestReceive _ _ _ => exact inv_of_next e (inv_doArpRequest h _ _ _)
  | ndSolicitationReceive _ _ _ => exact inv_of_next e (inv_doNdSolicitation h _ _ _)
  | icmpEchoRequest _ _ _ _ _ => exact inv_of_next e (inv_doIcmpEcho h _ _ _ _ _)
  | walongPacketReceive _ _ => exact inv_of_next e (inv_doWalongPacket h _ _)
  | commandStart _ => exact inv_of_next e (inv_doCommandStart h _)
  | ackDelayExpiry _ _ => exact inv_of_next e (inv_doAckDelay h _ _)
  | setNetApply => exact inv_of_next e (inv_doSetNetApply h)
  | arpProbeTimer _ => exact inv_of_next e (inv_doArpProbe h _)
  | dadComplete _ _ => exact inv_of_next e (inv_doDadComplete h _ _)
  | addressResolutionRetry => exact inv_of_next e (inv_doResolutionRetry h)
  | eventPacketSend => exact inv_of_next e (inv_doEventSend h)
  | linkUp => exact inv_of_next e (inv_doLinkUp h)
  | linkDown => exact inv_of_next e (inv_doLinkDown h)
  | startConditionConfirmed => exact inv_of_next e (inv_doStartCondition h)
  | crystalStable => exact inv_of_next e (inv_doCrystalStable h)
  | bootEntry => exact inv_of_next e (inv_doBootEntry h)
  | supplyHold _ => exact inv_of_next e (inv_doSupplyHold h _)
  | supplyRestore => exact inv_of_next e (inv_doSupplyRestore h)
  | supplyFault _ => exact inv_of_next e (inv_doSupplyFault h _)
  | powerLoss _ => exact inv_of_next e (inv_doPowerLoss h _)
  | lanternOff => exact inv_of_next e (inv_doLanternOff h)
  | resetNAsserted => exact inv_of_next e (inv_doResetNAsserted h)
  | resetNReleased => exact inv_of_next e (inv_doResetNReleased h)
  | hwShutdown => exact inv_of_next e (inv_doHwShutdown h)
  | hwsdNReleased => exact inv_of_next e (inv_doHwsdNReleased h)
  | fwWatchdog => exact inv_of_next e (inv_doFwWatchdog h)
  | hostWatchdogExpiry => exact inv_of_next e (inv_doHostWatchdogExpiry h)
  | recordDispatch _ => exact inv_of_next e (inv_doRecordDispatch h _)
  | bayLoad _ _ => exact inv_of_next e (inv_doBayLoad h _ _)
  | bayLoadComplete _ => exact inv_of_next e (inv_doBayLoadComplete h _)
  | stream _ _ => exact inv_of_next e (inv_doStream h _ _)
  | passStart _ _ => exact inv_of_next e (inv_doPassStart h _ _)
  | rowChunkDecision _ _ => exact inv_of_next e (inv_doRowChunkDecision h _ _)
  | rowChunkReplay _ => exact inv_of_next e (inv_doRowChunkReplay h _)
  | rowChunkArrival _ _ _ => exact inv_of_next e (inv_doRowChunkArrival h _ _ _)
  | mcastCredit _ _ _ => exact inv_of_next e (inv_doMcastCredit h _ _ _)
  | mcastTimeout _ _ _ => exact inv_of_next e (inv_doMcastTimeout h _ _ _)
  | stallTimeout _ _ => exact inv_of_next e (inv_doStallTimeout h _ _)
  | taskAbort _ => exact inv_of_next e (inv_doTaskAbort h _)
  | teardownComplete _ => exact inv_of_next e (inv_doTeardownComplete h _)
  | windrowHop _ _ => exact inv_of_next e (inv_doWindrowHop h _ _)
  | epilogue _ _ => exact inv_of_next e (inv_doEpilogue h _ _)
  | clipDecision _ _ => exact inv_of_next e (inv_doClipDecision h _ _)
  | millOp _ _ => exact inv_of_next e (inv_doMillOp h _ _)
  | glean _ _ => exact inv_of_next e (inv_doGlean h _ _)
  | copy _ _ => exact inv_of_next e (inv_doCopy h _ _)
  | route _ _ => exact inv_of_next e (inv_doRoute h _ _)
  | dep _ _ => exact inv_of_next e (inv_doDep h _ _)
  | depTimeout _ => exact inv_of_next e (inv_doDepTimeout h _)
  | gateOpen _ => exact inv_of_next e (inv_doGateOpen h _)
  | gateTimeout _ => exact inv_of_next e (inv_doGateTimeout h _)
  | endRecord _ => exact inv_of_next e (inv_doEndRecord h _)
  | readTagReturn _ => exact inv_of_next e (inv_doReadTagReturn h _)
  | tagTimeout _ => exact inv_of_next e (inv_doTagTimeout h _)
  | mergeFlushTimer _ _ => exact inv_of_next e (inv_doMergeFlushTimer h _ _)
  | patrolScrub _ _ => exact inv_of_next e (inv_doPatrolScrub h _ _)
  | refreshBandUpdate _ _ => exact inv_of_next e (inv_doRefreshBandUpdate h _ _)
  | granarySlice _ => exact inv_of_next e (inv_doGranarySlice h _)
  | externalSlice _ _ => exact inv_of_next e (inv_doExternalSlice h _ _)
  | vaneSample _ => exact inv_of_next e (inv_doVaneSample h _)
  | sourceFadeCheck _ => exact inv_of_next e (inv_doSourceFadeCheck h _)
  | spareReady _ => exact inv_of_next e (inv_doSpareReady h _)
  | prewarmTimeout _ => exact inv_of_next e (inv_doPrewarmTimeout h _)
  | winnowRunDue _ => exact inv_of_next e (inv_doWinnowRunDue h _)
  | winnowCollectionEnd _ _ => exact inv_of_next e (inv_doWinnowCollectionEnd h _ _)
  | winnowFitSlice => exact inv_of_next e (inv_doWinnowFitSlice h)
  | winnowRunComplete _ => exact inv_of_next e (inv_doWinnowRunComplete h _)
  | interpSetWrite _ => exact inv_of_next e (inv_doInterpSetWrite h _)
  | tempConversion _ _ => exact inv_of_next e (inv_doTempConversion h _ _)
  | sensorBroken _ _ => exact inv_of_next e (inv_doSensorBroken h _ _)
  | thermistorBroken _ _ => exact inv_of_next e (inv_doThermistorBroken h _ _)
  | throttleLevelStep => exact inv_of_next e (inv_doThrottleStep h)
  | thermalShutdown _ => exact inv_of_next e (inv_doThermalShutdown h _)
  | internalHwsdAssert => exact inv_of_next e (inv_doInternalHwsd h)
  | autoRestart => exact inv_of_next e (inv_doAutoRestart h)
  | autoIdle => exact inv_of_next e (inv_doAutoIdle h)
  | wakeTimer => exact inv_of_next e (inv_doWakeTimer h)
  | wake => exact inv_of_next e (inv_doWake h)
  | wakeComplete _ => exact inv_of_next e (inv_doWakeComplete h _)
  | heatLimitTimeout => exact inv_of_next e (inv_doHeatLimit h)
  | ledgerWrite => exact inv_of_next e (inv_doLedgerWrite h)
  | commandCompletion _ _ => exact inv_of_next e (inv_doCommandCompletion h _ _)
  | powerEntryComplete => exact inv_of_next e (inv_doPowerEntryComplete h)
  | ledgerWriteComplete => exact inv_of_next e (inv_doLedgerWriteComplete h)
  | resolutionCacheAgeing _ => exact inv_of_next e (inv_doCacheAgeing h _)

theorem inv_step {s t : State} (h : s.Inv) (e : step s = .next t) : t.Inv := by
  unfold step at e
  split at e
  · exact inv_of_next e (inv_tick h)
  · exact inv_exec (inv_same h) _ e

/-- Settles O5: every operation of the model keeps the invariant, so every command, every event and the tick do. -/
theorem stepKeepsInvariant : Obligations.StepKeepsInvariant := fun _ _ h e => inv_step h e

/-- Settles O4. -/
theorem resetMeetsInvariant : Obligations.ResetMeetsInvariant := inv_reset

end Sys2Proof.Machine
end

section
/-!
PROOFS. The step and the tick (O1, O2), and the state after reset (O3).
-/
namespace Sys2Proof.Machine

/-- Above the input the bulk falls towards it, never past it (R454). -/
theorem bulkAfter_falls (l : Lantern) (watts ma : Nat) (h : l.input * unitNV < l.bulk) :
    l.input * unitNV ≤ l.bulkAfter watts ma ∧ l.bulkAfter watts ma ≤ l.bulk := by
  unfold Lantern.bulkAfter
  rw [if_pos h]
  have hs : Nat.sqrt (l.bulk * l.bulk - watts * 10 ^ 18 / 5600) ≤ l.bulk :=
    Nat.le_of_not_lt fun hlt => Nat.lt_irrefl _ (calc
      l.bulk * l.bulk < _ := Nat.mul_self_lt_mul_self hlt
      _ ≤ l.bulk * l.bulk - watts * 10 ^ 18 / 5600 := Nat.sqrt_le _
      _ ≤ l.bulk * l.bulk := Nat.sub_le _ _)
  exact ⟨Nat.le_max_left _ _, Nat.max_le.mpr ⟨Nat.le_of_lt h, hs⟩⟩

/-- Below the input it rises towards it, never past it (R454). -/
theorem bulkAfter_rises (l : Lantern) (watts ma : Nat) (h : l.bulk ≤ l.input * unitNV) :
    l.bulk ≤ l.bulkAfter watts ma ∧ l.bulkAfter watts ma ≤ l.input * unitNV := by
  unfold Lantern.bulkAfter
  rw [if_neg (Nat.not_lt.mpr h)]
  exact ⟨Nat.le_min.mpr ⟨h, Nat.le_add_right _ _⟩, Nat.min_le_left _ _⟩

/-- The symbol clock hangs on the device state, the engines, the running commands and a wake (R177, R456). -/
theorem symbolRuns_congr {s t : State} (hd : t.dev = s.dev) (he : t.engine = s.engine) (hl : t.lanes = s.lanes)
    (hw : t.lantern.waking = s.lantern.waking) : t.symbolRuns = s.symbolRuns := by
  unfold State.symbolRuns State.engineStarting State.anyJob
  rw [hd, he, hl, hw]

/-- A tick moves the bulk and takes a sample (R26, R454). -/
theorem supplyTick_eq (s : State) : ∃ v, s.supplyTick = { s.lantern with bulk := v, sampled := true } := ⟨_, rfl⟩

theorem supplyTick_waking (s : State) : s.supplyTick.waking = s.lantern.waking := by
  obtain ⟨v, e⟩ := supplyTick_eq s
  rw [e]

theorem supplyTick_throttle (s : State) : s.supplyTick.throttle = s.lantern.throttle := by
  obtain ⟨v, e⟩ := supplyTick_eq s
  rw [e]

theorem cycleRuns_congr {s t : State} (hd : t.dev = s.dev) : t.cycleRuns = s.cycleRuns := by
  unfold State.cycleRuns
  rw [hd]

/-- Outside OFF and RUN, with nothing due, a tick counts and samples (R26, R454, R456). -/
theorem tick_quiet {s : State} (hoff : s.dev ≠ .off) (hrun : s.dev ≠ .run) (hsoft : s.lantern.softDue = false)
    (hth : s.lantern.throttle = 0) : s.tick = { s with
      lantern := s.supplyTick
      clocks := { s.clocks with
        tick := s.clocks.tick + 1
        cyc := s.clocks.cyc + (if s.cycleRuns then 400 else 0)
        sym := s.clocks.sym + (if s.symbolRuns then 3500 else 0) } } := by
  have ht : ¬ 1 ≤ s.supplyTick.throttle := by
    rw [supplyTick_throttle, hth]
    decide
  have hw := supplyTick_waking s
  unfold State.tick
  rw [if_neg hoff, if_neg (c := s.lantern.softDue = true) (by simp [hsoft])]
  extract_lets u sampled t clocks ticked swept
  have hrest : swept = ticked := if_neg hrun
  have hcond : ¬ (t % 4000 = 0 ∧ 1 ≤ swept.lantern.throttle) := fun h => ht (by rw [hrest] at h; exact h.2)
  have hc : sampled.cycleRuns = u.cycleRuns := cycleRuns_congr rfl
  have hy : sampled.symbolRuns = u.symbolRuns := symbolRuns_congr rfl rfl rfl hw
  rw [if_neg hcond, hrest]
  dsimp only [ticked, t]
  rw [hc, hy]
/-- Settles O1. -/
theorem stepRunsFrontCommand : Obligations.StepRunsFrontCommand := fun _ _ => rfl

/-- Settles O2: the tick changes two components, and the bulk moves towards the input from either side. -/
theorem idleStepIsOneTick : Obligations.IdleStepIsOneTick := by
  intro s hp hoff hrun hsoft hth
  refine ⟨?_, _, rfl, bulkAfter_falls s.lantern _ _, bulkAfter_rises s.lantern _ _⟩
  have e : step s = .next s.tick := by
    unfold step
    simp only [hp]
  rw [e, tick_quiet hoff hrun hsoft hth]

/-- Settles O3: every component is empty, so every lookup gives its default. -/
theorem resetState : Obligations.ResetState := by
  refine ⟨rfl, rfl, fun a => rfl, fun l hl => ?_, fun _ => rfl, fun t => ?_, rfl, rfl⟩
  · show (List.replicate 16 ({} : Lane)).getD l {} = {}
    rw [getD_of_lt _ _ (by rw [List.length_replicate]; exact hl), List.getElem_replicate]
  · cases t <;> rfl

end Sys2Proof.Machine
end

section
/-!
PROOFS. The life of a command in its lane: accepted, answered, refused, queued, started (O7, O8, O9).
-/
namespace Sys2Proof.Machine

/-! ### A request taken as the next of its lane -/

theorem accept_of_takesNext {s : State} {h : ReqHdr} (t : s.takesNext h) :
    s.accept h = s.setLane h.lane { s.lane h.lane with e := ((s.lane h.lane).e + 1) % 2 ^ 32 } := by
  obtain ⟨-, -, -, -, -, hseq, hwin, -⟩ := t
  exact if_pos ⟨hseq, hwin⟩

/-- An accepted request changes the lanes only. -/
theorem accept_only (s : State) (h : ReqHdr) : s.accept h = { s with lanes := (s.accept h).lanes } := by
  unfold State.accept
  dsimp only
  split <;> rfl

theorem lane_accept_self {s : State} {h : ReqHdr} (t : s.takesNext h) :
    (s.accept h).lane h.lane = { s.lane h.lane with e := ((s.lane h.lane).e + 1) % 2 ^ 32 } := by
  rw [accept_of_takesNext t, lane_setLane, if_pos ⟨rfl, t.1.symm ▸ t.2.1⟩]

theorem lane_accept_other (s : State) (h : ReqHdr) {l : Nat} (hl : l ≠ h.lane) : (s.accept h).lane l = s.lane l := by
  unfold State.accept
  dsimp only
  split
  · rw [lane_setLane, if_neg (fun k => hl k.1)]
  · rfl

/-- The window of a lane with room, one request later (R58, R59). -/
theorem seqDiff_lt_next {e b : Nat} (h : seqDiff e b < 256) : seqDiff e b < seqDiff ((e + 1) % 2 ^ 32) b := by
  unfold seqDiff at *
  omega

/-! ### Replies -/

/-- What lets a reply leave and be retained: a request that its lane has taken and the host has not yet acknowledged, with
no other command running (R58, R61). -/
structure State.awaits (u : State) (h : ReqHdr) : Prop where
  lanes : u.lanes.length = 16
  lane : h.lane < 16
  job : ∀ j, (u.lane h.lane).job = some j → j.hdr.seq = h.seq
  open_ : seqDiff h.seq (u.lane h.lane).b < seqDiff (u.lane h.lane).e (u.lane h.lane).b

theorem awaits_of_lanes {u v : State} {h : ReqHdr} (e : v.lanes = u.lanes) (w : u.awaits h) : v.awaits h := by
  have el (l : Nat) : v.lane l = u.lane l := by
    unfold State.lane
    rw [e]
  obtain ⟨hn, hl, hj, ho⟩ := w
  exact ⟨e.symm ▸ hn, hl, el h.lane ▸ hj, el h.lane ▸ ho⟩

theorem accept_awaits {s : State} {h : ReqHdr} (t : s.takesNext h) : (s.accept h).awaits h := by
  have e := lane_accept_self t
  obtain ⟨hn, hl, hj, -, -, hseq, hwin, -⟩ := t
  refine ⟨by simpa using hn, hl, ?_, ?_⟩
  · intro j k
    simp [hj] at k
  · rw [e, hseq]
    exact seqDiff_lt_next hwin

theorem sendReply_lanes (s : State) (r : Reply) : (s.sendReply r).lanes = s.lanes := by rw [sendReply_only]

theorem lane_sendReply (s : State) (r : Reply) (l : Nat) : (s.sendReply r).lane l = s.lane l := by
  unfold State.lane
  rw [sendReply_lanes]

/-- The lane of a command that has been answered (R58, R61). -/
theorem lane_reply_self {u : State} {h : ReqHdr} (w : u.awaits h) (op st : Nat) (data : List Byte) :
    (u.reply h op st data).lane h.lane = { u.lane h.lane with
      replies := (u.lane h.lane).replies ++ [{ hdr := h, opcode := op, status := st, payload := data }], job := none } := by
  unfold State.reply
  rw [lane_setLane, sendReply_lanes, if_pos ⟨rfl, w.lanes.symm ▸ w.lane⟩]
  simp only [lane_sendReply, decide_eq_true_eq, if_pos w.open_]
  have hj := w.job
  cases e : (u.lane h.lane).job with
  | none => rfl
  | some j => simp [hj j e]

theorem reply_answered {u : State} {h : ReqHdr} (w : u.awaits h) (op st : Nat) (data : List Byte) :
    (u.reply h op st data).answered h op st data := by
  unfold State.answered
  rw [lane_reply_self w]
  exact ⟨rfl, List.mem_append_right _ (List.mem_singleton_self _)⟩

/-- The packet of a reply that fits one (R54, R56). -/
theorem reply_sent (u : State) (h : ReqHdr) (op st : Nat) {data : List Byte} (hd : data.length ≤ 8968) :
    (u.reply h op st data).net.sent = u.net.sent ++ (if u.portUp then
      [⟨u.vlanTag, .walong ⟨h.src, 1, h.lane, h.seq, (u.lane h.lane).e, opcodeField op h.expert, st, h.tag, data⟩⟩] else []) := by
  show (u.sendReply { hdr := h, opcode := op, status := st, payload := data }).net.sent = _
  rw [sendReply_of_length_le (r := { hdr := h, opcode := op, status := st, payload := data }) hd]
  unfold State.send
  split
  · rfl
  · exact (List.append_nil _).symm

/-! ### The bytes of a packet (R54, R55) -/

theorem WPacket.head_length (k : WPacket) (c : Nat) : (k.head c).length = 32 := by simp [WPacket.head]

/-- The CRC is the last word of the header. -/
theorem WPacket.head_split (k : WPacket) : ∃ p : List Byte, p.length = 28 ∧ ∀ c, k.head c = p ++ be 4 c :=
  ⟨_, by simp, fun _ => rfl⟩

theorem WPacket.bytes_drop (k : WPacket) : k.bytes.drop 32 = k.payload := List.drop_left' (k.head_length _)

/-- The bytes with those of the CRC taken as 0 (R55). -/
theorem WPacket.bytes_without_crc (k : WPacket) :
    k.bytes.take 28 ++ [0, 0, 0, 0] ++ k.bytes.drop 32 = k.head 0 ++ k.payload := by
  obtain ⟨p, hp, hk⟩ := k.head_split
  have ht : k.bytes.take 28 = p := by
    unfold WPacket.bytes
    rw [hk, List.append_assoc]
    exact List.take_left' hp
  rw [ht, k.bytes_drop, hk]
  rfl

theorem WPacket.bytes_layout (k : WPacket) (hl : k.payload.length ≤ 8968) :
    k.bytes.length = 32 + k.payload.length ∧ fieldAt k.bytes 0 2 = 0x574C ∧
      fieldAt k.bytes 2 1 = 1 ∧ fieldAt k.bytes 6 2 = k.payload.length ∧ fieldAt k.bytes 8 4 = k.seq % 2 ^ 32 ∧
      fieldAt k.bytes 12 4 = k.ack % 2 ^ 32 ∧ fieldAt k.bytes 18 2 = k.status % 2 ^ 16 ∧ k.bytes.drop 32 = k.payload ∧
      fieldAt k.bytes 28 4 = (crc32c (k.bytes.take 28 ++ [0, 0, 0, 0] ++ k.bytes.drop 32)).toNat := by
  have hc : k.crc < 256 ^ 4 := (crc32c _).isLt
  refine ⟨by simp [WPacket.bytes, WPacket.head_length], ?_, ?_, ?_, ?_, ?_, ?_, k.bytes_drop, ?_⟩
  case refine_7 =>
    rw [k.bytes_without_crc]
    show fieldAt (k.head k.crc ++ k.payload) 28 4 = k.crc
    simpa [WPacket.head, fieldAt_be_append] using hc
  all_goals simp [WPacket.bytes, WPacket.head, fieldAt_be_append]
  omega

theorem accept_portUp (s : State) (h : ReqHdr) : (s.accept h).portUp = s.portUp := by simp [State.portUp]
theorem accept_vlanTag (s : State) (h : ReqHdr) : (s.accept h).vlanTag = s.vlanTag := by
  rw [accept_only]
  rfl

/-- Settles O7. -/
theorem replySentAndRetained : Obligations.ReplySentAndRetained := by
  intro s h op st data ht hd
  have w := accept_awaits ht
  have el := lane_accept_self ht
  refine ⟨reply_answered w op st data, ?_, ?_, fun l hl => ?_, ?_, fun k hk => k.bytes_layout hk⟩
  · rw [lane_reply_self w, el]
  · unfold State.sameBut
    rw [reply_only, accept_only]
  · rw [reply_other _ _ _ _ _ hl, lane_accept_other s h hl]
  · rw [reply_sent _ _ _ _ hd, el, accept_portUp, accept_vlanTag, accept_net]

/-! ### Commands that are refused or wait -/

/-- Every sequenced host command is served in the order of R67, under its own opcode. -/
theorem startHost_eq_serve {c : Instr} {h : ReqHdr} {op : Nat} (hh : hdrOf c = some h) (ho : opcodeOf c = some op)
    (h1 : op ≠ 0x0001) (h2 : op ≠ 0x0002) (s : State) :
    ∃ cmd pre fields objs nothing body, opcodeOf cmd = some op ∧
      startHost c s = s.serve h cmd pre fields objs nothing body := by
  cases c <;> simp only [hdrOf, opcodeOf, Option.some.injEq, reduceCtorEq] at hh ho <;> subst hh <;> subst ho
  case identify => exact absurd rfl h1
  case ping => exact absurd rfl h2
  all_goals exact ⟨_, _, _, _, _, _, rfl, rfl⟩

theorem exec_eq_hostCommand {c : Instr} {h : ReqHdr} {op : Nat} (hh : hdrOf c = some h) (ho : opcodeOf c = some op)
    (h1 : op ≠ 0x0001) (h2 : op ≠ 0x0002) (s : State) : exec c s = .next (s.hostCommand h c (startHost c)) := by
  cases c <;> simp only [hdrOf, opcodeOf, Option.some.injEq, reduceCtorEq] at hh ho <;> subst hh <;> subst ho
  case identify => exact absurd rfl h1
  case ping => exact absurd rfl h2
  all_goals rfl

/-- WRONG_STATE names the device state (R70). -/
theorem failReply_wrongState (s : State) (h : ReqHdr) (op : Nat) : s.failReply h op { status := stWrongState }
    = s.reply h op stWrongState (Failure.bytes { status := stWrongState, detail := s.dev.code }) := by
  unfold State.failReply
  rw [if_pos rfl]
  extract_lets g lane u
  have h2 : ¬ stWrongState / 0x1000 = 2 := by decide
  have h3 : ¬ stWrongState / 0x1000 = 3 := by decide
  have hu : u = s := (if_neg h2).trans (if_neg fun k => h3 k.1)
  rw [hu]

/-- Settles O8: a command of a free lane is served, and the hold and the legality stand first in the order of R67. -/
theorem laneRefusesOrQueues : Obligations.LaneRefusesOrQueues := by
  intro s c h op hh ho h1 h2 hc
  have hcol : s.dev.column.isNone = false := by simpa [Option.isSome_iff_ne_none] using hc
  rw [exec_eq_hostCommand hh ho h1 h2]
  refine ⟨fun q hs hl hb hq => ?_, fun ht hn => ?_, fun hl hb => ?_⟩
  · obtain ⟨cmd, pre, fields, objs, nothing, body, hop, e⟩ := startHost_eq_serve hh ho h1 h2 (s.accept h)
    rw [hostCommand_free hcol hl hb, e, serve_held hop (by simpa using hq) hs]
  · obtain ⟨cmd, pre, fields, objs, nothing, body, hop, e⟩ := startHost_eq_serve hh ho h1 h2 (s.accept h)
    have hheld : ((s.accept h).lane h.lane).held = none := by simpa using ht.2.2.2.2.1
    rw [hostCommand_free hcol ht.2.1 (busy_of_takesNext ht), e, serve_n hop hheld (by simpa using hn), failReply_wrongState, accept_dev]
  · rw [hostCommand_busy hcol hl hb, ho]
    rfl

/-! ### The oldest request of a lane -/

/-- Settles O9: COMMAND_START takes the first request of the queue, and its three outcomes exclude one another. -/
theorem commandStartTakesOldest : Obligations.CommandStartTakesOldest := by
  intro s l r rest hj hq
  refine ⟨fun hp => ?_, fun hp => ⟨fun f hf => ?_, fun c he hc => ?_, fun he hc => ?_⟩⟩
  all_goals show Host.Outcome.next (doCommandStart l s) = _
  all_goals unfold doCommandStart
  · rw [if_pos hp]
  all_goals simp only [hp, Bool.false_eq_true, if_false, hj, hq]
  · simp only [hf]
  · simp only [he, hc]
  · simp only [he, hc]

end Sys2Proof.Machine
end

section
/-!
PROOFS. SET_NET, HOST_WATCHDOG and the configuration commands (O12 to O15).
-/
namespace Sys2Proof.Machine

/-! ### A host command that starts at once -/

theorem exec_of_servesNow {s : State} {c : Instr} {h : ReqHdr} {op : Nat} (hs : s.servesNow h op) (hh : hdrOf c = some h)
    (ho : opcodeOf c = some op) (h1 : op ≠ 0x0001 := by decide) (h2 : op ≠ 0x0002 := by decide) :
    exec c s = .next (startHost c (s.accept h)) := by
  rw [exec_eq_hostCommand hh ho h1 h2, hostCommand_servesNow hs]

/-- A command that starts at once and fails a check. -/
theorem serve_fails {s : State} {h : ReqHdr} {op : Nat} (hs : s.servesNow h op) {cmd : Instr}
    {pre fields objs : List (Option Failure)} {nothing : Bool} {body : State → State} {f : Failure} (ho : opcodeOf cmd = some op)
    (hf : firstFailure (pre ++ fields ++ objs) = some f) :
    (s.accept h).serve h cmd pre fields objs nothing body = (s.accept h).failReply h op f := by
  obtain ⟨⟨-, -, -, -, hheld, -⟩, hl⟩ := hs
  have hq : ((s.accept h).lane h.lane).held = none := by simpa using hheld
  unfold State.serve State.serveLegal
  simp only [hq, ho, Option.getD_some, accept_dev, hl, hf]

@[simp] theorem accept_reg (s : State) (h : ReqHdr) (a : Nat) : (s.accept h).reg a = s.reg a := by simp [State.reg]
@[simp] theorem accept_fld (s : State) (h : ReqHdr) (a lo w : Nat) : (s.accept h).fld a lo w = s.fld a lo w := by simp [State.fld]

theorem need_of_true {b : Bool} (f : Failure) (h : b = true) : need b f = none := by rw [h]; rfl

theorem inRange_of_le {off v lo hi : Nat} (hlo : lo ≤ v) (hhi : v ≤ hi) : inRange off v lo hi = none :=
  need_of_true _ (by simp [hlo, hhi])

@[simp] theorem rsvZero_zero (off : Nat) : rsvZero off 0 = none := rfl

/-! ### SET_NET and HOST_WATCHDOG -/

theorem accept_setNetDefaults (s : State) (h : ReqHdr) : (s.accept h).setNetDefaults = s.setNetDefaults := by
  simp [State.setNetDefaults, State.ip6Set, State.ip6At]

theorem watchdogChecks_pass {p action : Nat} (hp : p = 0 ∨ (10 ≤ p ∧ p ≤ 600000)) (ha : action ≤ 1) :
    firstFailure [need (p = 0 || (10 ≤ p && p ≤ 600000)) (fRange 0 p), inRange 4 action 0 1, rsvZero 5 0] = none := by
  rw [need_of_true _ (by simpa using hp), inRange_of_le (Nat.zero_le _) ha]
  rfl

/-- Settles O12. -/
theorem setNetAndWatchdogCommands : Obligations.SetNetAndWatchdogCommands := by
  refine ⟨fun s h a p x hs hc => ?_, fun s h p x hs hp hx => ?_⟩
  · rw [exec_of_servesNow hs rfl rfl]
    show Host.Outcome.next (doSetNet h a p 0 x (s.accept h)) = _
    unfold doSetNet
    dsimp only
    rw [accept_setNetDefaults, serve_servesNow hs rfl (by simpa using hc), accept_net]
    rfl
  · have hact : x.getD (s.fld (aGlobal 0x14) 24 1) ≤ 1 := by
      cases x with
      | none => exact Nat.le_of_lt_succ (Nat.mod_lt _ (by decide))
      | some act => exact hx act rfl
    have hm : orReg ((x.map fun act => (act, 0)).map fun y => y.1) (s.fld (aGlobal 0x14) 24 1) = x.getD (s.fld (aGlobal 0x14) 24 1) := by
      cases x <;> rfl
    have h0 : orReg ((x.map fun act => (act, 0)).map fun y => y.2) 0 = 0 := by cases x <;> rfl
    rw [exec_of_servesNow hs rfl rfl]
    show Host.Outcome.next (doHostWatchdog h p (x.map fun act => (act, 0)) (s.accept h)) = _
    unfold doHostWatchdog
    dsimp only
    rw [accept_fld, hm, h0, serve_servesNow hs rfl (by simpa using watchdogChecks_pass hp hact), accept_clocks]
    rfl

end Sys2Proof.Machine
end

section
/-!
PROOFS. Several registers written one after the other, and SET_NET_APPLY (O13).
-/
namespace Sys2Proof.Machine

/-! ### Several registers -/

/-- Registers written in order. -/
def State.setRegs (s : State) (ws : List (Nat × Nat)) : State := ws.foldl (fun s w => s.setReg w.1 w.2) s

theorem setRegs_only (ws : List (Nat × Nat)) : ∀ s : State, s.setRegs ws = { s with regs := (s.setRegs ws).regs } := by
  induction ws with
  | nil => exact fun s => rfl
  | cons w ws ih => exact fun s => ih (s.setReg w.1 w.2)

theorem rising_setReg {s : State} (h : risingFrom none s.regs = true) (a v : Nat) : risingFrom none (s.setReg a v).regs = true := by
  show risingFrom none (putD (BitVec.ofNat 32 (resetWord a)) s.regs a (BitVec.ofNat 32 v)) = true
  unfold putD
  split
  · exact risingFrom_del h
  · exact risingFrom_put h (by simp)

theorem rising_setRegs (ws : List (Nat × Nat)) : ∀ {s : State}, risingFrom none s.regs = true → risingFrom none (s.setRegs ws).regs = true := by
  induction ws with
  | nil => exact fun h => h
  | cons w ws ih => exact fun h => ih (rising_setReg h _ _)

/-- A register that is not written stays. -/
theorem reg_setRegs_of_notMem {b : Nat} : ∀ (ws : List (Nat × Nat)) {s : State}, risingFrom none s.regs = true →
    b ∉ ws.map Prod.fst → (s.setRegs ws).reg b = s.reg b := by
  intro ws
  induction ws with
  | nil => exact fun _ _ => rfl
  | cons w ws ih =>
    intro s h hb
    rw [List.map_cons, List.mem_cons, not_or] at hb
    exact (ih (rising_setReg h _ _) hb.2).trans ((reg_setReg h _ _ _).trans (if_neg hb.1))

/-- A register written once holds its value. -/
theorem reg_setRegs_of_mem {e : Nat × Nat} : ∀ (ws : List (Nat × Nat)) {s : State}, risingFrom none s.regs = true →
    (ws.map Prod.fst).Nodup → e ∈ ws → (s.setRegs ws).reg e.1 = e.2 % 2 ^ 32 := by
  intro ws
  induction ws with
  | nil => exact fun _ _ he => absurd he List.not_mem_nil
  | cons w ws ih =>
    intro s h hn he
    rw [List.map_cons, List.nodup_cons] at hn
    rcases List.mem_cons.mp he with rfl | he
    · exact (reg_setRegs_of_notMem ws (rising_setReg h _ _) hn.1).trans ((reg_setReg h _ _ _).trans (if_pos rfl))
    · exact ih (rising_setReg h _ _) hn.2 he

/-! ### What the port sends -/

@[simp] theorem send_regs (s : State) (k : OutKind) : (s.send k).regs = s.regs := by rw [send_only]
@[simp] theorem send_reg (s : State) (k : OutKind) (a : Nat) : (s.send k).reg a = s.reg a := by simp [State.reg]

theorem send_keeps {s : State} {x : OutFrame} (k : OutKind) (h : x ∈ s.net.sent) : x ∈ (s.send k).net.sent := by
  unfold State.send
  split
  · exact List.mem_append_left _ h
  · exact h

theorem send_pendingNet (s : State) (k : OutKind) : (s.send k).net.pendingNet = s.net.pendingNet := by rw [send_only]

theorem dadGlobal_regs (s : State) : s.dadGlobal.regs = s.regs := by
  unfold State.dadGlobal
  dsimp only
  split
  · simp
  · rfl

theorem dadGlobal_pendingNet (s : State) : s.dadGlobal.net.pendingNet = s.net.pendingNet := by
  unfold State.dadGlobal
  dsimp only
  split
  · rw [send_pendingNet, send_pendingNet]
  · rfl

theorem dadGlobal_keeps {s : State} {x : OutFrame} (h : x ∈ s.net.sent) : x ∈ s.dadGlobal.net.sent := by
  unfold State.dadGlobal
  dsimp only
  split
  · exact send_keeps _ (send_keeps _ h)
  · exact h

/-! ### SET_NET_APPLY -/

theorem setNetWrites_nodup (a p : Nat) (y : SetNetX) : ((setNetWrites a p y).map Prod.fst).Nodup := by
  simp [setNetWrites, words128, aWalong]

theorem setNetWrites_lt {a p : Nat} {y : SetNetX} (ha : fits 4 a = true) (hp : fits 1 p = true) (hy : y.wf = true) :
    ∀ e ∈ setNetWrites a p y, e.2 < 2 ^ 32 := by
  simp only [SetNetX.wf, fits, Bool.and_eq_true, decide_eq_true_eq] at ha hp hy
  obtain ⟨⟨⟨⟨⟨⟨⟨hgw, -⟩, hpfx⟩, hen⟩, hvid⟩, hpcp⟩, -⟩, -⟩ := hy
  have hb (c : Bool) : b2n c ≤ 1 := by cases c <;> decide
  have h4 := hb (a ≠ 0)
  have h6 := hb (y.ip6 ≠ 0)
  simp only [setNetWrites, words128, List.cons_append, List.nil_append, List.mem_cons, List.not_mem_nil, or_false]
  rintro e (rfl | rfl | rfl | rfl | rfl | rfl | rfl | rfl | rfl | rfl | rfl | rfl | rfl)
  all_goals dsimp only
  all_goals omega

theorem setNetWrites_ne_status (a p : Nat) (y : SetNetX) : ∀ e ∈ setNetWrites a p y, e.1 ≠ aWalong 8 := by
  simp [setNetWrites, words128, aWalong]

theorem words128_value {v : Nat} (h : v < 2 ^ 128) :
    v / 2 ^ 96 % 2 ^ 32 * 2 ^ 96 + v / 2 ^ 64 % 2 ^ 32 * 2 ^ 64 + v / 2 ^ 32 % 2 ^ 32 * 2 ^ 32 + v % 2 ^ 32 = v := by
  omega

/-- A new IPv4 address is told, its duplicate mark cleared (R50, R52). -/
def State.announce4 (old t : State) : State :=
  if t.ip4Set ≠ 0 ∧ t.ip4Set ≠ old.ip4Set then (t.setFld (aWalong 0x8) 4 1 0).send (.gratuitousArp t.ip4Set) else t

/-- A new IPv6 address is probed and told (R50, R52, log entry 112). -/
def State.announce6 (old t : State) : State :=
  if t.ip6Set = old.ip6Set then t
  else if t.ip6Set = 0 then t.dadGlobal
  else t.dadGlobal.send (.neighbourAdvert t.ip6Set allNodes allNodesMac)

theorem doSetNetApply_eq {s : State} {l : Nat} {ws : List (Nat × Nat)} {rest : List (Nat × List (Nat × Nat))}
    (h : s.net.pendingNet = (l, ws) :: rest) :
    doSetNetApply s = s.announce6 (s.announce4 (({ s with net := { s.net with pendingNet := rest } } : State).setRegs ws)) := by
  unfold doSetNetApply State.setRegs
  simp only [h]
  rfl

/-- The announcement of an IPv6 address changes no register and takes nothing back that was sent. -/
theorem announce6_spec (old t : State) : (old.announce6 t).regs = t.regs ∧
    (old.announce6 t).net.pendingNet = t.net.pendingNet ∧ ∀ x ∈ t.net.sent, x ∈ (old.announce6 t).net.sent := by
  unfold State.announce6
  split
  · exact ⟨rfl, rfl, fun _ hx => hx⟩
  · split
    · exact ⟨dadGlobal_regs t, dadGlobal_pendingNet t, fun _ hx => dadGlobal_keeps hx⟩
    · exact ⟨(send_regs _ _).trans (dadGlobal_regs t), (send_pendingNet _ _).trans (dadGlobal_pendingNet t),
        fun _ hx => send_keeps _ (dadGlobal_keeps hx)⟩

theorem reg_of_regs {s t : State} (e : t.regs = s.regs) (a : Nat) : t.reg a = s.reg a := by
  unfold State.reg
  rw [e]

theorem portUp_congr {s t : State} (hn : t.net.link = s.net.link) (hd : t.dev = s.dev) : t.portUp = s.portUp := by
  unfold State.portUp
  rw [hn, hd]

theorem setFld_eq_setReg (s : State) (a lo w v : Nat) :
    s.setFld a lo w v = s.setReg a (s.reg a - s.fld a lo w * 2 ^ lo + v % 2 ^ w * 2 ^ lo) := rfl

/-- A field written leaves every other register. -/
theorem reg_setFld_of_ne {s : State} (h : risingFrom none s.regs = true) {a b : Nat} (hb : b ≠ a) (lo w v : Nat) :
    (s.setFld a lo w v).reg b = s.reg b := by
  rw [setFld_eq_setReg, reg_setReg h, if_neg hb]

theorem portUp_setFld (s : State) (a lo w v : Nat) : (s.setFld a lo w v).portUp = s.portUp := by
  rw [setFld_eq_setReg]
  exact portUp_congr (by rw [setReg_net]) (setReg_dev _ _ _)

theorem announce4_pendingNet (old t : State) : (old.announce4 t).net.pendingNet = t.net.pendingNet := by
  unfold State.announce4
  split
  · rw [send_pendingNet, setFld_eq_setReg, setReg_net]
  · rfl

/-- The announcement of an IPv4 address writes STATUS only. -/
theorem announce4_reg (old : State) {t : State} (h : risingFrom none t.regs = true) {b : Nat} (hb : b ≠ aWalong 8) :
    (old.announce4 t).reg b = t.reg b := by
  unfold State.announce4
  split
  · rw [send_reg, reg_setFld_of_ne h hb]
  · rfl

theorem announce4_sent {old t : State} (hup : t.portUp = true) (h0 : t.ip4Set ≠ 0) (h1 : t.ip4Set ≠ old.ip4Set) :
    ∃ v, (⟨v, .gratuitousArp t.ip4Set⟩ : OutFrame) ∈ (old.announce4 t).net.sent := by
  unfold State.announce4
  rw [if_pos ⟨h0, h1⟩, send_of_portUp ((portUp_setFld _ _ _ _ _).trans hup)]
  exact ⟨_, List.mem_append_right _ (List.mem_singleton_self _)⟩

/-- Settles O13: the writes go to distinct registers, none of them STATUS, and what follows writes STATUS only. -/
theorem setNetTakesEffect : Obligations.SetNetTakesEffect := by
  intro s l a p y rest hi ha hp hy hn
  have hr : risingFrom none ({ s with net := { s.net with pendingNet := rest } } : State).regs = true := hi.rising
  generalize hc : ({ s with net := { s.net with pendingNet := rest } } : State) = c at hr
  have hs : risingFrom none (c.setRegs (setNetWrites a p y)).regs = true := rising_setRegs _ hr
  have hw (e : Nat × Nat) (he : e ∈ setNetWrites a p y) : (c.setRegs (setNetWrites a p y)).reg e.1 = e.2 :=
    (reg_setRegs_of_mem _ hr (setNetWrites_nodup a p y) he).trans (Nat.mod_eq_of_lt (setNetWrites_lt ha hp hy e he))
  obtain ⟨hr6, hp6, hk6⟩ := announce6_spec s (s.announce4 (c.setRegs (setNetWrites a p y)))
  have hreg {b : Nat} (hb : b ≠ aWalong 8) := (reg_of_regs hr6 b).trans (announce4_reg s hs hb)
  have hw' (e : Nat × Nat) (he : e ∈ setNetWrites a p y) := (hreg (setNetWrites_ne_status a p y e he)).trans (hw e he)
  have hat {b v : Nat} (he : (b, v) ∈ setNetWrites a p y) :
      (s.announce6 (s.announce4 (c.setRegs (setNetWrites a p y)))).reg b = v := hw' (b, v) he
  have h6 : y.ip6 < 2 ^ 128 := by
    simp only [SetNetX.wf, fits, Bool.and_eq_true, decide_eq_true_eq] at hy
    obtain ⟨⟨⟨⟨⟨⟨⟨-, h⟩, -⟩, -⟩, -⟩, -⟩, -⟩, -⟩ := hy
    exact h
  have he : exec .setNetApply s = .next (s.announce6 (s.announce4 (c.setRegs (setNetWrites a p y)))) := by
    show Host.Outcome.next (doSetNetApply s) = _
    rw [doSetNetApply_eq hn, hc]
  have hnet : (c.setRegs (setNetWrites a p y)).net = { s.net with pendingNet := rest } := by
    rw [setRegs_only, ← hc]
  refine ⟨_, he, ?_, ?_, ?_, hw', fun b hb h8 => ?_, fun hup h0 h1 => ?_⟩
  · rw [hp6, announce4_pendingNet, hnet]
  · exact hat (by simp [setNetWrites])
  · unfold State.ip6Set State.ip6At
    have hword {e : Nat × Nat} (he : e ∈ words128 (aWalong 0x30) y.ip6) : e ∈ setNetWrites a p y := by
      simp only [setNetWrites, List.mem_append]
      exact Or.inl (Or.inl (Or.inl (Or.inr he)))
    rw [hat (hword (.head _)), hat (hword (.tail _ (.head _))), hat (hword (.tail _ (.tail _ (.head _)))),
      hat (hword (.tail _ (.tail _ (.tail _ (.head _)))))]
    exact words128_value h6
  · rw [hreg h8, reg_setRegs_of_notMem _ hr hb, ← hc]
    rfl
  · have h4 : (c.setRegs (setNetWrites a p y)).ip4Set = a := hw (aWalong 0x1C, a) (by simp [setNetWrites])
    have hu : (c.setRegs (setNetWrites a p y)).portUp = true :=
      (portUp_congr (by rw [hnet]) (by rw [setRegs_only, ← hc])).trans hup
    obtain ⟨v, hv⟩ := announce4_sent (old := s) hu (fun e => h0 (h4.symm.trans e)) (fun e => h1 (h4.symm.trans e))
    rw [h4] at hv
    exact ⟨v, hk6 _ hv⟩

end Sys2Proof.Machine
end

section
/-!
PROOFS. Bits and fields of register words, and the commands and accesses that read and write them (O14 to O17).
-/
namespace Sys2Proof.Machine

/-! ### Bits -/

theorem bitOf_eq_testBit (v i : Nat) : bitOf v i = v.testBit i := (Nat.testBit_eq_decide_div_mod_eq ..).symm

/-- Numbers without a common bit add without a carry. -/
theorem add_eq_or_of_and_eq_zero {a b : Nat} (h : a &&& b = 0) : a + b = a ||| b := by
  have hlt : a + b < 2 ^ (a + b) := Nat.lt_two_pow_self
  have ha : a < 2 ^ (a + b) := by omega
  have hb : b < 2 ^ (a + b) := by omega
  have e := congrArg BitVec.toNat (BitVec.add_eq_or_of_and_eq_zero (BitVec.ofNat (a + b) a) (BitVec.ofNat (a + b) b)
    (by rw [← BitVec.ofNat_and, h]))
  simpa [Nat.mod_eq_of_lt hlt, Nat.mod_eq_of_lt ha, Nat.mod_eq_of_lt hb] using e

/-- (old AND NOT mask) OR (value AND mask), bit by bit (R85). -/
theorem bitOf_masked (old mask value i : Nat) :
    bitOf (old - (old &&& mask) + (value &&& mask)) i = if bitOf mask i then bitOf value i else bitOf old i := by
  have hd : (old ^^^ (old &&& mask)) &&& (old &&& mask) = 0 := by
    apply Nat.eq_of_testBit_eq
    intro j
    simp only [Nat.testBit_and, Nat.testBit_xor, Nat.zero_testBit]
    cases old.testBit j <;> cases mask.testBit j <;> rfl
  have ho : (old ^^^ (old &&& mask)) ||| (old &&& mask) = old := by
    apply Nat.eq_of_testBit_eq
    intro j
    simp only [Nat.testBit_or, Nat.testBit_and, Nat.testBit_xor]
    cases old.testBit j <;> cases mask.testBit j <;> rfl
  have hs : old - (old &&& mask) = old ^^^ (old &&& mask) := by
    have := add_eq_or_of_and_eq_zero hd
    omega
  have hv : (old ^^^ (old &&& mask)) &&& (value &&& mask) = 0 := by
    apply Nat.eq_of_testBit_eq
    intro j
    simp only [Nat.testBit_and, Nat.testBit_xor, Nat.zero_testBit]
    cases old.testBit j <;> cases mask.testBit j <;> simp
  rw [hs, add_eq_or_of_and_eq_zero hv]
  simp only [bitOf_eq_testBit, Nat.testBit_or, Nat.testBit_and, Nat.testBit_xor]
  cases old.testBit i <;> cases mask.testBit i <;> simp

/-! ### Fields -/

/-- A number with one field replaced. -/
theorem replaced_split (n lo w x : Nat) : n - bitsOf n lo w * 2 ^ lo + x * 2 ^ lo
    = 2 ^ (lo + w) * (n / 2 ^ (lo + w)) + (2 ^ lo * x + n % 2 ^ lo) := by
  have h1 := Nat.div_add_mod n (2 ^ lo)
  have h2 := Nat.div_add_mod (n / 2 ^ lo) (2 ^ w)
  have h3 : n / 2 ^ lo / 2 ^ w = n / 2 ^ (lo + w) := by rw [Nat.div_div_eq_div_mul, ← Nat.pow_add]
  have h4 : n = 2 ^ (lo + w) * (n / 2 ^ (lo + w)) + (2 ^ lo * bitsOf n lo w + n % 2 ^ lo) := by
    rw [← h3, Nat.pow_add, Nat.mul_assoc, ← Nat.add_assoc, ← Nat.mul_add]
    unfold bitsOf
    rw [h2, h1]
  have h5 : bitsOf n lo w * 2 ^ lo = 2 ^ lo * bitsOf n lo w := Nat.mul_comm _ _
  have h6 : x * 2 ^ lo = 2 ^ lo * x := Nat.mul_comm _ _
  omega

/-- The field replaced holds its value. -/
theorem bitsOf_replaced_self {n lo w x : Nat} (hx : x < 2 ^ w) : bitsOf (n - bitsOf n lo w * 2 ^ lo + x * 2 ^ lo) lo w = x := by
  have hp : 0 < 2 ^ lo := Nat.two_pow_pos lo
  have hm : n % 2 ^ lo < 2 ^ lo := Nat.mod_lt _ hp
  rw [replaced_split]
  unfold bitsOf
  rw [Nat.pow_add, Nat.mul_assoc, ← Nat.add_assoc, ← Nat.mul_add, Nat.mul_add_div hp, Nat.div_eq_of_lt hm, Nat.add_zero,
    Nat.mul_add_mod, Nat.mod_eq_of_lt hx]

/-- A field above the one replaced stays. -/
theorem bitsOf_replaced_above {n lo w x lo' w' : Nat} (hx : x < 2 ^ w) (h : lo + w ≤ lo') :
    bitsOf (n - bitsOf n lo w * 2 ^ lo + x * 2 ^ lo) lo' w' = bitsOf n lo' w' := by
  have hp : 0 < 2 ^ (lo + w) := Nat.two_pow_pos _
  have hm : n % 2 ^ lo < 2 ^ lo := Nat.mod_lt _ (Nat.two_pow_pos lo)
  have hlow : 2 ^ lo * x + n % 2 ^ lo < 2 ^ (lo + w) := by
    have : 2 ^ lo * x + 2 ^ lo ≤ 2 ^ lo * 2 ^ w := Nat.mul_le_mul_left (2 ^ lo) hx
    rw [Nat.pow_add]
    omega
  obtain ⟨d, rfl⟩ := Nat.exists_eq_add_of_le h
  rw [replaced_split]
  unfold bitsOf
  rw [Nat.pow_add _ (lo + w) d, ← Nat.div_div_eq_div_mul, ← Nat.div_div_eq_div_mul, Nat.mul_add_div hp, Nat.div_eq_of_lt hlow, Nat.add_zero]

/-- A field lies in the bits below its end. -/
theorem bitsOf_mod {n lo w m : Nat} (h : lo + w ≤ m) : bitsOf (n % 2 ^ m) lo w = bitsOf n lo w := by
  obtain ⟨d, rfl⟩ := Nat.exists_eq_add_of_le h
  unfold bitsOf
  rw [Nat.add_assoc, Nat.pow_add, Nat.mod_mul_right_div_self, Nat.pow_add, Nat.mod_mul_right_mod]

/-- A field below the one replaced stays. -/
theorem bitsOf_replaced_below {n lo w x lo' w' : Nat} (h : lo' + w' ≤ lo) :
    bitsOf (n - bitsOf n lo w * 2 ^ lo + x * 2 ^ lo) lo' w' = bitsOf n lo' w' := by
  have e : (n - bitsOf n lo w * 2 ^ lo + x * 2 ^ lo) % 2 ^ lo = n % 2 ^ lo := by
    rw [replaced_split, Nat.pow_add, Nat.mul_assoc, ← Nat.add_assoc, ← Nat.mul_add, Nat.mul_add_mod, Nat.mod_mod]
  rw [← bitsOf_mod h, e, bitsOf_mod h]

theorem replaced_lt {n lo w x m : Nat} (hn : n < 2 ^ m) (hx : x < 2 ^ w) (h : lo + w ≤ m) :
    n - bitsOf n lo w * 2 ^ lo + x * 2 ^ lo < 2 ^ m := by
  have hm : n % 2 ^ lo < 2 ^ lo := Nat.mod_lt _ (Nat.two_pow_pos lo)
  obtain ⟨d, rfl⟩ := Nat.exists_eq_add_of_le h
  have hq : n / 2 ^ (lo + w) < 2 ^ d := Nat.div_lt_of_lt_mul (by rwa [← Nat.pow_add])
  have h1 : 2 ^ (lo + w) * (n / 2 ^ (lo + w)) + 2 ^ (lo + w) ≤ 2 ^ (lo + w) * 2 ^ d := Nat.mul_le_mul_left _ hq
  have h2 : 2 ^ lo * x + 2 ^ lo ≤ 2 ^ lo * 2 ^ w := Nat.mul_le_mul_left _ hx
  rw [replaced_split, Nat.pow_add _ (lo + w) d]
  have h3 : 2 ^ (lo + w) = 2 ^ lo * 2 ^ w := Nat.pow_add _ _ _
  omega

/-! ### The fields of a register -/

/-- Fields replaced by those of another word, one after the other. -/
def putFields (l : List Fld) (n v : Nat) : Nat :=
  l.foldl (fun n f => n - bitsOf n f.lo f.w * 2 ^ f.lo + bitsOf v f.lo f.w * 2 ^ f.lo) n

theorem mergeRw_eq (flds : List Fld) (old v : Nat) : mergeRw flds old v = putFields (flds.filter fun f => f.acc = .rw) old v := rfl

theorem bitsOf_lt (v lo w : Nat) : bitsOf v lo w < 2 ^ w := Nat.mod_lt _ (Nat.two_pow_pos w)

theorem Fld.apart_iff {f g : Fld} : f.apart g = true ↔ f.lo + f.w ≤ g.lo ∨ g.lo + g.w ≤ f.lo := by simp [Fld.apart]

theorem Fld.apart_symm {f g : Fld} (h : f.apart g = true) : g.apart f = true := by
  rw [Fld.apart_iff] at *
  exact h.symm

theorem bitsOf_replaced_apart {f g : Fld} (h : f.apart g = true) {n x : Nat} (hx : x < 2 ^ f.w) :
    bitsOf (n - bitsOf n f.lo f.w * 2 ^ f.lo + x * 2 ^ f.lo) g.lo g.w = bitsOf n g.lo g.w := by
  rcases Fld.apart_iff.mp h with h | h
  · exact bitsOf_replaced_above hx h
  · exact bitsOf_replaced_below h

theorem putFields_apart {g : Fld} : ∀ {l : List Fld}, (∀ f ∈ l, f.apart g = true) → ∀ n v : Nat,
    bitsOf (putFields l n v) g.lo g.w = bitsOf n g.lo g.w
  | [], _, _, _ => rfl
  | f :: t, h, _, v => (putFields_apart (l := t) (fun x hx => h x (List.mem_cons_of_mem _ hx)) _ v).trans
      (bitsOf_replaced_apart (h f List.mem_cons_self) (bitsOf_lt v f.lo f.w))

theorem putFields_mem {g : Fld} : ∀ {l : List Fld}, l.Pairwise (fun f g => f.apart g = true) → g ∈ l → ∀ n v : Nat,
    bitsOf (putFields l n v) g.lo g.w = bitsOf v g.lo g.w
  | _ :: _, hp, hg, _, v => by
    rw [List.pairwise_cons] at hp
    rcases List.mem_cons.mp hg with rfl | hg
    · exact (putFields_apart (fun x hx => Fld.apart_symm (hp.1 x hx)) _ v).trans (bitsOf_replaced_self (bitsOf_lt v g.lo g.w))
    · exact putFields_mem hp.2 hg _ v

theorem putFields_lt : ∀ {l : List Fld}, (∀ f ∈ l, f.lo + f.w ≤ 32) → ∀ {n : Nat} (v : Nat), n < 2 ^ 32 → putFields l n v < 2 ^ 32
  | [], _, _, _, hn => hn
  | f :: t, h, _, v, hn => putFields_lt (l := t) (fun x hx => h x (List.mem_cons_of_mem _ hx)) v
      (replaced_lt hn (bitsOf_lt v f.lo f.w) (h f List.mem_cons_self))

/-- The fields of the table lie within their word, apart from one another. -/
theorem fieldsFrom_bounds : ∀ {l : List Fld} {m : Nat}, fieldsFrom m l = true → m ≤ 32 ∧ ∀ f ∈ l, m ≤ f.lo ∧ f.lo + f.w ≤ 32
  | [], m, h => ⟨by simpa [fieldsFrom] using h, fun _ hf => absurd hf List.not_mem_nil⟩
  | f :: t, m, h => by
    simp only [fieldsFrom, Bool.and_eq_true, decide_eq_true_eq] at h
    obtain ⟨hm, ht⟩ := fieldsFrom_bounds h.2
    refine ⟨by omega, fun g hg => ?_⟩
    rcases List.mem_cons.mp hg with rfl | hg
    · exact ⟨h.1, hm⟩
    · obtain ⟨h1, h2⟩ := ht g hg
      exact ⟨by omega, h2⟩

theorem fieldsFrom_pairwise : ∀ {l : List Fld} {m : Nat}, fieldsFrom m l = true → l.Pairwise fun f g => f.apart g = true
  | [], _, _ => List.Pairwise.nil
  | f :: t, m, h => by
    simp only [fieldsFrom, Bool.and_eq_true, decide_eq_true_eq] at h
    refine List.Pairwise.cons (fun g hg => ?_) (fieldsFrom_pairwise h.2)
    exact Fld.apart_iff.mpr (Or.inl ((fieldsFrom_bounds h.2).2 g hg).1)

/-- The fields that pass a test are replaced, and the others stay. -/
theorem bitsOf_putFields_filter {l : List Fld} (h : fieldsFrom 0 l = true) (p : Fld → Bool) (n v : Nat) {f : Fld} (hf : f ∈ l) :
    bitsOf (putFields (l.filter p) n v) f.lo f.w = if p f then bitsOf v f.lo f.w else bitsOf n f.lo f.w := by
  have hp := fieldsFrom_pairwise h
  by_cases hpf : p f = true
  · rw [if_pos hpf]
    exact putFields_mem (hp.sublist List.filter_sublist) (List.mem_filter.mpr ⟨hf, hpf⟩) n v
  · rw [if_neg hpf]
    refine putFields_apart (fun g hg => ?_) n v
    obtain ⟨hgl, hgp⟩ := List.mem_filter.mp hg
    have hne : g ≠ f := fun e => hpf (e ▸ hgp)
    exact pairwise_symm_mem Fld.apart_symm hp hgl hf hne

theorem putFields_filter_lt {l : List Fld} (h : fieldsFrom 0 l = true) (p : Fld → Bool) {n : Nat} (v : Nat) (hn : n < 2 ^ 32) :
    putFields (l.filter p) n v < 2 ^ 32 :=
  putFields_lt (fun f hf => ((fieldsFrom_bounds h).2 f (List.mem_filter.mp hf).1).2) v hn

theorem reg_lt (s : State) (a : Nat) : s.reg a < 2 ^ 32 := by
  unfold State.reg
  cases look s.regs a with
  | none => exact resetWord_lt a
  | some w => exact w.isLt

/-! ### CFG_READ -/

theorem readAll_length : ∀ (l : List Nat) (s : State), (readAll l s).1.length = 4 * l.length
  | [], _ => rfl
  | a :: t, s => by
    show (be 4 (s.readReg a) ++ (readAll t (s.afterRead a)).1).length = _
    rw [List.length_append, be_length, readAll_length t, List.length_cons]
    omega

/-- Settles O14: a state that accepts CFG_READ at once is not BOOT, so its only checks are those of the span. -/
theorem cfgReadReturnsRegisters : Obligations.CfgReadReturnsRegisters := by
  intro s h a n hs ha hn hc
  refine ⟨?_, by simp [readAll_length, regRange]⟩
  have hboot : s.dev ≠ .boot := fun e => by
    have hl := hs.2
    rw [e] at hl
    exact absurd hl (by decide)
  have hg : firstFailure ((s.accept h).readGuards a n ++ cfgFields a n 0 ++ []) = none := by
    have hw : wrongUnless ((s.accept h).dev ≠ .boot || inBlocks bootReads a) = none := need_of_true _ (by simp [hboot])
    have hf : cfgFields a n 0 = [none, none, none] := by
      unfold cfgFields
      rw [need_of_true _ (by simpa using ha), inRange_of_le (Nat.zero_le n) hn]
      rfl
    rw [List.append_nil, State.readGuards, hw, hf]
    exact (firstFailure_append (a := none :: spanChecks a n) hc).trans rfl
  rw [exec_of_servesNow hs rfl rfl]
  show Host.Outcome.next (doCfgRead h a n 0 (s.accept h)) = _
  unfold doCfgRead
  rw [serve_servesNow hs rfl hg]
  by_cases h0 : n = 0 <;> simp [h0]

/-! ### CFG_WRITE and CFG_WRITE_MASKED -/

/-- Settles O15: the two commands serve the checks that the statement lists, and the masked word is read bit by bit. -/
theorem cfgWritesCheckThenWrite : Obligations.CfgWritesCheckThenWrite := by
  refine ⟨fun s h a vs hs hv => ?_, fun s h a mask value hs hm hval => ?_⟩
  · have h0 : decide (vs.length = 0) = false := by simpa using hv
    have he : exec (.cfgWrite h a 0 vs) s = .next (doCfgWrite h a 0 vs (s.accept h)) := exec_of_servesNow hs rfl rfl
    refine ⟨fun hc => ?_, fun f hc => ?_⟩
    · rw [he]
      unfold doCfgWrite
      rw [serve_servesNow hs rfl (by rwa [List.append_nil]), h0]
      rfl
    · rw [he]
      unfold doCfgWrite
      rw [serve_fails hs rfl (by rwa [List.append_nil])]
  · have he : exec (.cfgWriteMasked h a mask value) s = .next (doCfgWriteMasked h a mask value (s.accept h)) :=
      exec_of_servesNow hs rfl rfl
    refine ⟨fun hc => ?_, fun f hc => ?_, fun i _ => ?_⟩
    · rw [he]
      unfold doCfgWriteMasked
      rw [Nat.mod_eq_of_lt hm, Nat.mod_eq_of_lt hval, serve_servesNow hs rfl (by rwa [List.append_nil])]
      rfl
    · rw [he]
      unfold doCfgWriteMasked
      rw [Nat.mod_eq_of_lt hm, Nat.mod_eq_of_lt hval, serve_fails hs rfl (by rwa [List.append_nil])]
    · unfold State.maskedWord
      rw [bitOf_masked]
      cases regAt a with
      | none => simp [bitOf]
      | some x => rfl

/-! ### One access -/

theorem exec_registerWrite (a v : Nat) (s : State) : exec (.registerWrite a v) s = .next (doRegisterWrite a v s) := rfl

theorem late_writeLater {s : State} {a : Nat} {p : Place} {r : RegDef} {i : Nat} (h : regAt a = some (p, r, i))
    (hd : s.down.isSome = true) (v base : Nat) :
    (s.writeLater a v).late a base = mergeRw r.flds (s.late a base) (v % 2 ^ 32) := by
  obtain ⟨d, hd⟩ := Option.isSome_iff_exists.mp hd
  unfold State.writeLater State.late
  simp only [hd, h, Option.map_some, List.foldl_append, List.foldl_cons, List.foldl_nil, if_true]

/-- Settles O16: the outcomes of a write, case by case; a stored word has its RW fields replaced. -/
theorem registerWriteStoresRwFields : Obligations.RegisterWriteStoresRwFields := by
  intro s a v
  simp only [exec_registerWrite]
  refine ⟨fun hr => ?_, fun p r i hr hb => ?_, fun ha hb => ?_, fun p r i hi hr hb ha => ?_⟩
  · unfold doRegisterWrite
    rw [hr]
  · have hd : s.down.isSome = true := by
      unfold State.blockDown at hb
      exact (Bool.and_eq_true_iff.mp hb).1
    have he : doRegisterWrite a v s = s.writeLater a v := by
      unfold doRegisterWrite
      simp only [hr, hb, if_true]
    exact ⟨_, congrArg _ he, rfl, fun _ => rfl, late_writeLater hr hd v⟩
  · unfold doRegisterWrite
    cases hr : regAt a with
    | none => rfl
    | some x =>
      subst ha
      simp only [hb, Bool.false_eq_true, if_false, if_true]
  · have he : doRegisterWrite a v s = s.setReg a (mergeRw r.flds (s.reg a) v) := by
      unfold doRegisterWrite
      simp only [hr, hb, Bool.false_eq_true, if_false, ha]
    refine ⟨_, congrArg _ he, setReg_only _ _ _, fun b hne => ?_, fun f hf => ?_⟩
    · rw [reg_setReg hi.rising, if_neg hne]
    · have hl := regAt_fields hr
      rw [reg_setReg hi.rising, if_pos rfl, mergeRw_eq, Nat.mod_eq_of_lt (putFields_filter_lt hl _ v (reg_lt s a)),
        bitsOf_putFields_filter hl _ _ _ hf]
      simp

/-- Fields of one register set to 0. -/
theorem foldl_clearFields {a : Nat} : ∀ {l : List Fld}, (∀ f ∈ l, f.lo + f.w ≤ 32) → ∀ {s : State}, risingFrom none s.regs = true →
    let t := l.foldl (fun s f => s.setFld a f.lo f.w 0) s
    t = { s with regs := t.regs } ∧ (∀ b, b ≠ a → t.reg b = s.reg b) ∧ t.reg a = putFields l (s.reg a) 0
  | [], _, _, _ => ⟨rfl, fun _ _ => rfl, rfl⟩
  | f :: t, hl, s, hr => by
    obtain ⟨h1, h2, h3⟩ := foldl_clearFields (a := a) (l := t) (fun x hx => hl x (List.mem_cons_of_mem _ hx))
      (s := s.setFld a f.lo f.w 0) (rising_setReg hr _ _)
    have h0 : bitsOf 0 f.lo f.w = 0 := by simp [bitsOf]
    refine ⟨h1, fun b hb => (h2 b hb).trans (reg_setFld_of_ne hr hb _ _ _), h3.trans ?_⟩
    have hn : s.reg a - s.fld a f.lo f.w * 2 ^ f.lo + 0 % 2 ^ f.w * 2 ^ f.lo
        = s.reg a - bitsOf (s.reg a) f.lo f.w * 2 ^ f.lo + bitsOf 0 f.lo f.w * 2 ^ f.lo := by
      rw [h0, Nat.zero_mod]
      rfl
    rw [setFld_eq_setReg, reg_setReg hr, if_pos rfl, hn,
      Nat.mod_eq_of_lt (replaced_lt (reg_lt s a) (bitsOf_lt 0 f.lo f.w) (hl f List.mem_cons_self))]
    rfl

/-- Settles O17. -/
theorem counterReadsChangeTheirRegister : Obligations.CounterReadsChangeTheirRegister := by
  refine ⟨fun s a p r i hi hr => ?_, fun s a v p hi hp hv hlt => ?_⟩
  · have hl := regAt_fields hr
    have he : doRcCounterRead a s = (r.flds.filter fun f => f.acc = .rc).foldl (fun s f => s.setFld a f.lo f.w 0) s := by
      unfold doRcCounterRead
      rw [hr]
    obtain ⟨h1, h2, h3⟩ := foldl_clearFields (a := a) (l := r.flds.filter fun f => f.acc = .rc)
      (fun f hf => ((fieldsFrom_bounds hl).2 f (List.mem_filter.mp hf).1).2) hi.rising
    refine ⟨_, congrArg Host.Outcome.next he, h1, h2, fun f hf => ?_⟩
    rw [h3, bitsOf_putFields_filter hl _ _ _ hf]
    simp [bitsOf]
  · have he : doLoReadCopiesHi a s = s.setReg (a + 4) (v / 2 ^ 32) := by
      unfold doLoReadCopiesHi
      simp only [hp, Option.bind_some, hv]
    have hq : v / 2 ^ 32 < 2 ^ 32 := by omega
    refine ⟨_, congrArg Host.Outcome.next he, setReg_only _ _ _, ?_, fun b hb => ?_⟩
    · rw [reg_setReg hi.rising, if_pos rfl, Nat.mod_eq_of_lt hq]
    · rw [reg_setReg hi.rising, if_neg hb]

end Sys2Proof.Machine
end

section
/-!
PROOFS. The clears of counters and logs (O18, O19), SESS_LEN and the bandwidth split (O20).
-/
namespace Sys2Proof.Machine

/-! ### Counters cleared -/

theorem rising_clear48 {s : State} (h : risingFrom none s.ctrs = true) (a : Nat) : risingFrom none (s.clear48 a).ctrs = true := by
  show risingFrom none (putD 0 s.ctrs a 0) = true
  unfold putD
  rw [if_pos rfl]
  exact risingFrom_del h

theorem ctr_clear48 {s : State} (h : risingFrom none s.ctrs = true) (a b : Nat) :
    (s.clear48 a).ctr b = if b = a then 0 else s.ctr b := look_putD h 0 a b 0

/-- Counters cleared one after the other. -/
theorem foldl_clear48 : ∀ (l : List Nat) {s : State}, risingFrom none s.ctrs = true →
    let t := l.foldl State.clear48 s
    t = { s with ctrs := t.ctrs } ∧ (∀ a ∈ l, t.ctr a = 0) ∧ ∀ a, a ∉ l → t.ctr a = s.ctr a
  | [], _, _ => ⟨rfl, fun _ ha => absurd ha List.not_mem_nil, fun _ _ => rfl⟩
  | x :: l, s, h => by
    obtain ⟨h1, h2, h3⟩ := foldl_clear48 l (rising_clear48 h x)
    refine ⟨h1, fun a ha => ?_, fun a ha => ?_⟩
    · by_cases hl : a ∈ l
      · exact h2 a hl
      · have hx : a = x := (List.mem_cons.mp ha).resolve_right hl
        exact (h3 a hl).trans ((ctr_clear48 h x a).trans (if_pos hx))
    · obtain ⟨hx, hl⟩ := not_or.mp (mt List.mem_cons.mpr ha)
      exact (h3 a hl).trans ((ctr_clear48 h x a).trans (if_neg hx))

/-- Settles O18: each action clears the counters of its list in order. -/
theorem countClearsZeroTheirCounters : Obligations.CountClearsZeroTheirCounters := by
  intro s n hi
  have key (l : List Nat) := foldl_clear48 l hi.risingCtrs
  refine ⟨fun hn => ⟨_, congrArg Host.Outcome.next (?_ : doFurrowCountClear n s = _), key _⟩, ⟨_, rfl, key [_, _]⟩,
    fun hn => ⟨_, congrArg Host.Outcome.next (?_ : doTallyCountClear n s = _), key [_, _]⟩,
    fun hn => ⟨_, congrArg Host.Outcome.next (?_ : doGleanerCountClear n s = _), key [_, _]⟩⟩
  · unfold doFurrowCountClear
    rw [if_neg (Nat.not_le.mpr hn), List.foldl_map]
  · exact if_neg (Nat.not_le.mpr hn)
  · exact if_neg (Nat.not_le.mpr hn)

/-! ### Logs cleared -/

theorem zeroRegs_eq (s : State) (l : List Nat) : s.zeroRegs l = s.setRegs (l.map fun a => (a, 0)) := by
  unfold State.zeroRegs State.setRegs
  rw [List.foldl_map]

theorem logWords_nodup (a n : Nat) : (logWords a n).Nodup := by
  unfold logWords List.Nodup
  rw [List.pairwise_map]
  exact List.Pairwise.imp (fun hne h => hne (by omega)) List.nodup_range

theorem zeroRegs_spec {s : State} (h : risingFrom none s.regs = true) {l : List Nat} (hl : l.Nodup) :
    s.zeroRegs l = { s with regs := (s.zeroRegs l).regs } ∧ (∀ a ∈ l, (s.zeroRegs l).reg a = 0) ∧
      ∀ a, a ∉ l → (s.zeroRegs l).reg a = s.reg a := by
  have hm : (l.map fun a => (a, 0)).map Prod.fst = l := by simp [Function.comp_def]
  rw [zeroRegs_eq]
  refine ⟨setRegs_only _ s, fun a ha => ?_, fun a ha => reg_setRegs_of_notMem _ h (hm.symm ▸ ha)⟩
  exact reg_setRegs_of_mem (e := (a, 0)) _ h (hm.symm ▸ hl) (List.mem_map.mpr ⟨a, ha, rfl⟩)

theorem exec_ceLogClear {c : Nat} (h : c < 40) (s : State) :
    exec (.ceLogClear c) s = .next { s.zeroRegs (logWords (aMemctl c 0x200) 16) with memory :=
      { (s.zeroRegs (logWords (aMemctl c 0x200) 16)).memory with
        ceOverflowed := (s.zeroRegs (logWords (aMemctl c 0x200) 16)).memory.ceOverflowed.filter fun x => x ≠ c } } :=
  congrArg Host.Outcome.next (if_neg (Nat.not_le.mpr h))

theorem exec_ueLogClear {c : Nat} (h : c < 40) (s : State) :
    exec (.ueLogClear c) s = .next (s.zeroRegs (logWords (aMemctl c 0x300) 4)) :=
  congrArg Host.Outcome.next (if_neg (Nat.not_le.mpr h))

theorem exec_sieveLogClear (s : State) : exec .sieveLogClear s = .next (s.zeroRegs (logWords (aSieve 0x100) 8)) := rfl

/-- Registers set to 0, and a controller taken off those whose log has overflowed. -/
theorem overflow_only {s z : State} {l : List Nat} (h1 : z = { s with regs := z.regs }) (h2 : ∀ a ∈ l, z.reg a = 0)
    (h3 : ∀ a, a ∉ l → z.reg a = s.reg a) (v : List Nat) :
    let t : State := { z with memory := { z.memory with ceOverflowed := v } }
    (∀ a ∈ l, t.reg a = 0) ∧ (∀ a, a ∉ l → t.reg a = s.reg a) ∧
      t = { s with regs := t.regs, memory := { s.memory with ceOverflowed := t.memory.ceOverflowed } } := by
  refine ⟨h2, h3, ?_⟩
  rw [h1]

/-- Settles O19: each log is a list of distinct registers. -/
theorem logClearsEmptyTheirLogs : Obligations.LogClearsEmptyTheirLogs := by
  intro s c hi hc
  have key (a n : Nat) := zeroRegs_spec hi.rising (logWords_nodup a n)
  refine ⟨?_, ?_, ?_, rfl⟩
  · obtain ⟨h1, h2, h3⟩ := key (aMemctl c 0x200) 16
    exact ⟨_, exec_ceLogClear hc s, overflow_only h1 h2 h3 _⟩
  · obtain ⟨h1, h2, h3⟩ := key (aMemctl c 0x300) 4
    refine ⟨_, exec_ueLogClear hc s, h2, h3, ?_⟩
    rw [h1]
  · obtain ⟨h1, h2, h3⟩ := key (aSieve 0x100) 8
    refine ⟨_, exec_sieveLogClear s, h2, h3, ?_⟩
    rw [h1]

/-! ### SESS_LEN and the split -/

theorem session_setSession (s : State) (n m : Nat) (x : Session) :
    (s.setSession n x).session m = if m = n then some x else s.session m := look_put _ _ _ _

theorem exec_sessLenWrite (s : State) (v : Nat) : exec (.sessLenWrite v) s = .next (doSessLenWrite v s) := rfl

theorem presetShares_length {infer : List Nat} (h : infer.length = 3) (preset custom : Nat) :
    (presetShares preset infer custom).length = 3 := by
  unfold presetShares
  split
  · exact h
  · rfl
  · rfl
  · rfl

/-- Settles O20: the selected session decides the one, the two preset fields the other. -/
theorem sessLenAndSplitWrites : Obligations.SessLenAndSplitWrites := by
  refine ⟨fun s v => ⟨fun x hx hh hv => ⟨?_, ?_⟩, fun h => ?_⟩, fun s => ⟨_, rfl, ?_, ?_⟩⟩
  · rw [exec_sessLenWrite]
    unfold doSessLenWrite State.sessLenOk
    simp [hx, hh, hv]
  · rw [session_setSession, if_pos rfl]
  · have hbad : s.sessLenOk s.selected v = false := by
      unfold State.sessLenOk
      rcases h with hn | ⟨x, hx, hheld | hlt⟩
      · simp [hn]
      · simp [hx, hheld]
      · simp [hx, hlt]
    rw [exec_sessLenWrite]
    unfold doSessLenWrite
    simp only [hbad, Bool.false_eq_true, if_false]
  · rw [List.length_append, presetShares_length rfl, presetShares_length rfl]
  · have h3 (preset custom : Nat) : (presetShares preset [32, 5, 3] custom).length = 3 := presetShares_length rfl _ _
    simp only [List.take_left' (h3 _ _), List.drop_left' (h3 _ _)]
    refine ⟨fun h => ?_, fun h => ?_, fun h => ?_, fun h => ?_, fun h => ?_, fun h => ?_, fun h => ?_, fun h => ?_⟩
    all_goals rw [h]
    all_goals rfl

end Sys2Proof.Machine
end

section
/-!
PROOFS. MEM_WRITE and MEM_READ, answered, refused and failed (O21, O22, O24).
-/
namespace Sys2Proof.Machine

/-! ### A failure that holds its lane -/

/-- A failure of class 0x2xxx answers its command and holds the lane (R71). -/
theorem failReply_holds {u : State} {h : ReqHdr} (w : u.awaits h) {f : Failure} (h2 : f.status / 0x1000 = 2)
    (hw : f.status ≠ stWrongState) (op rec : Nat) : ((u.failReply h op f rec).lane h.lane).held = some h.seq ∧
      (u.failReply h op f rec).answered h op f.status f.bytes := by
  unfold State.failReply
  rw [if_neg hw]
  extract_lets g lane v
  have hv : v = (u.setLane h.lane { lane with held := some h.seq }).raiseAt (f.record 0x0010 h rec) (u.failClock f) := if_pos h2
  obtain ⟨rg, ev, lg, la, hr⟩ := raiseAt_only (u.setLane h.lane { lane with held := some h.seq }) (f.record 0x0010 h rec) (u.failClock f)
  have hlanes : v.lanes = (u.setLane h.lane { lane with held := some h.seq }).lanes := by rw [hv, hr]
  have hvl : v.lane h.lane = { lane with held := some h.seq } := by
    rw [State.lane, hlanes, ← State.lane, lane_setLane, if_pos ⟨rfl, w.lanes.symm ▸ w.lane⟩]
  have ha : v.awaits h := by
    obtain ⟨hn, hl, hj, ho⟩ := w
    exact ⟨by rw [hlanes]; simpa using hn, hl, hvl.symm ▸ hj, hvl.symm ▸ ho⟩
  exact ⟨by rw [lane_reply_self ha, hvl], reply_answered ha _ _ _⟩

/-! ### MEM_WRITE and MEM_READ -/

/-- A command's write to quiet memory changes registers, programs and bytes of memory only, and leaves memory quiet. -/
theorem commandWrite_quiet {s : State} (hq : s.quiet) (hw : s.memory.wf = true) (lane a : Nat) (bs : List Byte) :
    ∃ t, s.commandWrite lane a bs = (none, t) ∧ t.lanes = s.lanes ∧ t.quiet ∧ t.byteAt = overlay a bs s.byteAt := by
  obtain ⟨herrs, hbad, hmerge, hloft, hsilo, hfails⟩ := id hq
  have hwrite := writeMem_stores (buffering_of_empty (s := s.uncheck a bs.length) (.lane lane) hq.errorFree hw hmerge) a bs
  obtain ⟨hflush, hempty⟩ := flushOwner_stores hwrite.buffering
  obtain ⟨rg, cells, mg, hframe⟩ := (hwrite.trans hflush).frame
  have hview : (s.uncheck a bs.length).viewAt = s.byteAt := funext (viewAt_of_empty hmerge)
  refine ⟨((s.uncheck a bs.length).writeMem (.lane lane) a bs).flushOwner (.lane lane), ?_, by rw [hframe]; rfl, ?_, ?_⟩
  · rw [State.commandWrite, takeFails_of_no_fails (by rw [hframe]; exact hfails)]
    rfl
  · rw [hframe] at hempty ⊢
    exact ⟨herrs, hbad, hempty, hloft, hsilo, hfails⟩
  · rw [← funext (viewAt_of_empty hempty), hflush.view, hwrite.view, hview]

theorem byteAt_of_memory {s t : State} (h : t.memory = s.memory) : t.byteAt = s.byteAt := by
  funext x
  rw [State.byteAt, h, State.byteAt]

theorem quiet_of_memory {s t : State} (h : t.memory = s.memory) (hq : s.quiet) : t.quiet := by
  rw [State.quiet, h]
  exact hq

/-- Settles O21: the write lays its bytes over quiet memory, and the reply leaves memory alone. -/
theorem memWriteStoresItsBytes : Obligations.MemWriteStoresItsBytes := by
  intro s h a d hi hq hs hd hmax htier
  have hw : (s.accept h).memory.wf = true := by simpa using hi.memory
  obtain ⟨t, hwrite, hlanes, hquiet, hbyte⟩ := commandWrite_quiet (accept_quiet hq) hw h.lane a d
  have hf : firstFailure ([] ++ [rangeCheck 0 a d.length, inRange 8 d.length 0 8952, rsvZero 12 0] ++ []) = none := by
    simp [rangeCheck_eq_none htier, inRange_eq_none (Nat.zero_le _) hmax]
  have he : exec (.memWrite h a 0 d) s = .next (doMemWrite h a 0 d (s.accept h)) := exec_of_servesNow hs rfl rfl
  have hmem := reply_memory t h 0x0201 stOk []
  refine ⟨t.reply h 0x0201 stOk, ?_, reply_answered (awaits_of_lanes hlanes (accept_awaits hs.1)) _ _ _,
    quiet_of_memory hmem hquiet, fun i hid => ?_, fun b hb => ?_⟩
  · rw [he, doMemWrite, serve_servesNow hs rfl hf, if_neg (by simpa using hd)]
    simp only [hwrite]
  · rw [byteAt_of_memory hmem, hbyte, overlay_inside hid]
  · rw [byteAt_of_memory hmem, hbyte, overlay_outside hb, accept_byteAt]

/-- In a state with a trained memory the state is no bar to a read (R109, log entry 2). -/
theorem wrongUnless_trained {s : State} {h : ReqHdr} (hs : s.hasp.running = true ∨ s.dev ≠ .fault) :
    wrongUnless ((s.accept h).hasp.running || (s.accept h).dev ≠ .fault) = none := by
  have hb : ((s.accept h).hasp.running || (s.accept h).dev ≠ .fault) = true := by simpa using hs
  rw [hb]
  rfl

theorem exec_memRead_of_servesNow {s : State} {h : ReqHdr} {a n : Nat} (hs : s.servesNow h 0x0202)
    (hrun : s.hasp.running = true ∨ s.dev ≠ .fault) (hn : 1 ≤ n) (hmax : n ≤ 65536) (htier : inTier a n = true)
    {bs : List Byte} {bad : Option Nat} (hread : (s.accept h).readMem 0 a n = ((bs, bad), s.accept h)) :
    exec (.memRead h a n 0) s = .next (bad.elim ((s.accept h).reply h 0x0202 stOk bs)
      fun w => (s.accept h).failReply h 0x0202 (ueFailure w)) := by
  have hf : firstFailure ([wrongUnless ((s.accept h).hasp.running || (s.accept h).dev ≠ .fault)]
      ++ [rangeCheck 0 a n, inRange 8 n 0 65536, rsvZero 12 0] ++ []) = none := by
    rw [wrongUnless_trained hrun, rangeCheck_eq_none htier, inRange_eq_none (Nat.zero_le _) hmax]
    rfl
  have he : exec (.memRead h a n 0) s = .next (doMemRead h a n 0 (s.accept h)) := exec_of_servesNow hs rfl rfl
  rw [he, doMemRead, serve_servesNow hs rfl hf, if_neg (by simpa using Nat.ne_of_gt hn), hread]
  cases bad <;> rfl

/-- Settles O22. -/
theorem memReadReturnsBytes : Obligations.MemReadReturnsBytes := by
  intro s h a n hq hs hrun hn hmax htier
  have hq' : (s.accept h).quiet := accept_quiet hq
  have hbytes : (s.accept h).bytesAt a n = s.bytesAt a n := by
    unfold State.bytesAt
    exact List.map_congr_left fun i _ => accept_byteAt s h (a + i)
  rw [exec_memRead_of_servesNow hs hrun hn hmax htier (readMem_of_errorFree hq'.errorFree hq'.merge 0 a n), hbytes]
  rfl

/-- A read of Granary bytes changes nothing, and stops at the word of the first byte with bad parity, which lies in the
range (R91, R326). -/
theorem readPieces_granary (src : Nat) {s : State} {x e : Nat} (hx : x ∈ s.memory.badParity) (he : e ≤ 0x28000000) :
    ∀ {l : List (Nat × Nat)} {c : Nat}, tiles c e l → c ≤ x → x < e →
      ∃ bs w, State.readPieces src l s = ((bs, some w), s) ∧ w % 64 = 0 ∧ w < 0x28000000
  | [], c, (ht : c = e), hc, hxe => by omega
  | p :: t, c, ⟨hp, hb, ht⟩, hc, hxe => by
    have hle := tiles_le ht
    have hg : tierOf p.1 = some .granary := tierOf_eq_granary.mpr (by omega)
    by_cases hbad : (s.memory.badParity.any fun x => p.1 ≤ x && x < p.1 + p.2) = true
    · refine ⟨[], p.1 / 64 * 64, ?_, by omega, by omega⟩
      simp only [State.readPieces, State.readPiece, if_pos hg, if_pos hbad]
    · have hnot : ¬ (p.1 ≤ x ∧ x < p.1 + p.2) := fun k => hbad (List.any_eq_true.mpr ⟨x, hx, by simpa using k⟩)
      obtain ⟨bs, w, hr, hw⟩ := readPieces_granary src hx he ht (by omega) hxe
      refine ⟨s.bytesAt p.1 p.2 ++ bs, w, ?_, hw⟩
      simp only [State.readPieces, State.readPiece, if_pos hg, if_neg hbad, hr]

theorem inTier_granary {a n : Nat} (hn : 1 ≤ n) (h : a + n ≤ 0x28000000) : inTier a n = true := by
  have hg : tierOf a = some .granary := tierOf_eq_granary.mpr (by omega)
  simpa [inTier, hg, Tier.base, Tier.size] using h

/-- Settles O24. -/
theorem failingAccessesAreAnswered : Obligations.FailingAccessesAreAnswered := by
  refine ⟨fun s h a d hs hd htier => ?_, fun s h a n x hs hrun hn hmax hgran hbad hax hxn => ?_⟩
  · have he : exec (.memWrite h a 0 d) s = .next (doMemWrite h a 0 d (s.accept h)) := exec_of_servesNow hs rfl rfl
    have hr : rangeCheck 0 a d.length = some (fAddr 0 (firstOutside a)) := by
      simp [rangeCheck, hd, htier, need]
    rw [he, doMemWrite, serve_fails hs rfl (by rw [hr]; rfl)]
  · have hbad' : x ∈ (s.accept h).memory.badParity := by simpa using hbad
    obtain ⟨bs, w, hread, hw, hwg⟩ := readPieces_granary 0 hbad' hgran (tiles_wordPieces a n) hax hxn
    have hread : (s.accept h).readMem 0 a n = ((bs, some w), s.accept h) := hread
    have hf : ueFailure w = { status := stMemUncorrectable, detail := w } := if_pos (tierOf_eq_granary.mpr hwg)
    obtain ⟨hheld, hans⟩ := failReply_holds (accept_awaits hs.1) (f := { status := stMemUncorrectable, detail := w })
      (show stMemUncorrectable / 0x1000 = 2 by decide) (show stMemUncorrectable ≠ stWrongState by decide) 0x0202 0xFFFFFFFF
    refine ⟨_, w, ?_, hw, hheld, hans, fun b => ?_⟩
    · rw [exec_memRead_of_servesNow hs hrun hn hmax (inTier_granary hn hgran) hread, Option.elim_some, hf]
    · rw [byteAt_of_memory (failReply_memory ..), accept_byteAt]

end Sys2Proof.Machine
end

section
/-!
PROOFS. The protection classes, the merge timer, region tables and flips (O25 to O28).
-/
namespace Sys2Proof.Machine

/-! ### What a class corrects (R325) -/

/-- Settles O25. -/
theorem classesCorrectWhatTheyPromise : Obligations.ClassesCorrectWhatTheyPromise := by
  intro e hp
  have hpoison (cls : Nat) (x : ReadOutcome) : (if e.poison then .uncorrectable else x) = x := by simp [hp]
  refine ⟨fun h1 h4 => ?_, fun ⟨k, hk, h1⟩ hmax => ?_, fun ⟨k, hk, h2⟩ => ?_, fun i hi hw => ?_⟩
  · unfold WordErr.outcome
    rw [hpoison 0, if_pos rfl, if_neg (by omega), if_pos h4]
  · have hno2 : ¬ ((List.range 8).any fun k => e.groupBits k = 2) = true := by
      simp only [List.any_eq_true, List.mem_range, decide_eq_true_eq, not_exists, not_and]
      exact fun j hj => by have := hmax j hj; omega
    have hno3 : ¬ ((List.range 8).any fun k => 3 ≤ e.groupBits k) = true := by
      simp only [List.any_eq_true, List.mem_range, decide_eq_true_eq, not_exists, not_and]
      exact fun j hj => by have := hmax j hj; omega
    have hone : ((List.range 8).any fun k => e.groupBits k = 1) = true := by
      simp only [List.any_eq_true, List.mem_range, decide_eq_true_eq]
      exact ⟨k, hk, h1⟩
    unfold WordErr.outcome
    rw [hpoison 1, if_neg (by decide), if_pos rfl, if_neg hno2, if_neg hno3, if_pos hone]
  · have htwo : ((List.range 8).any fun k => e.groupBits k = 2) = true := by
      simp only [List.any_eq_true, List.mem_range, decide_eq_true_eq]
      exact ⟨k, hk, h2⟩
    unfold WordErr.outcome
    rw [hpoison 1, if_neg (by decide), if_pos rfl, if_pos htwo]
  · have hodd : ((List.range 64).any fun i => e.parityWrong i) = true := by
      simp only [List.any_eq_true, List.mem_range]
      exact ⟨i, hi, hw⟩
    unfold WordErr.outcome
    rw [hpoison 2, if_neg (by decide), if_neg (by decide), if_pos hodd]

/-! ### The merge timer (R330, R332) -/

/-- No word is stored with an error, and no flip is armed; Granary parity is another matter. -/
structure State.plain (s : State) : Prop where
  errs : s.memory.errs = []
  loft : s.memory.flipLoft = none
  silo : s.memory.flipSilo = none

theorem clearErr_of_plain {s : State} (hs : s.plain) (w : Nat) : s.clearErr w = s := by
  have h : (s.memory.errs.filter fun e => !(e.word = w)) = s.memory.errs := by simp [hs.errs]
  unfold State.clearErr
  rw [h]

theorem errOf_of_plain {s : State} (hs : s.plain) (w : Nat) : s.errOf w = none := by simp [State.errOf, hs.errs]

theorem applyFlip_of_plain {s : State} (hs : s.plain) (w : Nat) : s.applyFlip w = s := by
  have hf (t : Tier) : s.flipOf t = none := by
    cases t with
    | granary => exact hs.loft
    | loft => exact hs.loft
    | silo => exact hs.silo
  simp [State.applyFlip, hf]

theorem plain_withStore {s : State} (hs : s.plain) (rg : List (Nat × BitVec 32)) (cells : List (Nat × Byte)) (mg : List MergeEntry) :
    (s.withStore rg cells mg).plain := ⟨hs.errs, hs.loft, hs.silo⟩

/-- A whole entry is stored as its bytes in order. -/
theorem look_pokeCells_entry {c : List (Nat × Byte)} {m : MergeEntry} (hc : canonical (fun _ => (0 : Byte)) c = true)
    (ha : m.word % 64 = 0) (ho : offsetsOk m.bytes) (hl : m.bytes.length = 64) (x : Nat) :
    (look (pokeCells c m.word (m.bytes.map (·.2))) x).getD 0 = storedEntry m (fun x => (look c x).getD 0) x := by
  obtain ⟨hr, hoff⟩ := ho
  rw [look_pokeCells _ _ _ hc, List.length_map, hl, storedEntry]
  by_cases hx : x / 64 * 64 = m.word
  · have hfull := look_of_full 0 (c := 0) hr (fun e he => ⟨Nat.zero_le _, by have := hoff e he; omega⟩) (x % 64) (by omega)
    rw [Nat.zero_add] at hfull
    rw [if_pos (by omega), if_pos hx, hfull, show x - m.word = x % 64 by omega]
    rfl
  · rw [if_neg (by omega), if_neg hx]

/-- An entry stored byte by byte. -/
theorem look_pokeSome_word {c : List (Nat × Byte)} {m : MergeEntry} (hc : canonical (fun _ => (0 : Byte)) c = true)
    (ha : m.word % 64 = 0) (ho : offsetsOk m.bytes) (x : Nat) :
    (look (pokeSome c m.word m.bytes) x).getD 0 = storedEntry m (fun x => (look c x).getD 0) x := by
  obtain ⟨hr, hoff⟩ := ho
  rw [look_pokeSome _ _ hr hc, storedEntry]
  by_cases hx : x / 64 * 64 = m.word
  · rw [if_pos (by omega), if_pos hx, show x - m.word = x % 64 by omega]
  · have hout : m.word ≤ x → look m.bytes (x - m.word) = none := fun hle => by
      cases h : look m.bytes (x - m.word) with
      | none => rfl
      | some v =>
        have hlt : x - m.word < 64 := hoff _ (look_some_mem h)
        omega
    rw [if_neg hx]
    split
    · next hle => rw [hout hle, Option.getD_none]
    · rfl

/-- An entry stored in part, where no word is in error and no flip is armed (R330). -/
theorem storePart_of_plain {s : State} {m : MergeEntry} (hs : s.plain) (hw : s.memory.wf = true) (ha : m.word % 64 = 0)
    (ho : offsetsOk m.bytes) : ∃ cells, s.storePart m = s.withStore s.regs cells s.memory.merge ∧
      ∀ x, (look cells x).getD 0 = storedEntry m s.byteAt x := by
  have hflip (cells : List (Nat × Byte)) : (s.withStore s.regs cells s.memory.merge).applyFlip m.word
      = s.withStore s.regs cells s.memory.merge := applyFlip_of_plain (plain_withStore hs _ _ _) _
  have hread (src : Nat) : s.readWord m.word src = (some (s.bytesAt m.word 64), s) := by
    simp [State.readWord, errOf_of_plain hs]
  unfold State.storePart
  rw [errOf_of_plain hs, hread]
  split
  · exact ⟨_, hflip _, look_pokeSome_word hw ha ho⟩
  · have hp : (s.poke m.word (s.bytesAt m.word 64)).plain := ⟨hs.errs, hs.loft, hs.silo⟩
    have hwp := wf_poke m.word (s.bytesAt m.word 64) hw
    have hsame : (s.poke m.word (s.bytesAt m.word 64)).byteAt = s.byteAt := funext (byteAt_poke_bytesAt hw _ _)
    simp only [clearErr_of_plain hp]
    exact ⟨_, hflip _, hsame ▸ look_pokeSome_word hwp ha ho⟩

/-- A flush takes its entry out of the buffer and stores its bytes; besides, only registers that count change. -/
theorem flushEntry_of_plain {s : State} {m : MergeEntry} (hs : s.plain) (hw : s.memory.wf = true) (ha : m.word % 64 = 0)
    (ho : offsetsOk m.bytes) : ∃ rg cells,
      s.flushEntry m = s.withStore rg cells (s.memory.merge.filter fun x => !(x.word = m.word)) ∧
      ∀ x, (look cells x).getD 0 = storedEntry m s.byteAt x := by
  rw [flushEntry_eq]
  obtain ⟨rg, hb⟩ := bump_withStore s s.regs s.memory.cells (s.memory.merge.filter fun x => !(x.word = m.word))
    (aMemctl m.ctl 0x120) 1
  simp only [hb]
  split
  · next hl =>
    have hp (r : List (Nat × BitVec 32)) (c : List (Nat × Byte)) (g : List MergeEntry) (d : List Byte) :
        ((s.withStore r c g).poke m.word d).plain := ⟨hs.errs, hs.loft, hs.silo⟩
    rw [State.writeWord, clearErr_of_plain (hp _ _ _ _), applyFlip_of_plain (hp _ _ _ _)]
    exact ⟨rg, _, rfl, look_pokeCells_entry hw ha ho hl⟩
  · obtain ⟨rg', hc⟩ := bump_withStore s rg s.memory.cells (s.memory.merge.filter fun x => !(x.word = m.word))
      (aMemctl m.ctl 0x124) 1
    obtain ⟨cells, hp, hbyte⟩ := storePart_of_plain (s := s.withStore rg' s.memory.cells
      (s.memory.merge.filter fun x => !(x.word = m.word))) (plain_withStore hs _ _ _) hw ha ho
    rw [hc, hp]
    exact ⟨rg', cells, rfl, hbyte⟩

/-- A flush that failed nowhere aborts nothing (R332). -/
theorem stepFlushFails_of_no_fails {s : State} (h : s.memory.flushFails = []) (o : Owner) : s.stepFlushFails o = s := by
  unfold State.stepFlushFails
  split
  · rfl
  · split
    · rfl
    · rw [takeFails_of_no_fails h]

theorem exec_mergeFlushTimer {s : State} {m : MergeEntry} (h : s.memory.merge = [m]) :
    exec (.mergeFlushTimer m.ctl m.word) s = .next ((s.flushEntry m).stepFlushFails m.owner) := by
  have hfind : (s.memory.merge.find? fun x => x.ctl = m.ctl && x.word = m.word) = some m := by simp [h]
  show Host.Outcome.next (doMergeFlushTimer m.ctl m.word s) = _
  rw [doMergeFlushTimer, hfind]

/-- Settles O26. -/
theorem mergeTimerFlushes : Obligations.MergeTimerFlushes := by
  intro s m hi hm herrs hloft hsilo hfails ha hoff hr
  obtain ⟨rg, cells, hflush, hbyte⟩ := flushEntry_of_plain ⟨herrs, hloft, hsilo⟩ hi.memory ha ⟨hr, hoff⟩
  have hmerge : (s.memory.merge.filter fun x => !(x.word = m.word)) = [] := by simp [hm]
  rw [hmerge] at hflush
  refine ⟨s.withStore rg cells [], ?_, rfl, fun o ho => ?_, fun x hx => ?_⟩
  · rw [exec_mergeFlushTimer hm, hflush, stepFlushFails_of_no_fails (s := s.withStore rg cells []) hfails]
  · refine (hbyte _).trans ?_
    rw [storedEntry, if_pos (by omega), show (m.word + o) % 64 = o by omega]
  · refine (hbyte x).trans ?_
    rw [storedEntry, if_neg (by omega)]

end Sys2Proof.Machine
end

section
/-!
PROOFS. Flips (O28).
-/
namespace Sys2Proof.Machine

/-! ### ECC_FLIP_ARM (R338) -/

theorem putD_append {β : Type} [DecidableEq β] (d v : β) (hv : v ≠ d) {k : Nat} : ∀ {l : List (Nat × β)}, (∀ e ∈ l, e.1 < k) →
    look l k = none ∧ putD d l k v = l ++ [(k, v)]
  | [], _ => ⟨rfl, by simp [putD, hv, put]⟩
  | (j, w) :: t, h => by
    obtain ⟨hlook, hput⟩ := putD_append d v hv fun e he => h e (List.mem_cons_of_mem _ he)
    have hj : j < k := h _ List.mem_cons_self
    have hne : k ≠ j := by omega
    unfold putD at hput ⊢
    rw [if_neg hv] at hput ⊢
    refine ⟨by simp [look, hne, hlook], ?_⟩
    rw [put, if_neg (by omega), if_neg (by omega), hput]
    rfl

/-- Errors laid over a word stored without one are its errors. -/
theorem foldl_xor_append : ∀ {f l : List (Nat × Byte)}, (l ++ f).Pairwise (fun a b => a.1 < b.1) → (∀ e ∈ f, e.2 ≠ 0) →
    xorBytes l f = l ++ f
  | [], l, _, _ => (List.append_nil l).symm
  | (k, v) :: t, l, hp, hv => by
    have hlt : ∀ e ∈ l, e.1 < k := fun e he => (List.pairwise_append.mp hp).2.2 e he _ List.mem_cons_self
    have hv0 : v ≠ 0 := hv (k, v) List.mem_cons_self
    obtain ⟨hlook, hput⟩ := putD_append 0 v hv0 hlt
    have hstep : putD 0 l k ((look l k).getD 0 ^^^ v) = l ++ [(k, v)] := by
      rw [hlook, Option.getD_none, show (0 : Byte) ^^^ v = v from BitVec.zero_xor, hput]
    have hl : l ++ [(k, v)] ++ t = l ++ (k, v) :: t := by simp
    show xorBytes (putD 0 l k ((look l k).getD 0 ^^^ v)) t = _
    rw [hstep, foldl_xor_append (hl ▸ hp) fun e he => hv e (List.mem_cons_of_mem _ he), hl]

theorem xorBytes_flip {n p : Nat} (hp : BitVec.ofNat 8 p ≠ 0) (c : Nat → Bool) :
    xorBytes [] (((List.range n).filter c).map fun i => (i, BitVec.ofNat 8 p))
      = ((List.range n).filter c).map fun i => (i, BitVec.ofNat 8 p) := by
  refine foldl_xor_append ?_ fun e he => ?_
  · rw [List.nil_append, List.pairwise_map]
    exact (List.pairwise_lt_range).filter _
  · obtain ⟨i, -, rfl⟩ := List.mem_map.mp he
    exact hp

/-- A flip over a word stored without an error stores the flip's own error. -/
theorem flipped_of_clean {f : Flip} (hp : BitVec.ofNat 8 f.pattern ≠ 0) (w : Nat) :
    ({ word := w } : WordErr).flipped (f.err w) = f.err w := by
  have hd : xorBytes [] (f.err w).data = (f.err w).data := xorBytes_flip hp fun i => bitOf f.symbolMask i
  have hc : xorBytes [] (f.err w).check = (f.err w).check := xorBytes_flip hp fun i => bitOf f.checkMask i
  unfold WordErr.flipped
  rw [show ({ word := w } : WordErr).data = [] from rfl, show ({ word := w } : WordErr).check = [] from rfl, hd, hc]
  rfl

theorem pattern_ne_zero {p : Nat} (h1 : 1 ≤ p) (h255 : p ≤ 255) : BitVec.ofNat 8 p ≠ 0 := by
  intro h
  have hn := congrArg BitVec.toNat h
  have hz : (0 : Byte).toNat = 0 := rfl
  rw [BitVec.toNat_ofNat, hz] at hn
  omega

theorem setFlip_flipOf (s : State) (t : Tier) (f : Option Flip) : (s.setFlip t f).flipOf t = f := by cases t <;> rfl
theorem setFlip_lanes (s : State) (t : Tier) (f : Option Flip) : (s.setFlip t f).lanes = s.lanes := by cases t <;> rfl
theorem setFlip_flipFired (s : State) (t : Tier) (f : Option Flip) : (s.setFlip t f).memory.flipFired = s.memory.flipFired := by
  cases t <;> rfl

theorem flipOf_of_memory {s t : State} (h : t.memory = s.memory) (k : Tier) : t.flipOf k = s.flipOf k := by
  cases k <;> simp [State.flipOf, h]

/-- The stored error of a word set, where it is one. -/
theorem setErr_errOf (s : State) {e : WordErr} (he : e.data ≠ [] ∨ e.check ≠ []) :
    (s.setErr e).errOf e.word = some e ∧ ∀ t, (s.setErr e).flipOf t = s.flipOf t := by
  have hne : ¬ (e.data = [] ∧ e.check = [] ∧ e.poison = false) := fun ⟨hd, hc, _⟩ => he.elim (· hd) (· hc)
  refine ⟨?_, fun t => by cases t <;> rfl⟩
  unfold State.errOf State.setErr
  dsimp only
  rw [if_neg hne, List.find?_cons_of_pos (by simp)]

/-- An armed flip of the entry of a word stored without an error corrupts the word, and is spent (R338). -/
theorem applyFlip_fires {u : State} {w : Nat} {f : Flip} (herrs : u.memory.errs = []) (hf : u.flipOf ((tierOf w).getD .loft) = some f)
    (hc : (u.classOf w).1 = f.entry) (hp : BitVec.ofNat 8 f.pattern ≠ 0) (he : (f.err w).data ≠ [] ∨ (f.err w).check ≠ []) :
    (u.applyFlip w).flipOf ((tierOf w).getD .loft) = none ∧ (u.applyFlip w).errOf w = some (f.err w) ∧
      (u.applyFlip w).memory.flipFired = [ctlOf w] := by
  have hdirty : u.errOf w = none := by simp [State.errOf, herrs]
  obtain ⟨herr, hflip⟩ := setErr_errOf (u.setFlip ((tierOf w).getD .loft) none) he
  unfold State.applyFlip
  simp only [hf, hc, ne_eq, not_true_eq_false, if_false, hdirty, Option.getD_none, flipped_of_clean hp]
  exact ⟨(hflip _).trans (setFlip_flipOf _ _ _), herr, rfl⟩

/-- Settles O28: a whole word is written without an error before the armed flip of its entry is laid over it. -/
theorem flipFiresOnce : Obligations.FlipFiresOnce := by
  intro s h f tier hs ht hentry hen hp1 hp255 hmask
  refine ⟨?_, fun u w d herrs hf hc he => ?_⟩
  · have hnone : decide (f.checkMask = 0 ∧ f.symbolMask = 0) = false := by
      rw [decide_eq_false_iff_not]
      exact fun ⟨hc, hs⟩ => hmask.elim (· hc) (· hs)
    have hregions : (s.accept h).regions (tierNamed tier) = s.regions (tierNamed tier) := by
      unfold State.regions
      rw [accept_memory]
    have hpat : f.pattern ≠ 0 := by omega
    have hf : firstFailure ([] ++ [inRange 0 tier 0 1, inRange 1 f.entry 0 15,
        need (decide (f.checkMask = 0 ∧ f.symbolMask = 0) || (((s.accept h).regions (tierNamed tier)).getD f.entry {}).en) (fRange 1 f.entry),
        need (decide (f.checkMask = 0 ∧ f.symbolMask = 0) || f.pattern ≠ 0) (fRange 2 f.pattern), rsvZero 4 0] ++ []) = none := by
      rw [hregions, hen, inRange_of_le (Nat.zero_le _) ht, inRange_of_le (Nat.zero_le _) hentry]
      simp [hpat]
    have he : exec (.eccFlipArm h ⟨tier, f.entry, f.pattern, f.checkMask, 0, f.symbolMask⟩) s
      = .next (doEccFlipArm h ⟨tier, f.entry, f.pattern, f.checkMask, 0, f.symbolMask⟩ (s.accept h)) := exec_of_servesNow hs rfl rfl
    let v : State := { s.accept h with memory := { (s.accept h).memory with flipFired := [] } }
    have hlanes : (v.setFlip (tierNamed tier) (some f)).lanes = (s.accept h).lanes := setFlip_lanes _ _ _
    have hmem := reply_memory (v.setFlip (tierNamed tier) (some f)) h 0x0703 stOk []
    refine ⟨(v.setFlip (tierNamed tier) (some f)).reply h 0x0703 stOk, ?_,
      reply_answered (awaits_of_lanes hlanes (accept_awaits hs.1)) _ _ _, ?_, ?_, fun x => ?_⟩
    · rw [he, doEccFlipArm, serve_servesNow hs rfl hf, if_neg (by decide), hnone]
      rfl
    · rw [flipOf_of_memory hmem, setFlip_flipOf]
    · rw [hmem, setFlip_flipFired]
    · rw [byteAt_of_memory hmem, ← accept_byteAt s h, State.byteAt, setFlip_cells]
      rfl
  · have hclear : ((u.poke w d).clearErr w).memory.errs = [] := by
      simp [State.clearErr, State.poke, herrs]
    have hflip : ((u.poke w d).clearErr w).flipOf ((tierOf w).getD .loft) = some f := by
      rw [← hf]
      cases (tierOf w).getD .loft <;> rfl
    exact applyFlip_fires hclear hflip hc (pattern_ne_zero hp1 hp255) he

end Sys2Proof.Machine
end

section
/-!
PROOFS. Region tables (O27).
-/
namespace Sys2Proof.Machine

/-! ### REGION_SET (R327, R328) -/

theorem look_filter_key {β : Type} (p : Nat → Bool) (k : Nat) : ∀ l : List (Nat × β),
    look (l.filter fun e => p e.1) k = if p k = true then look l k else none
  | [] => by simp [look]
  | (j, v) :: t => by
    have ih := look_filter_key p k t
    by_cases hj : p j = true
    · rw [List.filter_cons_of_pos (by simpa using hj)]
      simp only [look, ih]
      by_cases hk : k = j
      · subst hk
        simp [hj]
      · simp [hk]
    · rw [List.filter_cons_of_neg (by simpa using hj), ih, look]
      by_cases hk : k = j
      · subst hk
        simp [hj]
      · simp [hk]

/-- A range set to zero, and no other byte. -/
theorem byteAt_zero (s : State) (a n x : Nat) : (s.zero a n).byteAt x = if a ≤ x ∧ x < a + n then 0 else s.byteAt x := by
  show (look (s.memory.cells.filter fun c => !(a ≤ c.1 && c.1 < a + n)) x).getD 0 = _
  rw [look_filter_key (fun k => !(a ≤ k && k < a + n))]
  by_cases hx : a ≤ x ∧ x < a + n
  · rw [if_neg (by simpa using hx), if_pos hx, Option.getD_none]
  · rw [if_pos (by simp; omega), if_neg hx, State.byteAt]

/-- With no stored error no word needs conversion (R328). -/
theorem changedWords_of_no_errs {s : State} (h : s.memory.errs = []) (t : Tier) (new : List Region) : s.changedWords t new = [] := by
  unfold State.changedWords
  rw [h]
  rfl

/-- The range that a region entry applied sets to zero (R328). -/
def zeroedRange (t : Tier) (mode : Nat) (r : Region) : Nat × Nat :=
  if mode = 0 then (0, 0) else (t.base + r.base * t.stripe, r.size * t.stripe)

/-- A region table in force, with a range set to zero, the flip of its tier disarmed and its scrub restarted (R328, R336). -/
def State.withRegions (s : State) (t : Tier) (z : Nat × Nat) (new : List Region) : State :=
  let u := ((s.zero z.1 z.2).setRegions t new).setFlip t none
  { u with memory := { u.memory with scrubNext := u.memory.scrubNext.filter fun e => !t.ctls.contains e.1 } }

/-- An enabled entry applied to a memory without stored errors. -/
theorem applyRegion_of_no_errs {s : State} (h : s.memory.errs = []) (t : Tier) (n mode : Nat) {r : Region} (hr : r.en = true) :
    s.applyRegion t n mode r = (none, s.withRegions t (zeroedRange t mode r) (setAt (s.regions t) n r)) := by
  unfold State.applyRegion
  simp only [changedWords_of_no_errs h, hr, if_true]
  rfl

theorem withRegions_lanes (s : State) (t : Tier) (z : Nat × Nat) (new : List Region) : (s.withRegions t z new).lanes = s.lanes := by
  cases t <;> rfl
theorem withRegions_regions (s : State) (t : Tier) (z : Nat × Nat) (new : List Region) : (s.withRegions t z new).regions t = new := by
  cases t <;> rfl
theorem withRegions_flipOf (s : State) (t : Tier) (z : Nat × Nat) (new : List Region) : (s.withRegions t z new).flipOf t = none := by
  cases t <;> rfl
theorem withRegions_byteAt (s : State) (t : Tier) (z : Nat × Nat) (new : List Region) :
    (s.withRegions t z new).byteAt = (s.zero z.1 z.2).byteAt := by
  cases t <;> rfl

theorem tierNamed_zero : tierNamed 0 = .loft := rfl
theorem tierNamed_one : tierNamed 1 = .silo := rfl

/-- The request of an entry that covers whole stripes of its tier. -/
abbrev stripesB (tier n cls base size : Nat) : RegionB :=
  ⟨tier, n, cls, 1, 0, (tierNamed tier).base + base * (tierNamed tier).stripe, size * (tierNamed tier).stripe⟩

theorem regionRange_stripes {tier n cls base size : Nat} (ht : tier ≤ 1) (hn : 1 ≤ n) (hsize : 1 ≤ size)
    (hfit : (base + size) * (tierNamed tier).stripe ≤ (tierNamed tier).size) :
    firstFailure (regionRange (stripesB tier n cls base size)) = none := by
  have hin : (tierNamed tier).base + base * (tierNamed tier).stripe < (tierNamed tier).base + (tierNamed tier).size ∧
      ((tierNamed tier).base + base * (tierNamed tier).stripe) % (tierNamed tier).stripe = 0 ∧
      size * (tierNamed tier).stripe % (tierNamed tier).stripe = 0 ∧
      (tierNamed tier).base + base * (tierNamed tier).stripe + size * (tierNamed tier).stripe ≤ (tierNamed tier).base + (tierNamed tier).size := by
    obtain rfl | rfl : tier = 0 ∨ tier = 1 := by omega
    all_goals
      simp only [tierNamed_zero, tierNamed_one, Tier.base, Tier.stripe, Tier.size] at hfit ⊢
      omega
  obtain ⟨hlt, hbase, hsz, hend⟩ := hin
  unfold regionRange
  dsimp only
  rw [if_neg (by omega), if_neg (by decide)]
  simp [hlt, hbase, hsz, hend, inOneTier]

theorem firstFailure_append_none {a b : List (Option Failure)} (ha : firstFailure a = none) (hb : firstFailure b = none) :
    firstFailure (a ++ b) = none := (firstFailure_append ha).trans hb

/-- A REGION_SET of whole stripes, whose checks all pass, applies its entry. -/
theorem exec_regionSet_of_servesNow {s : State} {h : ReqHdr} {tier n cls base size mode : Nat} (hs : s.servesNow h 0x0205)
    (ht : tier ≤ 1) (hn : 1 ≤ n) (hn15 : n ≤ 15) (hc : cls ≤ 2) (hm : mode ≤ 1) (hsize : 1 ≤ size)
    (hfit : (base + size) * (tierNamed tier).stripe ≤ (tierNamed tier).size) 
    (herrs : (s.accept h).memory.errs = []) :
    exec (.regionSet h (stripesB tier n cls base size) (some (mode, 0))) s
      = .next (((s.accept h).withRegions (tierNamed tier) (zeroedRange (tierNamed tier) mode ⟨base, size, cls, true⟩)
          (setAt ((s.accept h).regions (tierNamed tier)) n ⟨base, size, cls, true⟩)).setJob h 0x0205
            (.regionSet h (stripesB tier n cls base size) (some (mode, 0))) (.finish stOk [])) := by
  have hf : firstFailure ([] ++ ([inRange 0 tier 0 1, inRange 1 n 0 15, inRange 2 cls 0 2, inRange 3 1 0 1,
      need (n ≠ 0 || (1 : Nat) = 1) (fRange 3 1), rsvZero 4 0] ++ regionRange (stripesB tier n cls base size)
      ++ [inRange 24 mode 0 1, rsvZero 25 0]) ++ []) = none := by
    refine firstFailure_append_none (firstFailure_append_none ?_ ?_) rfl
    · rfl
    refine firstFailure_append_none (firstFailure_append_none ?_ (regionRange_stripes ht hn hsize hfit)) ?_
    · simp [inRange_of_le (Nat.zero_le _) ht, inRange_of_le (Nat.zero_le _) hn15, inRange_of_le (Nat.zero_le _) hc, inRange_of_le]
    · simp [inRange_of_le (Nat.zero_le _) hm]
  have hpos : 0 < (tierNamed tier).stripe := by cases tierNamed tier <;> decide
  have hsz : ¬ (decide (size * (tierNamed tier).stripe = 0) && decide ((1 : Nat) = 1)) = true := by
    have := Nat.mul_pos hsize hpos
    simp
    omega
  have hr : (⟨((tierNamed tier).base + base * (tierNamed tier).stripe - (tierNamed tier).base) / (tierNamed tier).stripe,
      size * (tierNamed tier).stripe / (tierNamed tier).stripe, cls, true⟩ : Region) = ⟨base, size, cls, true⟩ := by
    rw [Nat.add_sub_cancel_left, Nat.mul_div_cancel _ hpos, Nat.mul_div_cancel _ hpos]
  have he : exec (.regionSet h (stripesB tier n cls base size) (some (mode, 0))) s
    = .next (doRegionSet h (stripesB tier n cls base size) (some (mode, 0)) (s.accept h)) := exec_of_servesNow hs rfl rfl
  rw [he]
  unfold doRegionSet
  dsimp only [Option.map_some, orReg, Option.getD_some, stripesB] at hf ⊢
  rw [serve_servesNow hs rfl hf, if_neg hsz, if_pos rfl, hr, applyRegion_of_no_errs herrs _ _ _ rfl]
  rfl

/-- Settles O27: quiet memory holds no word to convert. -/
theorem regionSetWritesOneEntry : Obligations.RegionSetWritesOneEntry := by
  intro s h tier n cls base size mode hi hq hs _ ht hn hn15 hc hm hsize hfit T lo
  have herrs : (s.accept h).memory.errs = [] := by
    obtain ⟨he, -⟩ := hq
    simpa using he
  have hold : (s.accept h).regions T = s.regions T := by
    unfold State.regions
    rw [accept_memory]
  have hlen : n < (s.regions T).length := by
    rw [hi.regions_length (tierNamed_ne_granary tier)]
    omega
  refine ⟨_, exec_regionSet_of_servesNow hs ht hn hn15 hc hm hsize hfit herrs, ?_, fun k hk => ?_, ?_, fun x => ?_, ?_⟩
  · refine (congrArg (List.getD · n {}) (withRegions_regions _ _ _ _)).trans ?_
    rw [hold, setAt_getD, if_pos ⟨rfl, hlen⟩]
  · refine (congrArg (List.getD · k {}) (withRegions_regions _ _ _ _)).trans ?_
    rw [hold, setAt_getD, if_neg fun e => hk e.1]
  · rw [State.running, setJob_lane _ h _ _ _ (by rw [withRegions_lanes]; simpa using hi.lanes) hs.lane_lt, if_pos rfl]
  · refine (congrFun (withRegions_byteAt _ _ _ _) x).trans ?_
    rw [byteAt_zero, accept_byteAt]
    obtain rfl | rfl : mode = 0 ∨ mode = 1 := by omega
    · have hz : zeroedRange (tierNamed tier) 0 ⟨base, size, cls, true⟩ = (0, 0) := if_pos rfl
      rw [hz, if_neg (by omega), if_neg (by omega)]
    · have hz : zeroedRange (tierNamed tier) 1 ⟨base, size, cls, true⟩ = (lo, size * T.stripe) := if_neg (by decide)
      simp only [hz, true_and]
  · exact withRegions_flipOf _ _ _ _

end Sys2Proof.Machine
end

section
/-!
SUPPORT. What counting, logging and recording change: registers of their own, the event ring, the Ledger's queue and the
alert latch (R333, R335, R434, R438, R441, R447).
-/
namespace Sys2Proof.Machine

/-- Counting, logging and recording: besides events, the Ledger and the latch only registers of a set change. -/
structure State.Notes (p : Nat → Prop) (s t : State) : Prop where
  frame : ∃ rg ev lg la, t = { s with regs := rg, events := ev, ledger := lg, lantern := { s.lantern with latch := la } }
  rising : risingFrom none s.regs = true → risingFrom none t.regs = true
  regs : risingFrom none s.regs = true → ∀ a, ¬ p a → t.reg a = s.reg a

theorem State.Notes.refl (p : Nat → Prop) (s : State) : s.Notes p s :=
  ⟨⟨s.regs, s.events, s.ledger, s.lantern.latch, rfl⟩, id, fun _ _ _ => rfl⟩

theorem State.Notes.trans {p : Nat → Prop} {s t u : State} (h : s.Notes p t) (k : t.Notes p u) : s.Notes p u := by
  refine ⟨?_, fun r => k.rising (h.rising r), fun r a ha => (k.regs (h.rising r) a ha).trans (h.regs r a ha)⟩
  obtain ⟨rg, ev, lg, la, rfl⟩ := h.frame
  obtain ⟨rg', ev', lg', la', rfl⟩ := k.frame
  exact ⟨rg', ev', lg', la', rfl⟩

theorem State.Notes.memory {p : Nat → Prop} {s t : State} (h : s.Notes p t) : t.memory = s.memory := by
  obtain ⟨rg, ev, lg, la, rfl⟩ := h.frame
  rfl

theorem State.Notes.sieve {p : Nat → Prop} {s t : State} (h : s.Notes p t) : t.sieve = s.sieve := by
  obtain ⟨rg, ev, lg, la, rfl⟩ := h.frame
  rfl

theorem State.Notes.lanes {p : Nat → Prop} {s t : State} (h : s.Notes p t) : t.lanes = s.lanes := by
  obtain ⟨rg, ev, lg, la, rfl⟩ := h.frame
  rfl

theorem notes_setReg {p : Nat → Prop} {a : Nat} (ha : p a) (s : State) (v : Nat) : s.Notes p (s.setReg a v) :=
  ⟨⟨_, _, _, _, rfl⟩, fun r => rising_setReg r a v, fun r b hb => by
    rw [reg_setReg r, if_neg]
    rintro rfl
    exact hb ha⟩

theorem notes_setFld {p : Nat → Prop} {a : Nat} (ha : p a) (s : State) (lo w v : Nat) : s.Notes p (s.setFld a lo w v) :=
  notes_setReg ha s _

theorem notes_bump {p : Nat → Prop} {a : Nat} (ha : p a) (s : State) (n : Nat) : s.Notes p (s.bump a n) := by
  unfold State.bump
  split
  · exact .refl p s
  · exact notes_setReg ha s _

theorem notes_queueLedger {p : Nat → Prop} (ha : p (aLedger 0x2C)) (s : State) (r : Record) : s.Notes p (s.queueLedger r) := by
  unfold State.queueLedger
  dsimp only
  split
  · exact notes_bump ha s 1
  · exact ⟨⟨_, _, _, s.lantern.latch, rfl⟩, id, fun _ _ _ => rfl⟩

theorem notes_enterEvent (p : Nat → Prop) (s : State) (r : Record) : s.Notes p (s.enterEvent r) :=
  ⟨⟨_, _, _, s.lantern.latch, rfl⟩, id, fun _ _ _ => rfl⟩

theorem notes_latch (p : Nat → Prop) (s : State) : s.Notes p { s with lantern := { s.lantern with latch := true } } :=
  ⟨⟨_, _, _, true, rfl⟩, id, fun _ _ _ => rfl⟩

theorem notes_ite {p : Nat → Prop} {c : Prop} [Decidable c] {s t : State} (h : s.Notes p t) : s.Notes p (if c then t else s) := by
  split
  · exact h
  · exact .refl p s

theorem notes_raiseAt {p : Nat → Prop} (ha : p (aLedger 0x2C)) (s : State) (r : Record) (k : Nat × Nat) : s.Notes p (s.raiseAt r k) := by
  unfold State.raiseAt
  extract_lets pl r' u v
  exact ((notes_ite (notes_enterEvent p s r')).trans (notes_ite (notes_queueLedger ha u r'))).trans (notes_ite (notes_latch p v))

theorem notes_raise {p : Nat → Prop} (ha : p (aLedger 0x2C)) (s : State) (r : Record) (b : Option Blk) : s.Notes p (s.raise r b) :=
  notes_raiseAt ha s r _

/-- The state with other marks of overflowed logs (R335). -/
def State.withOverflow (s : State) (co : List Nat) : State := { s with memory := { s.memory with ceOverflowed := co } }

/-- What is counted and logged does not hang on which logs have overflowed. -/
theorem State.Notes.overflow {p : Nat → Prop} {s t : State} (h : s.Notes p t) (co : List Nat) :
    (s.withOverflow co).Notes p (t.withOverflow co) := by
  refine ⟨?_, h.rising, h.regs⟩
  obtain ⟨rg, ev, lg, la, rfl⟩ := h.frame
  exact ⟨rg, ev, lg, la, rfl⟩

/-- The registers of a controller's correctable-error log, its counters, and the Ledger's count of suppressed records. -/
def ceRegs (c a : Nat) : Prop :=
  a = aLedger 0x2C ∨ a = aMemctl c 0x110 ∨ a = aMemctl c 0x128 ∨ (aMemctl c 0x200 ≤ a ∧ a < aMemctl c 0x300)

theorem ceRegs_log {c n k : Nat} (hn : n < 16) (hk : k ≤ 12) : ceRegs c (aMemctl c (0x200 + 16 * n) + k) := by
  refine Or.inr (Or.inr (Or.inr ?_))
  simp only [aMemctl]
  omega

/-- A correctable error logged (R333, R335). -/
theorem logCE_notes (s : State) (w : Nat) :
    ∃ co, (s.withOverflow co).Notes (ceRegs (ctlOf w)) (s.logCE w) := by
  have hled : ceRegs (ctlOf w) (aLedger 0x2C) := Or.inl rfl
  have hlog {n k : Nat} (hn : n ∈ List.range 16) (hk : k ≤ 12) : ceRegs (ctlOf w) (aMemctl (ctlOf w) (0x200 + 16 * n) + k) :=
    ceRegs_log (List.mem_range.mp hn) hk
  have h1 : s.Notes (ceRegs (ctlOf w)) (s.bump (aMemctl (ctlOf w) 0x110)) := notes_bump (Or.inr (Or.inl rfl)) s 1
  unfold State.logCE
  extract_lets c u lo isHere
  split
  · next n hn =>
    exact ⟨s.memory.ceOverflowed, h1.trans (notes_setFld (hlog (List.mem_of_find?_eq_some hn) (by decide : 4 ≤ 12)) u 16 16 _)⟩
  · split
    · next n hn =>
      have hm := List.mem_of_find?_eq_some hn
      extract_lets a b d e
      exact ⟨s.memory.ceOverflowed, ((((h1.trans (notes_setReg (hlog hm (Nat.zero_le 12)) u _)).trans (notes_setReg (hlog hm (by decide : 4 ≤ 12)) a _)).trans
        (notes_setReg (hlog hm (by decide : 8 ≤ 12)) b _)).trans (notes_setReg (hlog hm (by decide : 12 ≤ 12)) d _)).trans
          (notes_raise hled e _ _)⟩
    · next v _ _ _ _ _ =>
      have h2 : s.Notes (ceRegs (ctlOf w)) v := h1.trans (notes_bump (Or.inr (Or.inr (Or.inl rfl))) u 1)
      split
      · exact ⟨s.memory.ceOverflowed, h2⟩
      · exact ⟨_, (h2.overflow _).trans (notes_raise hled _ _ _)⟩

end Sys2Proof.Machine
end

section
/-!
PROOFS. The patrol scrub and the refresh band (O29).
-/
namespace Sys2Proof.Machine

/-! ### Frozen counters of a memory controller -/

theorem placeOf_scrub : ∀ c < 40, ∀ o ∈ [0x118, 0x11C], (placeOf (aMemctl c o)).map (fun p => (p.b.blk.freezeBit, p.b.base + p.inst * p.b.stride + 4))
    = some (some 1, aMemctl c 4) := by decide

/-- The two counters of the scrub freeze with bit 1 of their controller's control register (R447). -/
theorem frozen_scrub {c o : Nat} (hc : c < 40) (ho : o ∈ [0x118, 0x11C]) (s : State) :
    s.frozen (aMemctl c o) = bitOf (s.reg (aMemctl c 4)) 1 := by
  have h := placeOf_scrub c hc o ho
  unfold State.frozen
  generalize placeOf (aMemctl c o) = q at h
  cases q with
  | none => cases h
  | some p =>
    rw [Option.map_some, Option.some.injEq, Prod.mk.injEq] at h
    obtain ⟨hbit, haddr⟩ := h
    simp only [hbit, haddr]

/-- The log of correctable errors leaves the controller's other registers (R333, R336). -/
theorem not_ceRegs {c o : Nat} (_ : c < 40) (ho : o = 4 ∨ o = 0x118 ∨ o = 0x11C) : ¬ ceRegs c (aMemctl c o) := by
  simp only [ceRegs, aMemctl, aLedger]
  omega

/-! ### PATROL_SCRUB (R333, R336) -/

/-- The only stored error, read under KEEP: it is corrected and logged. -/
theorem readWord_corrected {s : State} {e : WordErr} {w : Nat} (herrs : s.memory.errs = [e]) (hw : e.word = w)
    (hc : (s.classOf w).2 = 0) (hp : e.poison = false) (h1 : 1 ≤ e.bytesWrong) (h4 : e.bytesWrong ≤ 4) (src : Nat) :
    s.readWord w src = (some (s.bytesAt w 64), (s.clearErr w).logCE w) := by
  have hof : s.errOf w = some e := by simp [State.errOf, herrs, hw]
  have hout : e.outcome 0 = .corrected := (classesCorrectWhatTheyPromise e hp).1 h1 h4
  unfold State.readWord
  rw [hof, hc]
  simp only [hout]

/-- The errors of memory after the only one has been corrected. -/
theorem clearErr_errs {s : State} {e : WordErr} {w : Nat} (herrs : s.memory.errs = [e]) (hw : e.word = w) :
    (s.clearErr w).memory.errs = [] := by
  simp [State.clearErr, herrs, hw]

theorem scrubList_single {s : State} {e : WordErr} {w ctl lo hi : Nat} (herrs : s.memory.errs = [e]) (hw : e.word = w)
    (hctl : ctlOf w = ctl) (hc : (s.classOf w).2 = 0) (hlo : lo ≤ localOf w) (hhi : localOf w < hi) : s.scrubList ctl lo hi = [w] := by
  have hmine : ((s.memory.errs.map fun e => e.word).filter fun w => ctlOf w = ctl && (s.classOf w).2 = 0 && lo ≤ localOf w && localOf w < hi) = [w] := by
    rw [herrs]
    simp [hw, hctl, hc, hlo, hhi]
  unfold State.scrubList
  simp only [hmine]
  rfl

/-- The scrub of the only stored error: what is left of it is a count (R336). -/
theorem scrubWord_corrected {s : State} {e : WordErr} {w : Nat} (herrs : s.memory.errs = [e]) (hw : e.word = w)
    (hc : (s.classOf w).2 = 0) (hp : e.poison = false) (h1 : 1 ≤ e.bytesWrong) (h4 : e.bytesWrong ≤ 4) :
    ∃ u co, ((s.clearErr w).withOverflow co).Notes (ceRegs (ctlOf w)) u ∧ s.scrubWord w = u.bump (aMemctl (ctlOf w) 0x118) := by
  obtain ⟨co, hn⟩ := logCE_notes (s.clearErr w) w
  have hnone : (((s.clearErr w).logCE w).errOf w).isNone = true := by
    rw [State.errOf, hn.memory]
    show ((s.clearErr w).memory.errs.find? _).isNone = true
    rw [clearErr_errs herrs hw]
    rfl
  refine ⟨(s.clearErr w).logCE w, co, hn, ?_⟩
  unfold State.scrubWord
  rw [readWord_corrected herrs hw hc hp h1 h4]
  exact if_pos hnone

/-- A scrub that goes on to the only stored error counts it, and a pass where it was the last word. -/
theorem doPatrolScrub_single {s : State} {ctl w : Nat} {e : WordErr} (herrs : s.memory.errs = [e]) (hw : e.word = w)
    (hc : (s.classOf w).2 = 0) (h40 : ctl < 40) (hctl : ctlOf w = ctl) (h64 : w % 64 = 0)
    (htier : tierOf w = some .loft ∨ tierOf w = some .silo) (hon : bitOf (s.reg (aMemctl ctl 4)) 0 = true)
    (htrained : s.memory.trained = true) (hsr : s.selfRefresh = false)
    (hnext : (look s.memory.scrubNext ctl).getD 0 ≤ localOf w) :
    ∃ v x, v = (if localOf w + 64 = (s.scrubWord w).scrubEnd ((tierOf w).getD .silo) then (s.scrubWord w).bump (aMemctl ctl 0x11C)
        else s.scrubWord w) ∧
      doPatrolScrub ctl w s = { v with memory := { v.memory with scrubNext := x } } := by
  have hcond : ¬ (!bitOf (s.reg (aMemctl ctl 4)) 0 || !s.memory.trained || s.selfRefresh || 40 ≤ ctl || ctlOf w ≠ ctl || w % 64 ≠ 0
      || (tierOf w ≠ some .loft && tierOf w ≠ some .silo) || (s.classOf w).2 ≠ 0) = true := by
    rcases htier with ht | ht <;> simp [hon, htrained, hsr, hctl, h64, hc, ht, h40]
  unfold doPatrolScrub
  rw [if_neg hcond]
  dsimp only
  rw [if_pos hnext, scrubList_single herrs hw hctl hc hnext (Nat.lt_add_of_pos_right (by decide))]
  exact ⟨_, _, rfl, rfl⟩

theorem scrubEnd_of_regions {s t : State} (hl : t.memory.loftRegions = s.memory.loftRegions)
    (hs : t.memory.siloRegions = s.memory.siloRegions) (k : Tier) : t.scrubEnd k = s.scrubEnd k := by
  have hr : t.regions k = s.regions k := by cases k <;> simp [State.regions, hl, hs]
  unfold State.scrubEnd State.lastKeep
  rw [hr]

/-- The two counters of a scrub that corrects the only stored error. -/
theorem scrub_counts {s u : State} {c : Nat} (hc : c < 40) (hs : risingFrom none s.regs = true) (hn : s.Notes (ceRegs c) u)
    (hf : s.frozen (aMemctl c 0x118) = false) (hlt : s.reg (aMemctl c 0x118) < 0xFFFFFFFF) :
    (u.bump (aMemctl c 0x118)).reg (aMemctl c 0x118) = s.reg (aMemctl c 0x118) + 1 ∧
      (u.bump (aMemctl c 0x118)).reg (aMemctl c 0x11C) = s.reg (aMemctl c 0x11C) ∧
      ((u.bump (aMemctl c 0x118)).bump (aMemctl c 0x11C)).reg (aMemctl c 0x118) = s.reg (aMemctl c 0x118) + 1 ∧
      (s.frozen (aMemctl c 0x11C) = false →
        ((u.bump (aMemctl c 0x118)).bump (aMemctl c 0x11C)).reg (aMemctl c 0x11C) = min (s.reg (aMemctl c 0x11C) + 1) 0xFFFFFFFF) := by
  have hr := hn.rising hs
  have hr' := (notes_bump (p := fun _ => True) trivial u 1 (a := aMemctl c 0x118)).rising hr
  have hreg {o : Nat} (ho : o = 4 ∨ o = 0x118 ∨ o = 0x11C) : u.reg (aMemctl c o) = s.reg (aMemctl c o) :=
    hn.regs hs _ (not_ceRegs hc ho)
  have hne4 : aMemctl c 4 ≠ aMemctl c 0x118 := by simp [aMemctl]
  have hne : aMemctl c 0x11C ≠ aMemctl c 0x118 := by simp [aMemctl]
  have hfu : u.frozen (aMemctl c 0x118) = false := by
    rw [frozen_scrub hc (by simp)] at hf ⊢
    rw [hreg (Or.inl rfl), hf]
  have h118 : (u.bump (aMemctl c 0x118)).reg (aMemctl c 0x118) = s.reg (aMemctl c 0x118) + 1 := by
    rw [reg_bump hr, if_pos ⟨rfl, hfu⟩, hreg (Or.inr (Or.inl rfl))]
    omega
  have h11c : (u.bump (aMemctl c 0x118)).reg (aMemctl c 0x11C) = s.reg (aMemctl c 0x11C) := by
    rw [reg_bump hr, if_neg fun e => hne e.1, hreg (Or.inr (Or.inr rfl))]
  refine ⟨h118, h11c, ?_, fun hf2 => ?_⟩
  · rw [reg_bump hr', if_neg fun e => hne.symm e.1, h118]
  · have hf3 : (u.bump (aMemctl c 0x118)).frozen (aMemctl c 0x11C) = false := by
      rw [frozen_scrub hc (by simp)] at hf2 ⊢
      rw [reg_bump hr, if_neg fun e => hne4 e.1, hreg (Or.inl rfl), hf2]
    rw [reg_bump hr', if_pos ⟨rfl, hf3⟩, h11c]

/-! ### REFRESH_BAND_UPDATE (R337) -/

theorem refreshBand_le (old : Nat) (q : Int) : refreshBand old q ≤ 3 := List.length_filter_le _ _

/-- The higher of what the diode and the DRAM indicate, and band 2 with neither (R337). -/
def higherBand : Option Nat → Option Nat → Nat
  | some a, some b => max a b
  | some a, none => a
  | none, some b => b
  | none, none => 2

/-- The band of a controller whose packages are trained and awake. -/
theorem exec_refreshBandUpdate {s : State} {ctl : Nat} (h40 : ctl < 40) (ht : s.memory.trained = true) (hr : s.selfRefresh = false)
    (dram : Option Nat) {diode : Option Nat} (hd : (if s.trusted (packageChannel ctl) then
      ((s.diode (packageChannel ctl)).reading).map (refreshBand (s.fld (aMemctl ctl 8) 2 2)) else none) = diode) :
    exec (.refreshBandUpdate ctl dram) s = .next (s.setFld (aMemctl ctl 8) 2 2 (min (higherBand diode dram) 3)) := by
  have hcond : ¬ (!s.memory.trained || s.selfRefresh || 40 ≤ ctl) = true := by simp [ht, hr, h40]
  show Host.Outcome.next (doRefreshBandUpdate ctl dram s) = _
  unfold doRefreshBandUpdate
  rw [if_neg hcond]
  subst hd
  unfold higherBand
  rfl

/-- Settles O29. -/
theorem controllersScrubAndRefresh : Obligations.ControllersScrubAndRefresh := by
  refine ⟨fun s ctl w e hi herrs hw hp h1 h4 hc h40 hctl h64 htier hon htrained hsr hf hlt hnext => ?_,
    fun s ctl h40 ht hr => ⟨fun hu b hb => ?_, fun hu => ?_, fun q hu hq => ?_⟩⟩
  · obtain ⟨v, x, hv, hexec⟩ := doPatrolScrub_single herrs hw hc h40 hctl h64 htier hon htrained hsr hnext
    obtain ⟨u, co, hn, hscrub⟩ := scrubWord_corrected herrs hw hc hp h1 h4
    rw [hctl] at hn hscrub
    obtain ⟨h118, h11c, h118', h11c'⟩ := scrub_counts (s := (s.clearErr w).withOverflow co) h40 hi.rising hn hf hlt
    have hmem : u.memory = ((s.clearErr w).withOverflow co).memory := hn.memory
    have hend : (s.scrubWord w).scrubEnd ((tierOf w).getD .silo) = s.scrubEnd ((tierOf w).getD .silo) := by
      rw [hscrub]
      exact scrubEnd_of_regions (by rw [bump_memory, hmem]; rfl) (by rw [bump_memory, hmem]; rfl) _
    have hvmem : v.memory = u.memory := by
      rw [hv, hscrub]
      split <;> simp
    rw [hend, hscrub] at hv
    have herr0 : v.memory.errs = [] := by
      rw [hvmem, hmem]
      exact clearErr_errs herrs hw
    refine ⟨_, congrArg Host.Outcome.next hexec, herr0, (congrArg Memory.cells (hvmem.trans hmem)).trans rfl, ?_, fun hlast => ?_, fun hlast hf2 => ?_⟩
    · refine Eq.trans (b := v.reg _) rfl ?_
      rw [hv]
      split
      · exact h118'
      · exact h118
    · refine Eq.trans (b := v.reg _) rfl ?_
      rw [hv, if_neg hlast]
      exact h11c
    · refine Eq.trans (b := v.reg _) rfl ?_
      rw [hv, if_pos hlast]
      exact h11c' hf2
  · rw [exec_refreshBandUpdate h40 ht hr (some b) (if_neg (by simp [hu]))]
    rw [higherBand, Nat.min_eq_left hb]
  · rw [exec_refreshBandUpdate h40 ht hr none (if_neg (by simp [hu]))]
    rfl
  · have hd : (if s.trusted (packageChannel ctl) then
        ((s.diode (packageChannel ctl)).reading).map (refreshBand (s.fld (aMemctl ctl 8) 2 2)) else none)
        = some (refreshBand (s.fld (aMemctl ctl 8) 2 2) q) := by
      rw [if_pos hu, hq]
      rfl
    refine ⟨?_, fun b hb => ?_⟩
    · rw [exec_refreshBandUpdate h40 ht hr none hd, higherBand, Nat.min_eq_left (refreshBand_le _ _)]
    · rw [exec_refreshBandUpdate h40 ht hr (some b) hd, higherBand, Nat.min_eq_left (Nat.max_le.mpr ⟨refreshBand_le _ _, hb⟩)]

end Sys2Proof.Machine
end

section
/-!
PROOFS. Periodic slices (O30).
-/
namespace Sys2Proof.Machine

/-! ### The bank map (R404) -/

/-- A logical bank moved: every other bank stays at its place. -/
theorem phys_move {v : Sieve} (h : risingFrom none v.map = true) (b p c : Nat) :
    (v.move b p).phys c = if c = b then p else v.phys c := by
  show (look (putD b v.map b p) c).getD c = _
  by_cases hc : c = b
  · subst hc
    rw [look_putD h, if_pos rfl, if_pos rfl]
  · rw [look_putD_of_ne h _ _ _ _ hc, if_neg hc]
    rfl

theorem fail_map (v : Sieve) (p : Nat) : (v.fail p).map = v.map := by
  unfold Sieve.fail
  split <;> rfl
theorem fail_next (v : Sieve) (p : Nat) : (v.fail p).next = v.next := by
  unfold Sieve.fail
  split <;> rfl
theorem mem_fail (v : Sieve) (p : Nat) : p ∈ (v.fail p).failed := by
  unfold Sieve.fail
  split
  · next h => simpa using h
  · simp
theorem phys_of_map {v w : Sieve} (h : w.map = v.map) (b : Nat) : w.phys b = v.phys b := by
  rw [Sieve.phys, h, Sieve.phys]

/-! ### What a fault writes (R413, R418, R419) -/

/-- Every register may be written. -/
def anyReg (_ : Nat) : Prop := True

theorem sieveRecord_notes (s : State) (d : Nat) : s.Notes anyReg (s.sieveRecord d) := notes_raise trivial s _ _

theorem logSieve_notes (s : State) (addr src bank : Nat) : s.Notes anyReg (s.logSieve addr src bank) := by
  unfold State.logSieve
  split
  · exact .refl _ s
  · extract_lets a u
    exact (((notes_setReg trivial s _).trans (notes_setReg trivial _ _)).trans (notes_setReg trivial u _)).trans
      (notes_setReg trivial _ _)

/-! ### GRANARY_SLICE (R416, R418) -/

/-- The Sieve after a slice that moved a bank: all but its signature, and what a failure marks. -/
def Sieve.sliced (v : Sieve) (sp : Nat) : Sieve :=
  { v.move v.next sp with next := (v.next + 1) % 2048, expect := expectSig v.alg 1 10240 4, noSpare := false }

/-- A slice that finds a free spare: what the Sieve holds then; besides, only counts, logs, records and a free value. -/
theorem doGranarySlice_notes {s : State} {sp : Nat} (hon : bitOf s.sieve.enable 0 = true) (hs : s.slicing = true) (hr : s.sieving = false)
    (hsp : s.sieve.spares.head? = some sp) (failAt : Option Nat) :
    ∃ fr v, ({ s with sieve := v, free := fr } : State).Notes anyReg (doGranarySlice failAt s) ∧
      (failAt = none → v = { s.sieve.sliced sp with sig := (s.sieve.sliced sp).expect }) ∧
      (failAt ≠ none → ∃ sig ns, v = { (s.sieve.sliced sp).fail (s.sieve.phys s.sieve.next) with sig := sig, noSpare := ns }) := by
  have hcond : ¬ (!bitOf s.sieve.enable 0 || !s.slicing || s.sieving) = true := by simp [hon, hs, hr]
  unfold doGranarySlice
  extract_lets v
  rw [if_neg hcond, hsp]
  cases failAt with
  | none => exact ⟨s.free, _, notes_bump trivial _ _, fun _ => rfl, fun h => absurd rfl h⟩
  | some off =>
    let w := (s.sieve.sliced sp).fail (s.sieve.phys s.sieve.next)
    refine ⟨s.takeFree.2.free, { w with sig := s.takeFree.1 % 2 ^ 64, noSpare := w.spares.isEmpty }, ?_,
      fun h => absurd h (Option.some_ne_none off), fun _ => ⟨_, _, rfl⟩⟩
    exact (((notes_bump trivial _ 1).trans (notes_bump trivial _ 1)).trans (sieveRecord_notes _ _)).trans (logSieve_notes _ _ _ _)

/-! ### EXTERNAL_SLICE (R417, R418) -/

/-- The state once the next page of a controller is marched. -/
def State.pageMarched (s : State) (ctl : Nat) : State :=
  ({ s with sieve := { s.sieve with
    pages := putD 0 s.sieve.pages ctl (((look s.sieve.pages ctl).getD 0 + 1) % ctlPages ctl) } }).bump (aSieve 0x48)

theorem pageMarched_memory (s : State) (ctl : Nat) : (s.pageMarched ctl).memory = s.memory := bump_memory _ _ _

theorem pageMarched_pages (s : State) (ctl : Nat) : (s.pageMarched ctl).sieve.pages
    = putD 0 s.sieve.pages ctl (((look s.sieve.pages ctl).getD 0 + 1) % ctlPages ctl) := by
  rw [State.pageMarched, bump_only]

/-- The word of a page that an offset lies in. -/
def pageWord (s : State) (ctl off : Nat) : Nat :=
  deviceAddr ctl ((look s.sieve.pages ctl).getD 0 * 0x1000) + off % 0x1000 / 64 * 64

/-- A slice of an external page where no merge entry waits. -/
theorem doExternalSlice_eq {s : State} {ctl : Nat} (h40 : ctl < 40) (hon : bitOf s.sieve.enable (if ctl < 8 then 1 else 2) = true)
    (hs : s.slicing = true) (ht : s.memory.trained = true) (hm : s.memory.merge = []) (failAt : Option Nat) :
    doExternalSlice ctl failAt s = match failAt with
      | none => s.pageMarched ctl
      | some off => (((((s.pageMarched ctl).setErr { word := pageWord s ctl off, poison := true }).bump (aSieve 0x4C)).sieveRecord
          (pageWord s ctl off)).logSieve (pageWord s ctl off) 3 0) := by
  have hcond : ¬ (40 ≤ ctl || !bitOf s.sieve.enable (if ctl < 8 then 1 else 2) || !s.slicing || !s.memory.trained) = true := by
    simp [hon, hs, ht, h40]
  unfold doExternalSlice
  rw [if_neg hcond]
  simp only [hm, List.filter_nil, List.foldl_nil]
  cases failAt <;> rfl

/-- A poisoned word is listed as uncorrectable. -/
theorem setErr_poison (s : State) (w : Nat) : (s.setErr { word := w, poison := true }).errOf w = some { word := w, poison := true } := by
  unfold State.errOf State.setErr
  dsimp only
  rw [if_neg (by simp), List.find?_cons_of_pos (by simp)]

theorem errOf_of_memory {s t : State} (h : t.memory = s.memory) (w : Nat) : t.errOf w = s.errOf w := by
  rw [State.errOf, h, State.errOf]

/-- What a failing word of a marched page leaves. -/
theorem failedPage_notes (u : State) (w : Nat) : (u.setErr { word := w, poison := true }).Notes anyReg
    ((((u.setErr { word := w, poison := true }).bump (aSieve 0x4C)).sieveRecord w).logSieve w 3 0) :=
  ((notes_bump trivial _ 1).trans (sieveRecord_notes _ _)).trans (logSieve_notes _ _ _ _)

/-- Settles O30. -/
theorem periodicSlicesMarch : Obligations.PeriodicSlicesMarch := by
  refine ⟨fun s sp failAt hi hon hs hr hsp => ?_, ?_⟩
  · obtain ⟨fr, v, hn, hnone, hsome⟩ := doGranarySlice_notes hon hs hr hsp failAt
    have hmove := phys_move (canonical_rising hi.banks) s.sieve.next sp
    have hv : v.map = (s.sieve.move s.sieve.next sp).map ∧ v.next = (s.sieve.next + 1) % 2048 := by
      cases failAt with
      | none =>
        rw [hnone rfl]
        exact ⟨rfl, rfl⟩
      | some off =>
        obtain ⟨sig, ns, hv⟩ := hsome (by simp)
        rw [hv]
        exact ⟨fail_map _ _, fail_next _ _⟩
    refine ⟨doGranarySlice failAt s, rfl, ?_, fun b hb => ?_, ?_, hn.memory, fun hf => ?_, fun hf => ?_⟩
    · rw [hn.sieve, phys_of_map hv.1, hmove, if_pos rfl]
    · rw [hn.sieve, phys_of_map hv.1, hmove, if_neg hb]
    · rw [hn.sieve, hv.2]
    · rw [hn.sieve, hnone hf]
      exact ⟨rfl, rfl⟩
    · obtain ⟨sig, ns, hv⟩ := hsome hf
      rw [hn.sieve, hv]
      exact mem_fail _ _
  · intro s ctl failAt h40 hon hs ht hm page
    have he : exec (.externalSlice ctl failAt) s = .next (doExternalSlice ctl failAt s) := rfl
    rw [doExternalSlice_eq h40 hon hs ht hm] at he
    cases failAt with
    | none =>
      refine ⟨_, he, congrArg Memory.cells (pageMarched_memory s ctl), pageMarched_pages s ctl,
        fun _ => pageMarched_memory s ctl, fun off h => by cases h⟩
    | some off =>
      have hn := failedPage_notes (s.pageMarched ctl) (pageWord s ctl off)
      refine ⟨_, he, ?_, ?_, (fun h => by cases h), fun off' h => ?_⟩
      · rw [hn.memory, setErr_cells, pageMarched_memory]
      · rw [hn.sieve]
        exact pageMarched_pages s ctl
      · cases h
        rw [errOf_of_memory hn.memory]
        exact setErr_poison _ _

end Sys2Proof.Machine
end

section
/-!
SUPPORT. What a march over Granary banks does to memory: banks filled, banks zeroed, entries that touch them dropped
(R403, R411, R412).
-/
namespace Sys2Proof.Machine

theorem le_length (n v : Nat) : (le n v).length = n := by
  induction n generalizing v with
  | zero => rfl
  | succ n ih => rw [le, List.length_cons, ih]

/-- What dropping programs and held entries changes. -/
def State.dropsOnly (s t : State) : Prop := ∃ rg se pr, t = { s with regs := rg, sessions := se, programs := pr }

theorem State.dropsOnly.trans {s t u : State} (h : s.dropsOnly t) (k : t.dropsOnly u) : s.dropsOnly u := by
  obtain ⟨rg, se, pr, rfl⟩ := h
  obtain ⟨rg', se', pr', rfl⟩ := k
  exact ⟨rg', se', pr', rfl⟩

theorem State.dropsOnly.refl (s : State) : s.dropsOnly s := ⟨s.regs, s.sessions, s.programs, rfl⟩

theorem dropsOnly_foldl {β : Type} {f : State → β → State} (hf : ∀ (s : State) (x : β), s.dropsOnly (f s x)) : ∀ (l : List β) (s : State),
    s.dropsOnly (l.foldl f s)
  | [], s => .refl s
  | x :: t, s => (hf s x).trans (dropsOnly_foldl hf t (f s x))

theorem dropsOnly_bump (s : State) (a n : Nat) : s.dropsOnly (s.bump a n) := ⟨_, s.sessions, s.programs, bump_only s a n⟩

theorem dropsOnly_discardSlots (s : State) (x : Session) (n : Nat) : s.dropsOnly (s.discardSlots x n) := by
  unfold State.discardSlots
  split
  · exact .refl s
  · exact dropsOnly_foldl (fun s _ => dropsOnly_bump s _ _) _ s

theorem dropsOnly_dropHeld (s : State) (n : Nat) : s.dropsOnly (s.dropHeld n) := by
  unfold State.dropHeld
  split
  · exact .refl s
  · exact (dropsOnly_discardSlots s _ _).trans ⟨_, _, _, rfl⟩

theorem dropsOnly_dropTouched (s : State) (g : Nat × Nat) : s.dropsOnly (s.dropTouched g) := by
  unfold State.dropTouched
  extract_lets hit keep held u
  exact (dropsOnly_foldl dropsOnly_dropHeld _ s).trans ⟨_, _, _, rfl⟩

theorem State.dropsOnly.memory {s t : State} (h : s.dropsOnly t) : t.memory = s.memory := by
  obtain ⟨rg, se, pr, rfl⟩ := h
  rfl
theorem State.dropsOnly.dev {s t : State} (h : s.dropsOnly t) : t.dev = s.dev := by
  obtain ⟨rg, se, pr, rfl⟩ := h
  rfl
theorem State.dropsOnly.lanes {s t : State} (h : s.dropsOnly t) : t.lanes = s.lanes := by
  obtain ⟨rg, se, pr, rfl⟩ := h
  rfl

/-! ### Banks -/

/-- A logical bank that none has moved is served by the physical bank of its number (R404). -/
theorem phys_unmoved {v : Sieve} (h : v.map = []) (b : Nat) : v.phys b = b := by rw [Sieve.phys, h]; rfl

/-- The logical banks whose physical banks a run tests. -/
def testedBanks (v : Sieve) (units : List Nat) : List Nat := (List.range 2048).filter fun b => units.contains (v.phys b)

theorem mem_testedBanks {v : Sieve} (h : v.map = []) (first count b : Nat) :
    b ∈ testedBanks v ((List.range count).map fun i => first + i) ↔ b < 2048 ∧ first ≤ b ∧ b < first + count := by
  simp only [testedBanks, List.mem_filter, List.mem_range, phys_unmoved h, List.contains_iff_mem, List.mem_map, and_congr_right_iff]
  exact fun _ => ⟨fun ⟨i, hi, hb⟩ => by omega, fun ⟨hl, hu⟩ => ⟨b - first, by omega, by omega⟩⟩

/-- An address lies in a bank. -/
def inBank (b x : Nat) : Prop := b * bankBytes ≤ x ∧ x < b * bankBytes + bankBytes

/-- Banks filled keep every byte outside them. -/
theorem foldl_poke_banks (d : List Byte) (hd : d.length = bankBytes) : ∀ (l : List Nat) {s : State}, s.memory.wf = true →
    ∀ x, (∀ b ∈ l, ¬ inBank b x) → (l.foldl (fun s b => s.poke (bankRange b).1 d) s).byteAt x = s.byteAt x
  | [], _, _, _, _ => rfl
  | b :: t, s, hw, x, hx => by
    have hb : ¬ inBank b x := hx b List.mem_cons_self
    have ih := foldl_poke_banks d hd t (wf_poke (bankRange b).1 d hw) x fun c hc => hx c (List.mem_cons_of_mem _ hc)
    refine ih.trans ?_
    rw [byteAt_poke hw, hd]
    exact if_neg hb

/-- Banks set to zero, and no other byte. -/
theorem foldl_zero_banks : ∀ (l : List Nat) (s : State) (x : Nat),
    ((∃ b ∈ l, inBank b x) → (l.foldl (fun s b => s.zero (bankRange b).1 (bankRange b).2) s).byteAt x = 0) ∧
      ((∀ b ∈ l, ¬ inBank b x) → (l.foldl (fun s b => s.zero (bankRange b).1 (bankRange b).2) s).byteAt x = s.byteAt x)
  | [], _, _ => ⟨fun ⟨_, h, _⟩ => absurd h List.not_mem_nil, fun _ => rfl⟩
  | b :: t, s, x => by
    obtain ⟨hin, hout⟩ := foldl_zero_banks t (s.zero (bankRange b).1 (bankRange b).2) x
    have hz := byteAt_zero s (bankRange b).1 (bankRange b).2 x
    refine ⟨fun ⟨c, hc, hx⟩ => ?_, fun hx => ?_⟩
    · by_cases ht : ∃ c ∈ t, inBank c x
      · exact hin ht
      · have hcb : c = b := (List.mem_cons.mp hc).resolve_right fun hct => ht ⟨c, hct, hx⟩
        refine (hout fun c hc hx => ht ⟨c, hc, hx⟩).trans (hz.trans (if_pos ?_))
        exact hcb ▸ hx
    · exact (hout fun c hc => hx c (List.mem_cons_of_mem _ hc)).trans (hz.trans (if_neg (hx b List.mem_cons_self)))

theorem foldl_zero_frame (f : Nat → Nat × Nat) : ∀ (l : List Nat) (s : State),
    (l.foldl (fun s b => s.zero (f b).1 (f b).2) s).dev = s.dev ∧ (l.foldl (fun s b => s.zero (f b).1 (f b).2) s).lanes = s.lanes
  | [], _ => ⟨rfl, rfl⟩
  | b :: t, s => foldl_zero_frame f t (s.zero (f b).1 (f b).2)

/-- The bank of an address among consecutive banks. -/
theorem inBank_range {first count x : Nat} :
    (∃ b, (b < 2048 ∧ first ≤ b ∧ b < first + count) ∧ inBank b x) ↔
      first * 0x50000 ≤ x ∧ x < (first + count) * 0x50000 ∧ x < 2048 * 0x50000 := by
  simp only [inBank, bankBytes]
  constructor
  · rintro ⟨b, ⟨h1, h2, h3⟩, h4, h5⟩
    omega
  · rintro ⟨h1, h2, h3⟩
    exact ⟨x / 0x50000, by omega, by omega⟩

end Sys2Proof.Machine
end

section
/-!
PROOFS. SIEVE_RUN and SIEVE_PERIODIC (O31, O32).
-/
namespace Sys2Proof.Machine

/-! ### The start of a march (R410, R411) -/

/-- The run of SIEVE_RUN over Granary banks. -/
def granaryRun (first count alg bgs : Nat) : Run := ⟨0, first, count, 0, 0, alg, bgs⟩

theorem granaryRun_units (first count alg bgs : Nat) : (granaryRun first count alg bgs).units = (List.range count).map fun i => first + i :=
  if_neg (show ¬ 5 ≤ 0 by decide)

/-- Programs and held entries that touch a bank of a list dropped (R412). -/
def State.dropBanks (s : State) (l : List Nat) : State := l.foldl (fun s b => s.dropTouched (bankRange b)) s

theorem State.dropBanks_only (s : State) (l : List Nat) : s.dropsOnly (s.dropBanks l) :=
  dropsOnly_foldl (fun s b => dropsOnly_dropTouched s (bankRange b)) l s

theorem sieveOpen_granary (s : State) (first count alg bgs : Nat) : s.sieveOpen (granaryRun first count alg bgs)
    = (testedBanks s.sieve (granaryRun first count alg bgs).units).foldl (fun u b => u.poke (bankRange b).1 (le bankBytes s.takeFree.1))
      (s.takeFree.2.dropBanks (testedBanks s.sieve (granaryRun first count alg bgs).units)) := by
  have h0 : (granaryRun first count alg bgs).target = 0 := rfl
  unfold State.sieveOpen
  simp only [h0, if_true]
  rfl

/-- A march over Granary banks keeps every byte outside them. -/
theorem sieveOpen_byteAt {s : State} (hw : s.memory.wf = true) (hmap : s.sieve.map = []) (first count alg bgs : Nat) {x : Nat}
    (hx : x < first * 0x50000 ∨ (first + count) * 0x50000 ≤ x) :
    (s.sieveOpen (granaryRun first count alg bgs)).byteAt x = s.byteAt x := by
  have hout : ∀ b ∈ testedBanks s.sieve (granaryRun first count alg bgs).units, ¬ inBank b x := fun b hb k => by
    rw [granaryRun_units, mem_testedBanks hmap] at hb
    have := inBank_range.mp ⟨b, hb, k⟩
    omega
  have hmem := (s.takeFree.2.dropBanks_only (testedBanks s.sieve (granaryRun first count alg bgs).units)).memory
  rw [sieveOpen_granary]
  refine (foldl_poke_banks (le bankBytes s.takeFree.1) (le_length _ _) _ ?_ x hout).trans ?_
  · rw [hmem]
    exact hw
  · exact congrFun (byteAt_of_memory hmem) x

/-- A SIEVE_RUN of Granary banks within the device passes its checks (R410). -/
theorem doSieveRun_granary {s : State} {h : ReqHdr} {first count alg bgs : Nat} (hs : s.servesNow h 0x0701)
    (hfit : first + count ≤ 2080) (hcount : 1 ≤ count) (halg : alg ≤ 1) (hb1 : 1 ≤ bgs) (hb7f : bgs ≤ 0x7F) :
    doSieveRun h ⟨0, 0, first, count, 0, 0, 0⟩ (some (alg, bgs, 0)) (s.accept h)
      = ((s.accept h).sieveOpen (granaryRun first count alg bgs)).setJob h 0x0701
          (.sieveRun h ⟨0, 0, first, count, 0, 0, 0⟩ (some (alg, bgs, 0))) (.sieveRun 0 first count 0 0 alg bgs) := by
  have hext : decide (5 ≤ (0 : Nat)) = false := rfl
  have hunits : targetUnits 0 = 2080 := rfl
  have hfirst : first < 2080 := by omega
  have hnone : ¬ count = 0 := by omega
  unfold doSieveRun
  dsimp only [Option.getD_some]
  rw [hext]
  simp only [Bool.false_eq_true, if_false]
  refine (serve_servesNow hs rfl ?_).trans (if_neg (by simpa using hnone))
  simp [hunits, hfirst, hfit, inRange_of_le (Nat.zero_le _) halg, inRange_of_le hb1 hb7f, inRange_of_le]

/-- Settles O31. -/
theorem sieveCommandsStart : Obligations.SieveCommandsStart := by
  intro s h e first count g x alg bgs
  refine ⟨fun hs _ hfit hcount halg hb1 hb7f => ?_, fun hs _ he hg1 hg hx1 hx halg => ?_⟩
  · have he : exec (.sieveRun h ⟨0, 0, first, count, 0, 0, 0⟩ (some (alg, bgs, 0))) s
      = .next (doSieveRun h ⟨0, 0, first, count, 0, 0, 0⟩ (some (alg, bgs, 0)) (s.accept h)) := exec_of_servesNow hs rfl rfl
    refine ⟨?_, fun hi hmap b hb => ?_⟩
    · rw [he, doSieveRun_granary hs hfit hcount halg hb1 hb7f]
      rfl
    · have hw : (s.accept h).memory.wf = true := by simpa using hi.memory
      have hmap' : (s.accept h).sieve.map = [] := by simpa using hmap
      exact (sieveOpen_byteAt hw hmap' first count alg bgs hb).trans (accept_byteAt s h b)
  · have hf : firstFailure ([] ++ [inRange 0 e 0 7, rsvZero 1 0, inRange 4 g 1 60000, inRange 6 x 10 65535, inRange 8 alg 0 1, rsvZero 9 0]
      ++ []) = none := by
      rw [inRange_of_le (Nat.zero_le _) he, inRange_of_le hg1 hg, inRange_of_le hx1 hx, inRange_of_le (Nat.zero_le _) halg]
      rfl
    have hexec : exec (.sievePeriodic h e 0 (some (g, x, alg, 0))) s
      = .next (doSievePeriodic h e 0 (some (g, x, alg, 0)) (s.accept h)) := exec_of_servesNow hs rfl rfl
    rw [hexec, doSievePeriodic]
    dsimp only [Option.getD_some]
    rw [serve_servesNow hs rfl hf, if_neg (by decide), accept_sieve]

/-! ### The end of a march (R411 to R414) -/

theorem granaryRun_fails {env : Env} (h : env.unitFails = []) (r : Run) : r.fails env = [] := by
  unfold Run.fails
  rw [h]
  exact List.filterMap_eq_nil_iff.mpr fun _ _ => rfl

/-- Banks tested and found good, before they are counted and answered (R411, R412). -/
theorem eraseBanks_spec {s : State} (hmap : s.sieve.map = []) (first count alg bgs : Nat) :
    let t := s.eraseBanks (granaryRun first count alg bgs).units
    t.dev = s.dev ∧ t.lanes = s.lanes ∧ ∀ x, t.byteAt x
      = if first * 0x50000 ≤ x ∧ x < (first + count) * 0x50000 ∧ x < 2048 * 0x50000 then 0 else s.byteAt x := by
  have hdrop := s.dropBanks_only (testedBanks s.sieve (granaryRun first count alg bgs).units)
  have hframe := foldl_zero_frame bankRange (testedBanks s.sieve (granaryRun first count alg bgs).units)
    (s.dropBanks (testedBanks s.sieve (granaryRun first count alg bgs).units))
  refine ⟨hframe.1.trans hdrop.dev, hframe.2.trans hdrop.lanes, fun x => ?_⟩
  have hzero := foldl_zero_banks (testedBanks s.sieve (granaryRun first count alg bgs).units)
    (s.dropBanks (testedBanks s.sieve (granaryRun first count alg bgs).units)) x
  have hmem (b : Nat) : b ∈ testedBanks s.sieve (granaryRun first count alg bgs).units ↔ b < 2048 ∧ first ≤ b ∧ b < first + count := by
    rw [granaryRun_units]
    exact mem_testedBanks hmap first count b
  by_cases hx : first * 0x50000 ≤ x ∧ x < (first + count) * 0x50000 ∧ x < 2048 * 0x50000
  · obtain ⟨b, hb, hin⟩ := inBank_range.mpr hx
    rw [if_pos hx]
    exact hzero.1 ⟨b, (hmem b).mpr hb, hin⟩
  · rw [if_neg hx]
    refine (hzero.2 fun b hb hin => hx (inBank_range.mp ⟨b, (hmem b).mp hb, hin⟩)).trans ?_
    exact congrFun (byteAt_of_memory hdrop.memory) x

/-- A run without a failing unit erases the tested banks, counts and answers. -/
theorem finishSieveRun_granary {env : Env} (he : env.unitFails = []) (h : ReqHdr) (first count alg bgs : Nat) (s : State) :
    ∃ p, finishSieveRun h (granaryRun first count alg bgs) env s
      = (((s.eraseBanks (granaryRun first count alg bgs).units).bump (aSieve 0x50)).bump (aSieve 0x58) 0).reply h 0x0701 stOk p := by
  have h0 : (granaryRun first count alg bgs).target = 0 := rfl
  unfold finishSieveRun
  simp only [granaryRun_fails he, h0, if_true, List.foldl_nil]
  exact ⟨_, rfl⟩

/-! ### What waits for the end of a test -/

theorem resumeWaiting_of_no_jobs {s : State} (h : ∀ l ∈ s.lanes, l.job = none) : s.resumeWaiting = s := by
  have hfold : ∀ (ls : List Lane), (∀ l ∈ ls, l.job = none) → ls.foldl (fun s l => match l.job with
      | some j => if j.kind = .waitWake then startHost j.cmd s else s
      | none => s) s = s := by
    intro ls
    induction ls with
    | nil => exact fun _ => rfl
    | cons l t ih =>
      intro hl
      rw [List.foldl_cons, hl l List.mem_cons_self]
      exact ih fun x hx => hl x (List.mem_cons_of_mem _ hx)
  unfold State.resumeWaiting
  split
  · rfl
  · exact hfold s.lanes h

theorem powerNext_of_no_jobs {s : State} (h : ∀ l ∈ s.lanes, l.job = none) : s.powerNext = s := by
  have hfold : ∀ (ls : List Lane), (∀ l ∈ ls, l.job = none) → ls.foldl (fun s l => match l.job with
      | some j => match j.kind with
        | .powerEntry t w b d n => s.powerGo j t w b d n
        | _ => s
      | none => s) s = s := by
    intro ls
    induction ls with
    | nil => exact fun _ => rfl
    | cons l t ih =>
      intro hl
      rw [List.foldl_cons, hl l List.mem_cons_self]
      exact ih fun x hx => hl x (List.mem_cons_of_mem _ hx)
  exact hfold s.lanes h

theorem dozeIfDue_of_dev {s : State} (hr : s.dev ≠ .ready) (hi : s.dev ≠ .idle) : s.dozeIfDue = s :=
  if_neg fun ⟨_, _, _, k⟩ => k.elim hr hi

theorem testEnded_of_no_jobs {s : State} (h : ∀ l ∈ s.lanes, l.job = none) (hr : s.dev ≠ .ready) (hi : s.dev ≠ .idle) :
    s.testEnded = s := by
  rw [State.testEnded, resumeWaiting_of_no_jobs h, dozeIfDue_of_dev hr hi, powerNext_of_no_jobs h]

theorem bump_lanes (s : State) (a n : Nat) : (s.bump a n).lanes = s.lanes := by rw [bump_only]
theorem bump_dev (s : State) (a n : Nat) : (s.bump a n).dev = s.dev := by rw [bump_only]

theorem reply_lanes_length (s : State) (h : ReqHdr) (op st : Nat) (d : List Byte) : (s.reply h op st d).lanes.length = s.lanes.length := by
  unfold State.reply
  rw [setLane_lanes_length, sendReply_lanes]

theorem forall_lanes {s : State} (hn : s.lanes.length = 16) {p : Lane → Prop} (h : ∀ k, k < 16 → p (s.lane k)) : ∀ l ∈ s.lanes, p l := by
  intro l hl
  obtain ⟨k, hk, rfl⟩ := List.getElem_of_mem hl
  have := h k (hn ▸ hk)
  rwa [State.lane, List.getD_eq_getElem?_getD, List.getElem?_eq_getElem hk, Option.getD_some] at this

/-- Settles O32. -/
theorem sieveRunZeroesTestedBanks : Obligations.SieveRunZeroesTestedBanks := by
  intro s j l first count alg bgs env hi hl hj hlane hkind hdev henv hmap hothers
  obtain ⟨hedev, helanes, hebyte⟩ := eraseBanks_spec hmap first count alg bgs
  obtain ⟨p, hfin⟩ := finishSieveRun_granary henv j.hdr first count alg bgs s
  generalize hu : ((s.eraseBanks (granaryRun first count alg bgs).units).bump (aSieve 0x50)).bump (aSieve 0x58) 0 = u at hfin
  have hulanes : u.lanes = s.lanes := by
    rw [← hu, bump_lanes, bump_lanes]
    exact helanes
  have hudev : u.dev = s.dev := by
    rw [← hu, bump_dev, bump_dev]
    exact hedev
  have humem : u.memory = (s.eraseBanks (granaryRun first count alg bgs).units).memory := by
    rw [← hu, bump_memory, bump_memory]
  have hulane (k : Nat) : u.lane k = s.lane k := by
    rw [State.lane, hulanes, State.lane]
  have hn : u.lanes.length = 16 := by rw [hulanes, hi.lanes]
  have hfree : ((u.reply j.hdr 0x0701 stOk p).lane l).job = none := by
    rw [← hlane]
    exact reply_frees u j.hdr _ _ _ hn (hlane ▸ hl) fun k hk => by
      rw [hlane, hulane, hj] at hk
      cases hk
      rfl
  have hn' : (u.reply j.hdr 0x0701 stOk p).lanes.length = 16 := by rw [reply_lanes_length, hn]
  have hdev' : (u.reply j.hdr 0x0701 stOk p).dev = .config := by
    rw [reply_only]
    exact hudev.trans hdev
  have hjobs : ∀ x ∈ (u.reply j.hdr 0x0701 stOk p).lanes, x.job = none := forall_lanes hn' fun k hk => by
    by_cases hkl : k = l
    · exact hkl ▸ hfree
    · rw [reply_other _ _ _ _ _ (hlane.symm ▸ hkl), hulane]
      exact hothers k hk hkl
  have hend := testEnded_of_no_jobs hjobs (by rw [hdev']; decide) (by rw [hdev']; decide)
  have hdone : doCommandCompletion l env s = (finishSieveRun j.hdr (granaryRun first count alg bgs) env s).testEnded := by
    unfold doCommandCompletion
    rw [hj]
    simp only [hkind, hdev, reduceCtorEq, if_false]
    rfl
  refine ⟨_, congrArg Host.Outcome.next (hdone.trans (by rw [hfin, hend])), hfree, fun x => ?_⟩
  rw [byteAt_of_memory (reply_memory ..), byteAt_of_memory humem, hebyte]

end Sys2Proof.Machine
end

section
/-!
SUPPORT. What reading and writing memory leaves alone: all but memory, registers that count and log, records on their way
and free values (R330 to R335, R338).
-/
namespace Sys2Proof.Machine

/-- What reads and writes of memory change, whatever the memories hold. -/
def State.memOnly (s t : State) : Prop := ∃ rg mem ev lg la fr,
  t = { s with regs := rg, memory := mem, events := ev, ledger := lg, lantern := { s.lantern with latch := la }, free := fr }

namespace State.memOnly
variable {s t u : State}

theorem refl (s : State) : s.memOnly s := ⟨s.regs, s.memory, s.events, s.ledger, s.lantern.latch, s.free, rfl⟩

theorem trans (h : s.memOnly t) (k : t.memOnly u) : s.memOnly u := by
  obtain ⟨rg, mem, ev, lg, la, fr, rfl⟩ := h
  obtain ⟨rg', mem', ev', lg', la', fr', rfl⟩ := k
  exact ⟨rg', mem', ev', lg', la', fr', rfl⟩

theorem memory (s : State) (m : Memory) : s.memOnly { s with memory := m } :=
  ⟨s.regs, m, s.events, s.ledger, s.lantern.latch, s.free, rfl⟩

theorem takeFree (s : State) : s.memOnly s.takeFree.2 :=
  ⟨s.regs, s.memory, s.events, s.ledger, s.lantern.latch, s.free + 1, rfl⟩

theorem setReg (s : State) (a v : Nat) : s.memOnly (s.setReg a v) :=
  ⟨_, s.memory, s.events, s.ledger, s.lantern.latch, s.free, rfl⟩

theorem foldl {β : Type} {f : State → β → State} (hf : ∀ (s : State) (x : β), s.memOnly (f s x)) : ∀ (l : List β) (s : State),
    s.memOnly (l.foldl f s)
  | [], s => refl s
  | x :: t, s => (hf s x).trans (foldl hf t (f s x))

theorem lanes (h : s.memOnly t) : t.lanes = s.lanes := by
  obtain ⟨rg, mem, ev, lg, la, fr, rfl⟩ := h
  rfl
theorem sessions (h : s.memOnly t) : t.sessions = s.sessions := by
  obtain ⟨rg, mem, ev, lg, la, fr, rfl⟩ := h
  rfl
theorem dev (h : s.memOnly t) : t.dev = s.dev := by
  obtain ⟨rg, mem, ev, lg, la, fr, rfl⟩ := h
  rfl
theorem steps (h : s.memOnly t) : t.steps = s.steps := by
  obtain ⟨rg, mem, ev, lg, la, fr, rfl⟩ := h
  rfl

end State.memOnly

theorem State.Notes.memOnly {p : Nat → Prop} {s t : State} (h : s.Notes p t) : s.memOnly t := by
  obtain ⟨rg, ev, lg, la, rfl⟩ := h.frame
  exact ⟨rg, s.memory, ev, lg, la, s.free, rfl⟩

theorem memOnly_bump (s : State) (a n : Nat) : s.memOnly (s.bump a n) := (notes_bump (p := fun _ => True) trivial s n).memOnly

theorem memOnly_raise (s : State) (r : Record) (b : Option Blk) : s.memOnly (s.raise r b) :=
  (notes_raise (p := fun _ => True) trivial s r b).memOnly

/-! ### Reads -/

theorem memOnly_logCE (s : State) (w : Nat) : s.memOnly (s.logCE w) := by
  obtain ⟨co, h⟩ := logCE_notes s w
  exact (State.memOnly.memory s _).trans h.memOnly

theorem memOnly_logUE (s : State) (w src : Nat) : s.memOnly (s.logUE w src) := by
  unfold State.logUE
  extract_lets c u v lo isHere
  have hv : s.memOnly v := (memOnly_bump s _ _).trans (memOnly_raise u _ _)
  split
  · exact hv
  · split
    · exact hv
    · extract_lets a b d
      exact (((hv.trans (.setReg v _ _)).trans (.setReg a _ _)).trans (.setReg b _ _)).trans (.setReg d _ _)

theorem memOnly_readWord (s : State) (w src : Nat) : s.memOnly (s.readWord w src).2 := by
  unfold State.readWord
  split
  · exact .refl s
  · split
    · exact .refl s
    · exact (State.memOnly.memory s _).trans (memOnly_logCE (s.clearErr w) w)
    · exact memOnly_logUE s w src
    · exact .refl s
    · extract_lets t v data
      split
      · exact (State.memOnly.takeFree s).trans (memOnly_logUE t.2 w src)
      · split
        · exact ((State.memOnly.takeFree s).trans (.takeFree t.2)).trans
            (((State.memOnly.memory v.2 _).trans (.memory (v.2.poke w data) _)).trans (memOnly_logCE ((v.2.poke w data).clearErr w) w))
        · exact .takeFree s

theorem memOnly_readPiece (s : State) (src : Nat) (p : Nat × Nat) : s.memOnly (s.readPiece src p).2 := by
  unfold State.readPiece
  extract_lets w r
  split
  · exact .refl s
  · exact memOnly_readWord s w src

theorem memOnly_readPieces (src : Nat) : ∀ (l : List (Nat × Nat)) (s : State), s.memOnly (State.readPieces src l s).2
  | [], s => .refl s
  | p :: t, s => by
    have hp := memOnly_readPiece s src p
    unfold State.readPieces
    generalize s.readPiece src p = r at hp
    obtain ⟨d, u⟩ := r
    cases d with
    | none => exact hp
    | some d => exact hp.trans (memOnly_readPieces src t u)

/-! ### Writes -/

theorem memOnly_setFlip (s : State) (t : Tier) (f : Option Flip) : s.memOnly (s.setFlip t f) := by
  cases t <;> exact State.memOnly.memory s _

theorem memOnly_applyFlip (s : State) (w : Nat) : s.memOnly (s.applyFlip w) := by
  unfold State.applyFlip
  extract_lets t
  split
  · exact .refl s
  · split
    · exact .refl s
    · extract_lets u m v
      exact ((((memOnly_setFlip s t none).trans (.memory _ _)).trans (.memory u _)).trans (.setReg v _ _)).trans (.setReg _ _ _)

theorem memOnly_writeWord (s : State) (w : Nat) (d : List Byte) : s.memOnly (s.writeWord w d) :=
  ((State.memOnly.memory s _).trans (.memory (s.poke w d) _)).trans (memOnly_applyFlip ((s.poke w d).clearErr w) w)

theorem memOnly_storePart (s : State) (m : MergeEntry) : s.memOnly (s.storePart m) := by
  unfold State.storePart
  split
  · extract_lets u
    have hu : s.memOnly u := by
      show s.memOnly (match s.errOf m.word with | none => s | some e => s.setErr (e.touched (offsOf m.bytes)))
      split
      · exact .refl s
      · exact .memory s _
    exact (hu.trans (.memory u _)).trans (memOnly_applyFlip _ _)
  · have hr := memOnly_readWord s m.word (if m.owner = .commit then 3 else 1)
    generalize s.readWord m.word (if m.owner = .commit then 3 else 1) = r at hr
    obtain ⟨d, u⟩ := r
    cases d with
    | none => exact hr.trans (.memory u _)
    | some d => exact (((hr.trans (.memory u _)).trans (.memory (u.poke m.word d) _)).trans (.memory _ _)).trans (memOnly_applyFlip _ _)

theorem memOnly_flushEntry (s : State) (m : MergeEntry) : s.memOnly (s.flushEntry m) := by
  rw [flushEntry_eq]
  extract_lets c
  have hc : s.memOnly c := (State.memOnly.memory s _).trans (memOnly_bump _ _ _)
  split
  · exact hc.trans (memOnly_writeWord c _ _)
  · exact (hc.trans (memOnly_bump c _ _)).trans (memOnly_storePart _ m)

theorem memOnly_flushAll (s : State) (l : List MergeEntry) : s.memOnly (s.flushAll l) := .foldl memOnly_flushEntry l s

theorem memOnly_flushOwner (s : State) (o : Owner) : s.memOnly (s.flushOwner o) := memOnly_flushAll s _

theorem memOnly_mergeWrite (s : State) (o : Owner) (a : Nat) (bs : List Byte) : s.memOnly (s.mergeWrite o a bs) := by
  unfold State.mergeWrite
  extract_lets w c m mine
  split
  · extract_lets m' u
    have hu : s.memOnly u := .memory s _
    split
    · exact hu.trans (memOnly_flushEntry u m')
    · exact hu
  · next u _ _ _ =>
    have hu : s.memOnly u := by
      show s.memOnly (if 32 ≤ mine.length then (match mine.head? with | some m => s.flushEntry m | none => s) else s)
      split
      · split
        · exact memOnly_flushEntry s _
        · exact .refl s
      · exact .refl s
    exact hu.trans (.memory u _)

theorem memOnly_writePiece (s : State) (o : Owner) (p : Nat × Nat) (bs : List Byte) : s.memOnly (s.writePiece o p bs) := by
  unfold State.writePiece
  split
  · exact (State.memOnly.memory s _).trans (.memory (s.poke p.1 bs) _)
  · split
    · exact memOnly_writeWord s _ _
    · exact memOnly_mergeWrite s o _ _

theorem memOnly_writePieces (o : Owner) (a : Nat) (bs : List Byte) : ∀ (l : List (Nat × Nat)) (s : State),
    s.memOnly (State.writePieces o a bs l s)
  | [], s => .refl s
  | p :: t, s => (memOnly_writePiece s o p _).trans (memOnly_writePieces o a bs t _)

theorem memOnly_writeMem (s : State) (o : Owner) (a : Nat) (bs : List Byte) : s.memOnly (s.writeMem o a bs) :=
  memOnly_writePieces o a bs _ s

theorem memOnly_takeFails (s : State) (o : Owner) : s.memOnly (s.takeFails o).2 := .memory s _

end Sys2Proof.Machine
end

section
/-!
PROOFS. The program table (O33).
-/
namespace Sys2Proof.Machine

/-- A PROGRAM_LOAD with room in the table (R302). -/
theorem doProgramLoad_room {s : State} {h : ReqHdr} {a n : Nat} {rest : List Program} (hs : s.servesNow h 0x0301) (ha : a % 64 = 0)
    (hn : 1 ≤ n) (hmax : n ≤ 65536) (hfit : a + 64 * n ≤ 0x28000000) (hroom : (s.accept h).makeRoom a n = some rest) :
    doProgramLoad h a n 0 (s.accept h) = ({ s.accept h with programs := rest ++ [⟨a, n, false, []⟩] } : State).reply h 0x0301 stOk := by
  have hlow : a < 0x28000000 := by omega
  have htier : inOneTier .granary a (64 * n) = true := by simpa [inOneTier, Tier.base, Tier.size] using hfit
  have hn0 : n ≠ 0 := by omega
  have hf : firstFailure ([] ++ [need (a % 64 = 0) (fRange 0 a), need (a < 0x28000000) (fAddr 0 a), inRange 8 n 0 65536,
      (if n = 0 then none else need (inOneTier .granary a (64 * n)) (fAddr 8 0x28000000)), rsvZero 12 0]
      ++ [wrongUnless (n = 0 || ((s.accept h).makeRoom a n).isSome)]) = none := by
    rw [hroom, htier, if_neg hn0, inRange_of_le (Nat.zero_le _) hmax]
    simp [ha, hlow, wrongUnless]
  unfold doProgramLoad
  rw [serve_servesNow hs rfl hf, if_neg (by simpa using hn0)]
  dsimp only
  rw [hroom]

/-- A PROGRAM_CHECK of a registered program answers what its checks give (R303). -/
theorem doProgramCheck_registered {s : State} {h : ReqHdr} {a : Nat} {p : Program} (hs : s.servesNow h 0x0302) (ha : a % 64 = 0)
    (hlow : a < 0x28000000) (hp : (s.accept h).programAt a = some p) :
    let marked (c : Bool) (rs : List (Nat × Nat)) : State := { s.accept h with
      programs := (s.accept h).programs.map fun q => if q.addr = a then { q with checked := c, ranges := rs } else q }
    (∀ rs d, (s.accept h).checkProgram p = .pass rs d → doProgramCheck h a (s.accept h) = (marked true rs).reply h 0x0302 stOk d) ∧
      (∀ f, (s.accept h).checkProgram p = .fail f → doProgramCheck h a (s.accept h) = (marked false []).failReply h 0x0302 f) := by
  have hf : firstFailure ([] ++ [need (a % 64 = 0) (fRange 0 a), need (a < 0x28000000) (fAddr 0 a)]
      ++ [wrongUnless ((s.accept h).programAt a).isSome]) = none := by
    rw [hp]
    simp [ha, hlow, wrongUnless]
  unfold doProgramCheck
  rw [serve_servesNow hs rfl hf, if_neg (by decide)]
  simp only [hp]
  refine ⟨fun rs d hc => ?_, fun f hc => ?_⟩
  · rw [hc]
  · rw [hc]

/-- Settles O33. -/
theorem programsRegisterAndCheck : Obligations.ProgramsRegisterAndCheck := by
  refine ⟨fun s h a n rest hs ha hn hmax hfit hroom => ⟨?_, ?_⟩, ?_⟩
  · have he : exec (.programLoad h a n 0) s = .next (doProgramLoad h a n 0 (s.accept h)) := exec_of_servesNow hs rfl rfl
    rw [he, doProgramLoad_room hs ha hn hmax hfit hroom]
  · simpa using makeRoom_spec hroom
  · intro s h a p hs ha hlow hp b marked
    have he : exec (.programCheck h a) s = .next (doProgramCheck h a (s.accept h)) := exec_of_servesNow hs rfl rfl
    have hp' : (s.accept h).programAt a = some p := by simpa [State.programAt] using hp
    obtain ⟨hpass, hfail⟩ := doProgramCheck_registered hs ha hlow hp'
    rw [he]
    exact ⟨fun rs d hc => congrArg _ (hpass rs d hc), fun f hc => congrArg _ (hfail f hc)⟩

end Sys2Proof.Machine
end

section
/-!
SUPPORT. What a drop and a commit of held entries change (R99, R100, R284, R285, R291).
-/
namespace Sys2Proof.Machine

theorem notes_foldl {β : Type} {p : Nat → Prop} {f : State → β → State} (hf : ∀ (s : State) (x : β), s.Notes p (f s x)) :
    ∀ (l : List β) (s : State), s.Notes p (l.foldl f s)
  | [], s => .refl p s
  | x :: t, s => (hf s x).trans (notes_foldl hf t (f s x))

theorem bumpLanes_notes {p : Nat → Prop} (hp : ∀ a, p a) (s : State) (x : Session) (off n : Nat) : s.Notes p (s.bumpLanes x off n) :=
  notes_foldl (fun s _ => notes_bump (hp _) s n) _ s

theorem discardSlots_notes {p : Nat → Prop} (hp : ∀ a, p a) (s : State) (x : Session) (n : Nat) : s.Notes p (s.discardSlots x n) := by
  unfold State.discardSlots
  split
  · exact .refl p s
  · exact bumpLanes_notes hp s x _ _

/-- Sessions change in one place only, lanes not at all. -/
structure State.SetsSession (s t : State) (n : Nat) (x : Session) : Prop where
  lanes : t.lanes = s.lanes
  self : t.session n = some x
  others : ∀ k, k ≠ n → t.session k = s.session k
  rising : risingFrom none s.sessions = true → risingFrom none t.sessions = true

theorem setsSession_setSession {s u : State} (h : s.memOnly u) (n : Nat) (x : Session) : s.SetsSession (u.setSession n x) n x where
  lanes := h.lanes
  self := by rw [session_setSession, if_pos rfl]
  others k hk := by
    rw [session_setSession, if_neg hk]
    unfold State.session
    rw [h.sessions]
  rising hr := risingFrom_put (by rw [h.sessions]; exact hr) (by simp)

/-- Held entries dropped (R93, R100). -/
theorem dropHeld_spec {s : State} {n : Nat} {x : Session} (hx : s.session n = some x) :
    s.SetsSession (s.dropHeld n) n { x with held := none } ∧ (s.dropHeld n).memory = s.memory := by
  have hd := discardSlots_notes (p := fun _ => True) (fun _ => trivial) s x ((x.held.map fun k => k.slots).getD 0)
  unfold State.dropHeld
  rw [hx]
  exact ⟨setsSession_setSession hd.memOnly n _, hd.memory⟩

/-! ### The writes of a commit -/

theorem memOnly_commitRow (s : State) (x : Session) (stage slot layer head kv pos : Nat) :
    s.memOnly (s.commitRow x stage slot layer head kv pos) := by
  have hpieces : ∀ (l : List (Nat × Nat)) (acc : Nat × State), s.memOnly acc.2 → s.memOnly (l.foldl (fun (acc : Nat × State) p =>
      (acc.1 + p.2, acc.2.writeMem .commit p.1 (s.bytesAt (x.stageRow stage slot layer head kv + acc.1) p.2))) acc).2 := by
    intro l
    induction l with
    | nil => exact fun _ h => h
    | cons p t ih => exact fun acc h => ih _ (h.trans (memOnly_writeMem _ _ _ _))
  unfold State.commitRow
  extract_lets src lane len u exps
  exact (hpieces _ (0, s) (.refl s)).trans (.foldl (fun s _ => memOnly_writeMem s _ _ _) _ _)

theorem memOnly_poisonWord (s : State) (w : Nat) : s.memOnly (s.poisonWord w) :=
  (State.memOnly.memory s _).trans (memOnly_logUE _ _ _)

/-- The rows of the committed slots written. -/
def State.commitRows (s : State) (x : Session) (stage count : Nat) : State :=
  (List.range count).foldl (fun s j => x.rows.foldl (fun s r => s.commitRow x stage j r.1 r.2.1 r.2.2 (x.n + j)) s) s

theorem memOnly_commitRows (s : State) (x : Session) (stage count : Nat) : s.memOnly (s.commitRows x stage count) :=
  .foldl (fun s _ => .foldl (fun s _ => memOnly_commitRow s _ _ _ _ _ _ _) _ s) _ s

/-- The words of the rows whose stage bytes fail their parity (R285). -/
def State.badWords (s : State) (x : Session) (stage count : Nat) : List Nat :=
  (List.range count).flatMap fun j => (s.badRows x stage j).flatMap fun r => x.rowWords r.1 r.2.1 r.2.2 (x.n + j)

theorem commitSlots_eq {s : State} {n : Nat} {x : Session} (hx : s.session n = some x) (stage count total : Nat) :
    s.commitSlots n stage count total =
      (decide (s.badWords x stage (min count total) ≠ []) || (((s.commitRows x stage (min count total)).flushOwner .commit).takeFails .commit).1.isSome,
        ((((s.badWords x stage (min count total)).eraseDups.foldl State.poisonWord
          (((s.commitRows x stage (min count total)).flushOwner .commit).takeFails .commit).2).bumpLanes x 0x70 (min count total)).discardSlots x
            (total - min count total)).setSession n { x with n := x.n + min count total, held := none }) := by
  unfold State.commitSlots
  rw [hx]
  rfl

/-- A commit sets its session, whatever the memories hold (R284). -/
theorem commitSlots_sets {s : State} {n : Nat} {x : Session} (hx : s.session n = some x) (stage count total : Nat) :
    s.SetsSession (s.commitSlots n stage count total).2 n { x with n := x.n + min count total, held := none } := by
  have hall : ∀ _ : Nat, (fun _ : Nat => True) 0 := fun _ => trivial
  rw [commitSlots_eq hx]
  refine setsSession_setSession ?_ n _
  exact (((((memOnly_commitRows s x _ _).trans (memOnly_flushOwner _ _)).trans (memOnly_takeFails _ _)).trans
    (.foldl memOnly_poisonWord _ _)).trans (bumpLanes_notes (p := fun _ => True) hall _ x _ _).memOnly).trans
      (discardSlots_notes (p := fun _ => True) hall _ x _).memOnly

/-! ### A commit in quiet memory -/

/-- Writes of a commit in quiet memory keep it free of errors, and mark no failed flush. -/
structure State.CommitsQuietly (s t : State) : Prop where
  buffering : t.Buffering .commit
  fails : t.memory.flushFails = s.memory.flushFails

theorem State.CommitsQuietly.trans {s t u : State} (h : s.CommitsQuietly t) (k : t.CommitsQuietly u) : s.CommitsQuietly u :=
  ⟨k.buffering, k.fails.trans h.fails⟩

theorem State.Stores.quietly {s t : State} {f : Nat → Byte} (h : s.Stores .commit t f) : s.CommitsQuietly t := by
  refine ⟨h.buffering, ?_⟩
  obtain ⟨rg, cells, mg, rfl⟩ := h.frame
  rfl

theorem quietly_foldl {β : Type} {f : State → β → State} (hf : ∀ (s : State) (x : β), s.Buffering .commit → s.CommitsQuietly (f s x)) :
    ∀ (l : List β) (s : State), s.Buffering .commit → s.CommitsQuietly (l.foldl f s)
  | [], _, h => ⟨h, rfl⟩
  | x :: t, s, h => (hf s x h).trans (quietly_foldl hf t (f s x) (hf s x h).buffering)

theorem quietly_commitRow (s : State) (x : Session) (stage slot layer head kv pos : Nat) (hs : s.Buffering .commit) :
    s.CommitsQuietly (s.commitRow x stage slot layer head kv pos) := by
  have hpieces : ∀ (l : List (Nat × Nat)) (acc : Nat × State), s.CommitsQuietly acc.2 →
      s.CommitsQuietly (l.foldl (fun (acc : Nat × State) p =>
        (acc.1 + p.2, acc.2.writeMem .commit p.1 (s.bytesAt (x.stageRow stage slot layer head kv + acc.1) p.2))) acc).2 := by
    intro l
    induction l with
    | nil => exact fun _ h => h
    | cons p t ih => exact fun acc h => ih _ (h.trans (writeMem_stores h.buffering _ _).quietly)
  unfold State.commitRow
  extract_lets src lane len u exps
  have hu : s.CommitsQuietly u := hpieces _ (0, s) ⟨hs, rfl⟩
  exact hu.trans (quietly_foldl (fun s _ h => (writeMem_stores h _ _).quietly) _ u hu.buffering)

/-- With quiet memory a commit meets no stored-data error (R285). -/
theorem commitSlots_quiet {s : State} (hq : s.quiet) (hw : s.memory.wf = true) (n stage count total : Nat) :
    (s.commitSlots n stage count total).1 = false := by
  cases hx : s.session n with
  | none => rw [State.commitSlots, hx]
  | some x =>
    have hrows : s.CommitsQuietly (s.commitRows x stage (min count total)) :=
      quietly_foldl (fun s _ h => quietly_foldl (fun s _ h => quietly_commitRow s x _ _ _ _ _ _ h) _ s h) _ s
        (buffering_of_empty .commit hq.errorFree hw hq.merge)
    have hflush := hrows.trans (flushOwner_stores hrows.buffering).1.quietly
    have hfails : ((s.commitRows x stage (min count total)).flushOwner .commit).memory.flushFails = [] := by
      obtain ⟨-, -, -, -, -, h0⟩ := hq
      exact hflush.fails.trans h0
    have hgood (j : Nat) : s.badRows x stage j = [] := by
      refine List.filter_eq_nil_iff.mpr fun r _ => ?_
      simp [State.granaryBad, hq.errorFree.badParity]
    have hbad : s.badWords x stage (min count total) = [] := by simp [State.badWords, hgood]
    rw [commitSlots_eq hx, hbad, takeFails_of_no_fails hfails]
    rfl

end Sys2Proof.Machine
end

section
/-!
PROOFS. The session commands (O34).
-/
namespace Sys2Proof.Machine

@[simp] theorem accept_session (s : State) (h : ReqHdr) (n : Nat) : (s.accept h).session n = s.session n := by simp [State.session]

theorem reply_session (s : State) (h : ReqHdr) (op st : Nat) (d : List Byte) (n : Nat) : (s.reply h op st d).session n = s.session n := by
  unfold State.session
  rw [reply_only]

theorem tierOf_loft {a n : Nat} (h : inOneTier .loft a n = true) (hn : 1 ≤ n) : tierOf a = some .loft := by
  obtain ⟨hlo, hhi⟩ := (Bool.and_eq_true _ _).mp h
  have hlo : 0x004000000000 ≤ a := of_decide_eq_true hlo
  have hhi : a + n ≤ 0x004000000000 + 0x004000000000 := of_decide_eq_true hhi
  unfold tierOf
  rw [if_neg (by omega), if_pos (by omega)]

theorem shape_of_le {off v lo hi : Nat} (h1 : 1 ≤ v) (hlo : lo ≤ v) (hhi : v ≤ hi) : shape off v lo hi = none :=
  (if_neg (by omega)).trans (inRange_of_le hlo hhi)

/-- A SESSION_OPEN whose checks pass (R92, R276). -/
theorem doSessionOpen_passes {s : State} {h : ReqHdr} {b : SessOpenB} {fmt rnd : Nat} (hs : s.servesNow h 0x0401)
    (hx : firstFailure ([inRange 0 b.session 0 255, shape 2 b.layers 1 1024, shape 4 b.kvHeads 1 128, shape 6 b.headDim 32 256,
      need (b.headDim % 32 = 0) (fRange 6 b.headDim), need (b.kvBase % 256 = 0) (fRange 8 b.kvBase),
      need (tierOf b.kvBase = some .loft) (fAddr 8 b.kvBase), need (!s.clashBut b.session b.kvBase b.kvBytes) (fRange 8 b.kvBase),
      (if b.kvBytes = 0 then some (fZero 16) else none), need (b.kvBytes % 256 = 0) (fRange 16 b.kvBytes),
      need (inOneTier .loft b.kvBase b.kvBytes) (fAddr 16 0x008000000000),
      need ((⟨b.layers, b.kvHeads, b.headDim, b.kvBase, b.kvBytes, b.seed, fmt = 1, rnd = 1, 0, none⟩ : Session).tMax ≠ 0) (fRange 16 b.kvBytes),
      inRange 32 fmt 0 1, inRange 33 rnd 0 1, rsvZero 34 0]) = none) (hnone : s.session b.session = none) :
    doSessionOpen h b (some (fmt, rnd, 0)) (s.accept h) = ((s.accept h).setSession b.session
      ⟨b.layers, b.kvHeads, b.headDim, b.kvBase, b.kvBytes, b.seed, fmt = 1, rnd = 1, 0, none⟩).reply h 0x0401 stOk := by
  have hclash : (s.accept h).clashBut b.session b.kvBase b.kvBytes = s.clashBut b.session b.kvBase b.kvBytes := by
    simp [State.clashBut]
  have hfree : wrongUnless ((s.accept h).session b.session).isNone = none := by
    rw [accept_session, hnone]
    rfl
  unfold doSessionOpen
  dsimp only [Option.map_some, orReg, Option.getD_some]
  rw [hclash, hfree]
  exact serve_servesNow hs rfl ((firstFailure_append hx).trans rfl)

/-- The session of a command that ends with a reply. -/
theorem answered_session {s u : State} {h : ReqHdr} {n op st : Nat} {x : Session} (hs : s.takesNext h)
    (hu : (s.accept h).SetsSession u n x) : (u.reply h op st).answered h op st [] ∧ (u.reply h op st).session n = some x ∧
      ∀ k, k ≠ n → (u.reply h op st).session k = s.session k := by
  refine ⟨reply_answered (awaits_of_lanes hu.lanes (accept_awaits hs)) _ _ _, ?_, fun k hk => ?_⟩
  · rw [reply_session, hu.self]
  · rw [reply_session, hu.others k hk, accept_session]

theorem wrongUnless_true : wrongUnless true = none := rfl

/-- Settles O34. -/
theorem sessionsOpenCommitClose : Obligations.SessionsOpenCommitClose := by
  refine ⟨?_, fun s h n x hi hn hx hstep => ?_⟩
  · intro s h b fmt rnd hs hb hl1 hl hk1 hk hd1 hd hd32 hbase hy1 hy htier hclash hnone hf hr x hcap
    have he : exec (.sessionOpen h b (some (fmt, rnd, 0))) s = .next (doSessionOpen h b (some (fmt, rnd, 0)) (s.accept h)) :=
      exec_of_servesNow hs rfl rfl
    have hy0 : b.kvBytes ≠ 0 := by omega
    rw [he, doSessionOpen_passes hs ?_ hnone]
    rw [inRange_of_le (Nat.zero_le _) hb, shape_of_le hl1 hl1 hl, shape_of_le hk1 hk1 hk, shape_of_le (by omega) hd1 hd,
      inRange_of_le (Nat.zero_le _) hf, inRange_of_le (Nat.zero_le _) hr, tierOf_loft htier hy1, hclash, htier, if_neg hy0]
    have hcap' : (⟨b.layers, b.kvHeads, b.headDim, b.kvBase, b.kvBytes, b.seed, fmt = 1, rnd = 1, 0, none⟩ : Session).tMax ≠ 0 := hcap
    simp only [hd32, hbase, hy, hcap', ne_eq, not_false_eq_true, decide_true, Bool.not_false, need_true, rsvZero_zero, firstFailure_none,
      firstFailure_nil]
  · have hx' : (s.accept h).session n = some x := by rw [accept_session, hx]
    intro others
    obtain ⟨hset, hmem⟩ := dropHeld_spec hx'
    have hheld (k : Held) (hk : x.held = some k) : (s.accept h).heldSlots n = k.slots := by
      rw [State.heldSlots, hx']
      simp [hk]
    refine ⟨fun hs => ?_, fun k hk hslots => ⟨fun hs => ?_, fun c hs hc1 hc9 hck => ?_⟩⟩
    · have he : exec (.sessionClose h n 0) s = .next (doSessionClose h n 0 (s.accept h)) := exec_of_servesNow hs rfl rfl
      have hf : firstFailure ([] ++ [inRange 0 n 0 255, rsvZero 2 0]
          ++ [wrongUnless (((s.accept h).session n).isSome && !(s.accept h).sessionInStep n)]) = none := by
        rw [inRange_of_le (Nat.zero_le _) hn, hx', hstep]
        rfl
      let v : State := { (s.accept h).dropHeld n with sessions := del ((s.accept h).dropHeld n).sessions n }
      have hv : v.lanes = (s.accept h).lanes := hset.lanes
      refine ⟨v.reply h 0x0402 stOk, he.trans (congrArg _ ((serve_servesNow hs rfl hf).trans (if_neg (by decide)))),
        reply_answered (awaits_of_lanes hv (accept_awaits hs.1)) _ _ _, ?_, fun k hk => ?_, ?_⟩
      · rw [reply_session]
        exact (look_del (hset.rising (by simpa using hi.sessions)) n n).trans (if_pos rfl)
      · rw [reply_session]
        refine (look_del (hset.rising (by simpa using hi.sessions)) n k).trans ((if_neg hk).trans ?_)
        exact (hset.others k hk).trans (accept_session s h k)
      · rw [reply_memory]
        exact hmem.trans (accept_memory s h)
    · have he : exec (.sessionRollback h n 0) s = .next (doSessionRollback h n 0 (s.accept h)) := exec_of_servesNow hs rfl rfl
      have hf : firstFailure ([] ++ [inRange 0 n 0 255, need ((s.accept h).session n).isSome (fRange 0 n), rsvZero 2 0]
          ++ [wrongUnless (!(s.accept h).sessionInStep n)]) = none := by
        rw [inRange_of_le (Nat.zero_le _) hn, hx', hstep]
        rfl
      have hsome : ¬ decide ((s.accept h).heldSlots n = 0) = true := by
        rw [hheld k hk, decide_eq_true_eq]
        omega
      obtain ⟨hans, hself, hothers⟩ := answered_session (op := 0x0407) (st := stOk) hs.1 hset
      exact ⟨_, he.trans (congrArg _ ((serve_servesNow hs rfl hf).trans (if_neg hsome))), hans, hself, hothers,
        (reply_memory ..).trans (hmem.trans (accept_memory s h))⟩
    · have he : exec (.sessionCommit h n c) s = .next (doSessionCommit h n c (s.accept h)) := exec_of_servesNow hs rfl rfl
      have hle : decide (c ≤ (s.accept h).heldSlots n) = true := by simpa [hheld k hk] using hck
      have hf : firstFailure ([] ++ [inRange 0 n 0 255, need ((s.accept h).session n).isSome (fRange 0 n), inRange 2 c 0 9,
          need (c ≤ (s.accept h).heldSlots n) (fRange 2 c)] ++ [wrongUnless (!(s.accept h).sessionInStep n)]) = none := by
        rw [inRange_of_le (Nat.zero_le _) hn, inRange_of_le (Nat.zero_le _) hc9, hx', hstep, hle]
        rfl
      have hc0 : ¬ decide (c = 0) = true := by
        rw [decide_eq_true_eq]
        omega
      have hbind : (((s.accept h).session n).bind fun x => x.held) = some k := by rw [hx', Option.bind_some, hk]
      have hcommit := commitSlots_sets hx' k.stage c k.slots
      rw [Nat.min_eq_left hck] at hcommit
      obtain ⟨hans, hself, hothers⟩ := answered_session (op := 0x0406)
        (st := if ((s.accept h).commitSlots n k.stage c k.slots).1 then stDegraded else stOk) hs.1 hcommit
      refine ⟨_, _, ?_, hans, ?_, fun hq => ?_, hself, hothers⟩
      · rw [he, doSessionCommit, serve_servesNow hs rfl hf, if_neg hc0, hbind]
      · cases ((s.accept h).commitSlots n k.stage c k.slots).1
        · exact Or.inl rfl
        · exact Or.inr rfl
      · rw [commitSlots_quiet (accept_quiet hq) (by simpa using hi.memory)]
        rfl

end Sys2Proof.Machine
end

section
/-!
PROOFS. TASK_CANCEL and TASK_STATUS (O35).
-/
namespace Sys2Proof.Machine

/-! ### The step of a lane -/

/-- A change of a step that keeps its lane changes what the lane's step is, and no other lane's. -/
theorem stepOf_modStep (s : State) (l k : Nat) {g : Step → Step} (hg : ∀ x, (g x).lane = x.lane) :
    (s.modStep l g).stepOf k = if k = l then (s.stepOf k).map g else s.stepOf k := by
  unfold State.stepOf State.modStep
  generalize s.steps = ls
  dsimp only
  induction ls with
  | nil => simp
  | cons x t ih =>
    rw [List.map_cons, List.find?_cons, List.find?_cons, ih]
    by_cases hx : x.lane = l
    · by_cases hk : k = l
      · simp [hx, hg, hk]
      · have hne : ¬ l = k := fun e => hk e.symm
        simp [hx, hg, hk, hne]
    · by_cases hk : k = l
      · subst hk
        simp [hx]
      · simp [hx, hk]

/-- The first abort of a step is its failure (R219). -/
def Step.aborted (f : Failure) (rec : Nat) (k : Nat × Nat) (t : Step) : Step :=
  if t.failure.isNone && !t.teardown then { t with failure := some (f, rec), failedAt := k } else t

theorem aborted_lane (f : Failure) (rec : Nat) (k : Nat × Nat) (t : Step) : (t.aborted f rec k).lane = t.lane := by
  unfold Step.aborted
  split <;> rfl

theorem abortStep_eq (s : State) (l : Nat) (f : Failure) (rec : Nat) :
    s.abortStep l f rec = s.modStep l (Step.aborted f rec (s.failClock f)) := rfl

/-- A step that nothing has ended yet fails with the first abort. -/
theorem abortStep_fails {s : State} {l : Nat} {t : Step} (ht : s.stepOf l = some t) (hf : t.failure = none) (hd : t.teardown = false)
    (f : Failure) (rec : Nat) : (s.abortStep l f rec).fails l f rec := by
  unfold State.fails
  rw [abortStep_eq, stepOf_modStep s l l (aborted_lane f rec _), if_pos rfl, ht]
  simp [Step.aborted, hf, hd]

@[simp] theorem accept_stepOf (s : State) (h : ReqHdr) (l : Nat) : (s.accept h).stepOf l = s.stepOf l := by simp [State.stepOf]

theorem targetChecks_pass {l : Nat} (h : l < 16) : firstFailure ([] ++ targetChecks l 0 ++ []) = none := by
  unfold targetChecks
  rw [inRange_of_le (Nat.zero_le _) (by omega)]
  rfl

/-! ### TASK_CANCEL (R96, R97) -/

/-- TASK_CANCEL of another lane's command: what its lane runs or queues decides. -/
theorem doTaskCancel_other {s : State} {h : ReqHdr} {l : Nat} (q : Nat) (hs : s.servesNow h 0x0404) (hl : l < 16) (hne : l ≠ h.lane) :
    doTaskCancel h l 0 q (s.accept h) =
      let f : Failure := { status := stCancelled, detail := h.seq }
      let queued := doTaskCancel.cancelQueued (s.accept h) h l q f
      let nothing := (s.accept h).reply h 0x0404 stNothing
      (s.lane l).job.elim queued fun j =>
        if j.hdr.seq = q ∧ j.opcode = 0x0403 then
          if j.kind = .waitWake then ((s.accept h).failReply j.hdr 0x0403 f).reply h 0x0404 stOk
          else (s.stepOf l).elim nothing fun t =>
            if t.failure.isNone && !t.teardown then
              ((s.accept h).abortStep l f t.cur).setJob h 0x0404 (.taskCancel h l 0 q) (.cancelWait l q)
            else nothing
        else queued := by
  unfold doTaskCancel
  rw [serve_servesNow hs rfl (targetChecks_pass hl), if_neg (by decide)]
  dsimp only
  rw [if_neg hne, lane_accept_other s h hne, accept_stepOf]
  cases (s.lane l).job with
  | none => rfl
  | some j => cases s.stepOf l <;> rfl

/-! ### TASK_STATUS (R101) -/

/-- A running STEP_RUN is reported with the counts of its step. -/
theorem taskReport_running {s : State} {h : ReqHdr} {l q : Nat} (hr : (decide (l = h.lane) && decide (q = h.seq)) = true ∨
    ∃ j, (s.lane l).job = some j ∧ j.hdr.seq = q) :
    s.taskReport h l q = (s.stepOf l).elim (2, 0, 0, 0, 0) fun t => (2, 0, t.cur, t.gates, t.replays) := by
  have hrun : (decide (l = h.lane) && decide (q = h.seq) || match (s.lane l).job with
      | some j => decide (j.hdr.seq = q)
      | none => false) = true := by
    rcases hr with hr | ⟨j, hj, hq⟩
    · rw [hr, Bool.true_or]
    · simp [hj, hq]
  refine (if_pos hrun).trans ?_
  cases s.stepOf l <;> rfl

/-- Settles O35. -/
theorem taskCancelAndStatus : Obligations.TaskCancelAndStatus := by
  refine ⟨?_, ?_⟩
  · intro s h l q hs hl hne f b
    have he : exec (.taskCancel h l 0 q) s = .next (doTaskCancel h l 0 q (s.accept h)) := exec_of_servesNow hs rfl rfl
    rw [he, doTaskCancel_other q hs hl hne]
    dsimp only
    refine ⟨fun j t hj hq ho hk ht hf hd => ⟨?_, ?_⟩, fun r hj hr hq ho hearly => ?_, fun hj hqueue => ?_⟩
    · simp only [hj, Option.elim_some, hq, ho, and_self, if_true, if_neg hk, ht, hf, hd, Option.isNone_none, Bool.not_false, Bool.and_self]
      rfl
    · exact abortStep_fails (by simpa [b] using ht) hf hd f t.cur
    · have hany : ((s.lane l).queue.any fun r => r.hdr.seq = q && r.opcode = 0x0403 && r.early = none) = true :=
        List.any_eq_true.mpr ⟨r, hr, by simp [hq, ho, hearly]⟩
      simp only [hj, Option.elim_none, doTaskCancel.cancelQueued, lane_accept_other s h hne, hany, if_true]
      rfl
    · simp only [hj, Option.elim_none, doTaskCancel.cancelQueued, lane_accept_other s h hne, hqueue, List.any_nil, Bool.false_eq_true, if_false]
      rfl
  · intro s h l q hs hl r
    have he : exec (.taskStatus h l 0 q) s = .next (doTaskStatus h l 0 q (s.accept h)) := exec_of_servesNow hs rfl rfl
    refine ⟨?_, fun j t hne hj hq ht => ?_, fun hlane hq hnone => ?_⟩
    · rw [he, doTaskStatus, serve_servesNow hs rfl (targetChecks_pass hl), if_neg (by decide)]
    · refine (taskReport_running (Or.inr ⟨j, by rw [lane_accept_other s h hne, hj], hq⟩)).trans ?_
      rw [accept_stepOf, ht, Option.elim_some]
    · refine (taskReport_running (Or.inl (by simp [hlane, hq]))).trans ?_
      rw [accept_stepOf, hnone, Option.elim_none]

end Sys2Proof.Machine
end

section
/-!
PROOFS. Ledger writes and completions (O60), received frames (O43), Walong packets (O44), the address timers (O45).
-/
namespace Sys2Proof.Machine

/-! ### The Ledger (R437, R438) -/

theorem dropFirst_self {α : Type} [DecidableEq α] (x : α) (l : List α) : dropFirst x (x :: l) = l := if_pos rfl

theorem nextRecord_head {r : Record} {rest : List Record} (h : ∀ x ∈ rest, x.kind ≠ 4) : nextRecord (r :: rest) = some r := by
  unfold nextRecord
  by_cases hr : r.kind = 4
  · rw [List.find?_cons_of_pos (by simpa using hr)]
  · rw [List.find?_cons_of_neg (by simpa using hr), List.find?_eq_none.mpr (by simpa using h)]
    rfl

/-- A Ledger write that begins takes its record from the waiting ones and gives it the next number. -/
theorem doLedgerWrite_ledger {s : State} {r : Record} (hd : s.dev ≠ .off) (hw : s.ledger.writing = none)
    (hn : nextRecord s.ledger.waiting = some r) :
    (doLedgerWrite s).ledger = { s.ledger with
      waiting := dropFirst r s.ledger.waiting, writing := some { r with ledgerSeq := s.ledger.nextSeq }
      nextSeq := (s.ledger.nextSeq + 1) % 2 ^ 32 } := by
  unfold doLedgerWrite
  rw [if_neg (by simp [hd, hw])]
  simp only [hn]

theorem tryLeave_of_dev {s : State} (h : s.dev ≠ .shutdown) : s.tryLeave = s := by
  unfold State.tryLeave
  exact if_neg fun c => h c.1

/-- A record stored joins the newest 2,048. -/
theorem store_spec (l : Ledger) (e : LedgerEntry) : (l.store e).writing = none ∧ (l.store e).waiting = l.waiting ∧
    (l.store e).deferred = l.deferred ∧ (l.store e).entries = (l.entries ++ [e]).drop (l.entries.length + 1 - 2048) := by
  have hlen : (l.entries ++ [e]).length = l.entries.length + 1 := by simp
  unfold Ledger.store
  dsimp only
  rw [hlen]
  by_cases h : l.entries.length + 1 ≤ 2048
  · rw [if_pos h, Nat.sub_eq_zero_of_le h, List.drop_zero]
    exact ⟨rfl, rfl, rfl, rfl⟩
  · rw [if_neg h]
    refine ⟨rfl, rfl, rfl, ?_⟩
    dsimp only

theorem storeWrite_spec {s : State} {r : Record} (h : s.ledger.writing = some r) :
    s.storeWrite.ledger = s.ledger.store { record := r } ∧ s.storeWrite.dev = s.dev := by
  unfold State.storeWrite
  simp only [h]
  rw [bump_only]
  exact ⟨rfl, rfl⟩

/-- Settles O60. -/
theorem ledgerAndCompletions : Obligations.LedgerAndCompletions := by
  refine ⟨?_, ?_, ?_, ?_⟩
  · intro s r rest hd hw hq hk
    refine ⟨_, rfl, (doLedgerWrite_ledger hd hw (hq ▸ nextRecord_head hk)).trans ?_⟩
    rw [hq, dropFirst_self]
  · intro s x y hd hw hq hx hy
    have hn : nextRecord s.ledger.waiting = some y := by simp [hq, nextRecord, hx, hy]
    have hl := doLedgerWrite_ledger hd hw hn
    have hxy : ¬ y = x := fun e => hx (e ▸ hy)
    refine ⟨_, rfl, ?_, by rw [hl]⟩
    rw [hl, hq]
    simp [dropFirst, hxy]
  · intro s r hd hw hdef
    obtain ⟨hlg, hdev⟩ := storeWrite_spec hw
    obtain ⟨hwr, hwait, hdefer, hent⟩ := store_spec s.ledger { record := r }
    have he : doLedgerWriteComplete s = { s.storeWrite with ledger := { s.storeWrite.ledger with deferred := [] } } := by
      unfold doLedgerWriteComplete
      rw [if_neg (by simp [hw])]
      simp only [hlg, hdefer, hdef, List.foldl_nil]
      exact tryLeave_of_dev (by rw [hdev]; exact hd)
    refine ⟨_, rfl, ?_⟩
    rw [he]
    refine ⟨?_, ?_, ?_, hdev⟩
    · exact (congrArg Ledger.writing hlg).trans hwr
    · exact (congrArg Ledger.waiting hlg).trans hwait
    · exact (congrArg Ledger.entries hlg).trans hent
  · intro s l j env hj
    have he : exec (.commandCompletion l env) s = .next (doCommandCompletion l env s) := rfl
    rw [he]
    constructor
    · intro st p hk
      simp [doCommandCompletion, hj, hk]
    · intro f hk
      simp [doCommandCompletion, hj, hk]

/-! ### The address timers (R49, R50, R53, R65) -/

/-- The newest event of the ring is the record that has been raised. -/
theorem raise_lastEvent (s : State) {r : Record} (blk : Option Blk) (h : (kindPlaces r.kind r.detail).1 = true) :
    (s.raise r blk).lastEvent r.kind r.detail := by
  have hq (u : State) (x : Record) : (u.queueLedger x).events = u.events := by
    obtain ⟨rg, lg, e⟩ := queueLedger_only u x
    rw [e]
  have hring (u : State) (x : Record) : ((u.enterEvent x).events.ring.getLast?.map fun r => (r.kind, r.detail)) = some (x.kind, x.detail) := by
    unfold State.enterEvent
    simp only
    rw [List.getLast?_drop, if_neg (by rw [List.length_append, List.length_singleton]; omega)]
    simp
  unfold State.raise State.raiseAt State.lastEvent
  simp only [h, if_true]
  have hu (u : State) (b c : Bool) (x : Record) : (if c then
      ({ (if b then u.queueLedger x else u) with lantern := { (if b then u.queueLedger x else u).lantern with latch := true } } : State)
      else if b then u.queueLedger x else u).events = u.events := by
    cases b <;> cases c <;> simp [hq]
  rw [hu, hring]

theorem raise_lanes (s : State) (r : Record) (b : Option Blk) : (s.raise r b).lanes = s.lanes := by
  obtain ⟨_, _, _, _, h⟩ := raise_only s r b
  rw [h]

theorem raise_net (s : State) (r : Record) (b : Option Blk) : (s.raise r b).net = s.net := by
  obtain ⟨_, _, _, _, h⟩ := raise_only s r b
  rw [h]

theorem send_link (s : State) (k : OutKind) : (s.send k).net.link = s.net.link := by rw [send_only]
theorem send_lanes (s : State) (k : OutKind) : (s.send k).lanes = s.lanes := by rw [send_only]
theorem send_events (s : State) (k : OutKind) : (s.send k).events = s.events := by rw [send_only]
theorem send_resolution (s : State) (k : OutKind) : (s.send k).net.resolution = s.net.resolution := by rw [send_only]

theorem dadGlobal_lanes (s : State) : s.dadGlobal.lanes = s.lanes := by
  unfold State.dadGlobal
  dsimp only
  split
  · rw [send_lanes, send_lanes]
  · rfl

theorem dadGlobal_link (s : State) : s.dadGlobal.net.link = s.net.link := by
  unfold State.dadGlobal
  dsimp only
  split
  · rw [send_link, send_link]
  · rfl

theorem startDad_lanes (s : State) : s.startDad.lanes = s.lanes := by
  unfold State.startDad State.probeLl4
  dsimp only
  rw [dadGlobal_lanes, send_lanes, send_lanes]

theorem startDad_link (s : State) : s.startDad.net.link = s.net.link := by
  unfold State.startDad State.probeLl4
  dsimp only
  rw [dadGlobal_link, send_link, send_link]

/-- An event dropped: the ring keeps it, nothing waits for its address any more. -/
theorem dropEvent_spec (s : State) : s.dropEvent.net = { s.net with resolution := none } ∧
    s.dropEvent.events = { s.events with unsent := s.events.unsent.drop 1 } := by
  unfold State.dropEvent
  rw [bump_only]
  exact ⟨rfl, rfl⟩

/-! ### The resolution cache (R49) -/

theorem look_del_of_ne {β : Type} {k j : Nat} (hj : j ≠ k) : ∀ l : List (Nat × β), look (del l k) j = look l j
  | [] => rfl
  | (a, v) :: t => by
    rw [del, look]
    by_cases h : k = a
    · rw [if_pos h, if_neg (by omega)]
    · rw [if_neg h, look, look_del_of_ne hj t]

theorem length_put_le {β : Type} (k : Nat) (v : β) : ∀ l : List (Nat × β), (put l k v).length ≤ l.length + 1
  | [] => by simp [put]
  | (a, w) :: t => by
    unfold put
    have := length_put_le k v t
    split
    · simp
    · split
      · simp
      · simpa using this

/-- A list of one key only grows by no second one. -/
theorem length_put_of_keys {β : Type} {k : Nat} {v : β} : ∀ {l : List (Nat × β)}, (∀ e ∈ put l k v, e.1 = k) → (put l k v).length ≤ max 1 l.length
  | [], _ => by simp [put]
  | (a, w) :: t, h => by
    have ha : a = k := by
      unfold put at h
      split at h
      · exact h (a, w) (by simp)
      · split at h
        · omega
        · exact h (a, w) (by simp)
    subst ha
    simp [put]

theorem length_del_of_mem {β : Type} {k : Nat} {v : β} : ∀ {l : List (Nat × β)}, (k, v) ∈ l → (del l k).length + 1 = l.length
  | [], h => absurd h List.not_mem_nil
  | (a, w) :: t, h => by
    unfold del
    split
    · rfl
    · next hne =>
      have hm : (k, v) ∈ t := by
        rcases List.mem_cons.mp h with e | hm
        · exact absurd (congrArg Prod.fst e) hne
        · exact hm
      simpa using length_del_of_mem hm

theorem cacheWith_look (c : List (Nat × Nat)) (ip mac : Nat) : look (cacheWith c ip mac) ip = some mac := by
  have hput : look (put c ip mac) ip = some mac := by rw [look_put, if_pos rfl]
  unfold cacheWith
  dsimp only
  split
  · exact hput
  · split
    · next e he => rw [look_del_of_ne (fun h => by simpa [h] using List.find?_some he), hput]
    · exact hput

/-- A full cache gives up another entry for a new one. -/
theorem cacheWith_length {c : List (Nat × Nat)} (ip mac : Nat) (hc : c.length ≤ 64) : (cacheWith c ip mac).length ≤ 64 := by
  have hlen := length_put_le ip mac c
  unfold cacheWith
  dsimp only
  split
  · assumption
  · next hbig =>
    split
    · next e he =>
      have := length_del_of_mem (k := e.1) (v := e.2) (List.mem_of_find?_eq_some he)
      omega
    · next hnone =>
      have hkeys : ∀ e ∈ put c ip mac, e.1 = ip := by simpa using List.find?_eq_none.mp hnone
      have := length_put_of_keys hkeys
      omega

/-- What the address cache learns stays in it, and nothing waits for the address any more. -/
theorem learn_spec {s : State} {r : Resolution} (h : s.net.resolution = some r) (mac : Nat) :
    look (s.learn r.ip mac).net.cache r.ip = some mac ∧ (s.learn r.ip mac).net.resolution = none ∧
      (s.net.cache.length ≤ 64 → (s.learn r.ip mac).net.cache.length ≤ 64) := by
  have he : (s.learn r.ip mac).net = { s.net with resolution := none, cache := cacheWith s.net.cache r.ip mac } := by
    unfold State.learn
    simp [h]
  rw [he]
  exact ⟨cacheWith_look _ _ _, rfl, cacheWith_length _ _⟩

theorem doArpProbe_some {s : State} {n : Nat} (h : s.net.arpProbes = some n) (c : Bool) :
    doArpProbe c s =
      if c then ({ s with net := { s.net with arpProbes := none, ll4Ok := false } } : State).setFld (aWalong 0x8) 2 1 1
      else if n < 3 then ({ s with net := { s.net with arpProbes := some (n + 1) } } : State).send (.arpProbe linkLocal4)
      else ({ s with net := { s.net with arpProbes := none, ll4Ok := true } } : State).setFld (aWalong 0x8) 2 1 0 := by
  unfold doArpProbe
  simp only [h]

theorem doResolutionRetry_some {s : State} {r : Resolution} (h : s.net.resolution = some r) :
    doResolutionRetry s =
      if r.tries < 3 then
        ({ s with net := { s.net with resolution := some { r with tries := r.tries + 1 } } } : State).send (s.askFor r.ip)
      else if (s.events.unsent.head?.map fun e => e.eventSeq) = some r.event then s.dropEvent
      else { s with net := { s.net with resolution := none } } := by
  unfold doResolutionRetry
  simp only [h]

/-- No event leaves while the destination is off (R66). -/
theorem doEventSend_off {s : State} {r : Record} {rest : List Record} (h : s.events.unsent = r :: rest)
    (hoff : bitOf (s.reg (aWalong 0x60)) 17 = false) : doEventSend s = s.dropEvent := by
  unfold doEventSend
  simp only [h]
  rw [if_pos (by simp [hoff])]

/-- An event leaves for a destination with a known address (R65). -/
theorem doEventSend_known {s : State} {r : Record} {rest : List Record} {hop mac : Nat} (h : s.events.unsent = r :: rest)
    (hon : bitOf (s.reg (aWalong 0x60)) 17 = true) (hport : s.fld (aWalong 0x60) 0 16 ≠ 0) (hup : s.portUp = true)
    (hhop : s.eventHop = some hop) (hmac : look s.net.cache hop = some mac) : doEventSend s = s.emitEvent r mac := by
  unfold doEventSend
  simp only [h]
  rw [if_neg (by simp [hon, hport, hup])]
  simp only [hhop, hmac]

/-- The EVENT packet of a record (R65). -/
theorem emitEvent_spec {s : State} (hup : s.portUp = true) (r : Record) (mac : Nat) : ∃ k : WPacket,
    (s.emitEvent r mac).events = { s.events with unsent := s.events.unsent.drop 1 } ∧
    (s.emitEvent r mac).net = { s.net with sent := s.net.sent ++ [⟨s.vlanTag, .walong k⟩] } ∧
    k.payload = r.bytes ∧ k.seq = r.eventSeq ∧ k.dst.mac = mac ∧ k.flags = 4 := by
  unfold State.emitEvent
  dsimp only
  generalize r.bytes = b
  rw [send_of_portUp (s := { s with events := { s.events with unsent := s.events.unsent.drop 1 } }) hup]
  exact ⟨_, rfl, rfl, rfl, rfl, rfl, rfl⟩

theorem doDadComplete_up {s : State} (h : s.dev.column ≠ none) (c : Bool) :
    doDadComplete .ipv6ll c s
      = ({ s with net := { s.net with ll6Ok := !c, dadLl := false } } : State).setFld (aWalong 0x8) 1 1 (b2n c) ∧
    doDadComplete .ipv4ll c s
      = ({ s with net := { s.net with ll4Ok := !c, arpProbes := none } } : State).setFld (aWalong 0x8) 2 1 (b2n c) ∧
    doDadComplete .ipv6 c s
      = ({ s with net := { s.net with ip6Ok := !c, dad6 := false } } : State).setFld (aWalong 0x8) 3 1 (b2n c) ∧
    doDadComplete .ipv4 c s
      = ({ s with net := { s.net with ip4Ok := !c } } : State).setFld (aWalong 0x8) 4 1 (b2n c) :=
  ⟨if_neg h, if_neg h, if_neg h, if_neg h⟩

/-- Settles O45: one lemma per timer above. -/
theorem addressesLinkAndEvents : Obligations.AddressesLinkAndEvents := by
  refine ⟨?_, ?_, ?_, ?_, ?_, ?_, ?_⟩
  · intro s n hn
    refine ⟨⟨_, congrArg Host.Outcome.next ((doArpProbe_some hn true).trans (if_pos rfl)), rfl, rfl⟩, fun hlt => ?_,
      fun hge => ⟨_, congrArg Host.Outcome.next ((doArpProbe_some hn false).trans ((if_neg (by simp)).trans (if_neg (by omega)))), rfl⟩⟩
    exact congrArg Host.Outcome.next ((doArpProbe_some hn false).trans ((if_neg (by simp)).trans (if_pos hlt)))
  · intro s c hc
    obtain ⟨h6, h4, hg6, hg4⟩ := doDadComplete_up hc c
    exact ⟨⟨_, congrArg Host.Outcome.next h6, rfl, rfl⟩, ⟨_, congrArg Host.Outcome.next h4, rfl, rfl⟩, ⟨_, congrArg Host.Outcome.next hg6, rfl, rfl⟩, ⟨_, congrArg Host.Outcome.next hg4, rfl, rfl⟩⟩
  · intro s r hr
    have hd := doResolutionRetry_some hr
    refine ⟨fun hlt => ⟨_, congrArg Host.Outcome.next (hd.trans (if_pos hlt)), send_resolution _ _, send_events _ _⟩, fun hge => ?_, learn_spec hr⟩
    rw [if_neg (by omega)] at hd
    refine ⟨_, congrArg Host.Outcome.next hd, ?_⟩
    obtain ⟨hnet, hev⟩ := dropEvent_spec s
    split
    · rw [hnet, hev]
      exact ⟨rfl, rfl⟩
    · exact ⟨rfl, rfl⟩
  · intro s r rest hq
    refine ⟨fun hoff => ?_, fun hop mac hon hport hup hhop hmac => ?_⟩
    · refine congrArg Host.Outcome.next ((doEventSend_off hq hoff).trans ?_)
      unfold State.dropEvent
      rw [hq]
      rfl
    · obtain ⟨k, hev, hnet, hk⟩ := emitEvent_spec hup r mac
      refine ⟨s.emitEvent r mac, k, congrArg Host.Outcome.next (doEventSend_known hq hon hport hup hhop hmac), ?_, hnet, hk⟩
      rw [hev, hq]
      rfl
  · intro s hc hl
    have he : doLinkUp s = ({ s with net := { s.net with link := true } } : State).startDad.raise
        { kind := 0x0001, block := 0x0001, inst := 0 } (some .walong) := if_neg (by simp [hc, hl])
    refine ⟨_, congrArg Host.Outcome.next he, ?_, raise_lastEvent _ _ rfl, ?_⟩
    · rw [raise_net, startDad_link]
    · rw [raise_lanes, startDad_lanes]
  · exact fun s => rfl
  · intro s ip hr
    refine ⟨_, rfl, ?_, fun k hk => ?_, rfl⟩
    · exact (look_del hr ip ip).trans (if_pos rfl)
    · exact (look_del hr ip k).trans (if_neg hk)

/-! ### Received frames (R42 to R48) -/

/-- A field of a part of a frame is the field of the frame. -/
theorem fieldAt_part (f : List Byte) {m k o w : Nat} (h : k + o + w ≤ m) : fieldAt ((f.take m).drop k) o w = fieldAt f (k + o) w := by
  unfold fieldAt
  rw [List.drop_drop, List.drop_take, List.take_take, Nat.min_eq_left (by omega)]

/-- What a frame of a legal length with a right check sequence carries decides what is done with it. -/
theorem doEthernetFrame_eq {s : State} {f : List Byte} (hp : s.portUp = true) (h64 : 64 ≤ f.length) (hn : f.length ≤ 9216) :
    doEthernetFrame f s =
      let p := (f.take (f.length - 4)).drop (if fieldAt f 12 2 = 0x8100 then 18 else 14)
      let etype := if fieldAt f 12 2 = 0x8100 then fieldAt f 16 2 else fieldAt f 12 2
      let vlanOk := if bitOf (s.reg (aWalong 0x18)) 16 then
          decide (fieldAt f 12 2 = 0x8100) && decide (fieldAt f 14 2 % 0x1000 = s.fld (aWalong 0x18) 0 12)
        else !decide (fieldAt f 12 2 = 0x8100) || decide (fieldAt f 14 2 % 0x1000 = 0)
      if (crc32 (f.take (f.length - 4))).toNat ≠ ofLe (f.drop (f.length - 4)) then s.bump (aWalong 0x100)
      else if etype = 0x8808 ∧ (fieldAt p 0 2 = 0x0001 ∨ fieldAt p 0 2 = 0x0101) then doPause s
      else if !(s.macAccepts (fieldAt f 0 6) etype) ∨ !vlanOk then s.filtered
      else if etype = 0x0806 then s.arpIn p
      else if etype = 0x0800 then s.ip4In (fieldAt f 6 6) p
      else if etype = 0x86DD then s.ip6In (fieldAt f 6 6) p
      else s.filtered := by
  unfold doEthernetFrame
  rw [if_neg (by simp [hp]), if_neg (by omega)]

/-- A good frame that is not tagged. -/
theorem doEthernetFrame_untagged {s : State} {f : List Byte} (hp : s.portUp = true) (h64 : 64 ≤ f.length) (hn : f.length ≤ 9216)
    (hg : (crc32 (f.take (f.length - 4))).toNat = ofLe (f.drop (f.length - 4))) {e : Nat} (he : fieldAt f 12 2 = e) (ht : e ≠ 0x8100) :
    doEthernetFrame f s =
      let p := (f.take (f.length - 4)).drop 14
      if e = 0x8808 ∧ (fieldAt f 14 2 = 0x0001 ∨ fieldAt f 14 2 = 0x0101) then doPause s
      else if !(s.macAccepts (fieldAt f 0 6) e) ∨ bitOf (s.reg (aWalong 0x18)) 16 then s.filtered
      else if e = 0x0806 then s.arpIn p
      else if e = 0x0800 then s.ip4In (fieldAt f 6 6) p
      else if e = 0x86DD then s.ip6In (fieldAt f 6 6) p
      else s.filtered := by
  have h0 : fieldAt ((f.take (f.length - 4)).drop 14) 0 2 = fieldAt f 14 2 := fieldAt_part f (by omega)
  rw [doEthernetFrame_eq hp h64 hn]
  dsimp only
  rw [if_neg (not_not_intro hg), he]
  simp only [ht, if_false, h0, decide_false, Bool.false_and, Bool.not_false, Bool.true_or]
  cases bitOf (s.reg (aWalong 0x18)) 16 <;> rfl

theorem doArpRequest_up {s : State} (hp : s.portUp = true) (ip sip mac : Nat) :
    doArpRequest ip sip mac s = if s.own4.contains ip then s.send (.arpReply ip sip mac) else s := by
  unfold doArpRequest
  simp only [hp, Bool.true_and]

theorem doPause_up {s : State} (hp : s.portUp = true) : doPause s = s.bump (aWalong 0x124) := if_pos hp

/-- Settles O43. -/
theorem receivedFrames : Obligations.ReceivedFrames := by
  refine ⟨?_, ?_, ?_, ?_⟩
  · intro s f hp h64 hn good
    refine ⟨fun hbad => ?_, fun hg ht => ?_, fun hg hc ht hm => ?_, fun hg hbc ht hv hop hown => ?_⟩
    · exact congrArg Host.Outcome.next ((doEthernetFrame_eq hp h64 hn).trans (if_pos hbad))
    · refine congrArg Host.Outcome.next ((doEthernetFrame_untagged hp h64 hn hg ht (by decide)).trans ?_)
      dsimp only
      by_cases hpause : fieldAt f 14 2 = 0x0001 ∨ fieldAt f 14 2 = 0x0101
      · rw [if_pos ⟨rfl, hpause⟩, if_pos hpause, doPause_up hp]
      · rw [if_neg fun h => hpause h.2, if_neg hpause]
        simp only [State.filtered, Nat.reduceEqDiff, if_false, ite_self]
    · refine congrArg Host.Outcome.next ((doEthernetFrame_untagged hp h64 hn hg rfl ht).trans ?_)
      dsimp only
      rw [if_neg fun h => hc h.1, if_pos (Or.inl (by simp [hm]))]
      rfl
    · refine congrArg Host.Outcome.next ((doEthernetFrame_untagged hp h64 hn hg ht (by decide)).trans ?_)
      have hmac : s.macAccepts (fieldAt f 0 6) 0x0806 = true := by simp [State.macAccepts, hbc]
      dsimp only
      rw [if_neg (by simp), if_neg (by simp [hmac, hv]), if_pos rfl]
      unfold State.arpIn
      rw [if_neg (by simp; omega), fieldAt_part f (by omega), fieldAt_part f (by omega), fieldAt_part f (by omega), fieldAt_part f (by omega),
        if_pos hop, doArpRequest_up hp, if_pos hown]
  · exact fun s hp => congrArg Host.Outcome.next (doPause_up hp)
  · intro s ip sip mac hp
    refine ⟨congrArg Host.Outcome.next (doArpRequest_up hp ip sip mac), congrArg Host.Outcome.next ?_⟩
    unfold doNdSolicitation
    simp only [hp, Bool.true_and]
    split
    · split <;> rfl
    · rfl
  · intro s src dst i q d hp hen hd hown n
    refine congrArg Host.Outcome.next ?_
    unfold doIcmpEcho
    simp only [hp, hen, hd, hown, Bool.true_and, Bool.and_true, decide_true, decide_eq_true_eq]
    rfl

/-! ### Walong packets (R54 to R62) -/

/-- An ACKNOWLEDGE changes its lane's retained replies and their bound, or is counted. -/
theorem processAck_cases (s : State) (l a : Nat) :
    (∃ b rs, s.processAck l a = s.setLane l { s.lane l with b := b, replies := rs }) ∨ s.processAck l a = s.bump (aWalong 0x120) := by
  unfold State.processAck
  dsimp only
  split
  · exact Or.inl ⟨_, _, rfl⟩
  · exact Or.inr rfl

/-- An ACKNOWLEDGE taken changes nothing of its lane that starts or numbers commands. -/
theorem processAck_lane {s : State} {l : Nat} (hn : s.lanes.length = 16) (hl : l < 16) (a : Nat) :
    ((s.processAck l a).lane l).e = (s.lane l).e ∧ ((s.processAck l a).lane l).queue = (s.lane l).queue := by
  obtain ⟨b, rs, h⟩ | h := processAck_cases s l a
  · rw [h, lane_setLane, if_pos ⟨rfl, by omega⟩]
    exact ⟨rfl, rfl⟩
  · rw [h, bump_only]
    exact ⟨rfl, rfl⟩

theorem processAck_lanes_length (s : State) (l a : Nat) : (s.processAck l a).lanes.length = s.lanes.length := by
  obtain ⟨b, rs, h⟩ | h := processAck_cases s l a
  · rw [h, setLane_lanes_length]
  · rw [h, bump_lanes]

theorem setAt_setAt {β : Type} (x y : β) : ∀ (l : List β) (i : Nat), setAt (setAt l i x) i y = setAt l i y
  | [], _ => rfl
  | _ :: _, 0 => rfl
  | a :: t, i + 1 => congrArg (a :: ·) (setAt_setAt x y t i)

theorem bitOf_zero (n : Nat) : bitOf 0 n = false := by simp [bitOf]

theorem intakeFailure_none {op : Nat} {x : Bool} (h : opcodeKnown op x = true) : intakeFailure 0 0 0 0 op x = none := by
  unfold intakeFailure
  rw [need_of_true _ h]
  rfl

/-- What a sequenced request does after its ACKNOWLEDGE: a duplicate, the next of its lane, or out of its window (R57, R59, R60). -/
def State.sequenced (a : State) (h : ReqHdr) (r : Req) : State :=
  let d := seqDiff h.seq (a.lane h.lane).b
  let w := seqDiff (a.lane h.lane).e (a.lane h.lane).b
  if d < w then a.duplicate h
  else if d = w ∧ d < 256 then (a.setLane h.lane { a.lane h.lane with e := ((a.lane h.lane).e + 1) % 2 ^ 32 }).enqueue r
  else if d < 256 then (a.bump (aWalong 0x114)).windowAck h.src h.lane
  else if d < 2 ^ 31 then (a.bump (aWalong 0x118)).windowAck h.src h.lane
  else a.bump (aWalong 0x11C)

/-- A packet of a good header that asks for a sequenced command, after its ACKNOWLEDGE. -/
theorem doWalongPacket_good {s : State} {p : List Byte} (src : NetAddr) (hp : s.portUp = true) (h32 : 32 ≤ p.length)
    (hn : p.length ≤ 9000) (hm : fieldAt p 0 2 = 0x574C) (hv : fieldAt p 2 1 = 1) (hlen : 32 + fieldAt p 6 2 = p.length)
    (hg : (crc32c (p.take 28 ++ [0, 0, 0, 0] ++ p.drop 32)).toNat = fieldAt p 28 4) (hf : fieldAt p 3 1 = 0)
    {l : Nat} (hl : l = fieldAt p 4 1) (hl16 : l < 16) (h1 : fieldAt p 16 2 ≠ 1) (h2 : fieldAt p 16 2 ≠ 2) {h : ReqHdr}
    (hh : h = ⟨l, fieldAt p 8 4, fieldAt p 20 4, bitOf (fieldAt p 16 2) 15, src⟩) :
    doWalongPacket src p s = (s.processAck l (fieldAt p 12 4)).sequenced h
      ⟨h, fieldAt p 16 2 % 0x8000, p.drop 32, intakeFailure 0 (fieldAt p 5 1) (fieldAt p 18 2) (fieldAt p 24 4)
        (fieldAt p 16 2 % 0x8000) (bitOf (fieldAt p 16 2) 15)⟩ := by
  unfold doWalongPacket State.sequenced
  dsimp only
  rw [hf, ← hl, if_neg (by simp [hp]), if_neg (by omega), if_neg (by simp [hm, hv]), if_neg (not_not_intro hlen), if_neg (not_not_intro hg),
    if_neg (by simp [bitOf_zero]; omega), if_neg (by simp [bitOf_zero]), if_neg h1, if_neg h2, hh]

theorem doWalongPacket_badCrc {s : State} {p : List Byte} (src : NetAddr) (hp : s.portUp = true) (h32 : 32 ≤ p.length)
    (hn : p.length ≤ 9000) (hm : fieldAt p 0 2 = 0x574C) (hv : fieldAt p 2 1 = 1) (hlen : 32 + fieldAt p 6 2 = p.length)
    (hbad : ¬ (crc32c (p.take 28 ++ [0, 0, 0, 0] ++ p.drop 32)).toNat = fieldAt p 28 4) :
    doWalongPacket src p s = s.bump (aWalong 0x10C) := by
  unfold doWalongPacket
  dsimp only
  rw [if_neg (by simp [hp]), if_neg (by omega), if_neg (by simp [hm, hv]), if_neg (not_not_intro hlen), if_pos hbad]

/-- A request put in line in the state that has numbered it. -/
theorem enqueue_setLane {a : State} {l : Nat} {x : Lane} {r : Req} (hr : r.hdr.lane = l) (hn : l < a.lanes.length) :
    (a.setLane l x).enqueue r = a.setLane l { x with queue := x.queue ++ [r] } := by
  unfold State.enqueue
  rw [hr, lane_setLane, if_pos ⟨rfl, hn⟩]
  unfold State.setLane
  simp only [setAt_setAt]

/-- The request that is the next of its lane is queued, and E raised. -/
theorem sequenced_next {a : State} {h : ReqHdr} {r : Req} (hr : r.hdr = h) (hn : h.lane < a.lanes.length) (hseq : h.seq = (a.lane h.lane).e)
    (hw : seqDiff (a.lane h.lane).e (a.lane h.lane).b < 256) :
    a.sequenced h r = a.setLane h.lane { a.lane h.lane with
      e := ((a.lane h.lane).e + 1) % 2 ^ 32, queue := (a.lane h.lane).queue ++ [r] } := by
  unfold State.sequenced
  dsimp only
  rw [hseq, if_neg (Nat.lt_irrefl _), if_pos ⟨rfl, hw⟩, enqueue_setLane (by rw [hr]) hn]

theorem duplicate_retained {s : State} {h : ReqHdr} {r : Reply}
    (hr : (s.lane h.lane).replies.find? (fun r => r.hdr.seq = h.seq) = some r) :
    s.duplicate h = (s.bump (aWalong 0x110)).sendReply { r with hdr := { r.hdr with src := h.src } } := by
  unfold State.duplicate
  have hl : (s.bump (aWalong 0x110)).lane h.lane = s.lane h.lane := by rw [bump_only]; rfl
  simp only [hl, hr]

/-- A duplicate of an answered request is answered again. -/
theorem sequenced_duplicate {a : State} {h : ReqHdr} {q : Req} {r : Reply}
    (hlt : seqDiff h.seq (a.lane h.lane).b < seqDiff (a.lane h.lane).e (a.lane h.lane).b)
    (hr : (a.lane h.lane).replies.find? (fun r => r.hdr.seq = h.seq) = some r) :
    a.sequenced h q = (a.bump (aWalong 0x110)).sendReply { r with hdr := { r.hdr with src := h.src } } :=
  (if_pos hlt).trans (duplicate_retained hr)

/-- Settles O44. -/
theorem walongIntake : Obligations.WalongIntake := by
  refine ⟨?_, ?_⟩
  · intro s src p hp h32 hn hm hv hlen good
    refine ⟨fun hbad => congrArg Host.Outcome.next (doWalongPacket_badCrc src hp h32 hn hm hv hlen hbad),
      fun hg hf h5 h18 h24 hlanes l hl hl16 h1 h2 hop => ?_⟩
    intro a h
    obtain ⟨he, hq⟩ : (a.lane l).e = (s.lane l).e ∧ (a.lane l).queue = (s.lane l).queue := processAck_lane hlanes hl16 _
    have hn16 : l < a.lanes.length := by rw [processAck_lanes_length, hlanes]; exact hl16
    have hd : doWalongPacket src p s = a.sequenced h _ :=
      doWalongPacket_good src hp h32 hn hm hv hlen hg hf hl hl16 h1 h2 (h := h) rfl
    rw [h5, h18, h24, intakeFailure_none hop] at hd
    have hlane : l = h.lane := rfl
    have hseq : fieldAt p 8 4 = h.seq := rfl
    have hsrc : src = h.src := rfl
    clear_value a h
    rw [hlane] at he hq hn16
    refine ⟨fun hnext hw => congrArg Host.Outcome.next (hd.trans ?_), fun r hlt hr => congrArg Host.Outcome.next (hd.trans ?_)⟩
    · rw [hlane, hseq, ← he] at hnext
      rw [hlane] at hw ⊢
      refine (sequenced_next (h := h) rfl hn16 hnext hw).trans ?_
      rw [he, hq]
    · rw [hlane, hseq] at hlt
      rw [hlane] at hr
      rw [sequenced_duplicate hlt (by simpa only [hseq] using hr), hsrc]
  · intro s l j hj hlt
    refine congrArg Host.Outcome.next ?_
    unfold doAckDelay Lane.tagOf
    simp only [hj, if_true, if_pos hlt]

end Sys2Proof.Machine
end

section
/-!
PROOFS. What answers and records leave alone, the load of a firmware image (O41), and the reports (O42).
-/
namespace Sys2Proof.Machine

/-! ### Answers and records -/

/-- What answers and records change: registers, lanes, frames sent, events, the Ledger and the alert latch. -/
def State.tellsOnly (s t : State) : Prop :=
  ∃ rg ls sn ev lg la, t = { s with
    regs := rg, lanes := ls, net := { s.net with sent := sn }, events := ev, ledger := lg, lantern := { s.lantern with latch := la } }

namespace State.tellsOnly
variable {s t u : State}

theorem refl (s : State) : s.tellsOnly s := ⟨_, _, _, _, _, _, rfl⟩

theorem trans (h : s.tellsOnly t) (k : t.tellsOnly u) : s.tellsOnly u := by
  obtain ⟨_, _, _, _, _, _, rfl⟩ := h
  obtain ⟨_, _, _, _, _, _, rfl⟩ := k
  exact ⟨_, _, _, _, _, _, rfl⟩

theorem dev (h : s.tellsOnly t) : t.dev = s.dev := by
  obtain ⟨_, _, _, _, _, _, rfl⟩ := h
  rfl

theorem hasp (h : s.tellsOnly t) : t.hasp = s.hasp := by
  obtain ⟨_, _, _, _, _, _, rfl⟩ := h
  rfl

theorem memory (h : s.tellsOnly t) : t.memory = s.memory := by
  obtain ⟨_, _, _, _, _, _, rfl⟩ := h
  rfl

theorem steps (h : s.tellsOnly t) : t.steps = s.steps := by
  obtain ⟨_, _, _, _, _, _, rfl⟩ := h
  rfl

theorem sessions (h : s.tellsOnly t) : t.sessions = s.sessions := by
  obtain ⟨_, _, _, _, _, _, rfl⟩ := h
  rfl

theorem lantern (h : s.tellsOnly t) : ∃ la, t.lantern = { s.lantern with latch := la } := by
  obtain ⟨_, _, _, _, _, la, rfl⟩ := h
  exact ⟨la, rfl⟩

end State.tellsOnly

theorem tellsOnly_bump (s : State) (a n : Nat) : s.tellsOnly (s.bump a n) := ⟨_, _, _, _, _, _, bump_only s a n⟩

theorem tellsOnly_setReg (s : State) (a v : Nat) : s.tellsOnly (s.setReg a v) := ⟨_, _, _, _, _, _, rfl⟩

theorem tellsOnly_setLane (s : State) (l : Nat) (x : Lane) : s.tellsOnly (s.setLane l x) := ⟨_, _, _, _, _, _, rfl⟩

theorem tellsOnly_raiseAt (s : State) (r : Record) (k : Nat × Nat) : s.tellsOnly (s.raiseAt r k) := by
  obtain ⟨_, _, _, _, h⟩ := raiseAt_only s r k
  exact ⟨_, _, _, _, _, _, h⟩

theorem tellsOnly_raise (s : State) (r : Record) (b : Option Blk) : s.tellsOnly (s.raise r b) := tellsOnly_raiseAt s r _

theorem tellsOnly_reply (s : State) (h : ReqHdr) (op st : Nat) (d : List Byte) : s.tellsOnly (s.reply h op st d) :=
  ⟨_, _, _, _, _, _, reply_only s h op st d⟩

/-- The state in which a failure is answered: a lane may be held and a record raised (R71). -/
theorem failReply_cases (s : State) (h : ReqHdr) (op : Nat) (f : Failure) (rec : Nat) : ∃ (g : Failure) (u : State),
    s.failReply h op f rec = u.reply h op g.status g.bytes ∧ s.tellsOnly u ∧ u.lanes.length = s.lanes.length ∧
    ∀ l, (u.lane l).job = (s.lane l).job ∧ (l ≠ h.lane → u.lane l = s.lane l) := by
  have hjob (l : Nat) : ((s.setLane h.lane { s.lane h.lane with held := some h.seq }).lane l).job = (s.lane l).job ∧
      (l ≠ h.lane → (s.setLane h.lane { s.lane h.lane with held := some h.seq }).lane l = s.lane l) := by
    rw [lane_setLane]
    by_cases c : l = h.lane ∧ h.lane < s.lanes.length
    · rw [if_pos c, c.1]
      exact ⟨rfl, fun hne => absurd rfl hne⟩
    · rw [if_neg c]
      exact ⟨rfl, fun _ => rfl⟩
  unfold State.failReply
  generalize (if f.status = stWrongState then { f with detail := s.dev.code } else f) = g
  dsimp only
  by_cases h2 : g.status / 0x1000 = 2
  · rw [if_pos h2]
    refine ⟨g, _, rfl, (tellsOnly_setLane s _ _).trans (tellsOnly_raiseAt _ _ _), ?_, fun l => ?_⟩
    · obtain ⟨_, _, _, _, e⟩ := raiseAt_only (s.setLane h.lane { s.lane h.lane with held := some h.seq }) (g.record 0x0010 h rec) (s.failClock g)
      rw [e]
      exact setLane_lanes_length s _ _
    · obtain ⟨_, _, _, _, e⟩ := raiseAt_only (s.setLane h.lane { s.lane h.lane with held := some h.seq }) (g.record 0x0010 h rec) (s.failClock g)
      rw [e]
      exact hjob l
  · rw [if_neg h2]
    by_cases h3 : g.status / 0x1000 = 3 ∧ op = 0x0403
    · rw [if_pos h3]
      exact ⟨g, _, rfl, tellsOnly_setLane s _ _, setLane_lanes_length s _ _, hjob⟩
    · rw [if_neg h3]
      exact ⟨g, _, rfl, State.tellsOnly.refl s, rfl, fun l => ⟨rfl, fun _ => rfl⟩⟩

theorem tellsOnly_failReply (s : State) (h : ReqHdr) (op : Nat) (f : Failure) (rec : Nat) : s.tellsOnly (s.failReply h op f rec) := by
  obtain ⟨g, u, e, hu, -, -⟩ := failReply_cases s h op f rec
  rw [e]
  exact hu.trans (tellsOnly_reply u h op _ _)

/-- A command answered with a failure no longer runs. -/
theorem failReply_frees {s : State} {h : ReqHdr} (op : Nat) (f : Failure) (rec : Nat) (hn : s.lanes.length = 16) (hl : h.lane < 16)
    (hj : ∀ j, (s.lane h.lane).job = some j → j.hdr.seq = h.seq) : ((s.failReply h op f rec).lane h.lane).job = none := by
  obtain ⟨g, u, e, -, hlen, hlane⟩ := failReply_cases s h op f rec
  rw [e]
  refine reply_frees u h op _ _ (hlen.trans hn) hl fun j hu => hj j ?_
  rw [← (hlane h.lane).1, hu]

/-- A failure is answered in its lane alone. -/
theorem failReply_other (s : State) {h : ReqHdr} (op : Nat) (f : Failure) (rec : Nat) {l : Nat} (hl : l ≠ h.lane) :
    (s.failReply h op f rec).lane l = s.lane l := by
  obtain ⟨g, u, e, -, -, hlane⟩ := failReply_cases s h op f rec
  rw [e, reply_other u h op _ _ hl]
  exact (hlane l).2 hl

/-! ### Loading an image (R423 to R426) -/

/-- Later bytes of a chunk stand over earlier ones. -/
theorem look_loadBytes : ∀ (d : List Byte) (l : List (Nat × Byte)) (o a : Nat),
    look (loadBytes l o d) a = if o ≤ a ∧ a < o + d.length then d[a - o]? else look l a
  | [], l, o, a => by rw [if_neg (by simp), loadBytes]
  | b :: t, l, o, a => by
    rw [loadBytes, look_loadBytes t (put l o b) (o + 1) a, look_put, List.length_cons]
    by_cases ha : a = o
    · subst ha
      rw [if_neg (by omega), if_pos rfl, if_pos (by omega), Nat.sub_self]
      rfl
    · rw [if_neg ha]
      by_cases hin : o + 1 ≤ a ∧ a < o + 1 + t.length
      · rw [if_pos hin, if_pos (by omega), show a - o = a - (o + 1) + 1 by omega]
        rfl
      · rw [if_neg hin, if_neg (by omega)]

/-- Fuses programmed leave the lanes alone. -/
theorem burnFuses_lanes (s : State) (plan : List (Sum Nat Nat)) (env : Env) : (s.burnFuses plan env).lanes = s.lanes := by
  unfold State.burnFuses
  split
  · rfl
  · extract_lets warnAt stopW stopF skipped failed done u v w
    have hv : v.lanes = s.lanes := by
      unfold v
      split
      · rfl
      · rw [bump_lanes]
    split
    · rw [raise_lanes]
      exact hv
    · exact hv

/-- The checks of an image that fail discard it; the rest of the Hasp, the memory and the device state stay (R110). -/
theorem finishFwLoadEnd_fails {s : State} {x : Load} {f : Failure} (h : ReqHdr) (env : Env) (hx : s.hasp.load = some x)
    (hf : imageFailure s.hasp.svnBits s.hasp.revoked x = some f) :
    ∃ u : State, finishFwLoadEnd h env s = u.failReply h 0x0803 f ∧
      ({ s with hasp := { s.hasp with load := none } } : State).tellsOnly u ∧ u.lanes = s.lanes := by
  unfold finishFwLoadEnd
  simp only [hx, hf]
  refine ⟨_, rfl, ((tellsOnly_bump _ _ _).trans (tellsOnly_setReg _ _ _)).trans (tellsOnly_raise _ _ _), ?_⟩
  rw [raise_lanes]
  exact bump_lanes _ _ _

theorem finishFwLoadEnd_passes {s : State} {x : Load} (h : ReqHdr) (env : Env) (hx : s.hasp.load = some x)
    (hf : imageFailure s.hasp.svnBits s.hasp.revoked x = none) :
    finishFwLoadEnd h env s
      = ((s.burnFuses (s.loadPlan x) env).startFirmware (x.bytes.map fun b => b.2)).reply h 0x0803 stOk := by
  unfold finishFwLoadEnd
  simp only [hx, hf]

/-- Settles O41. -/
theorem firmwareLoads : Obligations.FirmwareLoads := by
  refine ⟨?_, ?_, ?_, ?_⟩
  · intro s h n hs hl hlo hhi
    have he : exec (.fwLoadBegin h n 0) s = .next (doFwLoadBegin h n 0 (s.accept h)) := exec_of_servesNow hs rfl rfl
    have hf : firstFailure ([wrongUnless (!(s.accept h).fwLoading)] ++ [shape 0 n 4384 16777504, rsvZero 4 0] ++ []) = none := by
      rw [hl, Bool.not_false, wrongUnless_true, shape_of_le (by omega) hlo hhi, rsvZero_zero]
      rfl
    rw [he, doFwLoadBegin, serve_servesNow hs rfl hf, if_neg Bool.false_ne_true, accept_hasp]
  · intro s h l o d hs hl hload hd hdl hod
    have he : exec (.fwLoadData h o d) s = .next (doFwLoadData h o d (s.accept h)) := exec_of_servesNow hs rfl rfl
    have hf : firstFailure ((s.accept h).loadReady ++ [need (decide (o + d.length ≤ l.total)) (fRange 0 o), inRange 4 d.length 0 8960] ++ []) = none := by
      rw [State.loadReady, hl, accept_hasp, hload, Option.isSome_some, Bool.not_false, wrongUnless_true, need_of_true _ (decide_eq_true hod),
        inRange_of_le (Nat.zero_le _) hdl]
      rfl
    refine ⟨?_, fun a => look_loadBytes d l.bytes o a⟩
    rw [he, doFwLoadData, accept_hasp, hload]
    dsimp only [Option.map_some, Option.getD_some]
    rw [serve_servesNow hs rfl hf, if_neg (by simp [hd])]
    simp only [accept_hasp, hload]
  · intro s h hs hl hload
    have he : exec (.fwLoadEnd h) s = .next (doFwLoadEnd h (s.accept h)) := exec_of_servesNow hs rfl rfl
    have hf : firstFailure ((s.accept h).loadReady ++ [] ++ []) = none := by
      rw [State.loadReady, hl, accept_hasp, Option.isSome_iff_ne_none.mpr hload, Bool.not_false, wrongUnless_true]
      rfl
    rw [he, doFwLoadEnd, serve_servesNow hs rfl hf, if_neg Bool.false_ne_true]
  · intro s l j env x hn hl hj hjl hk hx
    have hc : exec (.commandCompletion l env) s = .next (if s.dev = .boot then finishFwLoadEnd j.hdr env s
        else s.failReply j.hdr j.opcode (s.lantern.fault.getD { status := stWrongState })) := by
      refine congrArg Host.Outcome.next ?_
      unfold doCommandCompletion
      simp only [hj, hk]
    have hjob (u : State) (hu : u.lanes = s.lanes) : ∀ k, (u.lane j.hdr.lane).job = some k → k.hdr.seq = j.hdr.seq := by
      intro k hk'
      rw [State.lane, hu, hjl] at hk'
      rw [State.lane] at hj
      rw [Option.some.inj (hj.symm.trans hk')]
    refine ⟨fun hd => hc.trans (by rw [if_neg hd]), fun hd => ?_⟩
    rw [if_pos hd] at hc
    refine ⟨_, hc, ?_⟩
    cases hf : imageFailure s.hasp.svnBits s.hasp.revoked x with
    | some f =>
      obtain ⟨u, hu, ht, hlanes⟩ := finishFwLoadEnd_fails j.hdr env hx hf
      have ht' := ht.trans (tellsOnly_failReply u j.hdr 0x0803 f 0xFFFFFFFF)
      rw [hu]
      refine ⟨?_, ?_, fun _ => ⟨ht'.dev, ht'.hasp, ht'.memory⟩, fun h => absurd h (by simp)⟩
      · rw [← hjl]
        exact failReply_frees _ _ _ (by rw [hlanes, hn]) (by omega) (hjob u hlanes)
      · rw [ht'.hasp]
    | none =>
      rw [finishFwLoadEnd_passes j.hdr env hx hf]
      have hlanes : ((s.burnFuses (s.loadPlan x) env).startFirmware (x.bytes.map fun b => b.2)).lanes = s.lanes := burnFuses_lanes s _ env
      have ht := tellsOnly_reply ((s.burnFuses (s.loadPlan x) env).startFirmware (x.bytes.map fun b => b.2)) j.hdr 0x0803 stOk []
      refine ⟨?_, ?_, fun h => absurd rfl h, fun _ => ⟨ht.dev, ?_, ?_, fun a => ?_, ?_⟩⟩
      · rw [← hjl]
        exact reply_frees _ _ _ _ _ (by rw [hlanes, hn]) (by omega) (hjob _ hlanes)
      · rw [ht.hasp]
        rfl
      · rw [ht.hasp]
        rfl
      · rw [ht.memory]
        rfl
      · rw [byteAt_of_memory ht.memory]
        rfl
      · rw [ht.hasp]
        rfl

/-! ### The reports (R427 to R429, R436, R439, R440, R442) -/

/-- The head of an attestation report is 224 bytes (R428). -/
theorem reportHead_length {s : State} {nonce : List Byte} (hn : nonce.length = 32) (hm : s.hasp.measurement.length = 48) :
    (s.reportHead nonce).length = 224 := by
  unfold State.reportHead
  simp only [List.length_append, be_length, hn, hm]

/-- With no torn record LEDGER_READ counts none and marks none. -/
theorem ledgerMarks_of_intact {l : List LedgerEntry} (h : ∀ e ∈ l, e.torn = none) (p : LedgerEntry → Bool) :
    (l.map fun e => if p e && e.torn.isSome then { e with counted := true } else e) = l := by
  refine (List.map_congr_left fun e he => ?_).trans (List.map_id l)
  rw [h e he]
  simp

theorem readChecks_pass {n : Nat} (h : n ≤ 128) : firstFailure ([] ++ readChecks n 0 ++ []) = none := by
  unfold readChecks
  rw [inRange_of_le (Nat.zero_le _) h, rsvZero_zero]
  rfl

theorem bytes_of_intact {l : List LedgerEntry} (h : ∀ e ∈ l, e.torn = none) :
    l.flatMap LedgerEntry.bytes = l.flatMap fun e => e.record.bytes := by
  induction l with
  | nil => rfl
  | cons e t ih =>
    rw [List.flatMap_cons, List.flatMap_cons, ih fun x hx => h x (List.mem_cons_of_mem _ hx), LedgerEntry.bytes, h e List.mem_cons_self]
    rfl

/-- The class counters of the listed Furrows cleared one after the other are one list of counters cleared (R172, R442). -/
theorem foldl_furrowClears : ∀ {fs : List Nat}, (∀ f ∈ fs, f < 10) → ∀ s : State, fs.foldl (fun s f => doFurrowCountClear f s) s
    = (fs.flatMap fun f => classOffsets.map (aFurrow f)).foldl State.clear48 s
  | [], _, _ => rfl
  | f :: fs, h, s => by
    have hf : doFurrowCountClear f s = (classOffsets.map (aFurrow f)).foldl State.clear48 s := by
      unfold doFurrowCountClear
      rw [if_neg (Nat.not_le.mpr (h f List.mem_cons_self)), List.foldl_map]
    rw [List.foldl_cons, List.flatMap_cons, List.foldl_append, ← hf, foldl_furrowClears fun x hx => h x (List.mem_cons_of_mem _ hx)]

theorem clearSet_one {s : State} (hr : risingFrom none s.ctrs = true) {f o : Nat} (hf : f < 10) (ho : o ∈ classOffsets) :
    (s.clearSet 1).ctr (aFurrow f o) = 0 := by
  have he : s.clearSet 1 = ((List.range 10).flatMap fun f => classOffsets.map (aFurrow f)).foldl State.clear48 s :=
    foldl_furrowClears (fun _ hx => List.mem_range.mp hx) s
  rw [he]
  exact (foldl_clear48 _ hr).2.1 _ (List.mem_flatMap.mpr ⟨f, List.mem_range.mpr hf, List.mem_map.mpr ⟨o, ho, rfl⟩⟩)

theorem doAttest_passes {s : State} {h : ReqHdr} (hs : s.servesNow h 0x0804) (nonce : List Byte) :
    doAttest h nonce (s.accept h) =
      let b := s.accept h
      let r := b.reportHead nonce
      let sig := ecdsaSign Config.identityKey.toNat (sha384 r)
      (({ b with hasp := { b.hasp with reportSeq := (b.hasp.reportSeq + 1) % 2 ^ 32 } }).bump (aHasp 0x74)).reply h 0x0804 stOk
        (r ++ be 48 sig.1 ++ be 48 sig.2) := by
  unfold doAttest
  rw [serve_servesNow hs rfl rfl, if_neg Bool.false_ne_true]

/-- With no torn record LEDGER_READ answers and counts nothing (R439). -/
theorem doLedgerRead_intact {s : State} {h : ReqHdr} {first n : Nat} (hs : s.servesNow h 0x0901) (h1 : 1 ≤ n) (h128 : n ≤ 128)
    (hint : ∀ e ∈ s.ledger.entries, e.torn = none) :
    let picked := (s.ledger.entries.filter fun e => decide (first ≤ e.record.ledgerSeq)).take n
    ∃ k, doLedgerRead h first n 0 (s.accept h) = ((s.accept h).bump (aLedger 0x30) k).reply h 0x0901 stOk
      ((be 4 s.ledger.oldest ++ be 4 s.ledger.nextSeq ++ be 4 s.ledger.bootCount ++ be 2 picked.length ++ be 2 0)
        ++ picked.flatMap LedgerEntry.bytes) := by
  intro picked
  unfold doLedgerRead
  rw [serve_servesNow hs rfl (readChecks_pass h128), if_neg (by simp; omega)]
  dsimp only
  rw [accept_ledger]
  have hmarks := ledgerMarks_of_intact hint
  rw [hmarks]
  have hsame : ({ s.accept h with ledger := s.ledger } : State) = s.accept h := by
    rw [accept_only]
  refine ⟨_, congrArg (fun u : State => (u.bump _ _).reply _ _ _ _) hsame⟩

/-- Settles O42. -/
theorem reportsAnswer : Obligations.ReportsAnswer := by
  intro s h b
  refine ⟨?_, ?_, ?_, ?_, ?_, ?_⟩
  · intro hs nonce hn hm
    have he : exec (.attest h nonce) s = .next (doAttest h nonce (s.accept h)) := exec_of_servesNow hs rfl rfl
    exact ⟨reportHead_length hn (by rw [accept_hasp]; exact hm), he.trans (congrArg Host.Outcome.next (doAttest_passes hs nonce))⟩
  · intro hs
    have he : exec (.certRead h) s = .next (doCertRead h (s.accept h)) := exec_of_servesNow hs rfl rfl
    rw [he, doCertRead, serve_servesNow hs rfl rfl, if_neg Bool.false_ne_true]
  · intro hs first n h1 h128 hint l picked
    have he : exec (.ledgerRead h first n 0) s = .next (doLedgerRead h first n 0 (s.accept h)) := exec_of_servesNow hs rfl rfl
    obtain ⟨k, hk⟩ := doLedgerRead_intact (first := first) hs h1 h128 hint
    have hpicked : ∀ e ∈ picked, e.torn = none := fun e hm => hint e (List.mem_filter.mp (List.mem_of_mem_take hm)).1
    have hw : ((s.accept h).bump (aLedger 0x30) k).awaits h := awaits_of_lanes (bump_lanes _ _ _) (accept_awaits hs.1)
    refine ⟨_, he.trans (congrArg Host.Outcome.next hk), ?_, ?_⟩
    · rw [reply_only, bump_only]
      exact accept_ledger s h
    · rw [← bytes_of_intact hpicked]
      exact reply_answered hw _ _ _
  · intro hs u hu
    have he : exec (.ledgerClear h u) s = .next (doLedgerClear h u (s.accept h)) := exec_of_servesNow hs rfl rfl
    rw [he, doLedgerClear, serve_servesNow hs rfl rfl, if_neg (by simpa using hu)]
    refine ⟨_, rfl, ?_, ?_⟩
    · unfold State.running
      rw [setJob_lane _ _ _ _ _ (by simpa using hs.1.1) hs.1.2.1, if_pos rfl]
    · unfold State.setJob State.setLane
      rw [accept_ledger]
  · intro hs n hn
    have he (c : Nat) : exec (.countersRead h n c 0) s = .next (doCountersRead h n c 0 (s.accept h)) := exec_of_servesNow hs rfl rfl
    have hf {c : Nat} (hc : (decide (c = 0) || decide (c = 1) && decide (n ≠ 0)) = true) : firstFailure ([] ++ [inRange 0 n 0 6,
        need (decide (c = 0) || decide (c = 1) && decide (n ≠ 0)) (fRange 1 c), rsvZero 2 0] ++ []) = none := by
      rw [inRange_of_le (Nat.zero_le _) hn, need_of_true _ hc, rsvZero_zero]
      rfl
    refine ⟨?_, fun h1 => ?_, fun hi f o => clearSet_one (by rw [accept_ctrs]; exact hi.risingCtrs)⟩
    · rw [he, doCountersRead, serve_servesNow hs rfl (hf (by simp)), if_neg Bool.false_ne_true]
      rfl
    · rw [he, doCountersRead, serve_servesNow hs rfl (hf (by simp; omega)), if_neg Bool.false_ne_true]
      rfl
  · intro hs first n h1 h128 picked
    have he : exec (.eventsRead h first n 0) s = .next (doEventsRead h first n 0 (s.accept h)) := exec_of_servesNow hs rfl rfl
    rw [he, doEventsRead, serve_servesNow hs rfl (readChecks_pass h128), if_neg (by simp; omega)]
    dsimp only
    rw [accept_events, accept_reg]

end Sys2Proof.Machine
end

section
/-!
PROOFS. Resets, shutdowns and power-up (O46, O47).
-/
namespace Sys2Proof.Machine

/-! ### What a reset keeps -/

theorem cutBurn_only (s : State) : s.cutBurn = { s with hasp := s.cutBurn.hasp, free := s.cutBurn.free } := by
  unfold State.cutBurn
  split
  · rfl
  · split <;> rfl

theorem cutBurn_of_not_loading {s : State} (h : s.fwLoading = false) : s.cutBurn = s := by
  unfold State.cutBurn
  simp only [h, Bool.false_and, Bool.false_eq_true, if_false]
  split <;> rfl

theorem unpower_ledger (s : State) (d : DState) (r : Bool) : (s.unpower d r).ledger = s.ledger := by
  show s.cutBurn.ledger = s.ledger
  rw [cutBurn_only]

theorem unpower_tick (s : State) (d : DState) (r : Bool) : (s.unpower d r).clocks.tick = s.clocks.tick := by
  show s.cutBurn.clocks.tick = s.clocks.tick
  rw [cutBurn_only]

/-- What the Lantern keeps through a reset. -/
theorem unpower_lantern (s : State) (d : DState) (r : Bool) : (s.unpower d r).lantern = { s.lantern with
      railsUp := r, vaneBroken := [], entry := none, waking := none, wakeAt := none, dozeDue := false, save := none,
      hold := none, sleptFrom := .ready, softDue := false, fault := none } := by
  have h : s.cutBurn.lantern = s.lantern := by rw [cutBurn_only]
  show ({ s.cutBurn.lantern with
      railsUp := r, vaneBroken := [], entry := none, waking := none, wakeAt := none, dozeDue := false, save := none,
      hold := none, sleptFrom := .ready, softDue := false, fault := none } : Lantern) = _
  rw [h]

theorem replicate_getD {β : Type} (n l : Nat) (x : β) : (List.replicate n x).getD l x = x := by
  rw [List.getD_eq_getElem?_getD, List.getElem?_replicate]
  split <;> rfl

/-- A reset wipes every domain but the Lantern's. -/
theorem unpower_wiped (s : State) (d : DState) (r : Bool) : s.wiped (s.unpower d r) := by
  refine ⟨fun a ha => ?_, fun l _ => replicate_getD 16 l ({} : Lane), rfl, rfl, rfl, rfl, rfl, unpower_tick s d r, ?_, rfl, rfl⟩
  · show ((look (s.cutBurn.regs.filter fun r => keptReg r.1) a).map BitVec.toNat).getD (resetWord a) = _
    rw [look_filter_key keptReg, if_neg (by simp [ha])]
    rfl
  · rw [unpower_ledger]

/-- A change of other parts before a reset does not show after it. -/
theorem wiped_congr {s u t : State} (hc : u.clocks.tick = s.clocks.tick) (hl : u.ledger.entries = s.ledger.entries) (hh : u.hasp = s.hasp)
    (hn : u.lanes = s.lanes) (hf : u.free = s.free) (h : u.wiped t) : s.wiped t := by
  have hb : u.cutBurn.hasp = s.cutBurn.hasp := by
    have hfw : u.fwLoading = s.fwLoading := by rw [State.fwLoading, State.fwLoading, State.anyJob, State.anyJob, hn]
    unfold State.cutBurn State.loadPlan State.takeFree
    simp only [hh, hfw, hf]
    split
    · exact hh
    · split
      · rfl
      · exact hh
  obtain ⟨h1, h2, h3, h4, h5, h6, h7, h8, h9, h10, h11⟩ := h
  exact ⟨h1, h2, h3, h4, h5, h6, h7, h8.trans hc, h9.trans hl, h10.trans (by rw [hb]), h11.trans (by rw [hb])⟩

/-- A wiped state stays one when only the Lantern's own state changes. -/
theorem wiped_lantern {s t : State} (h : s.wiped t) (la : Lantern) : s.wiped { t with lantern := la } := h

theorem wiped_of_lantern {s t : State} {la : Lantern} (h : ({ s with lantern := la } : State).wiped t) : s.wiped t :=
  wiped_congr (u := { s with lantern := la }) rfl rfl rfl rfl rfl h

/-! ### Records of the Lantern -/

theorem queueLedger_entries (s : State) (r : Record) : (s.queueLedger r).ledger.entries = s.ledger.entries := by
  unfold State.queueLedger
  dsimp only
  split
  · rw [bump_only]
  · rfl

/-- A record that is never suppressed is in line for the Ledger. -/
theorem queueLedger_waiting (s : State) {r : Record} (h : neverSuppressed r.kind = true) : r ∈ (s.queueLedger r).ledger.waiting := by
  unfold State.queueLedger
  dsimp only
  rw [if_neg (by simp [h])]
  exact List.mem_append_right _ (List.mem_singleton_self r)

/-- What a record raised for the Ledger alone does. -/
theorem raiseAt_ledgerOnly (s : State) {r : Record} (k : Nat × Nat) {latch : Bool} (h : kindPlaces r.kind r.detail = (false, true, latch)) :
    ∃ x : Record, x.kind = r.kind ∧ x.detail = r.detail ∧
      s.raiseAt r k = { s.queueLedger x with lantern := { s.lantern with latch := latch || s.lantern.latch } } := by
  refine ⟨{ r with
    flags := b2n false + 2 * b2n true + 4 * b2n latch
    clockKind := k.1, clock := k.2, boot := s.ledger.bootCount, uptime := s.uptime % 2 ^ 48, eventSeq := 0xFFFFFFFF }, rfl, rfl, ?_⟩
  unfold State.raiseAt
  simp only [h, Bool.false_eq_true, if_false, if_true]
  generalize ({ r with
    flags := _, clockKind := _, clock := _, boot := _, uptime := _, eventSeq := _ } : Record) = x
  have hl : (s.queueLedger x).lantern = s.lantern := by
    obtain ⟨_, _, e⟩ := queueLedger_only s x
    rw [e]
  cases latch
  · rw [if_neg Bool.false_ne_true, Bool.false_or, ← hl]
  · rw [if_pos rfl, Bool.true_or, hl]

/-- A record of the Lantern raised for the Ledger: nothing that a reset keeps changes but the Ledger's waiting records and the latch. -/
theorem raise_ledgerOnly (s : State) {r : Record} (b : Option Blk) {latch : Bool} (h : kindPlaces r.kind r.detail = (false, true, latch))
    (hs : neverSuppressed r.kind = true) :
    (s.raise r b).ledger.entries = s.ledger.entries ∧ (∃ x ∈ (s.raise r b).ledger.waiting, x.kind = r.kind ∧ x.detail = r.detail) ∧
      (s.raise r b).lantern = { s.lantern with latch := latch || s.lantern.latch } ∧
      ∃ rg lg la, s.raise r b = { s with regs := rg, ledger := lg, lantern := la } := by
  obtain ⟨x, hk, hd, e⟩ := raiseAt_ledgerOnly s (s.blockClock b) h
  have e : s.raise r b = { s.queueLedger x with lantern := { s.lantern with latch := latch || s.lantern.latch } } := e
  rw [e]
  refine ⟨queueLedger_entries s x, ⟨x, queueLedger_waiting s (by rw [hk]; exact hs), hk, hd⟩, rfl, ?_⟩
  obtain ⟨_, _, q⟩ := queueLedger_only s x
  rw [q]
  exact ⟨_, _, _, rfl⟩

/-- A reset after a record for the Ledger: the record waits and every domain but the Lantern's is wiped. -/
theorem unpower_raise (s : State) {r : Record} (b : Option Blk) (d : DState) (rails : Bool) {latch : Bool}
    (h : kindPlaces r.kind r.detail = (false, true, latch)) (hs : neverSuppressed r.kind = true) :
    let t := (s.raise r b).unpower d rails
    t.dev = d ∧ s.wiped t ∧ (∃ x ∈ t.ledger.waiting, x.kind = r.kind ∧ x.detail = r.detail) ∧
      t.lantern = { s.lantern with
        latch := latch || s.lantern.latch, railsUp := rails, vaneBroken := [], entry := none, waking := none, wakeAt := none
        dozeDue := false, save := none, hold := none, sleptFrom := .ready, softDue := false, fault := none } := by
  intro t
  obtain ⟨hent, hwait, hlan, rg, lg, la, e⟩ := raise_ledgerOnly s b h hs
  refine ⟨rfl, ?_, ?_, ?_⟩
  · refine wiped_congr ?_ hent ?_ ?_ ?_ (unpower_wiped (s.raise r b) d rails)
    all_goals rw [e]
  · rw [unpower_ledger]
    exact hwait
  · rw [unpower_lantern, hlan]

/-! ### Pins and resets (R28, R31 to R33, R106 to R108) -/

theorem pinOrDefer_now {s : State} (h : s.ledger.writing = none) (a : PinAction) : s.pinOrDefer a = s.pinAct a := by
  unfold State.pinOrDefer
  rw [if_neg (by simp [h])]

/-- A pin level confirmed at once acts at once while no Ledger write is under way. -/
theorem pinOrDefer_lantern {s : State} (h : s.ledger.writing = none) (la : Lantern) (a : PinAction) :
    ({ s with lantern := la } : State).pinOrDefer a = ({ s with lantern := la } : State).pinAct a := pinOrDefer_now (s := { s with lantern := la }) h a

theorem column_ne {d : DState} (h : d.column ≠ none) : d ≠ .off ∧ d ≠ .lantern ∧ d ≠ .shutdown := by
  refine ⟨?_, ?_, ?_⟩ <;> rintro rfl <;> exact h rfl

/-- RESET_N, the soft reset and the firmware watchdog hold the device in LANTERN. -/
theorem resetBy_spec (s : State) {kind detail : Nat} {latch : Bool} (h : kindPlaces kind detail = (false, true, latch))
    (hs : neverSuppressed kind = true) :
    let t := s.resetBy kind detail
    (t.dev = .lantern ∧ s.wiped t ∧ ∃ r ∈ t.ledger.waiting, r.kind = kind ∧ r.detail = detail) ∧
      t.lantern.resetN = s.lantern.resetN ∧ t.lantern.latch = (latch || s.lantern.latch) := by
  intro t
  obtain ⟨hd, hw, hr, hl⟩ := unpower_raise s (r := lanternRecord kind detail) (some .lantern) .lantern true h hs
  refine ⟨⟨hd, hw, hr⟩, ?_, ?_⟩
  · exact (congrArg Lantern.resetN hl :)
  · exact (congrArg Lantern.latch hl :)

/-- A pin released in SHUTDOWN keeps the levels of both pins. -/
theorem releaseInternal_spec (s : State) : ∃ i b, s.releaseInternal = { s with
    lantern := { s.lantern with internalHwsd := i, restartBlocked := b } } ∧ (s.lantern.internalHwsd = false → i = false) := by
  unfold State.releaseInternal
  split
  · exact ⟨_, _, rfl, fun _ => rfl⟩
  · exact ⟨_, _, rfl, id⟩

theorem releaseInternal_of_dev {s : State} (h : s.dev ≠ .shutdown) : s.releaseInternal = s := if_neg fun c => h c.1

/-- Settles O46. -/
theorem resetsKeepTheLantern : Obligations.ResetsKeepTheLantern := by
  refine ⟨?_, ?_, ?_⟩
  · intro s hc hw back
    obtain ⟨hoff, hlan, hshut⟩ := column_ne hc
    refine ⟨?_, fun hr => ?_, fun hb hrun => ?_, fun hh => ?_⟩
    · have he : doSoftReset s = ({ s with lantern := { s.lantern with softDue := false } } : State).resetBy 0x0002 1 :=
        (pinOrDefer_lantern hw _ .softReset).trans (if_neg (by simp [hoff, hshut]))
      obtain ⟨⟨hd, hwi, hrec⟩, -, -⟩ := resetBy_spec ({ s with lantern := { s.lantern with softDue := false } } : State)
        (kind := 2) (detail := 1) (latch := false) rfl rfl
      exact ⟨_, congrArg Host.Outcome.next he, hd, wiped_of_lantern hwi, hrec⟩
    · have he : doResetNAsserted s = ({ s with lantern := { s.lantern with resetN := some false } } : State).resetBy 0x0002 0 := by
        unfold doResetNAsserted
        rw [if_neg (by simp [hoff, hr]), pinOrDefer_lantern hw]
        exact (if_neg hshut).trans (if_neg fun c => hlan c.2)
      obtain ⟨⟨hd, hwi, hrec⟩, hpin, -⟩ := resetBy_spec ({ s with lantern := { s.lantern with resetN := some false } } : State)
        (kind := 2) (detail := 0) (latch := false) rfl rfl
      exact ⟨_, congrArg Host.Outcome.next he, ⟨hd, wiped_of_lantern hwi, hrec⟩, hpin⟩
    · have he : doFwWatchdog s = s.resetBy 0x0003 0 := by
        unfold doFwWatchdog
        rw [if_neg (by simp [hc, hb, hrun]), pinOrDefer_now hw]
        exact if_neg (by simp [hoff, hshut])
      obtain ⟨hback, -, hlatch⟩ := resetBy_spec s (kind := 3) (detail := 0) (latch := true) rfl rfl
      exact ⟨_, congrArg Host.Outcome.next he, hback, hlatch⟩
    · have he : doHwShutdown s = (({ s with lantern := { s.lantern with hwsdN := some false } } : State).raise
          (lanternRecord 0x0005 0) (some .lantern)).shutDown .hwsd := by
        unfold doHwShutdown
        rw [if_neg (by simp [hoff, hh]), pinOrDefer_lantern hw]
        exact (if_neg hshut).trans (if_neg fun c => hlan c.2)
      obtain ⟨hd, hwi, ⟨r, hr, hk, -⟩, hl⟩ := unpower_raise ({ s with lantern := { s.lantern with hwsdN := some false } } : State)
        (r := lanternRecord 0x0005 0) (some .lantern) .shutdown false (latch := false) rfl rfl
      refine ⟨_, congrArg Host.Outcome.next he, hd, wiped_lantern (wiped_of_lantern hwi) _, ?_, rfl, ?_, r, hr, hk⟩
      · exact (congrArg Lantern.hwsdN hl :)
      · exact (congrArg Lantern.railsUp hl :)
  · intro s hd hr
    refine congrArg Host.Outcome.next ?_
    unfold doResetNReleased
    have hdev (la : Lantern) : ({ s with lantern := la } : State).dev ≠ .shutdown := by simp [hd]
    rw [if_neg (by simp [hd, hr])]
    dsimp only
    rw [if_pos hr, releaseInternal_of_dev (hdev _), tryLeave_of_dev (hdev _)]
    unfold State.sequenceRails
    by_cases hh : s.lantern.hwsdN = some true
    · rw [if_pos ⟨hd, rfl, hh⟩]
      simp [hh]
    · rw [if_neg fun c => hh c.2.2]
      simp [hh]
  · intro s hd hh hs hr hi hw
    obtain ⟨i, b, he, hi'⟩ := releaseInternal_spec ({ s with lantern := { s.lantern with hwsdN := some true } } : State)
    have hi'' := hi' hi
    subst hi''
    have ht : doHwsdNReleased s = { s with dev := .lantern, lantern := { s.lantern with
        hwsdN := some true, internalHwsd := false, restartBlocked := b, shutCause := none, railsUp := true } } := by
      unfold doHwsdNReleased
      rw [if_neg (by simp [hd, hh])]
      dsimp only
      rw [if_pos hh, he]
      unfold State.tryLeave
      rw [if_pos ⟨hd, hs, hr, rfl, rfl, by simp [hw]⟩]
      exact if_pos ⟨rfl, by simp [hr], rfl⟩
    exact ⟨_, congrArg Host.Outcome.next ht, rfl, rfl, rfl, rfl⟩

/-! ### Power-up and the loss of the supply (R24, R26, R454) -/

theorem rail_congr {a b : Lantern} (hi : a.input = b.input) (hb : a.bulk = b.bulk) : a.rail = b.rail := by
  unfold Lantern.rail Lantern.blocked
  rw [hi, hb]

/-- The monitored rail is what the monitor has read. -/
theorem supplyRead_rail (s : State) (m : Nat) : (s.supplyRead m).lantern.rail = m := by
  have hpos : 0 < unitNV := by decide
  unfold State.supplyRead Lantern.rail Lantern.blocked
  generalize unitNV = k at hpos ⊢
  by_cases h : m * k ≤ s.lantern.bulk
  · rw [if_pos h]
    dsimp only
    have hle : s.takeFree.1 % (m + 1) ≤ m := Nat.le_of_lt_succ (Nat.mod_lt _ (Nat.succ_pos m))
    by_cases hb : s.takeFree.1 % (m + 1) * k < m * k
    · rw [if_pos (decide_eq_true hb), Nat.mul_div_cancel m hpos]
    · rw [if_neg (by simpa using hb)]
      exact Nat.le_antisymm hle (Nat.le_of_mul_le_mul_right (Nat.not_lt.mp hb) hpos)
  · rw [if_neg h]
    dsimp only
    rw [if_neg (by simpa using Nat.le_of_lt (Nat.not_le.mp h))]

/-- A reading of the supply changes the input and the bulk alone. -/
theorem supplyRead_only (s : State) (m : Nat) : ∃ i b f, s.supplyRead m
    = { s with lantern := { s.lantern with input := i, bulk := b }, free := f } := by
  unfold State.supplyRead
  split
  · exact ⟨_, _, _, rfl⟩
  · exact ⟨_, _, _, rfl⟩

theorem supplyRises_cases (s : State) : volts 40 < s.lantern.rail ∧ s.supplyRises = s ∨
    ∃ f m, volts 40 < m ∧ s.supplyRises = ({ s with free := f } : State).supplyRead m := by
  unfold State.supplyRises
  split
  · next h => exact Or.inl ⟨h, rfl⟩
  · exact Or.inr ⟨_, _, by omega, rfl⟩

/-- The supply above 40.0 V (R26). -/
theorem supplyRises_spec (s : State) : volts 40 < s.supplyRises.lantern.rail ∧ ∃ i b f, s.supplyRises
    = { s with lantern := { s.lantern with input := i, bulk := b }, free := f } := by
  obtain ⟨h, e⟩ | ⟨f, m, hm, e⟩ := supplyRises_cases s
  · rw [e]
    exact ⟨h, _, _, _, rfl⟩
  · obtain ⟨i, b, g, h⟩ := supplyRead_only { s with free := f } m
    rw [e]
    refine ⟨?_, i, b, g, h⟩
    rw [supplyRead_rail]
    exact hm

/-- The supply is good (R26). -/
def State.supplied (s : State) : State := { s with lantern := { s.lantern with supplyOk := true } }

theorem supplied_rail (s : State) : s.supplied.lantern.rail = s.lantern.rail := rail_congr rfl rfl

theorem doStartCondition_off {s : State} (hd : s.dev = .off) : doStartCondition s = s.supplyRises.supplied := if_pos hd

theorem supplyGone_only (s : State) : ∃ i b f, s.supplyGone
    = { s with lantern := { s.lantern with input := i, bulk := b }, free := f } := by
  unfold State.supplyGone
  split
  · exact ⟨_, _, _, rfl⟩
  · obtain ⟨i, b, f, e⟩ := supplyRead_only s.takeFree.2 (s.takeFree.1 % volts 28)
    dsimp only
    rw [e]
    exact ⟨i, b, f, rfl⟩

/-- The entry to BOOT (R31, R109). -/
theorem doBootEntry_enters {s : State} (hd : s.dev = .lantern) (hr : s.lantern.resetN = some true) (hh : s.lantern.hwsdN = some true)
    (hi : s.lantern.internalHwsd = false) :
    doBootEntry s = { s.unpower .boot true with
      regs := [], ledger := { (s.unpower .boot true).ledger with bootCount := ((s.unpower .boot true).ledger.bootCount + 1) % 2 ^ 32 }
      lantern := { shutTimes := s.lantern.shutTimes, critical := s.lantern.critical, input := s.lantern.input, bulk := s.lantern.bulk } } :=
  if_pos ⟨hd, hr, hh, by simp [hi]⟩

/-- A channel found critical in this tick is named by the record of the loss of power alone (R399). -/
def State.lossRecords (s : State) : State :=
  if (s.lantern.critical.filter fun c => c.2 = s.clocks.tick).isSome then
    { s with ledger := { s.ledger with waiting := s.ledger.waiting.filter fun r => !(r.kind = 0x0042) } } else s

theorem lossRecords_only (s : State) : ∃ w, s.lossRecords = { s with ledger := { s.ledger with waiting := w } } := by
  unfold State.lossRecords
  split
  · exact ⟨_, rfl⟩
  · exact ⟨_, rfl⟩

/-- The record of POWER_LOSS names the magnitude (R26, R399). -/
def State.lossDetail (s : State) (m : Nat) : Nat :=
  m % 65536 + 65536 * (((s.lantern.critical.filter fun c => c.2 = s.clocks.tick).map fun c => c.1).getD 0)

theorem lossDetail_mod (s : State) (m : Nat) : s.lossDetail m % 65536 = m % 65536 := by
  unfold State.lossDetail
  rw [Nat.add_mul_mod_self_left, Nat.mod_mod]

/-- The loss of power, the supply having been read (R26, R27). -/
def State.losePower (r : State) (detail : Nat) : State :=
  let t := (r.raise (lanternRecord 0x0004 detail) (some .lantern)).shutDown .supply
  { t with lantern := { t.lantern with supplyOk := false, lossAt := some r.clocks.tick } }

theorem doPowerLoss_shuts {s : State} {m : Nat} (hd : s.dev ≠ .off) (hm : m < volts 35) :
    doPowerLoss m s = (s.supplyRead m).lossRecords.losePower ((s.supplyRead m).lossDetail m) := by
  unfold doPowerLoss
  rw [if_neg (not_or.mpr ⟨hd, Nat.not_le.mpr hm⟩)]
  rfl

theorem losePower_spec {r u : State} {m : Nat} {w : List Record} (hr : r = { u with ledger := { u.ledger with waiting := w } }) :
    let t := r.losePower (u.lossDetail m)
    t.dev = .shutdown ∧ u.wiped t ∧ t.lantern.rail = u.lantern.rail ∧ t.lantern.supplyOk = false ∧
      t.lantern.shutCause = some .supply ∧ ∃ x ∈ t.ledger.waiting, x.kind = 4 ∧ x.detail % 65536 = m % 65536 := by
  intro t
  obtain ⟨hdev, hwi, ⟨x, hrec, hk, hdet⟩, hl⟩ := unpower_raise r
    (r := lanternRecord 0x0004 (u.lossDetail m)) (some .lantern) .shutdown false (latch := false) rfl rfl
  refine ⟨hdev, wiped_lantern (wiped_congr ?_ ?_ ?_ ?_ ?_ hwi) _, ?_, rfl, rfl, x, hrec, hk, ?_⟩
  · rw [hr]
  · rw [hr]
  · rw [hr]
  · rw [hr]
  · rw [hr]
  · refine rail_congr ?_ ?_
    · exact (congrArg Lantern.input hl :).trans (by rw [hr])
    · exact (congrArg Lantern.bulk hl :).trans (by rw [hr])
  · exact (congrArg (· % 65536) hdet).trans (lossDetail_mod u m)

/-- The Lantern loses its power (R26, R438). -/
def State.powerOff (u : State) : State :=
  let t := u.tearWrite.unpower .off false
  { t with
    regs := []
    clocks := {}
    ledger := { t.ledger with waiting := [], writing := none, deferred := [], perSecond := [] }
    lantern :=
      { supplyOk := false, resetN := none, hwsdN := none, railsUp := false, input := u.lantern.input, bulk := u.lantern.bulk } }

theorem doLanternOff_on {s : State} (h : s.supplyGone.dev ≠ .off) : doLanternOff s = s.supplyGone.powerOff := if_neg h

theorem powerOff_spec {u : State} (hw : u.ledger.writing = none) :
    u.powerOff.dev = .off ∧ u.powerOff.ledger.entries = u.ledger.entries ∧ u.powerOff.ledger.nextSeq = u.ledger.nextSeq ∧
      u.powerOff.ledger.bootCount = u.ledger.bootCount ∧ u.powerOff.ledger.waiting = [] ∧ u.powerOff.sessions = [] ∧
      (u.fwLoading = false → u.powerOff.hasp.svnBits = u.hasp.svnBits ∧ u.powerOff.hasp.revoked = u.hasp.revoked) := by
  have htear : u.tearWrite = u := by
    unfold State.tearWrite
    simp only [hw]
  have hled := unpower_ledger u .off false
  unfold State.powerOff
  rw [htear]
  refine ⟨rfl, (congrArg Ledger.entries hled :), (congrArg Ledger.nextSeq hled :), (congrArg Ledger.bootCount hled :), rfl, rfl, fun hfw => ?_⟩
  have hcut := cutBurn_of_not_loading hfw
  exact ⟨(congrArg (fun x : State => x.hasp.svnBits) hcut :), (congrArg (fun x : State => x.hasp.revoked) hcut :)⟩

/-- Settles O47: each event resets by one `unpower`, whose lemmas say what stays. -/
theorem powerUpAndPowerLoss : Obligations.PowerUpAndPowerLoss := by
  refine ⟨?_, ?_, ?_, ?_, ?_, ?_⟩
  · intro s hd
    obtain ⟨hrail, i, b, f, e⟩ := supplyRises_spec s
    refine ⟨s.supplyRises.supplied, congrArg Host.Outcome.next (doStartCondition_off hd), rfl, ?_, ?_⟩
    · rw [supplied_rail]
      exact hrail
    · rw [e]
      rfl
  · intro s hd hok
    exact ⟨_, congrArg Host.Outcome.next (if_pos ⟨hd, hok⟩ : doCrystalStable s = _), rfl, rfl, rfl, rfl, rfl, rfl, rfl⟩
  · intro s hd hr hh hi
    have hw := unpower_wiped s .boot true
    obtain ⟨-, h2, h3, h4, h5, h6, h7, h8, h9, h10, h11⟩ := hw
    refine ⟨_, congrArg Host.Outcome.next (doBootEntry_enters hd hr hh hi), rfl,
      ⟨fun a _ => rfl, h2, h3, h4, h5, h6, h7, h8, h9, h10, h11⟩, fun a => rfl, ?_, rfl, rfl, rfl⟩
    rw [unpower_ledger]
  · exact fun s m hm => congrArg Host.Outcome.next (if_pos (Or.inr hm) : doPowerLoss m s = s)
  · intro s m hd hm
    obtain ⟨w, hr⟩ := lossRecords_only (s.supplyRead m)
    obtain ⟨hdev, hwi, hrail, hok, hcause, hrec⟩ := losePower_spec (m := m) hr
    refine ⟨_, congrArg Host.Outcome.next (doPowerLoss_shuts hd hm), hdev, hwi, ?_, hok, hcause, hrec⟩
    rw [hrail, supplyRead_rail]
  · intro s hd hw
    obtain ⟨i, b, f, e⟩ := supplyGone_only s
    obtain ⟨hdev, hent, hseq, hboot, hwait, hsess, hfuse⟩ := powerOff_spec (u := s.supplyGone) (by rw [e]; exact hw)
    refine ⟨_, congrArg Host.Outcome.next (doLanternOff_on (by rw [e]; exact hd)), hdev, ?_, ?_, ?_, hwait, hsess, fun hfw => ?_⟩
    · rw [hent, e]
    · rw [hseq, e]
    · rw [hboot, e]
    · obtain ⟨h1, h2⟩ := hfuse (by rw [e]; exact hfw)
      rw [h1, h2, e]
      exact ⟨rfl, rfl⟩

end Sys2Proof.Machine
end

section
/-!
PROOFS. The commands of every lane in turn, the end of all steps, FAULT, and entries into a power state.
-/
namespace Sys2Proof.Machine

/-! ### Answers and records keep what waits for the Ledger -/

/-- Answers and records leave the Ledger's waiting records in line. -/
structure State.tells (s t : State) : Prop where
  only : s.tellsOnly t
  waiting : ∀ r ∈ s.ledger.waiting, r ∈ t.ledger.waiting
  length : t.lanes.length = s.lanes.length
  latch : s.lantern.latch = true → t.lantern.latch = true

namespace State.tells
variable {s t u : State}

theorem refl (s : State) : s.tells s := ⟨State.tellsOnly.refl s, fun _ h => h, rfl, id⟩

theorem trans (h : s.tells t) (k : t.tells u) : s.tells u :=
  ⟨h.only.trans k.only, fun r hr => k.waiting r (h.waiting r hr), k.length.trans h.length, fun x => k.latch (h.latch x)⟩

theorem foldl {β : Type} {f : State → β → State} (hf : ∀ (s : State) (x : β), s.tells (f s x)) : ∀ (l : List β) (s : State), s.tells (l.foldl f s)
  | [], s => refl s
  | x :: l, s => (hf s x).trans (foldl hf l (f s x))

end State.tells

theorem tells_bump (s : State) (a n : Nat) : s.tells (s.bump a n) :=
  ⟨tellsOnly_bump s a n, fun r h => by rw [bump_only]; exact h, by rw [bump_lanes], fun h => by rw [bump_only]; exact h⟩

theorem tells_setLane (s : State) (l : Nat) (x : Lane) : s.tells (s.setLane l x) :=
  ⟨tellsOnly_setLane s l x, fun _ h => h, setLane_lanes_length s l x, id⟩

theorem tells_reply (s : State) (h : ReqHdr) (op st : Nat) (d : List Byte) : s.tells (s.reply h op st d) :=
  ⟨tellsOnly_reply s h op st d, fun r hr => by rw [reply_only]; exact hr, reply_lanes_length s h op st d, fun hl => by rw [reply_only]; exact hl⟩

theorem queueLedger_keeps (s : State) (x : Record) : ∀ r ∈ s.ledger.waiting, r ∈ (s.queueLedger x).ledger.waiting := by
  intro r hr
  unfold State.queueLedger
  dsimp only
  split
  · rw [bump_only]
    exact hr
  · exact List.mem_append_left _ hr

theorem queueLedger_latch (s : State) (x : Record) : (s.queueLedger x).lantern = s.lantern := by
  obtain ⟨_, _, e⟩ := queueLedger_only s x
  rw [e]

/-- What a record raised keeps in line, and the latch it may set. -/
theorem raiseAt_keeps (s : State) (r : Record) (k : Nat × Nat) :
    (∀ x ∈ s.ledger.waiting, x ∈ (s.raiseAt r k).ledger.waiting) ∧
      (s.raiseAt r k).lantern = { s.lantern with latch := (kindPlaces r.kind r.detail).2.2 || s.lantern.latch } := by
  unfold State.raiseAt
  dsimp only
  generalize kindPlaces r.kind r.detail = pl
  obtain ⟨a, b, c⟩ := pl
  generalize ({ r with
    flags := _, clockKind := _, clock := _, boot := _, uptime := _, eventSeq := _ } : Record) = y
  have hent : (if a = true then s.enterEvent y else s).ledger = s.ledger ∧ (if a = true then s.enterEvent y else s).lantern = s.lantern := by
    cases a <;> exact ⟨rfl, rfl⟩
  generalize (if a = true then s.enterEvent y else s) = u at hent ⊢
  obtain ⟨hl, hla⟩ := hent
  have hqueue : (∀ x ∈ s.ledger.waiting, x ∈ (if b = true then u.queueLedger y else u).ledger.waiting) ∧
      (if b = true then u.queueLedger y else u).lantern = s.lantern := by
    cases b
    · exact ⟨fun x hx => by rw [if_neg Bool.false_ne_true, hl]; exact hx, hla⟩
    · exact ⟨fun x hx => by rw [if_pos rfl]; exact queueLedger_keeps u y x (hl ▸ hx), (queueLedger_latch u y).trans hla⟩
  generalize (if b = true then u.queueLedger y else u) = v at hqueue ⊢
  obtain ⟨hw, hv⟩ := hqueue
  cases c
  · exact ⟨hw, by rw [if_neg Bool.false_ne_true, hv, Bool.false_or]⟩
  · exact ⟨hw, by rw [if_pos rfl, hv, Bool.true_or]⟩

theorem tells_raiseAt (s : State) (r : Record) (k : Nat × Nat) : s.tells (s.raiseAt r k) := by
  obtain ⟨hw, hl⟩ := raiseAt_keeps s r k
  refine ⟨tellsOnly_raiseAt s r k, hw, ?_, fun h => ?_⟩
  · obtain ⟨_, _, _, _, e⟩ := raiseAt_only s r k
    rw [e]
  · rw [hl, h, Bool.or_true]

theorem tells_raise (s : State) (r : Record) (b : Option Blk) : s.tells (s.raise r b) := tells_raiseAt s r _

/-- A record raised is in line for the Ledger where its kind is written and never suppressed. -/
theorem raise_waits (s : State) {r : Record} (b : Option Blk) (h : (kindPlaces r.kind r.detail).2.1 = true)
    (hs : neverSuppressed r.kind = true) : ∃ x ∈ (s.raise r b).ledger.waiting, x.kind = r.kind := by
  unfold State.raise State.raiseAt
  dsimp only
  rw [h, if_pos rfl]
  generalize hy : ({ r with
    flags := _, clockKind := _, clock := _, boot := _, uptime := _, eventSeq := _ } : Record) = y
  have hk : y.kind = r.kind := by rw [← hy]
  generalize (if (kindPlaces r.kind r.detail).1 = true then s.enterEvent y else s) = u
  have hq : y ∈ (u.queueLedger y).ledger.waiting := queueLedger_waiting u (by rw [hk]; exact hs)
  split
  · exact ⟨y, hq, hk⟩
  · exact ⟨y, hq, hk⟩

theorem tells_failReply (s : State) (h : ReqHdr) (op : Nat) (f : Failure) (rec : Nat) : s.tells (s.failReply h op f rec) := by
  unfold State.failReply
  generalize (if f.status = stWrongState then { f with detail := s.dev.code } else f) = g
  dsimp only
  refine State.tells.trans ?_ (tells_reply _ h op _ _)
  split
  · exact (tells_setLane s _ _).trans (tells_raiseAt _ _ _)
  · split
    · exact tells_setLane s _ _
    · exact State.tells.refl s

/-! ### The lane of a failure -/

theorem reply_held (s : State) (h : ReqHdr) (op st : Nat) (d : List Byte) (l : Nat) : ((s.reply h op st d).lane l).held = (s.lane l).held := by
  unfold State.reply
  dsimp only
  rw [lane_setLane]
  have hl (k : Nat) : (s.sendReply { hdr := h, opcode := op, status := st, payload := d }).lane k = s.lane k := by rw [sendReply_only]; rfl
  split
  · next c => rw [c.1, hl]
  · rw [hl]

/-- A failure of class 2 holds the lane of its command (R71). -/
theorem failReply_held {s : State} {h : ReqHdr} {op : Nat} {f : Failure} {rec : Nat} (hl : h.lane < s.lanes.length) (h2 : f.status / 0x1000 = 2)
    (hw : f.status ≠ stWrongState) : ((s.failReply h op f rec).lane h.lane).held = some h.seq := by
  unfold State.failReply
  rw [if_neg hw]
  dsimp only
  rw [if_pos h2, reply_held]
  obtain ⟨_, _, _, _, e⟩ := raiseAt_only (s.setLane h.lane { s.lane h.lane with held := some h.seq }) (f.record 0x0010 h rec) (s.failClock f)
  rw [e]
  show ((s.setLane h.lane { s.lane h.lane with held := some h.seq }).lane h.lane).held = _
  rw [lane_setLane, if_pos ⟨rfl, hl⟩]

/-- A failure of another class holds no lane, but for an abort of a step. -/
theorem failReply_held_of_class {s : State} {h : ReqHdr} {op : Nat} {f : Failure} {rec : Nat} (h2 : f.status / 0x1000 ≠ 2)
    (h3 : f.status / 0x1000 ≠ 3 ∨ op ≠ 0x0403) (hw : f.status ≠ stWrongState) (l : Nat) :
    ((s.failReply h op f rec).lane l).held = (s.lane l).held := by
  unfold State.failReply
  rw [if_neg hw]
  dsimp only
  rw [if_neg h2, if_neg fun h => h3.elim (fun n => n h.1) fun n => n h.2, reply_held]

/-! ### One lane after the other -/

/-- What is done for the command of a lane ends it, or is nothing at all. -/
structure Settles (p : Job → Prop) (g : State → Job → State) : Prop where
  idle : ∀ u j, ¬ p j → g u j = u
  length : ∀ u j, (g u j).lanes.length = u.lanes.length
  other : ∀ u j k, k ≠ j.hdr.lane → (g u j).lane k = u.lane k
  frees : ∀ u j, p j → j.hdr.lane < u.lanes.length → (u.lane j.hdr.lane).job = some j → ((g u j).lane j.hdr.lane).job = none

/-- The commands of a list of lanes, one after the other. -/
def State.eachJob (g : State → Job → State) (ls : List Lane) (s : State) : State :=
  ls.foldl (fun s l => l.job.elim s (g s)) s

theorem eachJob_length {p : Job → Prop} {g : State → Job → State} (hg : Settles p g) : ∀ (ls : List Lane) (s : State),
    (State.eachJob g ls s).lanes.length = s.lanes.length
  | [], _ => rfl
  | l :: ls, s => by
    refine (eachJob_length hg ls (l.job.elim s (g s))).trans ?_
    cases l.job with
    | none => rfl
    | some j => exact hg.length s j

/-- One lane's command ended, or left alone. -/
theorem jobStep_spec {p : Job → Prop} [DecidablePred p] {g : State → Job → State} (hg : Settles p g) {s : State} {l : Lane} {i : Nat}
    (h0 : s.lane i = l) (hhome : ∀ j, l.job = some j → j.hdr.lane = i) (hi : i < s.lanes.length) :
    (∀ k, k ≠ i → (l.job.elim s (g s)).lane k = s.lane k) ∧
      ((l.job.elim s (g s)).lane i).job = l.job.filter fun j => ¬ p j := by
  cases hj : l.job with
  | none => exact ⟨fun _ _ => rfl, by rw [Option.elim_none, h0, hj]; rfl⟩
  | some j =>
    have hjl := hhome j hj
    rw [Option.elim_some]
    refine ⟨fun k hk => hg.other s j k (by rw [hjl]; exact hk), ?_⟩
    by_cases hp : p j
    · rw [Option.filter_some, if_neg (by simpa using hp)]
      have := hg.frees s j hp (by rw [hjl]; exact hi) (by rw [hjl, h0, hj])
      rwa [hjl] at this
    · rw [Option.filter_some, if_pos (by simpa using hp), hg.idle s j hp, h0, hj]

/-- Lanes from the `i`-th on: those before stay, and a command that is to end has ended. -/
theorem eachJob_from {p : Job → Prop} [DecidablePred p] {g : State → Job → State} (hg : Settles p g) : ∀ (ls : List Lane) (i : Nat) (s : State),
    (∀ k, k < ls.length → s.lane (i + k) = ls.getD k {}) → (∀ k j, (s.lane (i + k)).job = some j → j.hdr.lane = i + k) →
    i + ls.length = s.lanes.length →
    (∀ k, k < i → (State.eachJob g ls s).lane k = s.lane k) ∧
      ∀ k, k < ls.length → ((State.eachJob g ls s).lane (i + k)).job = (s.lane (i + k)).job.filter fun j => ¬ p j
  | [], _, s, _, _, _ => ⟨fun _ _ => rfl, fun _ h => absurd h (Nat.not_lt_zero _)⟩
  | l :: ls, i, s, hlanes, hhome, hlen => by
    have h0 : s.lane i = l := hlanes 0 (Nat.zero_lt_succ _)
    rw [List.length_cons] at hlen
    obtain ⟨hother, hjob⟩ := jobStep_spec hg h0 (fun j hj => hhome 0 j (by rw [Nat.add_zero, h0, hj])) (by omega)
    have hulen : (l.job.elim s (g s)).lanes.length = s.lanes.length := eachJob_length hg [l] s
    have hnext (k : Nat) : (l.job.elim s (g s)).lane (i + 1 + k) = s.lane (i + (k + 1)) := by
      rw [hother (i + 1 + k) (by omega), Nat.add_right_comm, Nat.add_assoc]
    obtain ⟨hbefore, hafter⟩ := eachJob_from hg ls (i + 1) (l.job.elim s (g s))
      (fun k hk => (hnext k).trans (hlanes (k + 1) (Nat.succ_lt_succ hk)))
      (fun k j hj => by
        rw [hnext k] at hj
        exact (hhome (k + 1) j hj).trans (by omega)) (by omega)
    refine ⟨fun k hk => (hbefore k (by omega)).trans (hother k (by omega)), fun k hk => ?_⟩
    cases k with
    | zero =>
      rw [Nat.add_zero, h0]
      exact (congrArg Lane.job (hbefore i (Nat.lt_succ_self i))).trans hjob
    | succ k =>
      have h := hafter k (Nat.lt_of_succ_lt_succ hk)
      rwa [hnext k, Nat.add_right_comm, Nat.add_assoc] at h

/-- The commands of all lanes, each of its own lane: those that are to end have ended, the others are as they were. -/
theorem eachJob_spec {p : Job → Prop} [DecidablePred p] {g : State → Job → State} (hg : Settles p g) {s : State} (hh : s.jobsHome) (k : Nat) :
    ((State.eachJob g s.lanes s).lane k).job = (s.lane k).job.filter fun j => ¬ p j := by
  by_cases hk : k < s.lanes.length
  · have h := (eachJob_from hg s.lanes 0 s (fun k _ => by rw [Nat.zero_add]; rfl) (fun k j hj => by
      rw [Nat.zero_add] at hj ⊢
      exact hh k j hj) (by rw [Nat.zero_add])).2 k hk
    rwa [Nat.zero_add] at h
  · have hout (u : State) (hu : u.lanes.length = s.lanes.length) : u.lane k = {} := by
      unfold State.lane
      rw [getD_of_length_le _ _ (by omega)]
    rw [hout _ (eachJob_length hg _ _), hout s rfl]
    rfl

/-! ### Commands that end with a failure -/

/-- The command of a reply is no longer running. -/
theorem reply_frees_of_lt {s : State} {j : Job} (op st : Nat) (d : List Byte) (hl : j.hdr.lane < s.lanes.length)
    (hj : (s.lane j.hdr.lane).job = some j) : ((s.reply j.hdr op st d).lane j.hdr.lane).job = none := by
  unfold State.reply
  dsimp only
  rw [lane_setLane, if_pos ⟨rfl, by rw [sendReply_lanes]; exact hl⟩]
  have he : ((s.sendReply { hdr := j.hdr, opcode := op, status := st, payload := d }).lane j.hdr.lane).job = some j := by
    rw [sendReply_only]
    exact hj
  simp only [he, if_true]

theorem failReply_frees_of_lt {s : State} {j : Job} (op : Nat) (f : Failure) (rec : Nat) (hl : j.hdr.lane < s.lanes.length)
    (hj : (s.lane j.hdr.lane).job = some j) : ((s.failReply j.hdr op f rec).lane j.hdr.lane).job = none := by
  obtain ⟨g, u, e, -, hlen, hlane⟩ := failReply_cases s j.hdr op f rec
  rw [e]
  exact reply_frees_of_lt op _ _ (by rw [hlen]; exact hl) ((hlane _).1.trans hj)

/-- Commands of a kind that end with a failure. -/
theorem settles_failReply (p : Job → Prop) [DecidablePred p] (f : Job → Failure) :
    Settles p fun u j => if p j then u.failReply j.hdr j.opcode (f j) else u where
  idle u j h := if_neg h
  length u j := by
    split
    · exact (tells_failReply u _ _ _ _).length
    · rfl
  other u j k hk := by
    split
    · exact failReply_other u _ _ _ hk
    · rfl
  frees u j h hl hj := by
    rw [if_pos h]
    exact failReply_frees_of_lt _ _ _ hl hj

theorem tells_eachJob {g : State → Job → State} (hg : ∀ (u : State) (j : Job), u.tells (g u j)) (ls : List Lane) (s : State) : s.tells (State.eachJob g ls s) :=
  State.tells.foldl (fun u l => by
    cases l.job with
    | none => exact State.tells.refl u
    | some j => exact hg u j) ls s

theorem failWaking_eq (s : State) (f : Failure) : s.failWaking f = State.eachJob
    (fun u j => if j.opcode = 0x0403 ∧ j.kind = .waitWake then u.failReply j.hdr j.opcode f else u) s.lanes s := by
  unfold State.failWaking State.eachJob
  congr 1
  funext u l
  cases l.job <;> rfl

theorem tells_failWaking (s : State) (f : Failure) : s.tells (s.failWaking f) := by
  rw [failWaking_eq]
  refine tells_eachJob (fun u j => ?_) _ s
  split
  · exact tells_failReply _ _ _ _ _
  · exact State.tells.refl u

/-! ### The end of all steps (R71, R103) -/

theorem foldl_abort_only (f : Failure) : ∀ (ts : List Step) (s : State),
    ts.foldl (fun s t => s.abortStep t.lane f t.cur) s = { s with steps := (ts.foldl (fun s t => s.abortStep t.lane f t.cur) s).steps }
  | [], _ => rfl
  | t :: ts, s => foldl_abort_only f ts (s.abortStep t.lane f t.cur)

/-- The end of all steps changes the steps, and what answers and records change. -/
theorem endAllSteps_tells (s : State) (f : Failure) : ({ s with steps := (s.endAllSteps f).steps } : State).tells (s.endAllSteps f) := by
  obtain ⟨ho, hw, hl, hla⟩ := tells_failWaking s f
  have he : s.endAllSteps f = { s.failWaking f with steps := (s.endAllSteps f).steps, lanes := (s.endAllSteps f).lanes } := by
    unfold State.endAllSteps State.failQueued
    rw [foldl_abort_only]
  have hlen : (s.endAllSteps f).lanes.length = s.lanes.length := by
    unfold State.endAllSteps State.failQueued
    rw [foldl_abort_only]
    exact (List.length_map _).trans hl
  refine ⟨?_, ?_, hlen, ?_⟩
  · obtain ⟨_, _, _, _, _, _, e⟩ := ho
    rw [e] at he
    exact ⟨_, _, _, _, _, _, he⟩
  · rw [he]
    exact hw
  · rw [he]
    exact hla

/-- A step that has failed keeps its failure. -/
theorem fails_abortStep {s : State} {l : Nat} {f : Failure} {rec : Nat} (h : s.fails l f rec) (k : Nat) (g : Failure) (r : Nat) :
    (s.abortStep k g r).fails l f rec := by
  unfold State.fails at h ⊢
  obtain ⟨t, ht, hf⟩ := Option.map_eq_some_iff.mp h
  rw [abortStep_eq, stepOf_modStep s k l (aborted_lane g r _), ht]
  split
  · simp [Step.aborted, hf]
  · simp [hf]

theorem foldl_abort_keeps {l : Nat} {f : Failure} {rec : Nat} (g : Failure) : ∀ (ts : List Step) {s : State}, s.fails l f rec →
    (ts.foldl (fun s t => s.abortStep t.lane g t.cur) s).fails l f rec
  | [], _, h => h
  | _ :: ts, _, h => foldl_abort_keeps g ts (fails_abortStep h _ _ _)

theorem stepOf_abortStep_other (s : State) {k l : Nat} (h : l ≠ k) (f : Failure) (r : Nat) : (s.abortStep k f r).stepOf l = s.stepOf l := by
  rw [abortStep_eq, stepOf_modStep s k l (aborted_lane f r _), if_neg h]

/-- Of the steps that are ended in turn the first one of a lane decides its record. -/
theorem foldl_abort_fails {x : Step} (f : Failure) (hf : x.failure = none) (hd : x.teardown = false) : ∀ (ts : List Step) {s : State},
    ts.find? (fun t => t.lane = x.lane) = some x → s.stepOf x.lane = some x →
    (ts.foldl (fun s t => s.abortStep t.lane f t.cur) s).fails x.lane f x.cur
  | [], _, h, _ => by simp at h
  | t :: ts, s, h, hs => by
    rw [List.foldl_cons]
    rw [List.find?_cons] at h
    by_cases ht : t.lane = x.lane
    · simp only [ht, decide_true, Option.some.injEq] at h
      subst h
      exact foldl_abort_keeps f ts (abortStep_fails hs hf hd f _)
    · simp only [ht, decide_false] at h
      exact foldl_abort_fails f hf hd ts h ((stepOf_abortStep_other s (fun e => ht e.symm) f t.cur).trans hs)

theorem endAllSteps_fails {s : State} {x : Step} (hs : s.stepOf x.lane = some x) (hf : x.failure = none) (hd : x.teardown = false)
    (f : Failure) : (s.endAllSteps f).fails x.lane f x.cur := by
  have hsteps : (s.failWaking f).steps = s.steps := (tells_failWaking s f).only.steps
  have h : (s.steps.foldl (fun s t => s.abortStep t.lane f t.cur) (s.failWaking f)).fails x.lane f x.cur :=
    foldl_abort_fails f hf hd s.steps hs (by unfold State.stepOf; rw [hsteps]; exact hs)
  exact h

theorem foldl_abort_length (f : Failure) : ∀ (ts : List Step) (s : State),
    (ts.foldl (fun s t => s.abortStep t.lane f t.cur) s).steps.length = s.steps.length
  | [], _ => rfl
  | t :: ts, s => (foldl_abort_length f ts (s.abortStep t.lane f t.cur)).trans (List.length_map _)

theorem endAllSteps_length (s : State) (f : Failure) : (s.endAllSteps f).steps.length = s.steps.length :=
  (foldl_abort_length f s.steps (s.failWaking f)).trans (congrArg List.length (tells_failWaking s f).only.steps)

/-! ### FAULT (R71) -/

/-- What FAULT changes: the steps end, sources, drivers and heaters are off, no entry, wake or hold goes on. -/
theorem toFault_spec (s : State) (f : Failure) :
    (s.toFault f).dev = .fault ∧ (s.toFault f).vane.drives = [] ∧
      (∃ la, (s.toFault f).lantern = { s.lantern with latch := la, entry := none, waking := none, hold := none, dozeDue := false, fault := some f }) ∧
      ∀ r ∈ s.ledger.waiting, r ∈ (s.toFault f).ledger.waiting := by
  obtain ⟨ho, hw, -, -⟩ := endAllSteps_tells s f
  obtain ⟨la, hl⟩ := ho.lantern
  refine ⟨rfl, rfl, ⟨la, ?_⟩, hw⟩
  show ({ (s.endAllSteps f).lantern with entry := none, waking := none, hold := none, dozeDue := false, fault := some f } : Lantern) = _
  rw [hl]

/-! ### Tests cut short (R398) -/

/-- A command that SUPPLY_FAULT cuts short: a test, or an ENGINE_STOP that waits for one. -/
def Job.isTest (j : Job) : Bool :=
  match j.kind with
  | .marginTest _ _ _ => true
  | .sieveRun _ _ _ _ _ _ _ => true
  | .waitWake => decide (j.opcode = 0x0502)
  | _ => false

/-- What cutting a test short does for the command of one lane. -/
def State.cutTest (f : Failure) (s : State) (j : Job) : State :=
  match j.kind with
  | .marginTest _ _ _ => s.failReply j.hdr j.opcode f
  | .sieveRun t a c b n g k => (s.sieveOpen ⟨t, a, c, b, n, g, k⟩).failReply j.hdr j.opcode f
  | .waitWake => if j.opcode = 0x0502 then s.failReply j.hdr j.opcode f else s
  | _ => s

theorem cutTests_eq (s : State) (f : Failure) : s.cutTests f = State.eachJob (State.cutTest f) s.lanes s := by
  unfold State.cutTests State.eachJob
  congr 1
  funext u l
  cases l.job <;> rfl

/-- A march ends: memory, the sessions, the programs and a free value are what it changes. -/
theorem sieveOpen_only (s : State) (r : Run) : ∃ rg se pr me fr, s.sieveOpen r
    = { s with regs := rg, sessions := se, programs := pr, memory := me, free := fr } := by
  have hpoke (v : List Byte) : ∀ (l : List Nat) (u : State), ∃ me, l.foldl (fun s b => s.poke (bankRange b).1 v) u = { u with memory := me } := by
    intro l
    induction l with
    | nil => exact fun u => ⟨_, rfl⟩
    | cons b t ih =>
      intro u
      obtain ⟨me, e⟩ := ih (u.poke (bankRange b).1 v)
      exact ⟨me, e⟩
  unfold State.sieveOpen
  dsimp only
  split
  · generalize ((List.range 2048).filter fun b => r.units.contains (s.sieve.phys b)) = banks
    obtain ⟨rg, se, pr, e⟩ := dropsOnly_foldl (fun s b => dropsOnly_dropTouched s (bankRange b)) banks s.takeFree.2
    obtain ⟨me, e'⟩ := hpoke (le bankBytes s.takeFree.1) banks (banks.foldl (fun s b => s.dropTouched (bankRange b)) s.takeFree.2)
    rw [e', e]
    exact ⟨rg, se, pr, me, _, rfl⟩
  · split
    · exact ⟨_, _, _, _, _, rfl⟩
    · exact ⟨_, _, _, _, _, rfl⟩

theorem cutTest_settles (f : Failure) : Settles (fun j => j.isTest = true) (State.cutTest f) := by
  have hopen (u : State) (r : Run) : (u.sieveOpen r).lanes = u.lanes := by
    obtain ⟨_, _, _, _, _, e⟩ := sieveOpen_only u r
    rw [e]
  have hlane (u : State) (r : Run) (k : Nat) : (u.sieveOpen r).lane k = u.lane k := by unfold State.lane; rw [hopen]
  refine ⟨fun u j h => ?_, fun u j => ?_, fun u j k hk => ?_, fun u j h hl hj => ?_⟩
  · unfold Job.isTest at h
    unfold State.cutTest
    cases hk : j.kind <;> simp_all
  · unfold State.cutTest
    split
    · exact (tells_failReply u _ _ _ _).length
    · exact (tells_failReply _ _ _ _ _).length.trans (by rw [hopen])
    · split
      · exact (tells_failReply u _ _ _ _).length
      · rfl
    · rfl
  · unfold State.cutTest
    split
    · exact failReply_other u _ _ _ hk
    · exact (failReply_other _ _ _ _ hk).trans (hlane u _ k)
    · split
      · exact failReply_other u _ _ _ hk
      · rfl
    · rfl
  · unfold Job.isTest at h
    unfold State.cutTest
    split
    · exact failReply_frees_of_lt _ _ _ hl hj
    · exact failReply_frees_of_lt _ _ _ (by rw [hopen]; exact hl) (by rw [hlane]; exact hj)
    · next hk =>
      rw [hk] at h
      rw [if_pos (of_decide_eq_true h)]
      exact failReply_frees_of_lt _ _ _ hl hj
    · next h1 h2 h3 =>
      cases hk : j.kind with
      | marginTest => exact absurd hk (h1 _ _ _)
      | sieveRun => exact absurd hk (h2 _ _ _ _ _ _ _)
      | waitWake => exact absurd hk h3
      | _ =>
        rw [hk] at h
        exact absurd h Bool.false_ne_true

/-- A lane without a test: nothing is under test once every test has been cut short. -/
theorem testing_of_no_tests {s : State} (h : ∀ k j, (s.lane k).job = some j → j.isTest = false) : s.testing = false := by
  unfold State.testing State.anyJob
  rw [List.any_eq_false]
  intro l hl
  obtain ⟨k, hk, rfl⟩ := List.getElem_of_mem hl
  have hlane : s.lane k = s.lanes[k] := getD_of_lt _ _ hk
  cases hj : s.lanes[k].job with
  | none => simp
  | some j =>
    have := h k j (by rw [hlane, hj])
    unfold Job.isTest at this
    cases hkind : j.kind <;> simp_all

end Sys2Proof.Machine
end

section
/-!
PROOFS. What an entry into IDLE, DOZE or NIGHT changes (R330, R361, R376, R392).
-/
namespace Sys2Proof.Machine

/-! ### Entries into a power state (R330, R361, R376, R392) -/

theorem abandonRun_only (s : State) (f : Nat) (keep : Bool) : ∃ rg wi, s.abandonRun f keep = { s with regs := rg, winnow := wi } := by
  unfold State.abandonRun
  dsimp only
  split
  · exact ⟨s.regs, s.winnow, rfl⟩
  · rw [bump_only]
    exact ⟨_, _, rfl⟩

theorem abandonRuns_only (s : State) : ∃ rg wi, s.abandonRuns = { s with regs := rg, winnow := wi } := by
  unfold State.abandonRuns
  generalize List.range 10 = l
  induction l generalizing s with
  | nil => exact ⟨s.regs, s.winnow, rfl⟩
  | cons f t ih =>
    obtain ⟨rg, wi, e⟩ := abandonRun_only s f false
    obtain ⟨rg', wi', e'⟩ := ih (s.abandonRun f false)
    refine ⟨rg', wi', ?_⟩
    rw [List.foldl_cons, e', e]

/-- A SOURCE_SPARE waits for its exchange. -/
def Job.isSpare (j : Job) : Bool := match j.kind with | .sourceSpare _ => true | _ => false

/-- A SOURCE_SPARE that waits for an exchange ends with OK_DEGRADED when exchanges end (R360, R361). -/
def State.endSpare (s : State) (j : Job) : State := if j.isSpare = true then s.reply j.hdr j.opcode stDegraded else s

theorem endExchanges_eq (s : State) : s.endExchanges = State.eachJob State.endSpare s.lanes
    { s with exchanges := [], sources := s.sources.map fun x => { x with ready := false, warming := false } } := by
  unfold State.endExchanges State.eachJob
  dsimp only
  congr 1
  funext u l
  cases hj : l.job with
  | none => rfl
  | some j =>
    obtain ⟨hdr, op, cmd, kind⟩ := j
    rw [Option.elim_some, State.endSpare, Job.isSpare]
    cases kind <;> rfl

theorem endSpare_settles : Settles (fun j => j.isSpare = true) State.endSpare where
  idle u j h := if_neg h
  length u j := by
    unfold State.endSpare
    split
    · exact (tells_reply u _ _ _ _).length
    · rfl
  other u j k hk := by
    unfold State.endSpare
    split
    · exact reply_other u _ _ _ _ hk
    · rfl
  frees u j h hl hj := by
    unfold State.endSpare
    rw [if_pos h]
    exact reply_frees_of_lt _ _ _ hl hj

theorem endSpare_tells (u : State) (j : Job) : u.tells (u.endSpare j) := by
  unfold State.endSpare
  split
  · exact tells_reply u _ _ _ _
  · exact State.tells.refl u

/-- The end of all exchanges: the SOURCE_SPAREs that wait end, every other command stays. -/
theorem endExchanges_spec (s : State) :
    ({ s with exchanges := [], sources := s.sources.map fun x => { x with ready := false, warming := false } } : State).tells s.endExchanges ∧
      s.endExchanges.lanes.length = s.lanes.length ∧
      (s.jobsHome → ∀ k, (s.endExchanges.lane k).job = (s.lane k).job.filter fun j => ¬ j.isSpare = true) := by
  rw [endExchanges_eq]
  exact ⟨tells_eachJob endSpare_tells _ _, eachJob_length endSpare_settles _ _, fun hh k => eachJob_spec endSpare_settles
    (s := { s with exchanges := [], sources := s.sources.map fun x => { x with ready := false, warming := false } }) hh k⟩

/-- The power state a wake without another target goes back to (R391). -/
def State.sleepsFrom (s : State) : DState :=
  if s.dev = .ready ∨ s.dev = .idle then s.dev else if s.dev = .run then .ready else s.lantern.sleptFrom

/-- The entry into IDLE is reported at once (R392). -/
theorem beginEntry_idle (s : State) : s.beginEntry .idle
    = { s with dev := .idle, lantern := { s.lantern with sleptFrom := s.sleepsFrom, entry := some ⟨.idle⟩ } } := by
  unfold State.beginEntry
  rw [if_pos rfl]
  rfl

/-- What the entry into DOZE or NIGHT changes beside the device state and the Lantern's marks. -/
def State.sleepsOnly (s t : State) : Prop := ∃ rg ls sn ev lg la me wi fr so va ex dn, t = { s with
  regs := rg, lanes := ls, net := { s.net with sent := sn }, events := ev, ledger := lg, lantern := { s.lantern with latch := la }
  memory := me, winnow := wi, free := fr, sources := so, vane := va, exchanges := ex, down := dn }

namespace State.sleepsOnly
variable {s t u : State}

theorem trans (h : s.sleepsOnly t) (k : t.sleepsOnly u) : s.sleepsOnly u := by
  obtain ⟨_, _, _, _, _, _, _, _, _, _, _, _, _, rfl⟩ := h
  obtain ⟨_, _, _, _, _, _, _, _, _, _, _, _, _, rfl⟩ := k
  exact ⟨_, _, _, _, _, _, _, _, _, _, _, _, _, rfl⟩

theorem of_memOnly (h : s.memOnly t) : s.sleepsOnly t := by
  obtain ⟨_, _, _, _, _, _, rfl⟩ := h
  exact ⟨_, _, _, _, _, _, _, _, _, _, _, _, _, rfl⟩

theorem of_tells (h : s.tells t) : s.sleepsOnly t := by
  obtain ⟨_, _, _, _, _, _, rfl⟩ := h.only
  exact ⟨_, _, _, _, _, _, _, _, _, _, _, _, _, rfl⟩

theorem abandonRuns (s : State) : s.sleepsOnly s.abandonRuns := by
  obtain ⟨_, _, e⟩ := abandonRuns_only s
  rw [e]
  exact ⟨_, _, _, _, _, _, _, _, _, _, _, _, _, rfl⟩

theorem parts (s : State) (so : List Source) (va : Vane) (ex : List Exchange) (dn : Option Asleep) :
    s.sleepsOnly { s with sources := so, vane := va, exchanges := ex, down := dn } :=
  ⟨_, _, _, _, _, _, _, _, _, _, _, _, _, rfl⟩

theorem endExchanges (s : State) : s.sleepsOnly s.endExchanges :=
  (parts s _ s.vane [] s.down).trans (of_tells (endExchanges_spec s).1)

end State.sleepsOnly

/-- The entry into DOZE or NIGHT begins with what the state is reported as. -/
def State.reportsEntry (s : State) (d : DState) : State :=
  { s with dev := d, lantern := { s.lantern with sleptFrom := s.sleepsFrom, entry := some ⟨d⟩ } }

/-- The merge buffers flushed and the Winnow's runs abandoned, on the way into DOZE or NIGHT. -/
def State.runsEnd (s : State) (d : DState) : State := ((s.reportsEntry d).flushAll s.memory.merge).abandonRuns

/-- The state in which an entry into DOZE or NIGHT has ended what has to end. -/
def State.entryEnds (s : State) (d : DState) : State := (s.runsEnd d).endExchanges

theorem runsEnd_spec (s : State) (d : DState) : (s.reportsEntry d).sleepsOnly (s.runsEnd d) ∧ (s.runsEnd d).lanes = s.lanes := by
  have hmem := memOnly_flushAll (s.reportsEntry d) s.memory.merge
  refine ⟨(State.sleepsOnly.of_memOnly hmem).trans (State.sleepsOnly.abandonRuns _), ?_⟩
  obtain ⟨_, _, h⟩ := abandonRuns_only ((s.reportsEntry d).flushAll s.memory.merge)
  unfold State.runsEnd
  rw [h]
  exact hmem.lanes

theorem entryEnds_spec (s : State) (d : DState) : (s.reportsEntry d).sleepsOnly (s.entryEnds d) ∧ (s.entryEnds d).exchanges = [] ∧
    (s.entryEnds d).lanes.length = s.lanes.length ∧
    (s.jobsHome → ∀ k, ((s.entryEnds d).lane k).job = (s.lane k).job.filter fun j => ¬ j.isSpare = true) := by
  obtain ⟨honly, hlanes⟩ := runsEnd_spec s d
  have hlane (k : Nat) : (s.runsEnd d).lane k = s.lane k := by unfold State.lane; rw [hlanes]
  obtain ⟨htells, hlen, hjobs⟩ := endExchanges_spec (s.runsEnd d)
  refine ⟨honly.trans (State.sleepsOnly.endExchanges _), ?_, hlen.trans (congrArg List.length hlanes), fun hh k => ?_⟩
  · obtain ⟨_, _, _, _, _, _, h⟩ := htells.only
    unfold State.entryEnds
    rw [h]
  · rw [← hlane k]
    exact hjobs (fun k j hj => hh k j (by rw [← hlane k]; exact hj)) k

/-- The sources off, no hold, and the loops and powered-down blocks as given. -/
def State.fallAsleep (u : State) (va : Vane) (dn : Option Asleep) : State :=
  { u with
    down := dn, lantern := { u.lantern with hold := none }
    sources := u.sources.map fun x => { x with locked := false }, vane := va }

theorem fallAsleep_lanes (u : State) (va : Vane) (dn : Option Asleep) : (u.fallAsleep va dn).lanes = u.lanes := rfl

theorem fallAsleep_exchanges (u : State) (va : Vane) (dn : Option Asleep) : (u.fallAsleep va dn).exchanges = u.exchanges := rfl

theorem fallAsleep_sources (u : State) (va : Vane) (dn : Option Asleep) : ∀ x ∈ (u.fallAsleep va dn).sources, x.locked = false := by
  intro x hx
  obtain ⟨y, -, rfl⟩ := List.mem_map.mp hx
  rfl

theorem beginEntry_eq (s : State) {d : DState} (hd : d ≠ .idle) : ∃ va dn, s.beginEntry d = (s.entryEnds d).fallAsleep va dn := by
  unfold State.beginEntry
  rw [if_neg hd]
  dsimp only
  generalize hu : State.endExchanges _ = u
  have hu : s.entryEnds d = u := hu
  rw [hu]
  exact ⟨_, _, rfl⟩

theorem sleepsOnly_fallAsleep {s t : State} (h : s.sleepsOnly t) (va : Vane) (dn : Option Asleep) :
    ({ s with lantern := { s.lantern with hold := none } } : State).sleepsOnly (t.fallAsleep va dn) := by
  obtain ⟨rg, ls, sn, ev, lg, la, me, wi, fr, so, va', ex, dn', rfl⟩ := h
  exact ⟨rg, ls, sn, ev, lg, la, me, wi, fr, so.map fun x => { x with locked := false }, va, ex, dn, rfl⟩

/-- What the entry into DOZE or NIGHT changes (R330, R361, R376, R398). -/
theorem beginEntry_sleep (s : State) {d : DState} (hd : d ≠ .idle) :
    ({ s.reportsEntry d with lantern := { (s.reportsEntry d).lantern with hold := none } } : State).sleepsOnly (s.beginEntry d) ∧
    (s.beginEntry d).exchanges = [] ∧ (∀ x ∈ (s.beginEntry d).sources, x.locked = false) ∧
    (s.beginEntry d).lanes.length = s.lanes.length ∧
    (s.jobsHome → ∀ k, ((s.beginEntry d).lane k).job = (s.lane k).job.filter fun j => ¬ j.isSpare = true) := by
  obtain ⟨va, dn, e⟩ := beginEntry_eq s hd
  obtain ⟨honly, hex, hlen, hjob⟩ := entryEnds_spec s d
  rw [e]
  refine ⟨sleepsOnly_fallAsleep honly va dn, by rw [fallAsleep_exchanges]; exact hex, fallAsleep_sources _ va dn,
    by rw [fallAsleep_lanes]; exact hlen, fun hh k => by rw [State.lane, fallAsleep_lanes]; exact hjob hh k⟩

end Sys2Proof.Machine
end

section
/-!
PROOFS. Temperatures and what follows from them (O58).
-/
namespace Sys2Proof.Machine

/-! ### Conversions (R380, R384, R385, R389) -/

/-- What the bands and alerts of a conversion change: no diode channel and not the device state. -/
def State.warmsOnly (s t : State) : Prop := ∃ rg ev lg ho pb th ts la va, t = { s with
  regs := rg, events := ev, ledger := lg, vane := va
  lantern := { s.lantern with hot := ho, pBand := pb, throttle := th, therms := ts, latch := la } }

namespace State.warmsOnly
variable {s t u : State}

theorem refl (s : State) : s.warmsOnly s := ⟨_, _, _, _, _, _, _, _, _, rfl⟩

theorem trans (h : s.warmsOnly t) (k : t.warmsOnly u) : s.warmsOnly u := by
  obtain ⟨_, _, _, _, _, _, _, _, _, rfl⟩ := h
  obtain ⟨_, _, _, _, _, _, _, _, _, rfl⟩ := k
  exact ⟨_, _, _, _, _, _, _, _, _, rfl⟩

theorem foldl {β : Type} {f : State → β → State} (hf : ∀ (s : State) (x : β), s.warmsOnly (f s x)) : ∀ (l : List β) (s : State), s.warmsOnly (l.foldl f s)
  | [], s => refl s
  | x :: l, s => (hf s x).trans (foldl hf l (f s x))

theorem ite {p : Prop} [Decidable p] (h : s.warmsOnly t) (k : s.warmsOnly u) : s.warmsOnly (if p then u else t) := by
  split
  · exact k
  · exact h

theorem raise (s : State) (r : Record) (b : Option Blk) : s.warmsOnly (s.raise r b) := by
  obtain ⟨_, _, _, _, e⟩ := raise_only s r b
  rw [e]
  exact ⟨_, _, _, _, _, _, _, _, _, rfl⟩

theorem dev (h : s.warmsOnly t) : t.dev = s.dev := by
  obtain ⟨_, _, _, _, _, _, _, _, _, rfl⟩ := h
  rfl

theorem diodes (h : s.warmsOnly t) : t.lantern.diodes = s.lantern.diodes := by
  obtain ⟨_, _, _, _, _, _, _, _, _, rfl⟩ := h
  rfl

end State.warmsOnly

theorem warmsOnly_hotBand (s : State) (f : Nat) : s.warmsOnly (s.hotBand f) := by
  unfold State.hotBand
  dsimp only
  cases s.tempOf f with
  | none => exact State.warmsOnly.refl s
  | some q =>
    dsimp only
    split
    · exact ⟨_, _, _, _, _, _, _, _, _, rfl⟩
    · split
      · exact ⟨_, _, _, _, _, _, _, _, _, rfl⟩
      · exact State.warmsOnly.refl s

theorem warmsOnly_applyBias (s : State) : s.warmsOnly s.applyBias :=
  State.warmsOnly.foldl (fun _ _ => ⟨_, _, _, _, _, _, _, _, _, rfl⟩) _ s

theorem warmsOnly_photonicBand (s : State) : s.warmsOnly s.photonicBand := by
  unfold State.photonicBand
  cases s.highest [10, 11, 12, 13] with
  | none => exact State.warmsOnly.refl s
  | some q =>
    dsimp only
    have h (b th : Nat) : s.warmsOnly { s with lantern := { s.lantern with pBand := b, throttle := th } } := ⟨_, _, _, _, _, _, _, _, _, rfl⟩
    have hb {p : Prop} [Decidable p] (b th : Nat) : s.warmsOnly (if p
        then ({ s with lantern := { s.lantern with pBand := b, throttle := th } } : State).applyBias
        else { s with lantern := { s.lantern with pBand := b, throttle := th } }) :=
      (h b th).ite ((h b th).trans (warmsOnly_applyBias _))
    exact (hb _ _).ite ((hb _ _).trans (State.warmsOnly.raise _ _ _))

theorem warmsOnly_thermAlert (s : State) (n : Nat) : s.warmsOnly (s.thermAlert n) := by
  unfold State.thermAlert
  dsimp only
  cases (s.therm n).now with
  | none => exact State.warmsOnly.refl s
  | some q =>
    dsimp only
    split
    · exact State.warmsOnly.refl s
    · split
      · exact (State.warmsOnly.raise s _ _).trans ⟨_, _, _, _, _, _, _, _, _, rfl⟩
      · split
        · exact ⟨_, _, _, _, _, _, _, _, _, rfl⟩
        · exact State.warmsOnly.refl s

/-- The channels after one conversion of each that is given (R380). -/
def addConversions (cs : List Channel) (vs : List Conv) : List Channel := cs.zipIdx.map fun c => match vs[c.2]? with
  | some v => c.1.add v
  | none => c.1

theorem addConversions_getD {cs : List Channel} {vs : List Conv} {n : Nat} {v : Conv} (hn : n < cs.length) (hv : vs[n]? = some v) :
    (addConversions cs vs).getD n {} = (cs.getD n {}).add v := by
  unfold addConversions
  rw [List.getD_eq_getElem?_getD, List.getElem?_map, List.getElem?_zipIdx, List.getElem?_eq_getElem hn, getD_of_lt _ _ hn]
  simp [hv]

theorem doTempConversion_warms {s : State} (hd : s.dev ≠ .off) (conv therm : List Conv) :
    ({ s with lantern := { s.lantern with
      diodes := addConversions s.lantern.diodes conv, therms := addConversions s.lantern.therms therm } } : State).warmsOnly
      (doTempConversion conv therm s) := by
  unfold doTempConversion
  rw [if_neg hd]
  exact ((State.warmsOnly.foldl warmsOnly_hotBand _ _).trans (warmsOnly_photonicBand _)).trans
    (State.warmsOnly.foldl warmsOnly_thermAlert _ _)

/-! ### Broken sensors (R381 to R383) -/

/-- A sensor that goes out of use changes no channel, and only FAULT follows from it. -/
theorem sensorOut_spec (s : State) (d : Nat) :
    (∃ la en wa ho dd fa, (s.sensorOut d).lantern
      = { s.lantern with latch := la, entry := en, waking := wa, hold := ho, dozeDue := dd, fault := fa }) ∧
      ((s.sensorOut d).dev = s.dev ∨ (s.sensorOut d).dev = .fault) := by
  unfold State.sensorOut
  dsimp only
  have ht : s.tells ((s.raise (lanternRecord 0x0040 d) (some .lantern)).bump (aLantern 0x124)) :=
    (tells_raise s _ _).trans (tells_bump _ _ 1)
  generalize (s.raise (lanternRecord 0x0040 d) (some .lantern)).bump (aLantern 0x124) = u at ht ⊢
  obtain ⟨la, hl⟩ := ht.only.lantern
  split
  · unfold State.enterFault
    generalize hr : State.raise u _ _ = w
    obtain ⟨lb, hlb⟩ := (hr ▸ tells_raise u _ _ : u.tells w).only.lantern
    obtain ⟨hdev, -, ⟨lc, hlc⟩, -⟩ := toFault_spec w { status := stSensorLost, block := 0x0080, inst := 0, detail := d }
    rw [hlb, hl] at hlc
    exact ⟨⟨lc, none, none, none, false, _, hlc⟩, Or.inr hdev⟩
  · exact ⟨⟨la, _, _, _, _, _, hl⟩, Or.inl ht.only.dev⟩

theorem diodeFault_lt {s : State} {n c : Nat} (h : s.diodeFault n c = true) : n < s.lantern.diodes.length := by
  refine Nat.lt_of_not_le fun hn => ?_
  have hd : s.diode n = {} := getD_of_length_le _ _ hn
  unfold State.diodeFault at h
  rw [hd] at h
  split at h
  · exact absurd h (by decide)
  · exact absurd h (by decide)
  · have : (({} : Channel).reading) = none := by decide
    rw [this, Bool.and_false] at h
    exact absurd h (by decide)
  · exact absurd h (by decide)

/-! ### A critical temperature (R387, R388) -/

theorem toFault_of_critical {s : State} {ch : Nat} (hc : s.dev.column ≠ none) (hcrit : s.lantern.critical = none) (hch : s.isCritical ch = true) :
    ∃ r f, r.kind = 0x42 ∧ doThermalShutdown ch s
      = (({ s with lantern := { s.lantern with critical := some (ch, s.clocks.tick) } } : State).raise r (some .lantern)).toFault f := by
  obtain ⟨hoff, -, hshut⟩ := column_ne hc
  unfold doThermalShutdown
  rw [if_neg (by simp [hoff, hcrit, hch]), if_neg hshut]
  dsimp only
  generalize hr : lanternRecord 0x0042 (ch * 65536 + _) stThermalShutdown = r
  have hk : r.kind = 0x42 := by rw [← hr]; rfl
  have hdev := (tells_raise ({ s with lantern := { s.lantern with critical := some (ch, s.clocks.tick) } } : State) r (some .lantern)).only.dev
  rw [if_neg (by rw [hdev]; simpa using hc)]
  exact ⟨r, _, hk, rfl⟩

/-- The shutdown counted, and recorded where it blocks the restart (R388). -/
def State.countShutdown (s : State) (blocked : Bool) : State :=
  if blocked = true then (s.bump (aLantern 0x120)).raise (lanternRecord 0x0043 0) (some .lantern) else s.bump (aLantern 0x120)

theorem countShutdown_only (s : State) (blocked : Bool) : s.wiped ((s.countShutdown blocked).unpower .shutdown false) := by
  have hb := bump_only s (aLantern 0x120) 1
  unfold State.countShutdown
  split
  · obtain ⟨he, -, -, rg, lg, la, hr⟩ := raise_ledgerOnly (s.bump (aLantern 0x120)) (r := lanternRecord 0x0043 0) (some .lantern)
      (latch := true) rfl rfl
    refine wiped_congr ?_ (he.trans (by rw [hb])) ?_ ?_ ?_ (unpower_wiped _ _ _)
    all_goals rw [hr, hb]
  · refine wiped_congr ?_ ?_ ?_ ?_ ?_ (unpower_wiped _ _ _)
    all_goals rw [hb]

theorem thermalLow_shuts {s : State} (h : s.lantern.critical ≠ none) : ∃ b times, s.thermalLow =
    { (s.countShutdown b).shutDown .thermal with lantern := { ((s.countShutdown b).shutDown .thermal).lantern with
        internalHwsd := true, shutTimes := times, restartBlocked := b, critical := none } } := by
  unfold State.thermalLow
  rw [if_neg (by simpa using h)]
  exact ⟨_, _, rfl⟩

/-- Settles O58. -/
theorem temperatureEvents : Obligations.TemperatureEvents := by
  refine ⟨?_, ?_, ?_, ?_, ?_, ?_, ?_, ?_⟩
  · intro s conv therm hd
    have h := doTempConversion_warms hd conv therm
    refine ⟨_, rfl, h.dev, fun n v hn hv => ?_⟩
    have hdiode : (doTempConversion conv therm s).diode n = (addConversions s.lantern.diodes conv).getD n {} :=
      congrArg (·.getD n {}) h.diodes
    rw [hdiode, addConversions_getD hn hv]
    rfl
  · intro s n c hd hn ht hf
    have he : doSensorBroken (.diode n) c s = ({ s with lantern := { s.lantern with
        diodes := setAt s.lantern.diodes n { s.diode n with broken := some c } } } : State).sensorOut n :=
      (if_neg hd).trans (if_pos ⟨hn, ht, hf⟩)
    obtain ⟨⟨_, _, _, _, _, _, hl⟩, hdev⟩ := sensorOut_spec ({ s with lantern := { s.lantern with
        diodes := setAt s.lantern.diodes n { s.diode n with broken := some c } } } : State) n
    have hdiode (k : Nat) : (doSensorBroken (.diode n) c s).diode k
        = (setAt s.lantern.diodes n { s.diode n with broken := some c }).getD k {} := by
      rw [he]
      exact congrArg (·.diodes.getD k {}) hl
    refine ⟨_, rfl, ?_, fun k hk => ?_, he ▸ hdev⟩
    · rw [State.trusted, hdiode, setAt_getD, if_pos ⟨rfl, diodeFault_lt hf⟩]
      rfl
    · rw [hdiode, setAt_getD, if_neg fun h => hk h.1]
      rfl
  · intro s k c hd hf
    have he : doSensorBroken (.vane k) c s = ({ s with lantern := { s.lantern with
        vaneBroken := s.lantern.vaneBroken ++ [k] } } : State).sensorOut (0x10000 + k) := (if_neg hd).trans (if_pos hf)
    obtain ⟨⟨_, _, _, _, _, _, hl⟩, -⟩ := sensorOut_spec ({ s with lantern := { s.lantern with
        vaneBroken := s.lantern.vaneBroken ++ [k] } } : State) (0x10000 + k)
    refine ⟨_, rfl, ?_⟩
    rw [he, hl]
  · intro s n c hd hn hon hb hc
    refine congrArg Host.Outcome.next ?_
    unfold doThermistorBroken
    dsimp only
    rw [if_neg]
    simp only [hd, hon, hb, hc, Nat.not_le.mpr hn]
    simp
  · intro s q hd hq lim level
    have he : doThrottleStep s = { s with lantern := { s.lantern with
        throttle := if lim ≤ q then min 4 (s.lantern.throttle + 1)
          else if q < lim - 768 then max (if s.lantern.pBand = 2 then 2 else 0) (s.lantern.throttle - 1) else s.lantern.throttle } } := by
      unfold doThrottleStep
      rw [hq]
      exact if_neg hd
    refine ⟨fun h => congrArg Host.Outcome.next ?_, fun h => congrArg Host.Outcome.next ?_⟩
    · rw [he, if_pos h]
    · rw [he, if_neg (by omega), if_pos h]
  · intro s ch hc hcrit hch
    obtain ⟨r, f, hk, he⟩ := toFault_of_critical hc hcrit hch
    generalize hu : ({ s with lantern := { s.lantern with critical := some (ch, s.clocks.tick) } } : State) = u at he
    obtain ⟨x, hx, hxk⟩ := raise_waits u (r := r) (some .lantern) (by rw [hk]; rfl) (by rw [hk]; rfl)
    obtain ⟨la, hla⟩ := (tells_raise u r (some .lantern)).only.lantern
    obtain ⟨hdev, hdr, ⟨lb, hlb⟩, hw⟩ := toFault_spec (u.raise r (some .lantern)) f
    refine ⟨_, congrArg Host.Outcome.next he, hdev, ?_, hdr, ?_, ?_, x, hw x hx, hxk.trans hk⟩
    · rw [hlb, hla, ← hu]
    · rw [hlb]
    · rw [hlb]
  · intro s hcrit hshut hoff hw
    obtain ⟨b, times, h⟩ := thermalLow_shuts hcrit
    have he : doInternalHwsd s = s.thermalLow := by
      unfold doInternalHwsd
      rw [if_neg (by simp [hcrit, hoff]), pinOrDefer_now hw]
      rfl
    refine ⟨_, congrArg Host.Outcome.next (he.trans h), rfl, rfl, ?_, rfl, rfl⟩
    exact wiped_lantern (wiped_lantern (countShutdown_only s b) _) _
  · intro s hd hi hb hbit hcool hs hr hh hw
    have he : doAutoRestart s = ({ s with lantern := { s.lantern with internalHwsd := false } } : State).tryLeave := by
      refine if_pos ⟨hd, hi, by simp [hb], hbit, List.all_eq_true.mpr fun n hn => ?_⟩
      obtain ⟨hn, ht⟩ := List.mem_filter.mp hn
      obtain ⟨q, hq, hlt⟩ := hcool n (List.mem_range.mp hn) ht
      rw [hq]
      exact decide_eq_true hlt
    refine ⟨_, congrArg Host.Outcome.next (he.trans (if_pos ⟨hd, hs, hr, hh, rfl, by simp [hw]⟩)), rfl, rfl, rfl⟩

end Sys2Proof.Machine
end

section
/-!
PROOFS. POWER_STATE and THERMAL_READ (O40).
-/
namespace Sys2Proof.Machine

/-! ### Commands that run (R58) -/

theorem anyJob_eq_false {s : State} {p : Job → Bool} : s.anyJob p = false ↔ ∀ k j, (s.lane k).job = some j → p j = false := by
  unfold State.anyJob
  rw [List.any_eq_false]
  constructor
  · intro h k j hj
    by_cases hk : k < s.lanes.length
    · have hlane : s.lane k = s.lanes[k] := getD_of_lt _ _ hk
      have := h _ (List.getElem_mem hk)
      rw [← hlane, hj] at this
      simpa using this
    · rw [State.lane, getD_of_length_le _ _ (Nat.le_of_not_lt hk)] at hj
      exact absurd hj (by simp)
  · intro h l hl
    obtain ⟨k, hk, rfl⟩ := List.getElem_of_mem hl
    have hlane : s.lane k = s.lanes[k] := getD_of_lt _ _ hk
    cases hj : s.lanes[k].job with
    | none => simp
    | some j => simp [h k j (by rw [hlane, hj])]

theorem setJob_lane_of_servesNow {s : State} {h : ReqHdr} {op : Nat} (hs : s.servesNow h op) (c : Instr) (k : JobKind) (l : Nat) :
    ((s.accept h).setJob h op c k).lane l
      = if l = h.lane then { (s.accept h).lane l with job := some ⟨h, op, c, k⟩ } else (s.accept h).lane l :=
  setJob_lane _ h op c k (by simpa using hs.1.1) hs.1.2.1 l

/-- The commands that run once one has started: those before, and itself. -/
theorem setJob_job_of_servesNow {s : State} {h : ReqHdr} {op : Nat} (hs : s.servesNow h op) (c : Instr) (k : JobKind) (l : Nat) :
    (((s.accept h).setJob h op c k).lane l).job = if l = h.lane then some ⟨h, op, c, k⟩ else (s.lane l).job := by
  rw [setJob_lane_of_servesNow hs]
  split
  · rfl
  · exact accept_lane_job s h l

theorem setJob_running {s : State} {h : ReqHdr} {op : Nat} (hs : s.servesNow h op) (c : Instr) (k : JobKind) :
    ((s.accept h).setJob h op c k).running h op c k := by
  unfold State.running
  rw [setJob_job_of_servesNow hs, if_pos rfl]

theorem setJob_jobsHome {s : State} {h : ReqHdr} {op : Nat} (hs : s.servesNow h op) (hh : s.jobsHome) (c : Instr) (k : JobKind) :
    ((s.accept h).setJob h op c k).jobsHome := by
  intro l j hj
  rw [setJob_job_of_servesNow hs] at hj
  split at hj
  · next e =>
    obtain rfl := Option.some.inj hj
    exact e.symm
  · exact hh l j hj

theorem setJob_anyJob {s : State} {h : ReqHdr} {op : Nat} (hs : s.servesNow h op) {p : Job → Bool} (hp : s.anyJob p = false) (c : Instr) (k : JobKind)
    (hk : p ⟨h, op, c, k⟩ = false) : ((s.accept h).setJob h op c k).anyJob p = false := by
  refine anyJob_eq_false.mpr fun l j hj => ?_
  rw [setJob_job_of_servesNow hs] at hj
  split at hj
  · obtain rfl := Option.some.inj hj
    exact hk
  · exact anyJob_eq_false.mp hp l j hj

theorem setJob_accept_only (s : State) (h : ReqHdr) (op : Nat) (c : Instr) (k : JobKind) :
    ∃ ls, (s.accept h).setJob h op c k = { s with lanes := ls } := by
  rw [accept_only]
  exact ⟨_, rfl⟩

/-! ### POWER_STATE (R392) -/

theorem powerGo_begins {u : State} {d : DState} {k : Nat} (hd : targetState k = d) (he : u.lantern.entry = none) (hw : u.lantern.waking = none)
    (hr : u.dev = .ready) (hk : k = 1 ∨ k = 2 ∧ u.testing = false) (j : Job) (w b e n : Nat) : u.powerGo j k w b e n = u.beginEntry d := by
  have hne : u.dev ≠ targetState k := by
    rw [hr]
    obtain rfl | ⟨rfl, -⟩ := hk <;> decide
  have ht : ¬ (u.testing = true ∧ 2 ≤ k) := by
    obtain rfl | ⟨-, h⟩ := hk
    · exact fun h => absurd h.2 (by decide)
    · simp [h]
  have h03 : k ≠ 0 ∧ k ≠ 3 := by omega
  unfold State.powerGo
  dsimp only
  rw [if_neg (by simp [he, hw]), if_neg hne, if_neg ht, if_pos (Or.inl hr), if_neg h03.1, if_neg h03.2, hd]

/-- The entry into IDLE or DOZE that a POWER_STATE in READY begins. -/
theorem beginEntry_running {u : State} {h : ReqHdr} {op : Nat} {c : Instr} {k : Nat} {d : DState} {w b e n : Nat} (hr : u.dev = .ready) (hh : u.jobsHome)
    (hrun : u.running h op c (.powerEntry k w b e n)) (hk : k = 1 ∨ k = 2) (hd : targetState k = d) :
    (u.beginEntry d).dev = d ∧ (u.beginEntry d).lantern.entry = some ⟨d⟩ ∧ (u.beginEntry d).lantern.sleptFrom = .ready ∧
      (u.beginEntry d).sessions = u.sessions ∧ (u.beginEntry d).running h op c (.powerEntry k w b e n) ∧
      (k = 2 → (∀ x ∈ (u.beginEntry d).sources, x.locked = false) ∧ (u.beginEntry d).exchanges = [] ∧ (u.beginEntry d).lantern.hold = none) := by
  have hfrom : u.sleepsFrom = .ready := by
    unfold State.sleepsFrom
    rw [if_pos (Or.inl hr), hr]
  obtain rfl | rfl := hk
  · have : d = .idle := hd.symm
    subst this
    rw [beginEntry_idle]
    exact ⟨rfl, rfl, hfrom, rfl, hrun, fun h => absurd h (by decide)⟩
  · have : d = .doze := hd.symm
    subst this
    obtain ⟨⟨rg, ls, sn, ev, lg, la, me, wi, fr, so, va, ex, dn, ho⟩, hex, hso, -, hjob⟩ := beginEntry_sleep u (d := .doze) (by decide)
    have hl := congrArg State.lantern ho
    have hrun' : (u.beginEntry .doze).running h op c (.powerEntry 2 w b e n) := by
      unfold State.running at hrun ⊢
      rw [hjob hh, hrun]
      rfl
    exact ⟨(congrArg State.dev ho :), (congrArg Lantern.entry hl :), (congrArg Lantern.sleptFrom hl :).trans hfrom,
      (congrArg State.sessions ho :), hrun', fun _ => ⟨hso, hex, (congrArg Lantern.hold hl :)⟩⟩

theorem doPowerState_goes {s : State} {h : ReqHdr} (hs : s.servesNow h 0x0601) {k : Nat} {y : PowerX} (hne : s.dev ≠ targetState k)
    (hc : firstFailure (s.powerChecks k 0 y) = none) :
    let kind := JobKind.powerEntry k y.wakeAfterS y.saveBase y.saveDest y.saveBytes
    doPowerState h k 0 (some y) (s.accept h) = ((s.accept h).setJob h 0x0601 (.powerState h k 0 (some y)) kind).powerGo
      ⟨h, 0x0601, .powerState h k 0 (some y), kind⟩ k y.wakeAfterS y.saveBase y.saveDest y.saveBytes := by
  have hchecks : (s.accept h).powerChecks k 0 y = s.powerChecks k 0 y := by
    rw [accept_only]
    rfl
  unfold doPowerState
  dsimp only
  rw [show orReg (some y) (s.accept h).powerDefaults = y from rfl, hchecks, serve_servesNow hs rfl (by simpa using hc),
    if_neg (by simpa using hne)]

/-! ### THERMAL_READ (R401) -/

theorem flatMap_be_length (w : Nat) (g : Nat → Nat) (l : List Nat) : (l.flatMap fun n => be w (g n)).length = w * l.length := by
  simp [List.length_flatMap, List.map_const', List.sum_replicate_nat, Nat.mul_comm]

/-- A field behind a part of known length. -/
theorem fieldAt_append_of_length {a p : List Byte} {k off w : Nat} (ha : a.length = k) (h : k ≤ off) : fieldAt (a ++ p) off w = fieldAt p (off - k) w := by
  unfold fieldAt
  rw [List.drop_append, List.drop_eq_nil_of_le (by omega), List.nil_append, ha]

/-- A field of a table of fields of one width. -/
theorem fieldAt_flatMap_be (w : Nat) (g : Nat → Nat) (p : List Byte) : ∀ (l : List Nat) {n : Nat} (h : n < l.length),
    fieldAt ((l.flatMap fun n => be w (g n)) ++ p) (w * n) w = g l[n] % 256 ^ w
  | x :: l, 0, _ => by
    rw [List.flatMap_cons, List.append_assoc]
    exact fieldAt_be_append w (g x) _
  | x :: l, n + 1, h => by
    rw [List.flatMap_cons, List.append_assoc, fieldAt_append_of_length (be_length w (g x)) (Nat.le_mul_of_pos_right _ (Nat.succ_pos n)),
      Nat.mul_succ, Nat.add_sub_cancel]
    exact fieldAt_flatMap_be w g p l (Nat.lt_of_succ_lt_succ h)

/-- The mask of numbers below n has no bit from n on. -/
theorem maskOf_filter_lt (p : Nat → Bool) (n : Nat) : maskOf ((List.range n).filter p) < 2 ^ n := by
  induction n with
  | zero => exact Nat.one_pos
  | succ n ih =>
    have hn : maskOf ([n].filter p) ≤ 2 ^ n := by
      cases hp : p n <;> simp [maskOf, hp]
    rw [List.range_succ, List.filter_append, Nat.pow_succ]
    unfold maskOf at *
    rw [List.map_append, List.sum_append]
    omega

/-- The bytes that THERMAL_READ answers. -/
def State.thermalReport (s : State) : List Byte :=
  (List.range 32).flatMap (fun n => be 2 (s.diodeTemp n)) ++ ((List.range 8).flatMap (fun n => be 2 (s.thermTemp n))
    ++ (be 4 (maskOf ((List.range 32).filter fun n => !s.trusted n))
    ++ (be 1 (maskOf ((List.range 8).filter fun n => (s.thermBroken n).isSome))
    ++ (be 1 s.lantern.throttle ++ (be 2 (maskOf ((List.range 10).filter s.lantern.hot.contains)) ++ (be 1 s.lantern.pBand
    ++ (be 1 s.dev.code ++ (be 2 s.supplyNow ++ be 4 (s.uptime % 2 ^ 32)))))))))

theorem thermalReport_length (s : State) : s.thermalReport.length = 96 := by
  simp only [State.thermalReport, List.length_append, flatMap_be_length, List.length_range, be_length]

theorem doThermalRead_report {s : State} {h : ReqHdr} (hs : s.servesNow h 0x0602) :
    doThermalRead h (s.accept h) = (s.accept h).reply h 0x0602 stOk s.thermalReport := by
  unfold doThermalRead
  rw [serve_servesNow hs rfl rfl]
  have hr : s.thermalReport = (s.accept h).thermalReport := by
    rw [accept_only]
    rfl
  rw [hr]
  unfold State.thermalReport
  simp only [List.append_assoc]
  rfl

/-- A temperature field of the report. -/
theorem thermalReport_diode (s : State) {n : Nat} (h : n < 32) : fieldAt s.thermalReport (2 * n) 2 = s.diodeTemp n % 2 ^ 16 := by
  unfold State.thermalReport
  rw [fieldAt_flatMap_be 2 s.diodeTemp _ _ (by simpa using h), List.getElem_range, show 256 ^ 2 = 2 ^ 16 from rfl]

/-- A field behind the diodes. -/
theorem fieldAt_thermalReport (s : State) {o w : Nat} (h : 64 ≤ o) : fieldAt s.thermalReport o w
    = fieldAt ((List.range 8).flatMap (fun n => be 2 (s.thermTemp n))
    ++ (be 4 (maskOf ((List.range 32).filter fun n => !s.trusted n))
    ++ (be 1 (maskOf ((List.range 8).filter fun n => (s.thermBroken n).isSome))
    ++ (be 1 s.lantern.throttle ++ (be 2 (maskOf ((List.range 10).filter s.lantern.hot.contains)) ++ (be 1 s.lantern.pBand
    ++ (be 1 s.dev.code ++ (be 2 s.supplyNow ++ be 4 (s.uptime % 2 ^ 32))))))))) (o - 64) w :=
  fieldAt_append_of_length ((flatMap_be_length 2 s.diodeTemp _).trans (by simp)) h

theorem thermalReport_therm (s : State) {n : Nat} (h : n < 8) : fieldAt s.thermalReport (64 + 2 * n) 2 = s.thermTemp n % 2 ^ 16 := by
  rw [fieldAt_thermalReport s (by omega), Nat.add_sub_cancel_left, fieldAt_flatMap_be 2 s.thermTemp _ _ (by simpa using h), List.getElem_range, show 256 ^ 2 = 2 ^ 16 from rfl]

/-- The fields behind the thermistors. -/
theorem thermalReport_marks (s : State) :
    fieldAt s.thermalReport 84 1 = maskOf ((List.range 8).filter fun n => (s.thermBroken n).isSome) ∧
    fieldAt s.thermalReport 85 1 = s.lantern.throttle % 256 ∧ fieldAt s.thermalReport 88 1 = s.lantern.pBand % 256 ∧
    fieldAt s.thermalReport 89 1 = s.dev.code ∧ fieldAt s.thermalReport 92 4 = s.uptime % 2 ^ 32 := by
  have h8 : ((List.range 8).flatMap fun n => be 2 (s.thermTemp n)).length = 16 := flatMap_be_length 2 s.thermTemp _
  have hcode : s.dev.code % 256 ^ 1 = s.dev.code := by cases s.dev <;> rfl
  have hmask : maskOf ((List.range 8).filter fun n => (s.thermBroken n).isSome) % 256 ^ 1
      = maskOf ((List.range 8).filter fun n => (s.thermBroken n).isSome) := Nat.mod_eq_of_lt (maskOf_filter_lt _ 8)
  refine ⟨?_, ?_, ?_, ?_, ?_⟩
  all_goals
    rw [fieldAt_thermalReport s (by decide), fieldAt_append_of_length h8 (by decide), fieldAt_be_append_of_le (by decide)]
  · rw [fieldAt_be_append, hmask]
  · rw [fieldAt_be_append_of_le (by decide), fieldAt_be_append, Nat.pow_one]
  · iterate 3 rw [fieldAt_be_append_of_le (by decide)]
    rw [fieldAt_be_append, Nat.pow_one]
  · iterate 4 rw [fieldAt_be_append_of_le (by decide)]
    rw [fieldAt_be_append, hcode]
  · iterate 6 rw [fieldAt_be_append_of_le (by decide)]
    rw [fieldAt_be]
    exact Nat.mod_mod _ _

/-- Settles O40. -/
theorem powerStateAndThermalRead : Obligations.PowerStateAndThermalRead := by
  refine ⟨fun s h k y hs hh hr he hw hk hc => ?_, fun s h hs => ?_⟩
  · have hne : s.dev ≠ targetState k := by
      rw [hr]
      obtain rfl | ⟨rfl, -⟩ := hk <;> decide
    have hgo := doPowerState_goes hs hne hc
    have hrun := setJob_running hs (.powerState h k 0 (some y)) (.powerEntry k y.wakeAfterS y.saveBase y.saveDest y.saveBytes)
    have hhome := setJob_jobsHome hs hh (.powerState h k 0 (some y)) (.powerEntry k y.wakeAfterS y.saveBase y.saveDest y.saveBytes)
    have htest (hf : s.testing = false) := setJob_anyJob hs hf (.powerState h k 0 (some y))
      (.powerEntry k y.wakeAfterS y.saveBase y.saveDest y.saveBytes) rfl
    obtain ⟨ls, hu⟩ := setJob_accept_only s h 0x0601 (.powerState h k 0 (some y)) (.powerEntry k y.wakeAfterS y.saveBase y.saveDest y.saveBytes)
    dsimp only at hgo
    generalize (s.accept h).setJob h 0x0601 _ _ = u at hgo hrun hhome htest hu
    have hdev : u.dev = .ready := by rw [hu]; exact hr
    rw [powerGo_begins rfl (by rw [hu]; exact he) (by rw [hu]; exact hw) hdev (hk.imp_right fun c => ⟨c.1, htest c.2⟩)] at hgo
    have hexec : exec (.powerState h k 0 (some y)) s = .next (doPowerState h k 0 (some y) (s.accept h)) := exec_of_servesNow hs rfl rfl
    obtain ⟨h1, h2, h3, h4, h5, h6⟩ := beginEntry_running hdev hhome hrun (hk.imp_right And.left) rfl
    exact ⟨u.beginEntry (targetState k), hexec.trans (congrArg Host.Outcome.next hgo), h1, h2, h3, h4.trans (by rw [hu]), h5, h6⟩
  · have hexec : exec (.thermalRead h) s = .next (doThermalRead h (s.accept h)) := exec_of_servesNow hs rfl rfl
    obtain ⟨h84, h85, h88, h89, h92⟩ := thermalReport_marks s
    refine ⟨s.thermalReport, hexec.trans (congrArg Host.Outcome.next (doThermalRead_report hs)), thermalReport_length s,
      fun n hn => thermalReport_diode s hn, fun n hn => thermalReport_therm s hn, h84.trans ?_, h85, h88, h89, h92⟩
    congr 2
    funext n
    unfold State.thermBroken
    cases s.thermOn n <;> rfl

end Sys2Proof.Machine
end

section
/-!
PROOFS. The power states by themselves (O59).
-/
namespace Sys2Proof.Machine

/-! ### One lane that runs a command -/

theorem foldl_no_jobs {f : State → Lane → State} (hf : ∀ u x, x.job = none → f u x = u) : ∀ (ls : List Lane), (∀ x ∈ ls, x.job = none) →
    ∀ s, ls.foldl f s = s
  | [], _, _ => rfl
  | x :: ls, h, s => by
    rw [List.foldl_cons, hf s x (h x List.mem_cons_self)]
    exact foldl_no_jobs hf ls (fun y hy => h y (List.mem_cons_of_mem _ hy)) s

/-- The lanes of a state in which one lane runs a command: those before and after it run none. -/
theorem lanes_onlyJob {s : State} {l : Nat} (hs : s.onlyJob l) (hl : l < 16) : ∃ as bs, s.lanes = as ++ s.lane l :: bs ∧
    (∀ x ∈ as, x.job = none) ∧ ∀ x ∈ bs, x.job = none := by
  obtain ⟨hn, hothers⟩ := hs
  have hk : l < s.lanes.length := hn.symm ▸ hl
  have hlane (i : Nat) (hi : i < s.lanes.length) : s.lane i = s.lanes[i] := getD_of_lt _ _ hi
  refine ⟨s.lanes.take l, s.lanes.drop (l + 1), ?_, fun x hx => ?_, fun x hx => ?_⟩
  · rw [hlane l hk, List.getElem_cons_drop, List.take_append_drop]
  · obtain ⟨i, hi, rfl⟩ := List.getElem_of_mem hx
    have hil : i < l := by simp at hi; omega
    rw [List.getElem_take, ← hlane i (by omega)]
    exact hothers i (by omega)
  · obtain ⟨i, hi, rfl⟩ := List.getElem_of_mem hx
    have hil : l + 1 + i < s.lanes.length := by simp at hi; omega
    rw [List.getElem_drop, ← hlane _ hil]
    exact hothers _ (by omega)

theorem foldl_onlyJob {s : State} {l : Nat} (hs : s.onlyJob l) (hl : l < 16) {f : State → Lane → State} (hf : ∀ u x, x.job = none → f u x = u)
    (t : State) : s.lanes.foldl f t = f t (s.lane l) := by
  obtain ⟨as, bs, h, ha, hb⟩ := lanes_onlyJob hs hl
  rw [h, List.foldl_append, foldl_no_jobs hf as ha, List.foldl_cons, foldl_no_jobs hf bs hb]

theorem findSome_onlyJob {β : Type} {s : State} {l : Nat} (hs : s.onlyJob l) (hl : l < 16) {f : Lane → Option β} (hf : ∀ x, x.job = none → f x = none) :
    s.lanes.findSome? f = f (s.lane l) := by
  obtain ⟨as, bs, h, ha, hb⟩ := lanes_onlyJob hs hl
  have hnone : ∀ {ls : List Lane}, (∀ x ∈ ls, x.job = none) → ls.findSome? f = none := fun h =>
    List.findSome?_eq_none_iff.mpr fun x hx => hf x (h x hx)
  rw [h, List.findSome?_append, hnone ha, Option.none_or, List.findSome?_cons, hnone hb]
  cases f (s.lane l) <;> rfl

theorem powerNext_onlyJob {s : State} {l : Nat} {j : Job} {k w b d n : Nat} (hs : s.onlyJob l) (hl : l < 16) (hj : (s.lane l).job = some j)
    (hk : j.kind = .powerEntry k w b d n) : s.powerNext = s.powerGo j k w b d n := by
  unfold State.powerNext
  rw [foldl_onlyJob hs hl fun u x hx => by rw [hx], hj]
  simp only [hk]

/-- Once the only command has ended no lane runs one. -/
theorem no_jobs_of_freed {s t : State} {l : Nat} (hs : s.onlyJob l) (hlen : t.lanes.length = s.lanes.length) (hfree : (t.lane l).job = none)
    (hother : ∀ k, k ≠ l → t.lane k = s.lane k) : ∀ x ∈ t.lanes, x.job = none := by
  refine forall_lanes (hlen.trans hs.1) fun k _ => ?_
  by_cases hk : k = l
  · rw [hk, hfree]
  · rw [hother k hk]
    exact hs.2 k hk

/-! ### What the writes that waited for a block change (R74) -/

/-- What a register write changes: registers, counters, committed lengths, and the marks and addresses that follow. -/
def State.writesOnly (s t : State) : Prop := ∃ rg ct se ce so la ts ne dn, t = { s with
  regs := rg, ctrs := ct, sessions := se, net := ne, down := dn, memory := { s.memory with ceOverflowed := ce }
  lantern := { s.lantern with softDue := so, latch := la, therms := ts } }

namespace State.writesOnly
variable {s t u : State}

theorem refl (s : State) : s.writesOnly s := ⟨_, _, _, _, _, _, _, _, _, rfl⟩

theorem trans (h : s.writesOnly t) (k : t.writesOnly u) : s.writesOnly u := by
  obtain ⟨_, _, _, _, _, _, _, _, _, rfl⟩ := h
  obtain ⟨_, _, _, _, _, _, _, _, _, rfl⟩ := k
  exact ⟨_, _, _, _, _, _, _, _, _, rfl⟩

theorem foldl {β : Type} {f : State → β → State} (hf : ∀ (s : State) (x : β), s.writesOnly (f s x)) : ∀ (l : List β) (s : State), s.writesOnly (l.foldl f s)
  | [], s => refl s
  | x :: l, s => (hf s x).trans (foldl hf l (f s x))

theorem ite {p : Prop} [Decidable p] (h : s.writesOnly t) (k : s.writesOnly u) : s.writesOnly (if p then t else u) := by
  split
  · exact h
  · exact k

theorem regs (s : State) (rg : List (Nat × BitVec 32)) : s.writesOnly { s with regs := rg } := ⟨_, _, _, _, _, _, _, _, _, rfl⟩

theorem setReg (s : State) (a v : Nat) : s.writesOnly (s.setReg a v) := ⟨_, _, _, _, _, _, _, _, _, rfl⟩

theorem clear48 (s : State) (a : Nat) : s.writesOnly (s.clear48 a) := ⟨_, _, _, _, _, _, _, _, _, rfl⟩

theorem zeroRegs (s : State) (l : List Nat) : s.writesOnly (s.zeroRegs l) := foldl (fun s a => setReg s a 0) l s

theorem net (s : State) (ne : Net) : s.writesOnly { s with net := ne } := ⟨_, _, _, _, _, _, _, _, _, rfl⟩

theorem send (s : State) (k : OutKind) : s.writesOnly (s.send k) := by
  rw [send_only]
  exact net s _

end State.writesOnly

theorem writesOnly_registerWrite (s : State) (a v : Nat) : s.writesOnly (doRegisterWrite a v s) := by
  unfold doRegisterWrite
  split
  · exact State.writesOnly.refl s
  · exact .ite ⟨_, _, _, _, _, _, _, _, _, rfl⟩ (.ite (.refl s) (.setReg s _ _))

theorem writesOnly_sessLen (s : State) (v : Nat) : s.writesOnly (doSessLenWrite v s) := by
  unfold doSessLenWrite
  refine .ite ?_ (.refl s)
  cases s.session s.selected with
  | none => exact .refl s
  | some x => exact ⟨_, _, _, _, _, _, _, _, _, rfl⟩

theorem writesOnly_ceLogClear (s : State) (c : Nat) : s.writesOnly (doCeLogClear c s) :=
  .ite (.refl s) ((State.writesOnly.zeroRegs s _).trans ⟨_, _, _, _, _, _, _, _, _, rfl⟩)

theorem writesOnly_ueLogClear (s : State) (c : Nat) : s.writesOnly (doUeLogClear c s) := .ite (.refl s) (.zeroRegs s _)

theorem writesOnly_furrowClear (s : State) (f : Nat) : s.writesOnly (doFurrowCountClear f s) :=
  .ite (.refl s) (.foldl (fun s _ => .clear48 s _) _ s)

theorem writesOnly_clearTwo (s : State) (a b : Nat) : s.writesOnly ((s.clear48 a).clear48 b) := ⟨_, _, _, _, _, _, _, _, _, rfl⟩

theorem writesOnly_writeAction (s : State) (a v : Nat) : s.writesOnly (s.writeAction a v) := by
  unfold State.writeAction
  dsimp only
  split
  · exact .refl s
  · split
    · exact .ite ⟨_, _, _, _, _, _, _, _, _, rfl⟩ (.refl s)
    · exact .ite (writesOnly_furrowClear s _) (.refl s)
    · exact .ite (writesOnly_clearTwo s _ _) (.refl s)
    · exact .ite (.ite (.refl s) (writesOnly_clearTwo s _ _)) (.refl s)
    · exact .ite (.ite (.refl s) (writesOnly_clearTwo s _ _)) (.refl s)
    · generalize hu : (if bitOf v 0 = true then doCeLogClear _ s else s) = u
      have h : s.writesOnly u := by
        rw [← hu]
        exact .ite (writesOnly_ceLogClear s _) (.refl s)
      exact .ite (h.trans (writesOnly_ueLogClear u _)) h
    · exact .ite (.zeroRegs s _) (.refl s)
    · exact .ite ⟨_, _, _, _, _, _, _, _, _, rfl⟩ (.refl s)
    · exact .refl s

theorem writesOnly_netChanged (old s : State) : s.writesOnly (old.netChanged s) := by
  unfold State.netChanged
  dsimp only
  generalize hu : (if bitOf (old.reg (aWalong 0x4)) 1 ≠ bitOf (s.reg (aWalong 0x4)) 1 then s.probeLl4 else s) = u
  have h : s.writesOnly u := by
    rw [← hu]
    exact .ite (.net s _) (.refl s)
  have hdad : u.writesOnly u.dadGlobal := .ite (((State.writesOnly.net u _).trans (.send _ _)).trans (.send _ _)) (.net u _)
  exact .ite (h.trans hdad) h

theorem writesOnly_thermChanged (s : State) : s.writesOnly s.thermChanged := ⟨_, _, _, _, _, _, _, _, _, rfl⟩

theorem writesOnly_writeAll (s : State) (ws : List (Nat × Nat)) : s.writesOnly (s.writeAll ws) := by
  unfold State.writeAll
  have h1 : s.writesOnly (ws.foldl (fun s w => doRegisterWrite w.1 w.2 s) s) := .foldl (fun s _ => writesOnly_registerWrite s _ _) ws s
  generalize ws.foldl (fun s w => doRegisterWrite w.1 w.2 s) s = t1 at h1
  generalize ws.filter (fun w => !s.blockDown w.1) = vs
  have h2 : s.writesOnly (match look vs (aGleaner 0 0x64) with
      | some v => doSessLenWrite v t1
      | none => t1) := by
    split
    · exact h1.trans (writesOnly_sessLen t1 _)
    · exact h1
  have h3 := h2.trans (.foldl (f := fun (s : State) (w : Nat × Nat) => s.writeAction w.1 w.2) (fun s _ => writesOnly_writeAction s _ _) vs _)
  have h4 := State.writesOnly.ite (p := (vs.any fun w => w.1 = aLantern 0x10) = true) (h3.trans (writesOnly_thermChanged _)) h3
  exact .ite (h4.trans (writesOnly_netChanged s _)) h4

theorem writesOnly_restartBlocks (s : State) : s.writesOnly s.restartBlocks := by
  unfold State.restartBlocks
  cases s.down with
  | none => exact .refl s
  | some d => exact State.writesOnly.trans ⟨_, _, _, _, _, _, _, _, _, rfl⟩ (.foldl (fun s _ => writesOnly_writeAll s _) d.writes _)

/-! ### The end of a wake (R394) -/

/-- Entries of a table changed in turn by a change that takes effect once. -/
theorem foldl_setAt {β : Type} {g : β → β} (hg : ∀ x, g (g x) = g x) (d : β) : ∀ (ls : List Nat) {l : List β} {k : Nat}, k < l.length →
    (ls.foldl (fun l n => setAt l n (g (l.getD n d))) l).getD k d = if k ∈ ls then g (l.getD k d) else l.getD k d
  | [], _, _, _ => rfl
  | n :: ls, l, k, hk => by
    rw [List.foldl_cons, foldl_setAt hg d ls (by rw [setAt_length]; exact hk), setAt_getD]
    by_cases e : k = n
    · subst e
      rw [if_pos (And.intro rfl hk), if_pos List.mem_cons_self, hg, ite_self]
    · rw [if_neg (fun c : k = n ∧ n < l.length => e c.1)]
      simp only [List.mem_cons, e, false_or]

/-- A Furrow's run made due at a time, where it is not due already (R369). -/
def WinnowF.dueFrom (now : Nat) (w : WinnowF) : WinnowF := if w.due then w else { w with due := true, dueAt := now }

theorem WinnowF.dueFrom_due (now : Nat) (w : WinnowF) : (w.dueFrom now).due = true := by
  unfold WinnowF.dueFrom
  split
  · assumption
  · rfl

theorem WinnowF.dueFrom_dueFrom (now : Nat) (w : WinnowF) : (w.dueFrom now).dueFrom now = w.dueFrom now := if_pos (w.dueFrom_due now)

/-- The runs of some Furrows made due. -/
theorem foldl_markDue (fs : List Nat) (s : State) : fs.foldl State.markDue s = { s with winnow := (fs.foldl State.markDue s).winnow } ∧
    (fs.foldl State.markDue s).winnow = fs.foldl (fun l n => setAt l n ((l.getD n {}).dueFrom s.clocks.tick)) s.winnow := by
  induction fs generalizing s with
  | nil => exact ⟨rfl, rfl⟩
  | cons f fs ih =>
    obtain ⟨h1, h2⟩ := ih (s.markDue f)
    rw [List.foldl_cons, List.foldl_cons]
    exact ⟨h1, h2⟩

theorem foldl_lockSources (ns : List Nat) (s : State) :
    ns.foldl (fun (s : State) n => if ([] : List Nat).contains n then s else s.modSource n fun x => { x with locked := true }) s
      = { s with sources := ns.foldl (fun l n => setAt l n ((fun x : Source => { x with locked := true }) (l.getD n {}))) s.sources } := by
  induction ns generalizing s with
  | nil => rfl
  | cons n ns ih =>
    rw [List.foldl_cons, List.foldl_cons, ih]
    rfl

/-- The sources with every active one locked. -/
def State.lockedSources (s : State) : List Source :=
  ((List.range 20).filter fun n => (s.source n).role = 0).foldl
    (fun l n => setAt l n ((fun x : Source => { x with locked := true }) (l.getD n {}))) s.sources

theorem lockedSources_locked {s : State} (hlen : s.sources.length = 20) {n : Nat} (hn : n < 20) (hr : (s.source n).role = 0) :
    (s.lockedSources.getD n {}).locked = true := by
  have hmem : n ∈ (List.range 20).filter fun n => (s.source n).role = 0 :=
    List.mem_filter.mpr ⟨List.mem_range.mpr hn, decide_eq_true hr⟩
  unfold State.lockedSources
  rw [foldl_setAt (g := fun x : Source => { x with locked := true }) (fun _ => rfl) {} _ (by omega), if_pos hmem]

/-- A wake whose sources all lock locks the active ones (R394). -/
theorem relock_all (s : State) : s.relock [] = { s with sources := s.lockedSources } := by
  have hnone (l : List Nat) : l.filter ([] : List Nat).contains = [] := List.filter_eq_nil_iff.mpr (by simp)
  unfold State.relock
  dsimp only
  rw [foldl_lockSources, hnone]
  rfl

/-- The state in which a wake out of DOZE has reached its target, counted (R391). -/
def State.awake (s : State) (d : DState) : State :=
  ({ s with dev := d, lantern := { s.lantern with waking := none, wakeAt := none } } : State).bump (aLantern 0x128)

theorem awake_only (s : State) (d : DState) : ∃ rg, s.awake d
    = { s with dev := d, regs := rg, lantern := { s.lantern with waking := none, wakeAt := none } } := by
  unfold State.awake
  rw [bump_only]
  exact ⟨_, rfl⟩

theorem finishWake_eq {s : State} {d : DState} (h : s.lantern.waking = some ⟨d, .doze⟩) (hd : d ≠ .doze) :
    s.finishWake [] = ((s.awake d).activeFurrows.foldl State.markDue (s.awake d)).relock [] := by
  unfold State.finishWake
  rw [h]
  exact if_neg hd

theorem finishWake_spec {s : State} {d : DState} (hw : s.lantern.waking = some ⟨d, .doze⟩) (hd : d ≠ .doze) :
    ∃ rg wi so, s.finishWake [] = { s with dev := d, regs := rg, lantern := { s.lantern with waking := none, wakeAt := none }, winnow := wi, sources := so } ∧
      (s.sources.length = 20 → ∀ n, n < 20 → (s.source n).role = 0 → (so.getD n {}).locked = true) ∧
      (s.winnow.length = 10 → ∀ f, f < 10 → (s.furrow f).role = 0 → (wi.getD f {}).due = true) := by
  obtain ⟨rg, ha⟩ := awake_only s d
  have hact : (s.awake d).activeFurrows = s.activeFurrows := by
    rw [ha]
    rfl
  have hwin : (s.awake d).winnow = s.winnow := by rw [ha]
  obtain ⟨h1, h2⟩ := foldl_markDue s.activeFurrows (s.awake d)
  rw [finishWake_eq hw hd, hact, relock_all]
  generalize hm : s.activeFurrows.foldl State.markDue (s.awake d) = m at h1 h2 ⊢
  rw [hwin] at h2
  have hm' : m = { s with dev := d, regs := rg, lantern := { s.lantern with waking := none, wakeAt := none }, winnow := m.winnow } :=
    h1.trans (by rw [ha])
  have hso : m.sources = s.sources := by rw [hm']
  have hrole (n : Nat) : m.source n = s.source n := by
    unfold State.source
    rw [hso]
  refine ⟨rg, m.winnow, m.lockedSources, ?_, fun hlen n hn hr => ?_, fun hlen f hf hr => ?_⟩
  · generalize m.lockedSources = so
    generalize m.winnow = wi at hm' ⊢
    rw [hm']
  · exact lockedSources_locked (by rw [hso]; exact hlen) hn ((congrArg Source.role (hrole n)).trans hr)
  · have hmem : f ∈ s.activeFurrows := List.mem_filter.mpr ⟨List.mem_range.mpr hf, decide_eq_true hr⟩
    rw [h2, foldl_setAt (g := WinnowF.dueFrom (s.awake d).clocks.tick) (WinnowF.dueFrom_dueFrom _) {} _ (by omega), if_pos hmem]
    exact WinnowF.dueFrom_due _ _

theorem vaneStop_lane (s : State) (l : Nat) : s.vaneStop.lane l = s.lane l := rfl

/-- Settles O59. -/
theorem powerStateEvents : Obligations.PowerStateEvents := by
  refine ⟨?_, ?_, ?_, ?_, ?_⟩
  · intro s hd he hs hn hb
    have hgo : doAutoIdle s = s.beginEntry .idle := by
      refine if_pos ⟨hd, he, hs, ?_, hb⟩
      rw [Bool.not_eq_true', List.any_eq_false]
      intro l hl
      obtain ⟨hj, hq⟩ := hn l hl
      rw [hj, hq]
      decide
    have hfrom : s.sleepsFrom = .ready := by
      unfold State.sleepsFrom
      rw [if_pos (Or.inl hd), hd]
    exact ⟨_, congrArg Host.Outcome.next (hgo.trans (beginEntry_idle s)), rfl, rfl, hfrom, rfl⟩
  · intro s hd he hw hwarn
    have hasleep : s.asleep = true := by
      unfold State.asleep
      obtain h | h := hd <;> rw [h] <;> rfl
    refine ⟨fun hat => ⟨({ s with lantern := { s.lantern with wakeAt := none } } : State).beginWake .ready, ?_, rfl, rfl, rfl⟩,
      fun d ht => ⟨s.beginWake d, ?_, rfl, rfl, rfl⟩⟩
    · refine congrArg Host.Outcome.next ((if_neg (by simp [hat, he, hw])).trans (if_pos ⟨hasleep, by simp [hwarn]⟩))
    · refine congrArg Host.Outcome.next ((if_neg (by simp [hasleep, he, hw, hwarn])).trans ?_)
      rw [ht]
  · intro s d hi hn hw hd
    have hne : d ≠ .doze := by obtain rfl | rfl := hd <;> decide
    obtain ⟨rg, ct, se, ce, so, la, ts, ne, dn, hr⟩ := writesOnly_restartBlocks s
    have hw' : s.restartBlocks.lantern.waking = some ⟨d, .doze⟩ := by rw [hr]; exact hw
    obtain ⟨rg', wi, so', he, hlock, hdue⟩ := finishWake_spec hw' hne
    have hsrc (n : Nat) : s.restartBlocks.source n = s.source n := by rw [hr]; rfl
    have hfur (n : Nat) : s.restartBlocks.furrow n = s.furrow n := by rw [hr]; rfl
    have hjobs : ∀ l ∈ (s.restartBlocks.finishWake []).lanes, l.job = none := by
      rw [he, hr]
      exact fun l hl => (hn l hl).1
    have hgo : doWakeComplete [] s = s.restartBlocks.finishWake [] := by
      unfold doWakeComplete
      rw [hw]
      dsimp only
      rw [if_neg hne, powerNext_of_no_jobs hjobs, resumeWaiting_of_no_jobs hjobs]
    refine ⟨_, congrArg Host.Outcome.next hgo, ?_, ?_, fun n hn hrole => ?_, fun x => ?_, fun f hf hrole => ?_⟩
    · rw [he]
    · rw [he]
    · rw [State.source, he]
      exact hlock (by rw [hr]; exact hi.sources) n hn (by rw [hsrc]; exact hrole)
    · unfold State.byteAt
      rw [he, hr]
    · rw [State.win, he]
      exact hdue (by rw [hr]; exact hi.winnow) f hf (by rw [hfur]; exact hrole)
  · intro s l k w b d n j e hs hl hj hjl hkind he hw hd
    generalize hu : ({ s with lantern := { s.lantern with entry := none } } : State) = u
    have hou : u.onlyJob l := by rw [← hu]; exact hs
    have hju : (u.lane l).job = some j := by rw [← hu]; exact hj
    have hnext : u.powerNext = u.powerDone j k w := by
      rw [powerNext_onlyJob hou hl hju hkind]
      unfold State.powerGo
      rw [if_neg (by simp [← hu, hw]), if_pos (by rw [← hu]; exact hd)]
    have hentry : s.entryComplete = u.powerDone j k w := by
      unfold State.entryComplete
      rw [he]
      exact (congrArg State.powerNext hu).trans hnext
    generalize hv : ({ u with lantern := { u.lantern with
      wakeAt := if 2 ≤ k ∧ w ≠ 0 then some (u.clocks.tick + w * 4000000) else none } } : State) = v
    have hdone : u.powerDone j k w = v.reply j.hdr j.opcode stOk := by rw [← hv]; rfl
    have hvl (i : Nat) : v.lane i = s.lane i := by rw [← hv, ← hu]; rfl
    have hlen : v.lanes.length = 16 := by rw [← hv, ← hu]; exact hs.1
    have hfree : ((v.reply j.hdr j.opcode stOk).lane l).job = none := by
      rw [← hjl]
      exact reply_frees_of_lt _ _ _ (by rw [hlen, hjl]; exact hl) (by rw [hvl, hjl, hj])
    have hjobs := no_jobs_of_freed hs ((reply_lanes_length v j.hdr j.opcode stOk []).trans (hlen.trans hs.1.symm)) hfree
      fun i hi => (reply_other v j.hdr j.opcode stOk [] (hjl.symm ▸ hi)).trans (hvl i)
    have hgo : doPowerEntryComplete s = v.reply j.hdr j.opcode stOk := by
      unfold doPowerEntryComplete
      rw [if_pos (by simp [he]), hentry, hdone, resumeWaiting_of_no_jobs hjobs]
    have hlan : (v.reply j.hdr j.opcode stOk).lantern = v.lantern := by rw [reply_only]
    have hdev : (v.reply j.hdr j.opcode stOk).dev = v.dev := by rw [reply_only]
    refine ⟨_, congrArg Host.Outcome.next hgo, ?_, hfree, ?_, ?_⟩
    · rw [hlan, ← hv, ← hu]
    · rw [hdev, ← hv, ← hu]
    · rw [hlan, ← hv, ← hu]
  · intro s l q m z j hs hl hj hjl hkind hd
    have hgo : doHeatLimit s = s.heatFailure.2.failEngineStart j.hdr s.heatFailure.1 := by
      unfold doHeatLimit
      rw [if_pos hd, findSome_onlyJob hs hl fun x hx => by rw [hx]; rfl, hj]
      simp only [Option.bind_some, hkind]
    have hlane (i : Nat) : s.heatFailure.2.lane i = s.lane i := rfl
    have hlen : s.heatFailure.2.lanes.length = 16 := hs.1
    have hdev : s.heatFailure.2.dev = s.dev := rfl
    have hst : s.heatFailure.1.status = stStallTimeout := rfl
    generalize s.heatFailure.2 = u at hgo hlane hlen hdev
    generalize s.heatFailure.1 = f at hgo hst
    have hl' : j.hdr.lane < u.lanes.length := by rw [hlen, hjl]; exact hl
    refine ⟨_, congrArg Host.Outcome.next hgo, ?_, ?_, rfl, (tells_failReply u j.hdr 0x0501 f 0xFFFFFFFF).only.dev.trans hdev⟩
    · rw [← hjl, State.failEngineStart, vaneStop_lane]
      exact failReply_frees_of_lt (j := j) 0x0501 f 0xFFFFFFFF hl' (by rw [hlane, hjl, hj])
    · rw [← hjl, State.failEngineStart, vaneStop_lane]
      exact failReply_held hl' (by rw [hst]; decide) (by rw [hst]; decide)

end Sys2Proof.Machine
end

section
/-!
SUPPORT. What the Reaper's work for dispatched records changes (R198 to R215), and what it keeps: the device state, the
lanes, the sessions, the holder, and of each step its lane, program and columns.
-/
namespace Sys2Proof.Machine

/-- What a step is from its start to its end. -/
def Step.ident (t : Step) : Nat × Nat × Nat × List Column := (t.lane, t.order, t.program, t.cols)

/-- What work on dispatched records changes. -/
structure State.engineWork (s t : State) : Prop where
  only : ∃ rg ct ev lg la me fu st re fr, t = { s with
    regs := rg, ctrs := ct, events := ev, ledger := lg, lantern := { s.lantern with latch := la }, memory := me, furrows := fu
    steps := st, reaper := re, free := fr }
  holder : t.reaper.holder = s.reaper.holder
  idents : t.steps.map Step.ident = s.steps.map Step.ident

namespace State.engineWork
variable {s t u : State}

theorem refl (s : State) : s.engineWork s := ⟨⟨_, _, _, _, _, _, _, _, _, _, rfl⟩, rfl, rfl⟩

theorem trans (h : s.engineWork t) (k : t.engineWork u) : s.engineWork u := by
  obtain ⟨⟨_, _, _, _, _, _, _, _, _, _, rfl⟩, hh, hi⟩ := h
  obtain ⟨⟨_, _, _, _, _, _, _, _, _, _, rfl⟩, kh, ki⟩ := k
  exact ⟨⟨_, _, _, _, _, _, _, _, _, _, rfl⟩, kh.trans hh, ki.trans hi⟩

theorem foldl {β : Type} {f : State → β → State} (hf : ∀ (s : State) (x : β), s.engineWork (f s x)) : ∀ (l : List β) (s : State), s.engineWork (l.foldl f s)
  | [], s => refl s
  | x :: l, s => (hf s x).trans (foldl hf l (f s x))

theorem ite {p : Prop} [Decidable p] (h : s.engineWork t) (k : s.engineWork u) : s.engineWork (if p then t else u) := by
  split
  · exact h
  · exact k

theorem of_memOnly (h : s.memOnly t) : s.engineWork t := by
  obtain ⟨_, _, _, _, _, _, rfl⟩ := h
  exact ⟨⟨_, _, _, _, _, _, _, _, _, _, rfl⟩, rfl, rfl⟩

theorem bump (s : State) (a n : Nat) : s.engineWork (s.bump a n) := of_memOnly (memOnly_bump s a n)

theorem raise (s : State) (r : Record) (b : Option Blk) : s.engineWork (s.raise r b) := of_memOnly (memOnly_raise s r b)

theorem setReg (s : State) (a v : Nat) : s.engineWork (s.setReg a v) := of_memOnly (.setReg s a v)

theorem setFld (s : State) (a lo w v : Nat) : s.engineWork (s.setFld a lo w v) := setReg s a _

theorem bump48 (s : State) (a n : Nat) : s.engineWork (s.bump48 a n) := by
  rw [bump48_only]
  exact ⟨⟨_, _, _, _, _, _, _, _, _, _, rfl⟩, rfl, rfl⟩

theorem furrows (s : State) (fu : List Furrow) : s.engineWork { s with furrows := fu } := ⟨⟨_, _, _, _, _, _, _, _, _, _, rfl⟩, rfl, rfl⟩

theorem modStep (s : State) (l : Nat) {g : Step → Step} (hg : ∀ x, (g x).ident = x.ident) : s.engineWork (s.modStep l g) := by
  refine ⟨⟨_, _, _, _, _, _, _, _, _, _, rfl⟩, rfl, ?_⟩
  unfold State.modStep
  rw [List.map_map]
  refine List.map_congr_left fun x _ => ?_
  rw [Function.comp_apply]
  split
  · exact hg x
  · rfl

theorem dev (h : s.engineWork t) : t.dev = s.dev := by
  obtain ⟨⟨_, _, _, _, _, _, _, _, _, _, rfl⟩, -, -⟩ := h
  rfl

theorem lanes (h : s.engineWork t) : t.lanes = s.lanes := by
  obtain ⟨⟨_, _, _, _, _, _, _, _, _, _, rfl⟩, -, -⟩ := h
  rfl

theorem sessions (h : s.engineWork t) : t.sessions = s.sessions := by
  obtain ⟨⟨_, _, _, _, _, _, _, _, _, _, rfl⟩, -, -⟩ := h
  rfl

theorem lantern (h : s.engineWork t) : ∃ la, t.lantern = { s.lantern with latch := la } := by
  obtain ⟨⟨_, _, _, _, la, _, _, _, _, _, rfl⟩, -, -⟩ := h
  exact ⟨la, rfl⟩

/-- The step of a lane goes on as the one it was. -/
theorem stepOf (h : s.engineWork t) (l : Nat) : (t.stepOf l).map Step.ident = (s.stepOf l).map Step.ident := by
  have hfind (ls : List Step) : (ls.find? fun x => x.lane = l).map Step.ident = (ls.map Step.ident).find? fun i => i.1 = l := by
    rw [List.find?_map]
    rfl
  unfold State.stepOf
  rw [hfind, hfind, h.idents]

end State.engineWork

/-! ### Fetches and reads (R198 to R204) -/

theorem work_chargeReads (s : State) (ps : List Piece) : s.engineWork (s.chargeReads ps) := (State.engineWork.bump48 s _ _).trans (.bump _ _ _)

theorem work_beginFetch (s : State) (lane idx : Nat) (ds : List Desc) : s.engineWork (s.beginFetch lane idx ds) := by
  unfold State.beginFetch
  cases s.stepOf lane with
  | none => exact .refl s
  | some t => exact .ite (.refl s) (.modStep s lane fun _ => rfl)

theorem work_issue (s : State) (lane idx : Nat) (spec : Bool) (p : Piece) (tag : Nat) : s.engineWork (s.issue lane idx spec p tag) := by
  unfold State.issue
  dsimp only
  generalize hu : (s.bump48 (aReaper 0x50) 256).setFld (aReaper 0x28) 16 14 _ = u
  have h1 : s.engineWork u := hu ▸ (State.engineWork.bump48 s _ _).trans (.setFld _ _ _ _ _)
  have h2 := State.engineWork.ite (p := p.used < 256) (h1.trans (.bump u (aReaper 0x60) 1)) h1
  generalize (if p.used < 256 then u.bump (aReaper 0x60) else u) = v at h2
  exact (State.engineWork.ite (h2.trans (.bump v _ _)) h2).trans (.modStep _ _ fun _ => rfl)

theorem work_issueNext {s u : State} {t : Step} {spec : Bool} (e : s.issueNext t spec = some u) : s.engineWork u := by
  unfold State.issueNext at e
  split at e
  · split at e
    · exact Option.some.inj e ▸ work_issue s _ _ _ _ _
    · cases e
  · cases e

/-! ### Run-ahead (R209 to R212) -/

theorem work_noteFault (s : State) (a kind : Nat) (spec tear : Bool) : s.engineWork (s.noteFault a kind spec tear) :=
  ((State.engineWork.setReg s _ _).trans (.setReg _ _ _)).trans (.setReg _ _ _)

theorem work_stopAhead (s : State) (t : Step) : s.engineWork (s.stopAhead t) :=
  .ite (.refl s) ((State.engineWork.modStep s t.lane (g := fun t => { t with stopAt := some t.ahead }) fun _ => rfl).trans (.bump _ _ _))

theorem work_speculate (s : State) (t : Step) (r : DepR) : s.engineWork (s.speculate t r) := by
  unfold State.speculate
  dsimp only
  refine .ite (.ite (.refl s) ?_) (.refl s)
  split
  · exact (work_chargeReads s _).trans (work_noteFault _ _ _ _ _)
  · exact (work_chargeReads s _).trans (.modStep _ _ fun _ => rfl)

theorem work_advance {s u : State} {t : Step} (e : s.advance t = some u) : s.engineWork u := by
  unfold State.advance at e
  split at e
  · cases e
  · split at e
    · cases e
    · dsimp only at e
      split at e
      · exact Option.some.inj e ▸ (work_stopAhead s t).trans (work_speculate _ _ _)
      · exact Option.some.inj e ▸ work_stopAhead s t
  · have hm (i : Nat) : s.engineWork (s.modStep t.lane fun t => { t with ahead := i }) := .modStep s _ fun _ => rfl
    exact Option.some.inj e ▸ .ite ((hm _).trans (work_beginFetch _ _ _ _)) (hm _)

theorem work_reapOnce {s u : State} {lane : Nat} (e : s.reapOnce lane = some u) : s.engineWork u := by
  unfold State.reapOnce at e
  split at e
  · cases e
  · split at e
    · cases e
    · split at e
      · exact work_issueNext e
      · exact work_advance e

theorem work_reapStep (lane n : Nat) (s : State) : s.engineWork (State.reapStep lane n s) := by
  induction n generalizing s with
  | zero => exact .refl s
  | succ n ih =>
    unfold State.reapStep
    split
    · exact .refl s
    · next e => exact (work_reapOnce e).trans (ih _)

theorem work_reapSpec (lane n : Nat) (s : State) : s.engineWork (State.reapSpec lane n s) := by
  induction n generalizing s with
  | zero => exact .refl s
  | succ n ih =>
    unfold State.reapSpec
    split
    · exact .refl s
    · refine .ite (.refl s) ?_
      split
      · exact .refl s
      · next e => exact (work_issueNext e).trans (ih _)

/-! ### Delivery (R198, R312) -/

theorem aborted_ident (f : Failure) (rec : Nat) (k : Nat × Nat) (t : Step) : (t.aborted f rec k).ident = t.ident := by
  unfold Step.aborted
  split <;> rfl

theorem work_abortStep (s : State) (l : Nat) (f : Failure) (rec : Nat) : s.engineWork (s.abortStep l f rec) := by
  rw [abortStep_eq]
  exact .modStep s l (aborted_ident f rec _)

theorem work_finishCopies (s : State) (lane : Nat) : s.engineWork (s.finishCopies lane) := by
  refine .modStep s lane fun x => ?_
  generalize x.live = vs
  induction vs generalizing x with
  | nil => rfl
  | cons v vs ih =>
    rw [List.foldl_cons, ih]
    split
    · rfl
    · rfl

theorem work_deliver3 (lane idx n : Nat) (s : State) : s.engineWork (State.deliver3 lane idx n s) := by
  induction n generalizing s with
  | zero => exact .refl s
  | succ n ih =>
    unfold State.deliver3
    split
    · exact .refl s
    · refine .ite (.refl s) ?_
      split
      · exact .refl s
      · split
        · exact work_abortStep s _ _ _
        · split
          · exact .refl s
          · split
            · exact .refl s
            · exact work_abortStep s _ _ _
            · refine State.engineWork.trans ?_ (ih _)
              exact ((State.engineWork.of_memOnly (memOnly_writeMem s _ _ _)).trans (.bump48 _ _ _)).trans (.modStep _ _ fun _ => rfl)

theorem work_deliverStep (s : State) (lane : Nat) : s.engineWork (s.deliverStep lane) := by
  unfold State.deliverStep
  split
  · exact .refl s
  · exact ((State.engineWork.foldl (fun s _ => work_deliver3 _ _ _ s) _ s).trans (work_finishCopies _ lane)).trans (.modStep _ _ fun _ => rfl)

theorem work_reap (s : State) : s.engineWork s.reap := by
  unfold State.reap
  exact (State.engineWork.foldl (f := fun s l => State.reapStep l 40000 (s.deliverStep l))
    (fun s l => (work_deliverStep s l).trans (work_reapStep l 40000 _)) _ s).trans (.foldl (fun s l => work_reapSpec l 12288 s) _ _)

theorem work_finishStreams (s : State) (lane : Nat) : s.engineWork (s.finishStreams lane) := by
  unfold State.finishStreams
  split
  · exact .refl s
  · dsimp only
    refine State.engineWork.trans (State.engineWork.trans (.foldl (fun s j => ?_) _ s) (.furrows _ _)) (.foldl (fun s (v : Live) => .modStep s lane (g := fun t => t.complete v.idx) fun _ => rfl) _ _)
    exact .ite ((State.engineWork.bump s _ _).trans (.bump _ _ _)) (.bump s _ _)

/-- What the work of the engines on the records of all steps changes. -/
theorem work_settle (s : State) : s.engineWork s.settle :=
  ((work_reap s).trans (.foldl (fun s (t : Step) => work_finishStreams s t.lane) _ _)).trans (work_reap _)

end Sys2Proof.Machine
end

section
/-!
PROOFS. Supply events and the host watchdog (O48).
-/
namespace Sys2Proof.Machine

/-! ### Memory leaves the Lantern alone (R334, R435) -/

theorem bump_lantern (s : State) (a n : Nat) : (s.bump a n).lantern = s.lantern := by rw [bump_only]

/-- A record of a kind without a latch leaves the Lantern as it was. -/
theorem raise_lantern (s : State) {r : Record} (b : Option Blk) (h : (kindPlaces r.kind r.detail).2.2 = false) : (s.raise r b).lantern = s.lantern := by
  refine (raiseAt_keeps s r _).2.trans ?_
  rw [h]
  rfl

theorem logCE_lantern (s : State) (w : Nat) : (s.logCE w).lantern = s.lantern := by
  unfold State.logCE
  extract_lets c u lo isHere
  have hu : u.lantern = s.lantern := bump_lantern s _ _
  clear_value u
  split
  · exact hu
  · split
    · rw [raise_lantern _ _ rfl]
      iterate 4 rw [setReg_lantern]
      exact hu
    · have hv := (bump_lantern u (aMemctl c 0x128) 1).trans hu
      split
      · exact hv
      · rw [raise_lantern _ _ rfl]
        exact hv

theorem logUE_lantern (s : State) (w src : Nat) : (s.logUE w src).lantern = s.lantern := by
  unfold State.logUE
  extract_lets c u v lo isHere
  have hv : v.lantern = s.lantern := (raise_lantern u _ rfl).trans (bump_lantern s _ _)
  clear_value v
  split
  · exact hv
  · split
    · exact hv
    · exact hv

theorem readWord_lantern (s : State) (w src : Nat) : (s.readWord w src).2.lantern = s.lantern := by
  unfold State.readWord
  split
  · rfl
  · split
    · rfl
    · exact logCE_lantern _ w
    · exact logUE_lantern s w src
    · rfl
    · extract_lets t v data
      split
      · exact logUE_lantern _ w src
      · split
        · exact logCE_lantern _ w
        · rfl

theorem setFlip_lantern (s : State) (t : Tier) (f : Option Flip) : (s.setFlip t f).lantern = s.lantern := by cases t <;> rfl

theorem applyFlip_lantern (s : State) (w : Nat) : (s.applyFlip w).lantern = s.lantern := by
  unfold State.applyFlip
  dsimp only
  split
  · rfl
  · split
    · rfl
    · exact setFlip_lantern s _ none

theorem storePart_lantern (s : State) (m : MergeEntry) : (s.storePart m).lantern = s.lantern := by
  unfold State.storePart
  split
  · extract_lets u
    have hu : u.lantern = s.lantern := by
      show State.lantern (match s.errOf m.word with | none => s | some e => s.setErr (e.touched (offsOf m.bytes))) = _
      split <;> rfl
    exact (applyFlip_lantern _ _).trans hu
  · have hr := readWord_lantern s m.word (if m.owner = .commit then 3 else 1)
    generalize s.readWord m.word (if m.owner = .commit then 3 else 1) = r at hr
    obtain ⟨d, u⟩ := r
    cases d with
    | none => exact hr
    | some d => exact (applyFlip_lantern _ _).trans hr

theorem flushEntry_lantern (s : State) (m : MergeEntry) : (s.flushEntry m).lantern = s.lantern := by
  rw [flushEntry_eq]
  extract_lets c
  have hc : c.lantern = s.lantern := bump_lantern _ _ _
  split
  · exact (applyFlip_lantern _ _).trans hc
  · exact (storePart_lantern _ m).trans ((bump_lantern c _ _).trans hc)

theorem flushAll_lantern (l : List MergeEntry) (s : State) : (s.flushAll l).lantern = s.lantern := by
  unfold State.flushAll
  induction l generalizing s with
  | nil => rfl
  | cons m t ih => exact (ih _).trans (flushEntry_lantern s m)

theorem fallAsleep_latch (u : State) (va : Vane) (dn : Option Asleep) : (u.fallAsleep va dn).lantern.latch = u.lantern.latch := rfl

/-- An entry into DOZE or NIGHT does not clear the alert latch. -/
theorem beginEntry_latch {s : State} {d : DState} (hd : d ≠ .idle) (h : s.lantern.latch = true) : (s.beginEntry d).lantern.latch = true := by
  obtain ⟨va, dn, e⟩ := beginEntry_eq s hd
  have hruns : (s.runsEnd d).lantern.latch = true := by
    have hf : ((s.reportsEntry d).flushAll s.memory.merge).lantern.latch = true := by
      rw [flushAll_lantern]
      exact h
    obtain ⟨_, _, hr⟩ := abandonRuns_only ((s.reportsEntry d).flushAll s.memory.merge)
    unfold State.runsEnd
    rw [hr]
    exact hf
  rw [e, fallAsleep_latch]
  unfold State.entryEnds
  generalize s.runsEnd d = u at hruns ⊢
  exact (endExchanges_spec u).1.latch hruns

/-! ### Jobs that end -/

theorem jobsHome_of_filter {s t : State} {p : Job → Bool} (hh : s.jobsHome) (h : ∀ k, (t.lane k).job = (s.lane k).job.filter p) : t.jobsHome := by
  intro k j hj
  rw [h, Option.filter_eq_some_iff] at hj
  exact hh k j hj.1

/-- Every command that runs in a state ran before. -/
def State.jobsLeft (s t : State) : Prop := ∀ k j, (t.lane k).job = some j → (s.lane k).job = some j

theorem jobsLeft_reply (s : State) (h : ReqHdr) (op st : Nat) (d : List Byte) : s.jobsLeft (s.reply h op st d) := by
  intro k j hj
  unfold State.reply at hj
  dsimp only at hj
  rw [lane_setLane, lane_sendReply, lane_sendReply] at hj
  split at hj
  · next hk =>
    rw [hk.1]
    cases hjob : (s.lane h.lane).job with
    | none => simp [hjob] at hj
    | some i =>
      rw [hjob] at hj
      dsimp only at hj
      split at hj
      · cases hj
      · exact hj
  · exact hj

theorem jobsLeft_failReply (s : State) (h : ReqHdr) (op : Nat) (f : Failure) (rec : Nat) : s.jobsLeft (s.failReply h op f rec) := by
  obtain ⟨g, u, e, -, -, hlane⟩ := failReply_cases s h op f rec
  intro k j hj
  rw [e] at hj
  exact (hlane k).1.symm.trans (jobsLeft_reply u h op _ _ k j hj)

theorem jobsLeft_eachJob {g : State → Job → State} (hg : ∀ (u : State) (j : Job), u.jobsLeft (g u j)) : ∀ (ls : List Lane) (s : State), s.jobsLeft (State.eachJob g ls s)
  | [], _ => fun _ _ h => h
  | l :: ls, s => fun k j h => by
    have h1 : ((l.job.elim s (g s)).lane k).job = some j := jobsLeft_eachJob hg ls _ k j h
    cases hl : l.job with
    | none =>
      rw [hl] at h1
      exact h1
    | some i =>
      rw [hl] at h1
      exact hg s i k j h1

/-- Queued STEP_RUNs that are marked leave every running command as it is. -/
theorem failQueued_job (s : State) (f : Failure) (k : Nat) : ((s.failQueued f).lane k).job = (s.lane k).job := by
  unfold State.lane State.failQueued
  dsimp only
  rw [List.getD_eq_getElem?_getD, List.getElem?_map, List.getD_eq_getElem?_getD]
  cases s.lanes[k]? <;> rfl

/-- The lanes once every step is ended: those after the STEP_RUNs that wait for a wake have failed. -/
theorem endAllSteps_job (s : State) (f : Failure) (k : Nat) : ((s.endAllSteps f).lane k).job = ((s.failWaking f).lane k).job := by
  unfold State.endAllSteps
  rw [failQueued_job, foldl_abort_only]
  rfl

theorem endAllSteps_jobsLeft (s : State) (f : Failure) : s.jobsLeft (s.endAllSteps f) := by
  intro k j hj
  rw [endAllSteps_job, failWaking_eq] at hj
  refine jobsLeft_eachJob (fun u j => ?_) s.lanes s k j hj
  split
  · exact jobsLeft_failReply _ _ _ _ _
  · exact fun _ _ h => h

theorem endAllSteps_jobsHome {s : State} (hh : s.jobsHome) (f : Failure) : (s.endAllSteps f).jobsHome :=
  fun k j hj => hh k j (endAllSteps_jobsLeft s f k j hj)

/-! ### Tests cut short (R398, log entry 115) -/

/-- What the end of a test that is cut short changes. -/
def State.cutsOnly (s t : State) : Prop := ∃ rg ls sn ev lg la se pr me fr, t = { s with
  regs := rg, lanes := ls, net := { s.net with sent := sn }, events := ev, ledger := lg, lantern := { s.lantern with latch := la }
  sessions := se, programs := pr, memory := me, free := fr }

namespace State.cutsOnly
variable {s t u : State}

theorem refl (s : State) : s.cutsOnly s := ⟨_, _, _, _, _, _, _, _, _, _, rfl⟩

theorem trans (h : s.cutsOnly t) (k : t.cutsOnly u) : s.cutsOnly u := by
  obtain ⟨_, _, _, _, _, _, _, _, _, _, rfl⟩ := h
  obtain ⟨_, _, _, _, _, _, _, _, _, _, rfl⟩ := k
  exact ⟨_, _, _, _, _, _, _, _, _, _, rfl⟩

theorem failReply (s : State) (h : ReqHdr) (op : Nat) (f : Failure) (rec : Nat) : s.cutsOnly (s.failReply h op f rec) := by
  obtain ⟨_, _, _, _, _, _, e⟩ := tellsOnly_failReply s h op f rec
  rw [e]
  exact ⟨_, _, _, _, _, _, _, _, _, _, rfl⟩

theorem sieveOpen (s : State) (r : Run) : s.cutsOnly (s.sieveOpen r) := by
  obtain ⟨_, _, _, _, _, e⟩ := sieveOpen_only s r
  rw [e]
  exact ⟨_, _, _, _, _, _, _, _, _, _, rfl⟩

end State.cutsOnly

theorem cutTest_only (f : Failure) (s : State) (j : Job) : s.cutsOnly (State.cutTest f s j) := by
  unfold State.cutTest
  split
  · exact .failReply s _ _ _ _
  · exact (State.cutsOnly.sieveOpen s _).trans (.failReply _ _ _ _ _)
  · split
    · exact .failReply s _ _ _ _
    · exact .refl s
  · exact .refl s

theorem cutTests_only (s : State) (f : Failure) : s.cutsOnly (s.cutTests f) := by
  have h : ∀ (ls : List Lane) (s : State), s.cutsOnly (State.eachJob (State.cutTest f) ls s) := by
    intro ls
    induction ls with
    | nil => exact .refl
    | cons l ls ih =>
      intro s
      refine State.cutsOnly.trans ?_ (ih _)
      show s.cutsOnly (l.job.elim s (State.cutTest f s))
      cases l.job with
      | none => exact .refl s
      | some j => exact cutTest_only f s j
  rw [cutTests_eq]
  exact h _ s

/-- Once every test has been cut short none runs. -/
theorem cutTests_testing {s : State} (hh : s.jobsHome) (f : Failure) : (s.cutTests f).testing = false ∧ (s.cutTests f).jobsHome := by
  have hjob (k : Nat) : ((s.cutTests f).lane k).job = (s.lane k).job.filter fun j => ¬ j.isTest = true := by
    rw [cutTests_eq]
    exact eachJob_spec (cutTest_settles f) hh k
  refine ⟨testing_of_no_tests fun k j hj => ?_, jobsHome_of_filter hh hjob⟩
  rw [hjob, Option.filter_eq_some_iff] at hj
  simpa using hj.2

/-! ### A DOZE that is due (R103, R398) -/

/-- The DOZE that is due begins. -/
def State.fallDue (s : State) : State := ({ s with lantern := { s.lantern with dozeDue := false } } : State).beginEntry .doze

theorem dozeIfDue_cases (s : State) : s.dozeIfDue = s ∨ s.dozeIfDue = s.fallDue := by
  unfold State.dozeIfDue
  split
  · exact Or.inr rfl
  · exact Or.inl rfl

theorem dozeIfDue_begins {s : State} (hs : s.steps = []) (hd : s.lantern.dozeDue = true) (ht : s.testing = false) (hr : s.dev = .ready ∨ s.dev = .idle) :
    s.dozeIfDue = s.fallDue := if_pos ⟨hs, hd, by simp [ht], hr⟩

theorem dozeIfDue_waits {s : State} (hs : s.steps ≠ []) : s.dozeIfDue = s := if_neg fun c => hs c.1

/-- What an entry into DOZE shows at once. -/
theorem beginEntry_doze (s : State) : (s.beginEntry .doze).dev = .doze ∧ (s.beginEntry .doze).lantern.entry = some ⟨.doze⟩ ∧
    (s.beginEntry .doze).lantern.hold = none ∧ (s.beginEntry .doze).watchdog = s.watchdog := by
  obtain ⟨⟨_, _, _, _, _, _, _, _, _, _, _, _, _, ho⟩, -⟩ := beginEntry_sleep s (d := .doze) (by decide)
  have hl := congrArg State.lantern ho
  exact ⟨(congrArg State.dev ho :), (congrArg Lantern.entry hl :), (congrArg Lantern.hold hl :), (congrArg State.watchdog ho :)⟩

theorem fallDue_latch {s : State} (h : s.lantern.latch = true) : s.fallDue.lantern.latch = true := beginEntry_latch (by decide) h

/-! ### The supply (R396 to R400) -/

theorem resumeHeat_only (s : State) : ∃ va, s.resumeHeat = { s with vane := va } := by
  unfold State.resumeHeat
  split
  · exact ⟨s.vane, rfl⟩
  · split
    · exact ⟨_, rfl⟩
    · exact ⟨_, rfl⟩

/-- The supply has been read, and its warning is confirmed. -/
def State.warned (s : State) (m : Nat) : State := { s.supplyRead m with lantern := { (s.supplyRead m).lantern with warn := true } }

/-- What a hold of the supply tells and counts (R396). -/
def State.toldHold (u : State) (d : Nat) : State := (u.raise (lanternRecord 0x0050 d) (some .lantern)).bump (aLantern 0x110)

/-- Dispatch is held from now on (R396). -/
def State.heldFrom (u : State) : State := { u with lantern := { u.lantern with hold := some u.clocks.tick } }

theorem doSupplyHold_holds {s : State} {m : Nat} (hw : s.lantern.warn = false) (hm : m < volts 39) (hd : s.dev = .ready ∨ s.dev = .run ∨ s.dev = .idle) :
    doSupplyHold m s = ((s.warned m).toldHold (m % 65536)).heldFrom := by
  have hoff : s.dev ≠ .off := by obtain h | h | h := hd <;> rw [h] <;> decide
  obtain ⟨r, hr⟩ : ∃ r, s.supplyRead m = r := ⟨_, rfl⟩
  have hdev : r.dev = s.dev := by
    obtain ⟨i, b, f, h⟩ := supplyRead_only s m
    rw [← hr, h]
  unfold doSupplyHold State.warned
  rw [if_neg (by simp [hw, hoff, Nat.not_le.mpr hm]), hr]
  dsimp only
  obtain h | h | h := hd
  all_goals
    rw [hdev, h]
    rfl

theorem toldHold_spec (u : State) (d : Nat) : u.tells (u.toldHold d) ∧ (u.toldHold d).lanes = u.lanes ∧ (u.toldHold d).lastEvent 0x50 d := by
  unfold State.toldHold
  refine ⟨(tells_raise u _ _).trans (tells_bump _ _ 1), (bump_lanes _ _ _).trans (raise_lanes u _ _), ?_⟩
  have h : (u.raise (lanternRecord 0x0050 d) (some .lantern)).lastEvent 0x50 d := raise_lastEvent u (r := lanternRecord 0x0050 d) (some .lantern) rfl
  generalize u.raise (lanternRecord 0x0050 d) (some .lantern) = v at h ⊢
  unfold State.lastEvent at h ⊢
  rw [bump_only]
  exact h

theorem supplyHold_begins (s : State) (m : Nat) (hw : s.lantern.warn = false) (hm : m < volts 39) (hd : s.dev = .ready ∨ s.dev = .run ∨ s.dev = .idle) :
    ∃ t, exec (.supplyHold m) s = .next t ∧ t.dev = s.dev ∧ t.lantern.warn = true ∧
      t.lantern.hold = some s.clocks.tick ∧ t.lastEvent 0x50 (m % 65536) ∧ t.steps = s.steps ∧ t.lanes = s.lanes := by
  obtain ⟨u, hu⟩ : ∃ u, s.warned m = u := ⟨_, rfl⟩
  have hue : ∃ i b f, u = { s with lantern := { s.lantern with input := i, bulk := b, warn := true }, free := f } := by
    obtain ⟨i, b, f, hr⟩ := supplyRead_only s m
    rw [← hu, State.warned, hr]
    exact ⟨i, b, f, rfl⟩
  obtain ⟨v, hv⟩ : ∃ v, u.toldHold (m % 65536) = v := ⟨_, rfl⟩
  obtain ⟨ht, hl, he⟩ := toldHold_spec u (m % 65536)
  have hgo := doSupplyHold_holds hw hm hd
  rw [hu, hv] at hgo
  rw [hv] at ht hl he
  obtain ⟨i, b, f, hue⟩ := hue
  obtain ⟨_, _, _, _, _, _, ho⟩ := ht.only
  refine ⟨v.heldFrom, congrArg Host.Outcome.next hgo, ?_, ?_, ?_, he, ?_, ?_⟩
  · exact ht.only.dev.trans (by rw [hue])
  · show v.lantern.warn = true
    rw [ho, hue]
  · show some v.clocks.tick = _
    rw [ho, hue]
  · exact ht.only.steps.trans (by rw [hue])
  · exact hl.trans (by rw [hue])

/-- The warning and the hold of the supply are over. -/
def State.holdEnds (u : State) : State := { u with lantern := { u.lantern with warn := false, hold := none } }

theorem doSupplyRestore_ends {s : State} (hw : s.lantern.warn = true) : doSupplyRestore s = s.lantern.hold.elim s.supplyRises.holdEnds.resumeHeat
    fun t0 => (s.supplyRises.holdEnds.resumeHeat.bump (aLantern 0x118) ((s.clocks.tick - t0) / 4000)).settle := by
  obtain ⟨r, hr⟩ : ∃ r, s.supplyRises = r := ⟨_, rfl⟩
  unfold doSupplyRestore
  rw [if_neg (by simp [hw]), hr]
  cases s.lantern.hold <;> rfl

theorem supplyRestore_endsHold (s : State) (hw : s.lantern.warn = true) :
    ∃ t, exec .supplyRestore s = .next t ∧ t.dev = s.dev ∧ t.lantern.warn = false ∧
    t.lantern.hold = none ∧ t.lanes = s.lanes ∧ volts 40 < t.lantern.rail ∧
    (s.lantern.hold = none → t = { s with lantern := t.lantern, vane := t.vane, free := t.free }) := by
  obtain ⟨r, hr⟩ : ∃ r, s.supplyRises = r := ⟨_, rfl⟩
  obtain ⟨hrail, i, b, f, hre⟩ := supplyRises_spec s
  rw [hr] at hrail hre
  have hgo := doSupplyRestore_ends hw
  rw [hr] at hgo
  obtain ⟨lim, hlim⟩ : ∃ n, volts 40 = n := ⟨_, rfl⟩
  rw [hlim] at hrail ⊢
  obtain ⟨v, hv⟩ : ∃ v, r.holdEnds.resumeHeat = v := ⟨_, rfl⟩
  obtain ⟨va, hva⟩ := resumeHeat_only r.holdEnds
  rw [hv] at hgo hva
  have hve : v = { s with lantern := { s.lantern with input := i, bulk := b, warn := false, hold := none }, free := f, vane := va } := by
    rw [hva, hre]
    rfl
  have hlan : v.lantern = { s.lantern with input := i, bulk := b, warn := false, hold := none } := by rw [hve]
  have hrail : lim < v.lantern.rail := Nat.lt_of_lt_of_eq hrail (rail_congr (by rw [hlan, hre]) (by rw [hlan, hre]))
  cases hh : s.lantern.hold with
  | none =>
    rw [hh] at hgo
    refine ⟨v, congrArg Host.Outcome.next hgo, ?_, ?_, ?_, ?_, hrail, fun _ => ?_⟩
    · rw [hve]
    · rw [hlan]
    · rw [hlan]
    · rw [hve]
    · rw [hve]
  | some t0 =>
    rw [hh, Option.elim_some] at hgo
    have hw := (State.engineWork.bump v (aLantern 0x118) ((s.clocks.tick - t0) / 4000)).trans (work_settle _)
    obtain ⟨w, hwe⟩ : ∃ w, (v.bump (aLantern 0x118) ((s.clocks.tick - t0) / 4000)).settle = w := ⟨_, rfl⟩
    rw [hwe] at hw hgo
    obtain ⟨la, hla⟩ := hw.lantern
    refine ⟨w, congrArg Host.Outcome.next hgo, ?_, ?_, ?_, ?_, ?_, fun h => absurd h (by simp)⟩
    · exact hw.dev.trans (by rw [hve])
    · rw [hla, hlan]
    · rw [hla, hlan]
    · exact hw.lanes.trans (by rw [hve])
    · rw [hla]
      exact hrail

/-- What the DOZE that is due shows at once. -/
theorem fallDue_spec (s : State) : s.fallDue.dev = .doze ∧ s.fallDue.lantern.entry = some ⟨.doze⟩ ∧ s.fallDue.lantern.hold = none ∧
    s.fallDue.watchdog = s.watchdog := by
  obtain ⟨u, hu⟩ : ∃ u, ({ s with lantern := { s.lantern with dozeDue := false } } : State) = u := ⟨_, rfl⟩
  have hw : u.watchdog = s.watchdog := by rw [← hu]
  unfold State.fallDue
  rw [hu, ← hw]
  exact beginEntry_doze u

/-- The hold of the supply has run out: told and counted (R398). -/
def State.toldFault (u : State) (d : Nat) : State :=
  (({ u with lantern := { u.lantern with hold := none } } : State).raise (lanternRecord 0x0051 d stSupplyFault) (some .lantern)).bump (aLantern 0x114)

/-- Every step ends and every test is cut short with a failure. -/
def State.endWork (u : State) (f : Failure) : State := (u.endAllSteps f).cutTests f

/-- DOZE is due from now on (R103, R398). -/
def State.dozeDueNow (u : State) : State := { u with lantern := { u.lantern with dozeDue := true } }

theorem doSupplyFault_ends {s : State} (m : Nat) (hw : s.lantern.warn = true) (hh : s.lantern.hold ≠ none) :
    doSupplyFault m s = (((s.supplyRead m).toldFault (m % 65536)).endWork { status := stSupplyFault }).dozeDueNow.dozeIfDue := by
  obtain ⟨r, hr⟩ : ∃ r, s.supplyRead m = r := ⟨_, rfl⟩
  unfold doSupplyFault
  rw [if_neg (by simp [hw]), if_pos (by simpa [Option.isSome_iff_ne_none] using hh), hr]
  rfl

theorem toldFault_tells (u : State) (d : Nat) : ({ u with lantern := { u.lantern with hold := none } } : State).tells (u.toldFault d) :=
  (tells_raise _ _ _).trans (tells_bump _ _ 1)

theorem toldFault_lanes (u : State) (d : Nat) : (u.toldFault d).lanes = u.lanes := (bump_lanes _ _ _).trans (raise_lanes _ _ _)

/-- What the end of the work changes: no hold comes back, and no step goes. -/
theorem endWork_spec (u : State) (f : Failure) : (u.endWork f).dev = u.dev ∧ (u.endWork f).lantern.hold = u.lantern.hold ∧
    (u.endWork f).steps = (u.endAllSteps f).steps ∧ (u.jobsHome → (u.endWork f).testing = false) := by
  have ht := endAllSteps_tells u f
  obtain ⟨_, _, _, _, _, _, _, _, _, _, hc⟩ := cutTests_only (u.endAllSteps f) f
  obtain ⟨la, hla⟩ := ht.only.lantern
  refine ⟨?_, ?_, ?_, fun hh => (cutTests_testing (endAllSteps_jobsHome hh f) f).1⟩
  · unfold State.endWork
    rw [hc]
    exact ht.only.dev
  · unfold State.endWork
    rw [hc]
    exact (congrArg Lantern.hold hla :)
  · unfold State.endWork
    rw [hc]

theorem fails_of_steps {s t : State} {l : Nat} {f : Failure} {rec : Nat} (e : t.steps = s.steps) (h : s.fails l f rec) : t.fails l f rec := by
  unfold State.fails State.stepOf at h ⊢
  rw [e]
  exact h

theorem supplyFault_endsWork (s : State) (m : Nat) (hw : s.lantern.warn = true) (hh : s.lantern.hold ≠ none) :
    ∃ t, exec (.supplyFault m) s = .next t ∧ t.lantern.hold = none ∧
      (s.steps = [] → (s.dev = .ready ∨ s.dev = .idle) → s.jobsHome → t.dev = .doze ∧ t.lantern.entry = some ⟨.doze⟩) ∧
      (s.steps ≠ [] → t.dev = s.dev ∧ t.lantern.dozeDue = true ∧ ∀ x, s.stepOf x.lane = some x → x.failure = none → x.teardown = false →
        t.fails x.lane { status := stSupplyFault } x.cur) := by
  have hgo := doSupplyFault_ends m hw hh
  obtain ⟨r, hr⟩ : ∃ r, s.supplyRead m = r := ⟨_, rfl⟩
  have hre : r.dev = s.dev ∧ r.steps = s.steps ∧ r.lanes = s.lanes := by
    obtain ⟨_, _, _, h⟩ := supplyRead_only s m
    rw [← hr, h]
    exact ⟨rfl, rfl, rfl⟩
  rw [hr] at hgo
  obtain ⟨hrdev, hrsteps, hrlanes⟩ := hre
  obtain ⟨w, hwe⟩ : ∃ w, r.toldFault (m % 65536) = w := ⟨_, rfl⟩
  have htell := toldFault_tells r (m % 65536)
  have hwlanes := (toldFault_lanes r (m % 65536)).trans hrlanes
  rw [hwe] at hgo htell hwlanes
  have hwsteps : w.steps = s.steps := htell.only.steps.trans hrsteps
  have hwdev : w.dev = s.dev := htell.only.dev.trans hrdev
  have hwhold : w.lantern.hold = none := by
    obtain ⟨la, h⟩ := htell.only.lantern
    exact congrArg Lantern.hold h
  obtain ⟨hdev, hhold, hsteps, htest⟩ := endWork_spec w { status := stSupplyFault }
  have hlen := endAllSteps_length w { status := stSupplyFault }
  have hfails (x : Step) (hx : s.stepOf x.lane = some x) (hf : x.failure = none) (hd : x.teardown = false) :
      (w.endAllSteps { status := stSupplyFault }).fails x.lane { status := stSupplyFault } x.cur :=
    endAllSteps_fails (by unfold State.stepOf; rw [hwsteps]; exact hx) hf hd _
  obtain ⟨v, hv⟩ : ∃ v, w.endWork { status := stSupplyFault } = v := ⟨_, rfl⟩
  rw [hv] at hgo hdev hhold hsteps htest
  have hno : v.lantern.hold = none := hhold.trans hwhold
  refine ⟨v.dozeDueNow.dozeIfDue, congrArg Host.Outcome.next hgo, ?_, fun hs hd hhome => ?_, fun hs => ?_⟩
  · obtain h | h := dozeIfDue_cases v.dozeDueNow
    · rw [h]
      exact hno
    · rw [h]
      exact (fallDue_spec _).2.2.1
  · have hvs : v.steps = [] := by
      rw [hsteps]
      exact List.eq_nil_of_length_eq_zero (by rw [hlen, hwsteps, hs]; rfl)
    have hvd : v.dev = .ready ∨ v.dev = .idle := by rw [hdev, hwdev]; exact hd
    have hvt : v.testing = false := htest fun k j hj => hhome k j (by
      unfold State.lane at hj ⊢
      rwa [hwlanes] at hj)
    rw [dozeIfDue_begins (s := v.dozeDueNow) hvs rfl hvt hvd]
    obtain ⟨h1, h2, -⟩ := fallDue_spec v.dozeDueNow
    exact ⟨h1, h2⟩
  · have hvs : v.dozeDueNow.steps ≠ [] := by
      intro h
      have h0 : (w.endAllSteps { status := stSupplyFault }).steps.length = 0 := by
        rw [← hsteps]
        exact congrArg List.length h
      rw [hlen, hwsteps] at h0
      exact hs (List.eq_nil_of_length_eq_zero h0)
    rw [dozeIfDue_waits hvs]
    exact ⟨hdev.trans hwdev, rfl, fun x hx hf hd => fails_of_steps (s := w.endAllSteps { status := stSupplyFault }) hsteps (hfails x hx hf hd)⟩

/-! ### The host watchdog (R102, R103) -/

/-- The watchdog is disarmed, and its expiry recorded. -/
def State.expired (s : State) : State :=
  ({ s with watchdog := { s.watchdog with armedAt := none } } : State).raise { kind := 0x0011, status := stCancelled, detail := 0xFFFFFFFF }

theorem doHostWatchdogExpiry_ends {s : State} (ha : s.watchdog.armedAt ≠ none) (hd : s.dev = .ready ∨ s.dev = .run ∨ s.dev = .idle) :
    doHostWatchdogExpiry s = if s.watchdog.action = 1 then (s.expired.endAllSteps { status := stCancelled, detail := 0xFFFFFFFF }).dozeDueNow.dozeIfDue
      else s.expired.endAllSteps { status := stCancelled, detail := 0xFFFFFFFF } := by
  have hdev : s.expired.dev = s.dev := (tells_raise _ _ _).only.dev
  have hdev' := (endAllSteps_tells s.expired { status := stCancelled, detail := 0xFFFFFFFF }).only.dev
  obtain ⟨u, hu⟩ : ∃ u, s.expired = u := ⟨_, rfl⟩
  have hgo : doHostWatchdogExpiry s = if u.dev = .doze ∨ u.dev = .night then u
      else if s.watchdog.action = 1 ∧ ((u.endAllSteps { status := stCancelled, detail := 0xFFFFFFFF }).dev = .ready ∨
        (u.endAllSteps { status := stCancelled, detail := 0xFFFFFFFF }).dev = .run ∨
        (u.endAllSteps { status := stCancelled, detail := 0xFFFFFFFF }).dev = .idle)
      then (u.endAllSteps { status := stCancelled, detail := 0xFFFFFFFF }).dozeDueNow.dozeIfDue
      else u.endAllSteps { status := stCancelled, detail := 0xFFFFFFFF } := by
    rw [← hu]
    exact if_neg (by simpa using ha)
  rw [hgo]
  rw [hu] at hdev hdev' ⊢
  rw [hdev', show ({ u with steps := (u.endAllSteps { status := stCancelled, detail := 0xFFFFFFFF }).steps } : State).dev = u.dev from rfl, hdev,
    if_neg (by obtain h | h | h := hd <;> rw [h] <;> decide)]
  simp only [hd, and_true]

theorem expired_spec (s : State) : s.expired.dev = s.dev ∧ s.expired.steps = s.steps ∧ s.expired.lanes = s.lanes ∧
    s.expired.watchdog = { s.watchdog with armedAt := none } ∧ s.expired.lantern = { s.lantern with latch := true } := by
  unfold State.expired
  obtain ⟨u, hu⟩ : ∃ u, ({ s with watchdog := { s.watchdog with armedAt := none } } : State) = u := ⟨_, rfl⟩
  rw [hu]
  have hl := (raiseAt_keeps u { kind := 0x0011, status := stCancelled, detail := 0xFFFFFFFF } (u.blockClock none)).2
  obtain ⟨_, _, _, _, h⟩ := raise_only u { kind := 0x0011, status := stCancelled, detail := 0xFFFFFFFF } none
  refine ⟨?_, ?_, ?_, ?_, ?_⟩
  · rw [h, ← hu]
  · rw [h, ← hu]
  · rw [h, ← hu]
  · rw [h, ← hu]
  · exact hl.trans (by rw [← hu]; rfl)

theorem endAllSteps_dev (u : State) (f : Failure) : (u.endAllSteps f).dev = u.dev := (endAllSteps_tells u f).only.dev

theorem endAllSteps_watchdog (u : State) (f : Failure) : (u.endAllSteps f).watchdog = u.watchdog := by
  obtain ⟨_, _, _, _, _, _, h⟩ := (endAllSteps_tells u f).only
  rw [h]

theorem endAllSteps_dozeDue (u : State) (f : Failure) : (u.endAllSteps f).lantern.dozeDue = u.lantern.dozeDue := by
  obtain ⟨la, h⟩ := (endAllSteps_tells u f).only.lantern
  exact (congrArg Lantern.dozeDue h :)

theorem endAllSteps_testing {u : State} (f : Failure) (h : u.testing = false) : (u.endAllSteps f).testing = false :=
  anyJob_eq_false.mpr fun k j hj => anyJob_eq_false.mp h k j (endAllSteps_jobsLeft u f k j hj)

theorem watchdogExpiry_endsSteps (s : State) (ha : s.watchdog.armedAt ≠ none) (hd : s.dev = .ready ∨ s.dev = .run ∨ s.dev = .idle) :
    ∃ t, exec .hostWatchdogExpiry s = .next t ∧ t.watchdog = { s.watchdog with armedAt := none } ∧
      (s.watchdog.action = 1 → s.steps = [] → s.dev ≠ .run → s.testing = false → t.dev = .doze) ∧
      (s.steps ≠ [] → t.dev = s.dev ∧ t.lantern.dozeDue = (s.lantern.dozeDue || decide (s.watchdog.action = 1)) ∧
        ∀ x, s.stepOf x.lane = some x → x.failure = none → x.teardown = false →
          t.fails x.lane { status := stCancelled, detail := 0xFFFFFFFF } x.cur) ∧
      t.lantern.latch = true := by
  have hgo := doHostWatchdogExpiry_ends ha hd
  obtain ⟨f, hf⟩ : ∃ f : Failure, { status := stCancelled, detail := 0xFFFFFFFF } = f := ⟨_, rfl⟩
  obtain ⟨hudev, husteps, hulanes, huwd, hulan⟩ := expired_spec s
  obtain ⟨u, hu⟩ : ∃ u, s.expired = u := ⟨_, rfl⟩
  rw [hu] at hudev husteps hulanes huwd hulan hgo
  rw [hf] at hgo ⊢
  have htest (h : s.testing = false) : (u.endAllSteps f).testing = false := endAllSteps_testing f (by
    unfold State.testing State.anyJob at h ⊢
    rwa [hulanes])
  have hfails (x : Step) (hx : s.stepOf x.lane = some x) (h1 : x.failure = none) (h2 : x.teardown = false) : (u.endAllSteps f).fails x.lane f x.cur :=
    endAllSteps_fails (by unfold State.stepOf; rw [husteps]; exact hx) h1 h2 f
  have hlatch : (u.endAllSteps f).lantern.latch = true := (endAllSteps_tells u f).latch (by
    show u.lantern.latch = true
    rw [hulan])
  have hdev := (endAllSteps_dev u f).trans hudev
  have hwd := (endAllSteps_watchdog u f).trans huwd
  have hdue : (u.endAllSteps f).lantern.dozeDue = s.lantern.dozeDue := (endAllSteps_dozeDue u f).trans (by rw [hulan])
  have hlen : (u.endAllSteps f).steps.length = s.steps.length := (endAllSteps_length u f).trans (by rw [husteps])
  obtain ⟨v, hv⟩ : ∃ v, u.endAllSteps f = v := ⟨_, rfl⟩
  rw [hv] at hgo htest hfails hlatch hdev hwd hdue hlen
  by_cases hact : s.watchdog.action = 1
  · rw [if_pos hact] at hgo
    refine ⟨v.dozeDueNow.dozeIfDue, congrArg Host.Outcome.next hgo, ?_, fun _ hs hr ht => ?_, fun hs => ?_, ?_⟩
    · obtain h | h := dozeIfDue_cases v.dozeDueNow
      · rw [h]
        exact hwd
      · rw [h, (fallDue_spec _).2.2.2]
        exact hwd
    · have hvs : v.steps = [] := List.eq_nil_of_length_eq_zero (by rw [hlen, hs]; rfl)
      have hvd : v.dev = .ready ∨ v.dev = .idle := by
        rw [hdev]
        exact hd.imp_right fun h => h.resolve_left hr
      rw [dozeIfDue_begins (s := v.dozeDueNow) hvs rfl (htest ht) hvd]
      exact (fallDue_spec _).1
    · have hvs : v.dozeDueNow.steps ≠ [] := fun h => hs (List.eq_nil_of_length_eq_zero (hlen.symm.trans (congrArg List.length h)))
      rw [dozeIfDue_waits hvs, hact]
      exact ⟨hdev, (Bool.or_true _).symm, fun x hx h1 h2 => fails_of_steps (s := v) rfl (hfails x hx h1 h2)⟩
    · obtain h | h := dozeIfDue_cases v.dozeDueNow
      · rw [h]
        exact hlatch
      · rw [h]
        exact fallDue_latch hlatch
  · rw [if_neg hact] at hgo
    exact ⟨v, congrArg Host.Outcome.next hgo, hwd, fun h => absurd h hact,
      fun _ => ⟨hdev, by rw [hdue, decide_eq_false hact, Bool.or_false], hfails⟩, hlatch⟩

/-- Settles O48. -/
theorem supplyAndWatchdogEvents : Obligations.SupplyAndWatchdogEvents :=
  ⟨supplyHold_begins, supplyRestore_endsHold, supplyFault_endsWork, watchdogExpiry_endsSteps⟩

end Sys2Proof.Machine
end

section
/-!
PROOFS. STEP_RUN (O36).
-/
namespace Sys2Proof.Machine

/-! ### Engines passed to a step (R316, R317) -/

theorem foldl_abandon_only (p : State → Nat → Bool) : ∀ (l : List Nat) (s : State), ∃ rg wi,
    l.foldl (fun s f => if p s f = true then s.abandonRun f true else s) s = { s with regs := rg, winnow := wi }
  | [], s => ⟨s.regs, s.winnow, rfl⟩
  | f :: l, s => by
    rw [List.foldl_cons]
    split
    · obtain ⟨rg, wi, h⟩ := abandonRun_only s f true
      obtain ⟨rg', wi', h'⟩ := foldl_abandon_only p l (s.abandonRun f true)
      exact ⟨rg', wi', h'.trans (by rw [h])⟩
    · exact foldl_abandon_only p l s

/-- A Furrow collects patterns (R371). -/
def State.collects (s : State) (f : Nat) : Bool := ((s.winnow.getD f {}).run.map fun r => !r.live && r.fitTemp.isNone).getD false

theorem abandonPatterns_only (s : State) : ∃ rg wi, s.abandonPatterns = { s with regs := rg, winnow := wi } := by
  have h : s.abandonPatterns = (List.range 10).foldl (fun s f => if s.collects f = true then s.abandonRun f true else s) s := by
    unfold State.abandonPatterns
    congr 1
    funext u f
    unfold State.collects
    cases (u.winnow.getD f {}).run <;> rfl
  rw [h]
  exact foldl_abandon_only State.collects _ s

theorem foldl_setFld_only {β : Type} (a lo w : β → Nat) (v : State → β → Nat) : ∀ (l : List β) (s : State), ∃ rg,
    l.foldl (fun s x => s.setFld (a x) (lo x) (w x) (v s x)) s = { s with regs := rg }
  | [], s => ⟨s.regs, rfl⟩
  | x :: l, s => by
    obtain ⟨rg, h⟩ := foldl_setFld_only a lo w v l (s.setFld (a x) (lo x) (w x) (v s x))
    exact ⟨rg, h⟩

theorem freshStart_only (s : State) : ∃ rg fu, s.freshStart = { s with regs := rg, furrows := fu } := by
  unfold State.freshStart
  obtain ⟨rg, h⟩ := foldl_setFld_only (fun f => aTally f 8) (fun _ => 3) (fun _ => 1) (fun _ _ => 0) (List.range 10)
    ({ s with furrows := s.furrows.map fun f => { f with fresh := true } } : State)
  exact ⟨rg, _, h⟩

theorem latchExclude_only (s : State) : ∃ rg, s.latchExclude = { s with regs := rg } :=
  foldl_setFld_only (fun m => aMill m 8) (fun _ => 2) (fun _ => 1) (fun s m => b2n (s.excludeSet m)) (List.range 64) s

/-- What a step that takes free engines changes: the step itself stays the one it is. -/
theorem passEngines_spec (s : State) : (∃ rg wi fu st re, s.passEngines = { s with regs := rg, winnow := wi, furrows := fu, steps := st, reaper := re }) ∧
    s.passEngines.steps.map Step.ident = s.steps.map Step.ident ∧
    (s.reaper.holder = none → ∀ t, nextHolder s.steps = some t → s.passEngines.reaper.holder = some t.lane) := by
  unfold State.passEngines
  cases hh : s.reaper.holder with
  | some l => exact ⟨⟨_, _, _, _, _, rfl⟩, rfl, fun h => absurd h (by simp)⟩
  | none =>
    rw [if_neg (by simp)]
    cases hn : nextHolder s.steps with
    | none => exact ⟨⟨_, _, _, _, _, rfl⟩, rfl, fun _ t h => absurd h (by simp)⟩
    | some t =>
      dsimp only
      obtain ⟨rg, wi, ha⟩ := abandonPatterns_only s
      have hfresh (u : State) : ∃ rg fu, (if t.preempted = true then u else u.freshStart) = { u with regs := rg, furrows := fu } := by
        split
        · exact ⟨_, _, rfl⟩
        · exact freshStart_only u
      obtain ⟨rg', fu, hf⟩ := hfresh { s.abandonPatterns with
        reaper := { s.abandonPatterns.reaper with holder := some t.lane }, furrows := s.abandonPatterns.furrows.map fun f => { f with stall := 0 } }
      rw [hf, ha]
      refine ⟨⟨_, _, _, _, _, rfl⟩, ?_, fun _ x hx => by obtain rfl := Option.some.inj hx; rfl⟩
      exact (State.engineWork.modStep s t.lane (g := fun x => { x with preempted := false, restore := if x.preempted then x.loads else [] }) fun _ => rfl).idents

/-! ### A step begins (R107, R308) -/

/-- The step that a STEP_RUN of lane h starts (R94). -/
def State.startStep (b : State) (h : ReqHdr) (p a n : Nat) (x : StepRunX) : Step := {
  lane := h.lane, order := 0, program := p, slots := ((b.programAt p).map fun q => q.slots).getD 0
  cols := b.tableCols a n, stallMs := x.stallMs, gateMs := x.gateMs, priority := x.priority, commitMode := x.commitMode }

/-- A STEP_RUN whose field checks pass. -/
theorem doStepRun_passes {s : State} {h : ReqHdr} {p a n : Nat} {x : StepRunX} (hs : s.servesNow h 0x0403) (hp : p % 64 = 0) (hp' : p < 0x28000000)
    (ha : a % 64 = 0) (hn : 1 ≤ n) (hn' : n ≤ 512) (hfit : a + 64 + 16 * n ≤ 0x28000000) (h1 : 1 ≤ x.stallMs) (h1' : x.stallMs ≤ 255)
    (h2 : 1 ≤ x.gateMs) (h2' : x.gateMs ≤ 255) (h3 : x.priority ≤ 3) (h4 : x.commitMode ≤ 1) :
    doStepRun h p a n 0 (some x) (s.accept h) = if (s.accept h).testing = true
      then (s.accept h).setJob h 0x0403 (.stepRun h p a n 0 (some x)) .waitWake
      else ((s.accept h).startFailure ((s.accept h).startStep h p a n x) a).elim
        ((s.accept h).enterStep h (.stepRun h p a n 0 (some x)) ((s.accept h).startStep h p a n x)) ((s.accept h).failReply h 0x0403) := by
  obtain ⟨stall, gate, prio, mode⟩ := x
  have htier : inOneTier .granary a (64 + 16 * n) = true := by
    simp [inOneTier, Tier.base, Tier.size]
    omega
  have hcheck : firstFailure ([] ++ [need (p % 64 = 0) (fRange 0 p), need (p < 0x28000000) (fAddr 0 p),
      need (a % 64 = 0) (fRange 8 a), need (a < 0x28000000) (fAddr 8 a),
      need (inOneTier .granary a (64 + 16 * n)) (fAddr 8 0x28000000), shape 16 n 1 512, rsvZero 18 0,
      inRange 20 stall 1 255, inRange 21 gate 1 255, inRange 22 prio 0 3, inRange 23 mode 0 1] ++ []) = none := by
    rw [need_of_true _ (decide_eq_true hp), need_of_true _ (decide_eq_true hp'), need_of_true _ (decide_eq_true ha),
      need_of_true _ (decide_eq_true (by omega)), need_of_true _ htier, shape_of_le hn hn hn', inRange_of_le h1 h1', inRange_of_le h2 h2',
      inRange_of_le (Nat.zero_le _) h3, inRange_of_le (Nat.zero_le _) h4]
    rfl
  unfold doStepRun
  refine (serve_servesNow hs rfl hcheck).trans ?_
  generalize s.accept h = b
  rw [if_neg (by decide)]
  unfold State.startStep
  split
  · rfl
  · dsimp only [orReg, Option.map_some, Option.getD_some]
    generalize ({ lane := h.lane, .. } : Step) = t0
    generalize b.startFailure _ a = o
    cases o <;> simp only [Option.elim_none, Option.elim_some]

/-- The step as it stands once it has begun (R308). -/
def State.placed (b : State) (k : Nat) (t : Step) : Step :=
  { t with cols := t.cols.map fun c => { c with pos := ((b.session c.session).map fun x => x.n).getD 0 + c.j }, order := k }

/-- A step begins, before any engine works for it. -/
def State.begun (u : State) (x : Step) : State :=
  { u with dev := .run, steps := u.steps ++ [x], reaper := { u.reaper with starts := u.reaper.starts + 1 } }

theorem enterStep_eq (b : State) (h : ReqHdr) (cmd : Instr) (t : Step) :
    b.enterStep h cmd t = ((b.latchExclude.setJob h 0x0403 cmd .step).begun
      (b.placed (b.latchExclude.setJob h 0x0403 cmd .step).reaper.starts t)).passEngines.settle := rfl

/-- A command that starts changes its lane only. -/
theorem setJob_only (u : State) (h : ReqHdr) (op : Nat) (cmd : Instr) (k : JobKind) : u.setJob h op cmd k = { u with lanes := (u.setJob h op cmd k).lanes } := rfl

theorem setJob_lanes_congr {u b : State} (e : u.lanes = b.lanes) (h : ReqHdr) (op : Nat) (cmd : Instr) (k : JobKind) :
    (u.setJob h op cmd k).lanes = (b.setJob h op cmd k).lanes := by
  unfold State.setJob State.setLane State.lane
  rw [e]

/-- Where the steps are the same ones, so is the step of a lane. -/
theorem stepOf_ident {s t : State} (h : t.steps.map Step.ident = s.steps.map Step.ident) (l : Nat) :
    (t.stepOf l).map Step.ident = (s.stepOf l).map Step.ident := by
  have hfind (ls : List Step) : (ls.find? fun x => x.lane = l).map Step.ident = (ls.map Step.ident).find? fun i => i.1 = l := by
    rw [List.find?_map]
    rfl
  unfold State.stepOf
  rw [hfind, hfind, h]

/-- What a step shows when it has begun. -/
theorem enterStep_spec {s : State} {h : ReqHdr} {t : Step} {cmd : Instr} (hs : s.servesNow h 0x0403) (hl : t.lane = h.lane)
    (hfail : t.failure = none) (htear : t.teardown = false) (hnone : s.stepOf h.lane = none) :
    ((s.accept h).enterStep h cmd t).running h 0x0403 cmd .step ∧ ((s.accept h).enterStep h cmd t).dev = .run ∧
      ((s.accept h).enterStep h cmd t).sessions = s.sessions ∧
      (∃ u, ((s.accept h).enterStep h cmd t).stepOf h.lane = some u ∧ u.program = t.program ∧
        u.cols = t.cols.map fun c => { c with pos := ((s.session c.session).map fun x => x.n).getD 0 + c.j }) ∧
      (s.steps = [] → s.reaper.holder = none → ((s.accept h).enterStep h cmd t).reaper.holder = some h.lane) := by
  obtain ⟨b, hb⟩ : ∃ b, s.accept h = b := ⟨_, rfl⟩
  have hbe : b = { s with lanes := b.lanes } := hb ▸ accept_only s h
  have hrun : (b.setJob h 0x0403 cmd .step).running h 0x0403 cmd .step := hb ▸ setJob_running hs cmd .step
  rw [hb, enterStep_eq]
  obtain ⟨rg, hle⟩ := latchExclude_only b
  have hclanes := setJob_lanes_congr (u := b.latchExclude) (b := b) (by rw [hle]) h 0x0403 cmd .step
  have hc' := setJob_only b.latchExclude h 0x0403 cmd .step
  obtain ⟨c, hc⟩ : ∃ c, b.latchExclude.setJob h 0x0403 cmd .step = c := ⟨_, rfl⟩
  rw [hc] at hclanes hc' ⊢
  rw [hle, hbe] at hc'
  obtain ⟨k, hk⟩ : ∃ k, c.reaper.starts = k := ⟨_, rfl⟩
  obtain ⟨e, he⟩ : ∃ e, c.begun (b.placed k t) = e := ⟨_, rfl⟩
  have hsteps : e.steps = s.steps ++ [b.placed k t] := by
    have hcs : c.steps = s.steps := by rw [hc']
    rw [← he, ← hcs]
    rfl
  have hlane : e.lanes = (b.setJob h 0x0403 cmd .step).lanes := by
    rw [← he]
    exact hclanes
  have hdev : e.dev = .run := by rw [← he]; rfl
  have hsess : e.sessions = s.sessions := by
    have hcs : c.sessions = s.sessions := by rw [hc']
    rw [← he, ← hcs]
    rfl
  have hholder : e.reaper.holder = s.reaper.holder := by
    have hcs : c.reaper = s.reaper := by rw [hc']
    rw [← he, ← hcs]
    rfl
  have hpos : (b.placed k t).cols = t.cols.map fun c => { c with pos := ((s.session c.session).map fun x => x.n).getD 0 + c.j } := by
    rw [hbe]
    rfl
  obtain ⟨⟨_, _, _, _, _, hpe⟩, hid, hho⟩ := passEngines_spec e
  obtain ⟨v, hv⟩ : ∃ v, e.passEngines = v := ⟨_, rfl⟩
  rw [hk, he, hv]
  rw [hv] at hpe hid hho
  have hw := work_settle v
  obtain ⟨w, hwe⟩ : ∃ w, v.settle = w := ⟨_, rfl⟩
  rw [hwe] at hw ⊢
  have hlanes : w.lanes = (b.setJob h 0x0403 cmd .step).lanes := hw.lanes.trans ((by rw [hpe] : v.lanes = e.lanes).trans hlane)
  refine ⟨?_, hw.dev.trans ((by rw [hpe] : v.dev = e.dev).trans hdev), hw.sessions.trans ((by rw [hpe] : v.sessions = e.sessions).trans hsess), ?_, fun h0 h1 => ?_⟩
  · unfold State.running State.lane at hrun ⊢
    rw [hlanes]
    exact hrun
  · have hfind : e.stepOf h.lane = some (b.placed k t) := by
      unfold State.stepOf at hnone ⊢
      rw [hsteps, List.find?_append, hnone]
      simp [State.placed, hl]
    have h1 := hw.stepOf h.lane
    have h2 : (v.stepOf h.lane).map Step.ident = (e.stepOf h.lane).map Step.ident := stepOf_ident hid h.lane
    rw [h2, hfind, Option.map_some, Option.map_eq_some_iff] at h1
    obtain ⟨u, hu, hui⟩ := h1
    have hprog : u.program = t.program := congrArg (fun i => i.2.2.1) hui
    have hcols : u.cols = (b.placed k t).cols := congrArg (fun i => i.2.2.2) hui
    exact ⟨u, hu, hprog, hcols.trans hpos⟩
  · have hnext : nextHolder e.steps = some (b.placed k t) := by
      rw [hsteps, h0]
      simp [nextHolder, State.placed, hfail, htear]
    rw [hw.holder, hho (hholder.trans h1) _ hnext]
    exact congrArg some hl

/-- Settles O36. -/
theorem stepRunStartsAStep : Obligations.StepRunStartsAStep := by
  intro s h p a n x hs hp hp' ha hn hn' hfit h1 h1' h2 h2' h3 h4 hnone b cmd t0
  have hexec : exec cmd s = .next (doStepRun h p a n 0 (some x) b) := exec_of_servesNow hs rfl rfl
  have hgo := doStepRun_passes hs hp hp' ha hn hn' hfit h1 h1' h2 h2' h3 h4
  refine ⟨fun ht => ?_, fun ht f hf => ?_, fun ht hf => ?_⟩
  · exact hexec.trans (congrArg Host.Outcome.next (hgo.trans (if_pos ht)))
  · have hf' : b.startFailure (b.startStep h p a n x) a = some f := hf
    rw [if_neg (by simpa using ht)] at hgo
    rw [hexec, hgo, hf']
    rfl
  · have hf' : b.startFailure (b.startStep h p a n x) a = none := hf
    rw [if_neg (by simpa using ht), hf', Option.elim_none] at hgo
    have hspec := enterStep_spec (cmd := cmd) (t := b.startStep h p a n x) hs rfl rfl rfl hnone
    obtain ⟨w, hw⟩ : ∃ w, (s.accept h).enterStep h cmd (b.startStep h p a n x) = w := ⟨_, rfl⟩
    rw [hw] at hspec
    have hgo : doStepRun h p a n 0 (some x) b = w := hgo.trans hw
    obtain ⟨hrun, hdev, hsess, ⟨u, hu, hprog, hcols⟩, hhold⟩ := hspec
    have htab : b.tableCols a n = s.tableCols a n := by
      show (s.accept h).tableCols a n = _
      rw [accept_only]
      rfl
    refine ⟨w, u, hexec.trans (congrArg Host.Outcome.next hgo), hrun, hdev, hsess, hu, hprog, ?_, hhold⟩
    rw [hcols, ← htab]
    rfl

end Sys2Proof.Machine
end

section
/-!
PROOFS. ENGINE_START (O37).
-/
namespace Sys2Proof.Machine

/-! ### A lane that nothing ends -/

/-- Commands that end in turn leave a lane alone that none of them runs in. -/
theorem eachJob_lane {p : Job → Prop} [DecidablePred p] {g : State → Job → State} (hg : Settles p g) {k : Nat} : ∀ (ls : List Lane) (s : State),
    (∀ x ∈ ls, ∀ j, x.job = some j → p j → j.hdr.lane ≠ k) → (State.eachJob g ls s).lane k = s.lane k
  | [], _, _ => rfl
  | x :: ls, s, h => by
    refine (eachJob_lane hg ls (x.job.elim s (g s)) fun y hy => h y (List.mem_cons_of_mem _ hy)).trans ?_
    cases hx : x.job with
    | none => rfl
    | some j =>
      by_cases hp : p j
      · exact hg.other s j k (h x List.mem_cons_self j hx hp).symm
      · rw [Option.elim_some, hg.idle s j hp]

/-- A command of its own lane that is not to end keeps every command that is to end out of the lane. -/
theorem home_of_job {p : Job → Prop} {s : State} (hh : s.jobsHome) {k : Nat} {j : Job} (hj : (s.lane k).job = some j) (hp : ¬ p j) :
    ∀ x ∈ s.lanes, ∀ i, x.job = some i → p i → i.hdr.lane ≠ k := by
  intro x hx i hi hpi hik
  obtain ⟨n, hn, rfl⟩ := List.getElem_of_mem hx
  have hlane : s.lane n = s.lanes[n] := getD_of_lt _ _ hn
  have hnk : n = k := (hh n i (by rw [hlane]; exact hi)).symm.trans hik
  rw [← hnk, hlane, hi] at hj
  exact hp (Option.some.inj hj ▸ hpi)

theorem endExchanges_lane {s : State} (hh : s.jobsHome) {k : Nat} {j : Job} (hj : (s.lane k).job = some j) (hp : j.isSpare = false) :
    s.endExchanges.lane k = s.lane k := by
  rw [endExchanges_eq]
  exact eachJob_lane endSpare_settles s.lanes _ (home_of_job hh hj (by simp [hp]))

theorem failQueued_lane (s : State) (f : Failure) (k : Nat) : ∃ q, (s.failQueued f).lane k = { s.lane k with queue := q } := by
  unfold State.lane State.failQueued
  dsimp only
  rw [List.getD_eq_getElem?_getD, List.getElem?_map, List.getD_eq_getElem?_getD]
  cases s.lanes[k]? with
  | none => exact ⟨[], rfl⟩
  | some x => exact ⟨_, rfl⟩

/-- The end of every step leaves the lane of any other command but for its queue. -/
theorem endAllSteps_lane {s : State} (hh : s.jobsHome) {k : Nat} {j : Job} (hj : (s.lane k).job = some j)
    (hp : ¬ (j.opcode = 0x0403 ∧ j.kind = .waitWake)) (f : Failure) : ∃ q, (s.endAllSteps f).lane k = { s.lane k with queue := q } := by
  have hw : (s.failWaking f).lane k = s.lane k := by
    rw [failWaking_eq]
    exact eachJob_lane (settles_failReply (fun j => j.opcode = 0x0403 ∧ j.kind = .waitWake) fun _ => f) s.lanes s (home_of_job hh hj hp)
  obtain ⟨q, h⟩ := failQueued_lane (s.steps.foldl (fun s t => s.abortStep t.lane f t.cur) (s.failWaking f)) f k
  refine ⟨q, h.trans ?_⟩
  rw [foldl_abort_only]
  exact congrArg (fun x : Lane => { x with queue := q }) hw

theorem toFault_lane (s : State) (f : Failure) (k : Nat) : (s.toFault f).lane k = (s.endAllSteps f).lane k := rfl

theorem lane_raise (s : State) (r : Record) (b : Option Blk) (k : Nat) : (s.raise r b).lane k = s.lane k := by
  unfold State.lane
  rw [raise_lanes]

/-- FAULT leaves the lane of a command that is not ended with it, but for its queue (R71). -/
theorem enterFault_lane {s : State} (hh : s.jobsHome) {k : Nat} {j : Job} (hj : (s.lane k).job = some j)
    (hp : ¬ (j.opcode = 0x0403 ∧ j.kind = .waitWake)) (f : Failure) (b : Option Blk) : ∃ q, (s.enterFault f b).lane k = { s.lane k with queue := q } := by
  unfold State.enterFault
  obtain ⟨u, hu⟩ : ∃ u, s.raise { kind := 0x0012, status := f.status, block := f.block, inst := f.inst, detail := f.detail } b = u := ⟨_, rfl⟩
  have hlane (i : Nat) : u.lane i = s.lane i := by rw [← hu, lane_raise]
  rw [hu, toFault_lane, ← hlane k]
  exact endAllSteps_lane (fun i j hi => hh i j (by rwa [hlane] at hi)) (by rw [hlane]; exact hj) hp f

/-! ### The assignment (R120) -/

/-- The role that an assignment gives a Furrow. -/
def Assignment.roleOf (a : Assignment) (f : Nat) : Nat := if a.active.contains f then 0 else if a.spares.contains f then 1 else 2

theorem assignFurrow_only (s : State) (a : Assignment) (env : Env) (q : Nat) (keep : Bool) (f : Nat) : ∃ rg x,
    s.assignFurrow a env q keep f = { s with regs := rg, furrows := setAt s.furrows f x } ∧ x.role = a.roleOf f := ⟨_, _, rfl, rfl⟩

theorem foldl_assignFurrow (a : Assignment) (env : Env) (q : Nat) (keep : Bool) : ∀ (fs : List Nat) (s : State), ∃ rg fu,
    fs.foldl (fun s f => s.assignFurrow a env q keep f) s = { s with regs := rg, furrows := fu } ∧ fu.length = s.furrows.length ∧
      ∀ f, f < s.furrows.length → (fu.getD f {}).role = if f ∈ fs then a.roleOf f else (s.furrow f).role
  | [], s => ⟨s.regs, s.furrows, rfl, rfl, fun f _ => rfl⟩
  | g :: fs, s => by
    obtain ⟨rg, x, h, hx⟩ := assignFurrow_only s a env q keep g
    obtain ⟨rg', fu, h', hlen, hrole⟩ := foldl_assignFurrow a env q keep fs { s with regs := rg, furrows := setAt s.furrows g x }
    refine ⟨rg', fu, ?_, hlen.trans (setAt_length _ _ _), fun f hf => ?_⟩
    · rw [List.foldl_cons, h, h']
    · rw [hrole f (by rw [setAt_length]; exact hf)]
      show (if f ∈ fs then a.roleOf f else ((setAt s.furrows g x).getD f {}).role) = _
      rw [setAt_getD]
      by_cases e : f = g
      · subst e
        rw [if_pos (And.intro rfl hf), hx, ite_self, if_pos List.mem_cons_self]
      · rw [if_neg (fun c : f = g ∧ g < s.furrows.length => e c.1)]
        simp only [List.mem_cons, e, false_or]
        rfl

theorem assignSource_only (s : State) (a : Assignment) (env : Env) (n : Nat) : ∃ so va, s.assignSource a env n = { s with sources := so, vane := va } := by
  unfold State.assignSource
  dsimp only
  split
  · exact ⟨_, _, rfl⟩
  · split
    · exact ⟨_, _, rfl⟩
    · exact ⟨_, _, rfl⟩

theorem foldl_assignSource (a : Assignment) (env : Env) : ∀ (ns : List Nat) (s : State), ∃ so va,
    ns.foldl (fun s n => s.assignSource a env n) s = { s with sources := so, vane := va }
  | [], s => ⟨s.sources, s.vane, rfl⟩
  | n :: ns, s => by
    obtain ⟨so, va, h⟩ := assignSource_only s a env n
    obtain ⟨so', va', h'⟩ := foldl_assignSource a env ns (s.assignSource a env n)
    refine ⟨so', va', ?_⟩
    rw [List.foldl_cons, h', h]

/-- What an assignment changes beyond the end of the exchanges (R120, R121, R153). -/
theorem assign_spec (s : State) (env : Env) (q : Nat) (keep : Bool) : ∃ rg fu so va sw fr,
    s.assign env q keep = { s.endExchanges with
      regs := rg, furrows := fu, sources := so, vane := va, reaper := { s.endExchanges.reaper with switchAt := sw }, free := fr
      degraded := decide ((s.assignment env q keep).active.length < 8) } ∧
      (s.furrows.length = 10 → ∀ f, f < 10 → (fu.getD f {}).role = (s.assignment env q keep).roleOf f) := by
  unfold State.assign
  dsimp only
  have he : s.endExchanges.furrows = s.furrows := by
    obtain ⟨_, _, _, _, _, _, h⟩ := (endExchanges_spec s).1.only
    rw [h]
  obtain ⟨a, ha⟩ : ∃ a, s.assignment env q keep = a := ⟨_, rfl⟩
  obtain ⟨e, hee⟩ : ∃ e, s.endExchanges = e := ⟨_, rfl⟩
  rw [ha, hee]
  rw [hee] at he
  obtain ⟨rg, fu, h1, hlen, hrole⟩ := foldl_assignFurrow a env q keep (List.range 10) e
  obtain ⟨so, va, h2⟩ := foldl_assignSource a env (List.range 20) ((List.range 10).foldl (fun s f => s.assignFurrow a env q keep f) e)
  rw [h2, h1]
  refine ⟨_, fu, so, va, _, _, rfl, fun hl f hf => ?_⟩
  rw [hrole f (by rw [he, hl]; exact hf), if_pos (List.mem_range.mpr hf)]

theorem storeFit_only (s : State) (f : Nat) (temp : Int) (fits : List DetFit) : ∃ wi, s.storeFit f temp fits = { s with winnow := wi } := ⟨_, rfl⟩

theorem writeSet_only (s : State) (f : Nat) : ∃ rg wi, s.writeSet f = { s with regs := rg, winnow := wi } := by
  unfold State.writeSet
  dsimp only
  split
  · exact ⟨_, _, rfl⟩
  · rw [bump_only]
    exact ⟨_, _, rfl⟩

/-- The fits of a margin test stored for one Furrow. -/
def State.storeFits (env : Env) (s : State) (f : Nat) : State :=
  (look env.fits f).elim s fun fits => (s.storeFit f (s.furrowTemp f) fits).writeSet f

theorem storeMargin_eq (s : State) (env : Env) : s.storeMargin env = (List.range 10).foldl (State.storeFits env) s := by
  unfold State.storeMargin
  refine congrArg (fun g => (List.range 10).foldl g s) (funext fun s => funext fun f => ?_)
  unfold State.storeFits
  cases look env.fits f <;> rfl

theorem storeFits_only (env : Env) (s : State) (f : Nat) : ∃ rg wi, s.storeFits env f = { s with regs := rg, winnow := wi } := by
  unfold State.storeFits
  cases look env.fits f with
  | none => exact ⟨s.regs, s.winnow, rfl⟩
  | some fits =>
    obtain ⟨wi, h⟩ := storeFit_only s f (s.furrowTemp f) fits
    obtain ⟨rg, wi', h'⟩ := writeSet_only (s.storeFit f (s.furrowTemp f) fits) f
    refine ⟨rg, wi', ?_⟩
    rw [Option.elim_some, h', h]

theorem storeMargin_only (s : State) (env : Env) : ∃ rg wi, s.storeMargin env = { s with regs := rg, winnow := wi } := by
  rw [storeMargin_eq]
  generalize List.range 10 = l
  induction l generalizing s with
  | nil => exact ⟨s.regs, s.winnow, rfl⟩
  | cons f t ih =>
    obtain ⟨rg, wi, h⟩ := storeFits_only env s f
    obtain ⟨rg', wi', h'⟩ := ih (s.storeFits env f)
    refine ⟨rg', wi', ?_⟩
    rw [List.foldl_cons, h', h]

/-- The active Furrows of an assignment are those with role 0. -/
theorem activeFurrows_of_roles {s t : State} {env : Env} {q : Nat} {keep : Bool}
    (h : ∀ f, f < 10 → (t.furrow f).role = (s.assignment env q keep).roleOf f) : t.activeFurrows = (s.assignment env q keep).active := by
  have hmem (f : Nat) (hf : f < 10) : decide ((t.furrow f).role = 0) = (s.assignment env q keep).active.contains f := by
    rw [h f hf, Assignment.roleOf]
    cases (s.assignment env q keep).active.contains f
    · cases (s.assignment env q keep).spares.contains f <;> rfl
    · rfl
  unfold State.activeFurrows
  rw [List.filter_congr fun f hf => hmem f (List.mem_range.mp hf)]
  unfold State.assignment
  dsimp only
  rw [List.filter_filter]
  refine List.filter_congr fun f hf => ?_
  rw [Bool.eq_iff_iff, List.contains_iff_mem, List.mem_filter]
  exact and_iff_right hf

theorem swapBanks_only (s : State) : ∃ rg va, s.swapBanks = { s with regs := rg, vane := va } := by
  unfold State.swapBanks
  dsimp only
  rw [bump_only]
  exact ⟨_, _, rfl⟩

/-! ### The start (R113) -/

theorem applyBias_only (s : State) : ∃ va, s.applyBias = { s with vane := va } := by
  unfold State.applyBias
  generalize List.range 20 = l
  induction l generalizing s with
  | nil => exact ⟨s.vane, rfl⟩
  | cons n t ih =>
    obtain ⟨va, h⟩ := ih (s.moveTarget (3233 + 3 * n) (if s.lantern.pBand = 0 then (firmwareEntry (3233 + 3 * n)).target else Config.warmBias n))
    exact ⟨va, h⟩

theorem vaneRestart_only (s : State) : ∃ va, s.vaneRestart = { s with vane := va } := ⟨_, rfl⟩

theorem loadLoops_only (s : State) : ∃ va, s.loadLoops = { s with vane := va } := by
  unfold State.loadLoops
  extract_lets mine heat v u
  obtain ⟨va, h⟩ := vaneRestart_only (if u.lantern.pBand = 0 then u else u.applyBias)
  refine ⟨va, h.trans ?_⟩
  split
  · rfl
  · obtain ⟨vb, h'⟩ := applyBias_only u
    rw [h']

/-- The point tables of the Winnow emptied (R366). -/
def State.pointless (s : State) : State := { s with winnow := s.winnow.map fun w => { w with points := [] } }

theorem doEngineStart_passes {s : State} {h : ReqHdr} {q m z : Nat} {x : Option (Nat × Nat × Nat)} (hs : s.servesNow h 0x0501)
    (he : (s.accept h).engineStarting = false) (hx : (s.accept h).engineOps x = (q, m, z)) (hq : 0x600 ≤ q) (hq' : q ≤ 0xF00) (hm : 1 ≤ m) (hm' : m ≤ 8)
    (hz : 5 ≤ z) (hz' : z ≤ 40) : doEngineStart h x (s.accept h) =
      ((s.accept h).pointless.setJob h 0x0501 (.engineStart h x) (.engineStart q m z)).loadLoops := by
  unfold doEngineStart
  dsimp only
  rw [hx]
  refine serve_servesNow hs rfl ?_
  rw [he, Bool.not_false, wrongUnless_true, inRange_of_le hq hq', inRange_of_le hm hm', inRange_of_le hz hz']
  rfl

/-! ### The end (R113, R123) -/

theorem lt_of_job {s : State} {l : Nat} {j : Job} (h : (s.lane l).job = some j) : l < s.lanes.length := by
  refine Nat.lt_of_not_le fun hl => ?_
  unfold State.lane at h
  rw [getD_of_length_le _ _ hl] at h
  cases h

/-- The device with a new assignment, once the loops have changed to those of service. -/
def State.reassigned (s : State) (env : Env) (q : Nat) : State := (s.swapBanks.assign env q false).storeMargin env

theorem reassigned_spec {s : State} (env : Env) (q : Nat) {l : Nat} {j : Job} (hf : s.furrows.length = 10) (hh : s.jobsHome) (hj : (s.lane l).job = some j)
    (hp : j.isSpare = false) : (s.reassigned env q).lane l = s.lane l ∧ (s.reassigned env q).jobsHome ∧
      (s.reassigned env q).degraded = decide ((s.swapBanks.assignment env q false).active.length < 8) ∧
      ∀ f, f < 10 → ((s.reassigned env q).furrow f).role = (s.swapBanks.assignment env q false).roleOf f := by
  obtain ⟨rg, va, h1⟩ := swapBanks_only s
  unfold State.reassigned
  obtain ⟨u, hu⟩ : ∃ u, s.swapBanks = u := ⟨_, rfl⟩
  rw [hu] at h1 ⊢
  have hlane (k : Nat) : u.lane k = s.lane k := by rw [h1]; rfl
  have hhome : u.jobsHome := fun k i hi => hh k i (by rwa [hlane] at hi)
  obtain ⟨_, fu, _, _, _, _, h2, hrole⟩ := assign_spec u env q false
  obtain ⟨v, hv⟩ : ∃ v, u.assign env q false = v := ⟨_, rfl⟩
  rw [hv] at h2 ⊢
  obtain ⟨_, _, h3⟩ := storeMargin_only v env
  have hl3 (k : Nat) : (v.storeMargin env).lane k = u.endExchanges.lane k := by rw [h3, h2]; rfl
  refine ⟨?_, ?_, ?_, fun f h10 => ?_⟩
  · rw [hl3, endExchanges_lane hhome (by rw [hlane]; exact hj) hp, hlane]
  · exact jobsHome_of_filter hhome fun k => (congrArg Lane.job (hl3 k)).trans ((endExchanges_spec u).2.2 hhome k)
  · rw [h3, h2]
  · rw [h3]
    show (v.furrow f).role = _
    rw [h2]
    exact hrole (by rw [h1]; exact hf) f h10

theorem noteSpared_tells (s : State) (env : Env) (q : Nat) : s.tells (s.noteSpared env q) ∧ (s.noteSpared env q).lanes = s.lanes := by
  unfold State.noteSpared
  dsimp only
  split
  · exact ⟨.refl s, rfl⟩
  · exact ⟨tells_raise s _ _, raise_lanes s _ _⟩

theorem noteSpared_only (s : State) (env : Env) (q : Nat) : s.tellsOnly (s.noteSpared env q) ∧ ∀ k, (s.noteSpared env q).lane k = s.lane k := by
  obtain ⟨h, hl⟩ := noteSpared_tells s env q
  refine ⟨h.only, fun k => ?_⟩
  unfold State.lane
  rw [hl]

theorem activeCount_of_tells {s t : State} (h : s.tellsOnly t) : t.activeCount = s.activeCount := by
  obtain ⟨_, _, _, _, _, _, e⟩ := h
  rw [e]
  rfl

theorem tellsOnly_furrow {s t : State} (h : s.tellsOnly t) (f : Nat) : t.furrow f = s.furrow f := by
  obtain ⟨_, _, _, _, _, _, e⟩ := h
  rw [e]
  rfl

theorem tellsOnly_engine {s t : State} (h : s.tellsOnly t) : t.engine = s.engine ∧ t.degraded = s.degraded := by
  obtain ⟨_, _, _, _, _, _, e⟩ := h
  rw [e]
  exact ⟨rfl, rfl⟩

/-- With enough active Furrows the report leaves, and nothing but what is told changes (R122, R123). -/
theorem engineOutcome_reports {s : State} {j : Job} (op : Nat) (env : Env) (q : Nat) {m : Nat} (hm : m ≤ s.activeCount) (hj : (s.lane j.hdr.lane).job = some j) :
    s.tellsOnly (s.engineOutcome j.hdr op env q m) ∧ ((s.engineOutcome j.hdr op env q m).lane j.hdr.lane).job = none := by
  obtain ⟨hn, hlane⟩ := noteSpared_only s env q
  unfold State.engineOutcome
  dsimp only
  rw [if_neg (by rw [activeCount_of_tells hn]; omega)]
  have hj' : ((s.noteSpared env q).lane j.hdr.lane).job = some j := by rw [hlane]; exact hj
  exact ⟨hn.trans (tellsOnly_reply _ _ _ _ _), reply_frees_of_lt _ _ _ (lt_of_job hj') hj'⟩

/-- With too few the device is in FAULT, and the lane is not held by it (R71, R123). -/
theorem engineOutcome_loses {s : State} {j : Job} {op : Nat} (env : Env) (q : Nat) {m : Nat} (hm : s.activeCount < m) (hh : s.jobsHome)
    (hj : (s.lane j.hdr.lane).job = some j) (hp : ¬ (j.opcode = 0x0403 ∧ j.kind = .waitWake)) (hop : op ≠ 0x0403) :
    (s.engineOutcome j.hdr op env q m).dev = .fault ∧ ((s.engineOutcome j.hdr op env q m).lane j.hdr.lane).job = none ∧
      ((s.engineOutcome j.hdr op env q m).lane j.hdr.lane).held = (s.lane j.hdr.lane).held := by
  obtain ⟨hn, hlane⟩ := noteSpared_only s env q
  unfold State.engineOutcome
  dsimp only
  rw [if_pos (by rw [activeCount_of_tells hn]; omega)]
  obtain ⟨f, hf⟩ : ∃ f : Failure, ({ status := stFurrowLost, detail := 0xFF + 256 * (s.noteSpared env q).activeCount } : Failure) = f := ⟨_, rfl⟩
  have hst : f.status = stFurrowLost := by rw [← hf]
  rw [hf]
  obtain ⟨n, e⟩ := enterFault_lane (s := s.noteSpared env q) (fun k i hi => hh k i (by rwa [hlane] at hi)) (by rw [hlane]; exact hj) hp f none
  have hj' : (((s.noteSpared env q).enterFault f).lane j.hdr.lane).job = some j := by
    rw [e, hlane]
    exact hj
  refine ⟨(tellsOnly_failReply _ _ _ _ _).dev.trans rfl, failReply_frees_of_lt _ _ _ (lt_of_job hj') hj', ?_⟩
  rw [failReply_held_of_class (by rw [hst]; decide) (Or.inr hop) (by rw [hst]; decide), e, hlane]

theorem doCommandCompletion_engineStart {s : State} {l q m z : Nat} {j : Job} (env : Env) (hj : (s.lane l).job = some j) (hk : j.kind = .engineStart q m z)
    (hd : s.dev = .config) (hw : s.lantern.warn = false) : doCommandCompletion l env s = finishEngineStart j.hdr q m env s := by
  unfold doCommandCompletion
  rw [hj]
  dsimp only
  rw [hk]
  dsimp only
  rw [if_neg (not_not_intro hd), if_neg (by simp [hw])]

/-- The device after an assignment with enough active Furrows. -/
def State.starts (u : State) : State := { u with engine := true, dev := .ready }

theorem finishEngineStart_eq (h : ReqHdr) (q m : Nat) (env : Env) (s : State) : finishEngineStart h q m env s =
    (if m ≤ (s.reassigned env q).activeCount then (s.reassigned env q).starts else (s.reassigned env q).vaneStop).engineOutcome h 0x0501 env q m := rfl

theorem engineStart_ends {s : State} {l q m z : Nat} {j : Job} (env : Env) (hi : s.Inv) (hj : (s.lane l).job = some j) (hjl : j.hdr.lane = l)
    (hk : j.kind = .engineStart q m z) (hd : s.dev = .config) (hw : s.lantern.warn = false) (hh : s.jobsHome) :
    let a := s.swapBanks.assignment env q false
    ∃ t, exec (.commandCompletion l env) s = .next t ∧ (t.lane l).job = none ∧
      (∀ f, f < 10 → m ≤ a.active.length → (t.furrow f).role = if f ∈ a.active then 0 else if f ∈ a.spares then 1 else 2) ∧
      (m ≤ a.active.length → t.dev = .ready ∧ t.engine = true ∧ t.degraded = decide (a.active.length < 8)) ∧
      (a.active.length < m → t.dev = .fault ∧ (t.lane l).held = (s.lane l).held) := by
  intro a
  subst hjl
  obtain ⟨hlane, hhome, hdeg, hrole⟩ := reassigned_spec env q hi.furrows hh hj (by unfold Job.isSpare; rw [hk])
  have hact : (s.reassigned env q).activeCount = a.active.length := congrArg List.length (activeFurrows_of_roles hrole)
  have hgo := (doCommandCompletion_engineStart env hj hk hd hw).trans (finishEngineStart_eq j.hdr q m env s)
  have ha : s.swapBanks.assignment env q false = a := rfl
  rw [ha] at hdeg hrole
  obtain ⟨u, hu⟩ : ∃ u, s.reassigned env q = u := ⟨_, rfl⟩
  rw [hu] at hlane hhome hdeg hrole hact hgo
  refine ⟨_, congrArg Host.Outcome.next hgo, ?_⟩
  by_cases hm : m ≤ u.activeCount
  · rw [if_pos hm]
    rw [hact] at hm
    obtain ⟨ho, hfree⟩ := engineOutcome_reports (s := u.starts) (j := j) 0x0501 env q (hact ▸ hm : m ≤ u.activeCount) ((congrArg Lane.job hlane).trans hj)
    generalize u.starts.engineOutcome j.hdr 0x0501 env q m = t at ho hfree ⊢
    obtain ⟨hen, hdg⟩ := tellsOnly_engine ho
    refine ⟨hfree, fun f hf _ => ?_, fun _ => ⟨ho.dev, hen, hdg.trans hdeg⟩, fun hlt => absurd hm (Nat.not_le.mpr hlt)⟩
    rw [tellsOnly_furrow ho]
    show (u.furrow f).role = _
    rw [hrole f hf]
    unfold Assignment.roleOf
    simp only [List.contains_iff_mem]
  · rw [if_neg hm]
    have hlt : u.activeCount < m := Nat.not_le.mp hm
    obtain ⟨hfd, hfree, hheld⟩ := engineOutcome_loses (s := u.vaneStop) (j := j) (op := 0x0501) env q hlt hhome ((congrArg Lane.job hlane).trans hj)
      (by rw [hk]; rintro ⟨-, h⟩; cases h) (by decide)
    rw [hact] at hlt
    exact ⟨hfree, fun _ _ hm => absurd hm (Nat.not_le.mpr hlt), fun hm => absurd hm (Nat.not_le.mpr hlt), fun _ => ⟨hfd, hheld.trans (congrArg Lane.held hlane)⟩⟩

/-- Settles O37. -/
theorem engineStartMakesTheAssignment : Obligations.EngineStartMakesTheAssignment := by
  refine ⟨?_, ?_⟩
  · intro s h q m z x hs he hx hq hq' hm hm' hz hz'
    have hops : (s.accept h).engineOps x = (q, m, z) := by
      obtain hx | ⟨hx, ho⟩ := hx
      · rw [hx]
        rfl
      · rw [hx, ← ho]
        unfold State.engineOps
        simp only [accept_fld]
    obtain ⟨va, hva⟩ := loadLoops_only ((s.accept h).pointless.setJob h 0x0501 (.engineStart h x) (.engineStart q m z))
    have hgo : exec (.engineStart h x) s = .next (doEngineStart h x (s.accept h)) := exec_of_servesNow hs rfl rfl
    refine ⟨_, hgo.trans (congrArg Host.Outcome.next ((doEngineStart_passes hs he hops hq hq' hm hm' hz hz').trans hva)), ?_⟩
    have hw : s.winnow = (s.accept h).winnow := by rw [accept_only]
    rw [hw]
    rfl
  · intro s l q m z j env hi hl hj hjl hk hd hw hh
    exact engineStart_ends env hi hj hjl hk hd hw hh

end Sys2Proof.Machine
end

section
/-!
PROOFS. ENGINE_STOP and MARGIN_TEST (O38).
-/
namespace Sys2Proof.Machine

/-! ### A reply that other commands do not stand in the way of -/

/-- The reply of any command leaves a lane able to take the reply it waits for. -/
theorem reply_awaits {u : State} {h : ReqHdr} (w : u.awaits h) (g : ReqHdr) (op st : Nat) (d : List Byte) : (u.reply g op st d).awaits h := by
  obtain ⟨hn, hl, hj, ho⟩ := w
  have hlane : ((u.reply g op st d).lane h.lane).job = (u.lane h.lane).job ∨ ((u.reply g op st d).lane h.lane).job = none := by
    unfold State.reply
    dsimp only
    rw [lane_setLane, lane_sendReply, lane_sendReply]
    split
    · next hk =>
      rw [hk.1]
      cases (u.lane g.lane).job with
      | none => exact Or.inr rfl
      | some j =>
        dsimp only
        split
        · exact Or.inr rfl
        · exact Or.inl rfl
    · exact Or.inl rfl
  have hwin : ((u.reply g op st d).lane h.lane).e = (u.lane h.lane).e ∧ ((u.reply g op st d).lane h.lane).b = (u.lane h.lane).b := by
    unfold State.reply
    dsimp only
    rw [lane_setLane, lane_sendReply, lane_sendReply]
    split
    · next hk =>
      rw [hk.1]
      exact ⟨rfl, rfl⟩
    · exact ⟨rfl, rfl⟩
  obtain ⟨he, hb⟩ := hwin
  refine ⟨(reply_lanes_length u g op st d).trans hn, hl, fun j hk => ?_, by rw [he, hb]; exact ho⟩
  obtain e | e := hlane
  · exact hj j (e ▸ hk)
  · rw [e] at hk
    cases hk

theorem endExchanges_awaits {u : State} {h : ReqHdr} (w : u.awaits h) : u.endExchanges.awaits h := by
  have hall : ∀ (ls : List Lane) (u : State), u.awaits h → (State.eachJob State.endSpare ls u).awaits h := by
    intro ls
    induction ls with
    | nil => exact fun _ w => w
    | cons l ls ih =>
      intro u w
      refine ih _ ?_
      show (l.job.elim u u.endSpare).awaits h
      cases l.job with
      | none => exact w
      | some j =>
        show (u.endSpare j).awaits h
        unfold State.endSpare
        split
        · exact reply_awaits w _ _ _ _
        · exact w
  rw [endExchanges_eq]
  exact hall _ _ (awaits_of_lanes (u := u) rfl w)

/-! ### ENGINE_STOP (R124) -/

/-- The engine off, once runs and exchanges have ended. -/
def State.enginesOff (u : State) : State := { u with
  engine := false, dev := .config
  furrows := u.furrows.map fun x => { x with bayA := none, bayB := none, fill := none }
  sources := u.sources.map fun x => { x with locked := false }
  lantern := { u.lantern with dozeDue := false }
  vane := { u.vane with drives := [], warm := false } }

theorem enginesOff_lanes (u : State) : u.enginesOff.lanes = u.lanes := rfl

theorem stopEngine_eq (s : State) : s.stopEngine = s.abandonRuns.endExchanges.enginesOff := by
  unfold State.stopEngine
  obtain ⟨u, e⟩ : ∃ u, s.abandonRuns.endExchanges = u := ⟨_, rfl⟩
  rw [e]
  rfl

/-- The end of runs and exchanges, on the way to CONFIG. -/
theorem runsOver_only (s : State) : ∃ rg wi ls sn ev lg la ct, s.abandonRuns.endExchanges = { s with
    regs := rg, winnow := wi, lanes := ls, net := { s.net with sent := sn }, events := ev, ledger := lg, ctrs := ct
    lantern := { s.lantern with latch := la }, exchanges := [], sources := s.sources.map fun x => { x with ready := false, warming := false } } := by
  obtain ⟨rg, wi, h⟩ := abandonRuns_only s
  obtain ⟨u, e⟩ : ∃ u, s.abandonRuns = u := ⟨_, rfl⟩
  rw [e] at h ⊢
  obtain ⟨_, _, _, _, _, _, h'⟩ := (endExchanges_spec u).1.only
  rw [h', h]
  exact ⟨_, _, _, _, _, _, _, _, rfl⟩

theorem doEngineStop_waits {s : State} {h : ReqHdr} (hs : s.servesNow h 0x0502) (hm : (s.accept h).marginTesting = true) :
    doEngineStop h (s.accept h) = (s.accept h).setJob h 0x0502 (.engineStop h) .waitWake := by
  unfold doEngineStop
  rw [serve_servesNow hs rfl rfl]
  exact if_pos hm

theorem doEngineStop_stops {s : State} {h : ReqHdr} (hs : s.servesNow h 0x0502) (hm : (s.accept h).marginTesting = false) :
    doEngineStop h (s.accept h) = (s.accept h).stopEngine.reply h 0x0502 stOk := by
  unfold doEngineStop
  rw [serve_servesNow hs rfl rfl]
  simp only [hm, Bool.false_eq_true, if_false]

theorem engineStop_enters {s : State} {h : ReqHdr} (hs : s.servesNow h 0x0502) (hm : (s.accept h).marginTesting = false) :
    ∃ t, exec (.engineStop h) s = .next t ∧ t.answered h 0x0502 stOk [] ∧
    t.dev = .config ∧ t.engine = false ∧ t.memory = s.memory ∧ t.sessions = s.sessions ∧ t.programs = s.programs ∧
    t.vane.drives = [] ∧ t.exchanges = [] ∧ (∀ x ∈ t.sources, x.locked = false) ∧
    (∀ x ∈ t.furrows, x.bayA = none ∧ x.bayB = none ∧ x.fill = none) ∧
    (t.furrows.map fun x => (x.role, x.slot)) = (s.furrows.map fun x => (x.role, x.slot)) ∧
    (t.sources.map fun x => (x.role, x.furrow)) = (s.sources.map fun x => (x.role, x.furrow)) := by
  have hgo : exec (.engineStop h) s = .next (doEngineStop h (s.accept h)) := exec_of_servesNow hs rfl rfl
  have hw : (s.accept h).abandonRuns.endExchanges.awaits h := by
    obtain ⟨_, _, e⟩ := abandonRuns_only (s.accept h)
    exact endExchanges_awaits (awaits_of_lanes (u := s.accept h) (by rw [e]) (accept_awaits hs.1))
  obtain ⟨_, _, _, _, _, _, _, _, hu⟩ := runsOver_only (s.accept h)
  obtain ⟨u, e⟩ : ∃ u, (s.accept h).abandonRuns.endExchanges = u := ⟨_, rfl⟩
  rw [e] at hw hu
  have hans : (u.enginesOff.reply h 0x0502 stOk).answered h 0x0502 stOk [] := reply_answered (awaits_of_lanes (u := u) (enginesOff_lanes u) hw) _ _ _
  obtain ⟨t, ht⟩ : ∃ t, u.enginesOff.reply h 0x0502 stOk = t := ⟨_, rfl⟩
  have hto := reply_only u.enginesOff h 0x0502 stOk []
  rw [ht] at hans hto
  have hacc := accept_only s h
  refine ⟨t, hgo.trans (congrArg Host.Outcome.next ((doEngineStop_stops hs hm).trans ?_)), hans, ?_⟩
  · rw [stopEngine_eq, e, ht]
  obtain ⟨a, ha⟩ : ∃ a, s.accept h = a := ⟨_, rfl⟩
  rw [ha] at hu hacc
  rw [hto, hu, hacc]
  refine ⟨rfl, rfl, rfl, rfl, rfl, rfl, rfl, ?_, ?_, ?_, ?_⟩
  · intro x hx
    obtain ⟨y, -, rfl⟩ := List.mem_map.mp hx
    rfl
  · intro x hx
    obtain ⟨y, -, rfl⟩ := List.mem_map.mp hx
    exact ⟨rfl, rfl, rfl⟩
  · exact List.map_map
  · show (((s.sources.map _).map _).map _) = _
    rw [List.map_map, List.map_map]
    rfl

/-! ### MARGIN_TEST (R125) -/

theorem dozeIfDue_of_due {s : State} (h : s.lantern.dozeDue = false) : s.dozeIfDue = s := if_neg fun c => Bool.false_ne_true (h.symm.trans c.2.1)

/-- A test that ends where no command waits and no DOZE is due changes nothing more. -/
theorem testEnded_of_due {s : State} (h : ∀ l ∈ s.lanes, l.job = none) (hd : s.lantern.dozeDue = false) : s.testEnded = s := by
  rw [State.testEnded, resumeWaiting_of_no_jobs h, dozeIfDue_of_due hd, powerNext_of_no_jobs h]

theorem finishMarginTest_reports (h : ReqHdr) (q m : Nat) (env : Env) (s : State) : ∃ st d, finishMarginTest h q 0 m env s = (s.storeMargin env).reply h 0x0504 st d :=
  ⟨_, _, rfl⟩

theorem doCommandCompletion_marginTest {s : State} {l q r m : Nat} {j : Job} (env : Env) (hj : (s.lane l).job = some j) (hk : j.kind = .marginTest q r m) :
    doCommandCompletion l env s = if s.dev = .fault then s.failReply j.hdr j.opcode (s.lantern.fault.getD { status := stWrongState })
      else (finishMarginTest j.hdr q r m env s).testEnded := by
  unfold doCommandCompletion
  rw [hj]
  dsimp only
  rw [hk]

theorem marginTest_reports {s : State} {l q m : Nat} {j : Job} (env : Env) (hl : l < 16) (ho : s.onlyJob l) (hj : (s.lane l).job = some j) (hjl : j.hdr.lane = l)
    (hk : j.kind = .marginTest q 0 m) (hd : s.dev ≠ .fault) (hz : s.lantern.dozeDue = false) :
    ∃ t, exec (.commandCompletion l env) s = .next t ∧ (t.lane l).job = none ∧ t.furrows = s.furrows ∧ t.sources = s.sources ∧ t.dev = s.dev := by
  subst hjl
  obtain ⟨_, _, hu⟩ := storeMargin_only s env
  obtain ⟨st, d, hf⟩ := finishMarginTest_reports j.hdr q m env s
  have hgo := doCommandCompletion_marginTest env hj hk
  rw [if_neg hd, hf] at hgo
  obtain ⟨u, e⟩ : ∃ u, s.storeMargin env = u := ⟨_, rfl⟩
  rw [e] at hu hgo
  have hlanes : u.lanes = s.lanes := by rw [hu]
  have hfree : ((u.reply j.hdr 0x0504 st d).lane j.hdr.lane).job = none := by
    refine reply_frees_of_lt _ _ _ ?_ ?_
    · rw [hlanes, ho.1]
      exact hl
    · unfold State.lane
      rw [hlanes]
      exact hj
  have hother (k : Nat) (hk : k ≠ j.hdr.lane) : (u.reply j.hdr 0x0504 st d).lane k = s.lane k := by
    rw [reply_other _ _ _ _ _ hk]
    unfold State.lane
    rw [hlanes]
  have hto := reply_only u j.hdr 0x0504 st d
  have hlen : (u.reply j.hdr 0x0504 st d).lanes.length = s.lanes.length := (reply_lanes_length _ _ _ _ _).trans (congrArg _ hlanes)
  obtain ⟨t, ht⟩ : ∃ t, u.reply j.hdr 0x0504 st d = t := ⟨_, rfl⟩
  rw [ht] at hgo hfree hother hto hlen
  have hnone := no_jobs_of_freed ho hlen hfree hother
  refine ⟨t, congrArg Host.Outcome.next (hgo.trans (testEnded_of_due hnone ?_)), hfree, ?_, ?_, ?_⟩
  · rw [hto, hu]
    exact hz
  · rw [hto, hu]
  · rw [hto, hu]
  · rw [hto, hu]

/-- Settles O38. -/
theorem engineStopAndMarginTest : Obligations.EngineStopAndMarginTest := by
  refine ⟨?_, ?_, ?_, ?_⟩
  · intro s h hs hm
    have hgo : exec (.engineStop h) s = .next (doEngineStop h (s.accept h)) := exec_of_servesNow hs rfl rfl
    rw [hgo, doEngineStop_waits hs hm]
  · exact fun s h hs hm => engineStop_enters hs hm
  · intro s h q r hs hq hq' hr b
    have hgo : exec (.marginTest h (some (q, r, 0))) s = .next (doMarginTest h (some (q, r, 0)) (s.accept h)) := exec_of_servesNow hs rfl rfl
    rw [hgo]
    refine congrArg Host.Outcome.next ?_
    unfold doMarginTest
    refine serve_servesNow hs rfl ?_
    rw [Option.getD_some, inRange_of_le hq hq', inRange_of_le (Nat.zero_le r) hr, rsvZero_zero]
    rfl
  · intro s l q m j env hl ho hj hjl hk
    refine ⟨fun hd => ?_, fun hd hz => marginTest_reports env hl ho hj hjl hk (by obtain h | h := hd <;> rw [h] <;> decide) hz⟩
    have hgo := doCommandCompletion_marginTest env hj hk
    rw [if_pos hd] at hgo
    exact congrArg Host.Outcome.next hgo

end Sys2Proof.Machine
end

section
/-!
PROOFS. WINNOW_RUN, VANE_LOOP_SET, VANE_BANK_SWAP and SOURCE_SPARE (O39).
-/
namespace Sys2Proof.Machine

/-- A command runs once it has been put into the lane that took its request. -/
theorem running_of_lanes {s u : State} {h : ReqHdr} {op : Nat} (hs : s.servesNow h op) (hu : u.lanes = (s.accept h).lanes) (c : Instr) (k : JobKind) :
    (u.setJob h op c k).running h op c k := by
  unfold State.running State.lane
  rw [setJob_lanes_congr hu]
  exact setJob_running hs c k

/-! ### WINNOW_RUN (R377) -/

/-- A run made due for a WINNOW_RUN, its outcome open. -/
def WinnowF.asked (now : Nat) (w : WinnowF) : WinnowF := { w.dueFrom now with outcome := 0 }

theorem WinnowF.asked_asked (now : Nat) (w : WinnowF) : (w.asked now).asked now = w.asked now := by
  unfold WinnowF.asked WinnowF.dueFrom
  split
  · rfl
  · rw [if_pos rfl]

/-- The run of a Furrow asked for. -/
def State.ask (s : State) (f : Nat) : State := (s.markDue f).modWin f fun w => { w with outcome := 0 }

theorem ask_eq (s : State) (f : Nat) (hf : f < s.winnow.length) : s.ask f = { s with winnow := setAt s.winnow f ((s.win f).asked s.clocks.tick) } := by
  have e : (s.markDue f).win f = (s.win f).dueFrom s.clocks.tick := by
    show (setAt s.winnow f ((s.win f).dueFrom s.clocks.tick)).getD f {} = _
    rw [setAt_getD, if_pos (And.intro rfl hf)]
  show ({ s with winnow := setAt (setAt s.winnow f ((s.win f).dueFrom s.clocks.tick)) f { (s.markDue f).win f with outcome := 0 } } : State) = _
  rw [e, setAt_setAt]
  rfl

theorem foldl_ask : ∀ (fs : List Nat) (s : State), (∀ f ∈ fs, f < s.winnow.length) → fs.foldl State.ask s = { s with
    winnow := fs.foldl (fun l n => setAt l n ((l.getD n {}).asked s.clocks.tick)) s.winnow }
  | [], _, _ => rfl
  | f :: fs, s, h => by
    rw [List.foldl_cons, ask_eq s f (h f List.mem_cons_self), foldl_ask fs _ fun g hg => by
      rw [setAt_length]
      exact h g (List.mem_cons_of_mem _ hg)]
    rfl

theorem foldl_setAt_length {β : Type} (g : List β → Nat → β) : ∀ (ls : List Nat) (l : List β), (ls.foldl (fun l n => setAt l n (g l n)) l).length = l.length
  | [], _ => rfl
  | n :: ls, l => (foldl_setAt_length g ls (setAt l n (g l n))).trans (setAt_length _ _ _)

theorem winnowNames_lt {s : State} {mask f : Nat} (h : f ∈ s.winnowNames mask) : f < 10 := by
  unfold State.winnowNames at h
  split at h
  · exact List.mem_range.mp (List.mem_filter.mp h).1
  · exact List.mem_range.mp (List.mem_filter.mp h).1

theorem foldl_ask_win {s : State} (hl : s.winnow.length = 10) (mask f : Nat) : ((s.winnowNames mask).foldl State.ask s).win f =
    if f ∈ s.winnowNames mask then (s.win f).asked s.clocks.tick else s.win f := by
  rw [foldl_ask _ s fun f hf => by rw [hl]; exact winnowNames_lt hf]
  show List.getD _ f ({} : WinnowF) = _
  by_cases hf : f < 10
  · exact foldl_setAt (WinnowF.asked_asked _) {} (s.winnowNames mask) (by rw [hl]; exact hf)
  · rw [getD_of_length_le _ _ (by rw [foldl_setAt_length, hl]; omega), if_neg (fun h => hf (winnowNames_lt h))]
    exact (getD_of_length_le _ _ (by rw [hl]; omega)).symm

theorem doWinnowRun_passes {s : State} {h : ReqHdr} (hs : s.servesNow h 0x0503) {mask w : Nat} (hm : mask < 1024) (hw : w ≤ 1)
    (hr : ∀ f ∈ maskBits 10 mask, (s.furrow f).role = 0) : doWinnowRun h mask 0 (some (w, 0)) (s.accept h) =
      if w = 0 then (((s.accept h).winnowNames mask).foldl State.ask (s.accept h)).reply h 0x0503 stOk
      else (((s.accept h).winnowNames mask).foldl State.ask (s.accept h)).setJob h 0x0503 (.winnowRun h mask 0 (some (w, 0)))
        (.winnowWait ((((s.accept h).winnowNames mask).map fun f => 2 ^ f).sum)) := by
  refine serve_servesNow hs rfl ?_
  have hok : (decide (mask < 1024) && (maskBits 10 mask).all fun f => ((s.accept h).furrow f).role = 0) = true := by
    rw [Bool.and_eq_true, decide_eq_true_eq, List.all_eq_true]
    refine ⟨hm, fun f hf => ?_⟩
    rw [decide_eq_true_eq, State.furrow, accept_furrows]
    exact hr f hf
  rw [need_of_true _ hok]
  show firstFailure [none, rsvZero 2 0, inRange 4 w 0 1, rsvZero 5 0] = none
  rw [inRange_of_le (Nat.zero_le w) hw]
  rfl

theorem winnowRun_marks {s : State} {h : ReqHdr} {mask w : Nat} (hi : s.Inv) (hs : s.servesNow h 0x0503) (hm : mask < 1024) (hw : w ≤ 1)
    (hr : ∀ f ∈ maskBits 10 mask, (s.furrow f).role = 0) :
    ∃ t, exec (.winnowRun h mask 0 (some (w, 0))) s = .next t ∧
      (∀ f ∈ s.winnowNames mask, (t.win f).due = true) ∧ (∀ f, f ∉ s.winnowNames mask → t.win f = s.win f) ∧
      (w = 0 → t.answered h 0x0503 stOk []) ∧
      (w = 1 → t.running h 0x0503 (.winnowRun h mask 0 (some (w, 0)))
        (.winnowWait (((s.winnowNames mask).map fun f => 2 ^ f).sum))) := by
  have hn : (s.accept h).winnowNames mask = s.winnowNames mask := by
    unfold State.winnowNames State.activeFurrows State.furrow
    rw [accept_furrows]
  have hgo : exec (.winnowRun h mask 0 (some (w, 0))) s = .next (doWinnowRun h mask 0 (some (w, 0)) (s.accept h)) := exec_of_servesNow hs rfl rfl
  have hdo := doWinnowRun_passes hs hm hw hr
  have hlen : (s.accept h).winnow.length = 10 := by rw [accept_winnow, hi.winnow]
  have hwin (f : Nat) := foldl_ask_win hlen mask f
  have hlanes : (((s.accept h).winnowNames mask).foldl State.ask (s.accept h)).lanes = (s.accept h).lanes := by
    rw [foldl_ask _ _ fun f hf => by rw [hlen]; exact winnowNames_lt hf]
  have hkeep (f : Nat) : (s.accept h).win f = s.win f := by
    unfold State.win
    rw [accept_winnow]
  rw [hn] at hdo hlanes
  simp only [hn, hkeep] at hwin
  obtain ⟨u, hu⟩ : ∃ u, (s.winnowNames mask).foldl State.ask (s.accept h) = u := ⟨_, rfl⟩
  rw [hu] at hdo hlanes
  simp only [hu] at hwin
  have hdue : ∀ f ∈ s.winnowNames mask, (u.win f).due = true := fun f hf => by
    rw [hwin f, if_pos hf]
    exact WinnowF.dueFrom_due _ _
  have hrest : ∀ f, f ∉ s.winnowNames mask → u.win f = s.win f := fun f hf => by rw [hwin f, if_neg hf]
  by_cases h0 : w = 0
  · rw [if_pos h0] at hdo
    have hro (f : Nat) : (u.reply h 0x0503 stOk).win f = u.win f := by
      rw [reply_only]
      rfl
    refine ⟨_, hgo.trans (congrArg Host.Outcome.next hdo), fun f hf => ?_, fun f hf => ?_, fun _ => ?_, fun h1 => ?_⟩
    · rw [hro]
      exact hdue f hf
    · rw [hro]
      exact hrest f hf
    · exact reply_answered (awaits_of_lanes hlanes (accept_awaits hs.1)) _ _ _
    · omega
  · rw [if_neg h0] at hdo
    exact ⟨_, hgo.trans (congrArg Host.Outcome.next hdo), hdue, hrest, fun h1 => absurd h1 h0, fun _ => running_of_lanes hs hlanes _ _⟩

/-! ### VANE_LOOP_SET and VANE_BANK_SWAP (R350, R351) -/

/-- A target written into both banks. -/
def Vane.aimed (v : Vane) (n : Nat) (target : Int) : Vane := { v with
  bankA := put v.bankA n { entryIn v.bankA n with target := target }
  bankB := put v.bankB n { entryIn v.bankB n with target := target } }

theorem write_standby (v : Vane) (n : Nat) (e : LoopEntry) : (v.write false true n e).active = v.active ∧
    ∀ k, entryIn (v.write false true n e).standby k = if k = n then e else entryIn v.standby k := by
  unfold Vane.write Vane.active Vane.standby
  cases hb : v.bankBActive
  · refine ⟨rfl, fun k => ?_⟩
    show (look (put v.bankB n e) k).getD {} = _
    rw [look_put]
    split <;> rfl
  · refine ⟨rfl, fun k => ?_⟩
    show (look (put v.bankA n e) k).getD {} = _
    rw [look_put]
    split <;> rfl

theorem doVaneLoopSet_passes {s : State} {h : ReqHdr} (hs : s.servesNow h 0x0505) {n : Nat} {target : Int} {y : LoopX} (hc : firstFailure (loopChecks n 0 y) = none)
    (he : (s.accept h).engineStarting = false) (hw : y.write = 0 ∨ y.write = 1 ∧ s.vane.swapPending = false) : doVaneLoopSet h n 0 target (some y) (s.accept h) =
      ({ s.accept h with vane := if y.write = 0 then s.vane.aimed n target else s.vane.write false true n (loopEntryOf target y) } : State).reply h 0x0505 stOk := by
  have h2 : y.write ≠ 2 := by omega
  have h1 : (!(decide (y.write = 1) && (s.accept h).vane.swapPending)) = true := by
    rw [accept_vane]
    obtain e | ⟨e, hp⟩ := hw
    · rw [e]
      rfl
    · rw [e, hp]
      rfl
  refine (serve_servesNow hs rfl ?_).trans ?_
  · rw [he]
    show firstFailure ([wrongUnless (!false), wrongUnless (!(decide (y.write = 1) && (s.accept h).vane.swapPending)),
      wrongUnless (!(decide (y.write = 2) && (entryIn (s.accept h).vane.active n).enable))] ++ loopChecks n 0 y ++ []) = none
    rw [h1, decide_eq_false h2, Bool.false_and, Bool.not_false, wrongUnless_true, List.append_nil]
    exact hc
  · simp only [orReg, Option.getD_some, h2, false_and, if_false, Bool.false_eq_true, accept_vane]
    obtain e | ⟨e, -⟩ := hw
    · simp only [e, if_true]
      rfl
    · simp only [e, if_true, Nat.one_ne_zero, if_false]

theorem doVaneLoopSet_waits {s : State} {h : ReqHdr} (hs : s.servesNow h 0x0505) (n : Nat) (target : Int) (y : LoopX)
    (he : (s.accept h).engineStarting = true) : doVaneLoopSet h n 0 target (some y) (s.accept h) = (s.accept h).failReply h 0x0505 { status := stWrongState } := by
  refine serve_fails hs rfl ?_
  rw [he]
  rfl

theorem vaneLoopSet_writes {s : State} {h : ReqHdr} (hs : s.servesNow h 0x0505) {n : Nat} {target : Int} {y : LoopX} (hc : firstFailure (loopChecks n 0 y) = none)
    (he : (s.accept h).engineStarting = false) (hw : y.write = 1) (hp : s.vane.swapPending = false) :
    ∃ t, exec (.vaneLoopSet h n 0 target (some y)) s = .next t ∧ t.answered h 0x0505 stOk [] ∧ t.vane.active = s.vane.active ∧
      ∀ k, entryIn t.vane.standby k = if k = n then loopEntryOf target y else entryIn s.vane.standby k := by
  have hgo : exec (.vaneLoopSet h n 0 target (some y)) s = .next (doVaneLoopSet h n 0 target (some y) (s.accept h)) := exec_of_servesNow hs rfl rfl
  have hdo := doVaneLoopSet_passes (target := target) hs hc he (Or.inr ⟨hw, hp⟩)
  rw [if_neg (by omega)] at hdo
  obtain ⟨u, hu⟩ : ∃ u : State, ({ s.accept h with vane := s.vane.write false true n (loopEntryOf target y) } : State) = u := ⟨_, rfl⟩
  have hlanes : u.lanes = (s.accept h).lanes := by rw [← hu]
  have hvane : u.vane = s.vane.write false true n (loopEntryOf target y) := by rw [← hu]
  rw [hu] at hdo
  refine ⟨_, hgo.trans (congrArg Host.Outcome.next hdo), reply_answered (awaits_of_lanes hlanes (accept_awaits hs.1)) _ _ _, ?_⟩
  rw [reply_only]
  show u.vane.active = _ ∧ ∀ k, entryIn u.vane.standby k = _
  rw [hvane]
  exact write_standby s.vane n _

theorem doVaneBankSwap_passes {s : State} {h : ReqHdr} (hs : s.servesNow h 0x0506) (he : (s.accept h).engineStarting = false) :
    doVaneBankSwap h (s.accept h) = if (s.accept h).vaneLevel = 0 then (s.accept h).swapBanks.reply h 0x0506 stOk
      else ({ s.accept h with vane := { (s.accept h).vane with swapPending := true } } : State).setJob h 0x0506 (.vaneBankSwap h) .bankSwap := by
  refine serve_servesNow hs rfl ?_
  rw [he]
  rfl

/-! ### SOURCE_SPARE (R360) -/

theorem doSourceSpare_passes {s : State} {h : ReqHdr} (hs : s.servesNow h 0x0507) {a b : Nat} (ha : a ≤ 19) (hb : b ≤ 19) (hra : (s.source a).role = 0)
    (hrb : (s.source b).role = 1) (hx : ∀ e ∈ s.exchanges, e.out ≠ a ∧ e.into ≠ some b) : doSourceSpare h a b 0 (s.accept h) =
      ({ (s.accept h).setJob h 0x0507 (.sourceSpare h a b 0) (.sourceSpare a) with exchanges := s.exchanges ++ [⟨a, some b, 0, false, some h.lane⟩] } : State).startWarm b a := by
  have hany : ((s.accept h).sources.any fun x => decide (x.role = 1)) = true := by
    rw [accept_sources, List.any_eq_true]
    have hlt : b < s.sources.length := by
      refine Nat.lt_of_not_le fun hlt => ?_
      rw [State.source, getD_of_length_le _ _ hlt] at hrb
      cases hrb
    refine ⟨s.source b, ?_, decide_eq_true hrb⟩
    rw [State.source, getD_of_lt _ _ hlt]
    exact List.getElem_mem hlt
  have hnot : ((s.accept h).exchanges.any fun e => decide (e.out = a)) = false := by
    rw [accept_exchanges, List.any_eq_false]
    intro e he
    rw [decide_eq_true_eq]
    exact (hx e he).1
  have hka : (decide (a ≤ 19) && decide (((s.accept h).source a).role = 0)) = true := by
    rw [State.source, accept_sources]
    exact Bool.and_eq_true_iff.mpr ⟨decide_eq_true ha, decide_eq_true hra⟩
  have hkb : (decide (b = 0xFF) || (decide (b ≤ 19) && decide (((s.accept h).source b).role = 1))) = true := by
    rw [State.source, accept_sources]
    exact Bool.or_eq_true_iff.mpr (Or.inr (Bool.and_eq_true_iff.mpr ⟨decide_eq_true hb, decide_eq_true hrb⟩))
  refine (serve_servesNow hs rfl ?_).trans ?_
  · rw [hany, need_of_true _ hka, need_of_true _ hkb]
    rfl
  · rw [hnot, if_neg Bool.false_ne_true]
    dsimp only
    obtain ⟨u, hu⟩ : ∃ u, (s.accept h).setJob h 0x0507 (.sourceSpare h a b 0) (.sourceSpare a) = u := ⟨_, rfl⟩
    have hue : u.exchanges = s.exchanges ∧ u.sources = s.sources := by
      obtain ⟨ls, e⟩ := setJob_accept_only s h 0x0507 (.sourceSpare h a b 0) (.sourceSpare a)
      rw [← hu, e]
      exact ⟨rfl, rfl⟩
    rw [hu]
    obtain ⟨hex, hso⟩ := hue
    have hfree : u.freeSpares.contains b = true := by
      rw [List.contains_iff_mem]
      refine List.mem_filter.mpr ⟨List.mem_range.mpr (by omega), Bool.and_eq_true_iff.mpr ⟨?_, ?_⟩⟩
      · rw [State.source, hso]
        exact decide_eq_true hrb
      · rw [hex, Bool.not_eq_true', List.any_eq_false]
        intro e he
        rw [decide_eq_true_eq]
        exact (hx e he).2
    rw [if_pos ⟨by omega, hfree⟩, hex]

theorem startWarm_spec (u : State) {b : Nat} (a : Nat) (hb : b < u.sources.length) : (∃ so va, u.startWarm b a = { u with sources := so, vane := va }) ∧
    ((u.startWarm b a).source b).warming = true ∧ ∀ n, n ≠ b → (u.startWarm b a).source n = u.source n := by
  refine ⟨⟨_, _, rfl⟩, ?_, fun n hn => ?_⟩
  · show ((setAt u.sources b _).getD b {}).warming = true
    rw [setAt_getD, if_pos ⟨rfl, hb⟩]
  · show (setAt u.sources b _).getD n {} = _
    rw [setAt_getD, if_neg (fun c : n = b ∧ b < u.sources.length => hn c.1)]
    rfl

theorem sourceSpare_warms {s : State} {h : ReqHdr} (hs : s.servesNow h 0x0507) {a b : Nat} (ha : a ≤ 19) (hb : b ≤ 19) (hra : (s.source a).role = 0)
    (hrb : (s.source b).role = 1) (hx : ∀ e ∈ s.exchanges, e.out ≠ a ∧ e.into ≠ some b) :
    ∃ t, exec (.sourceSpare h a b 0) s = .next t ∧ t.running h 0x0507 (.sourceSpare h a b 0) (.sourceSpare a) ∧
      t.exchanges = s.exchanges ++ [⟨a, some b, 0, false, some h.lane⟩] ∧ (t.source b).warming = true ∧
      (∀ n, n ≠ b → t.source n = s.source n) ∧ t.memory = s.memory := by
  have hgo : exec (.sourceSpare h a b 0) s = .next (doSourceSpare h a b 0 (s.accept h)) := exec_of_servesNow hs rfl rfl
  have hdo := doSourceSpare_passes hs ha hb hra hrb hx
  have hrun := setJob_running hs (.sourceSpare h a b 0) (.sourceSpare a)
  obtain ⟨ls, e⟩ := setJob_accept_only s h 0x0507 (.sourceSpare h a b 0) (.sourceSpare a)
  obtain ⟨u, hu⟩ : ∃ u, (s.accept h).setJob h 0x0507 (.sourceSpare h a b 0) (.sourceSpare a) = u := ⟨_, rfl⟩
  rw [hu] at hdo hrun e
  have hlt : b < u.sources.length := by
    rw [e]
    refine Nat.lt_of_not_le fun hlt => ?_
    rw [State.source, getD_of_length_le _ _ hlt] at hrb
    cases hrb
  obtain ⟨⟨so, va, ho⟩, hwarm, hrest⟩ := startWarm_spec { u with exchanges := s.exchanges ++ [⟨a, some b, 0, false, some h.lane⟩] } a hlt
  refine ⟨_, hgo.trans (congrArg Host.Outcome.next hdo), ?_, ?_, hwarm, fun n hn => (hrest n hn).trans (by rw [e]; rfl), ?_⟩
  · rw [ho]
    exact hrun
  · rw [ho]
  · rw [ho, e]

/-- Settles O39. -/
theorem loopAndSourceCommands : Obligations.LoopAndSourceCommands := by
  refine ⟨?_, ?_, ?_, ?_⟩
  · exact fun s h mask w hi hs hm hw hr => winnowRun_marks hi hs hm hw hr
  · intro s h n target y hs hc v b
    have hgo : exec (.vaneLoopSet h n 0 target (some y)) s = .next (doVaneLoopSet h n 0 target (some y) (s.accept h)) := exec_of_servesNow hs rfl rfl
    refine ⟨fun he => ?_, fun he => ⟨fun h0 => ?_, fun h1 hp => vaneLoopSet_writes hs hc he h1 hp⟩⟩
    · rw [hgo, doVaneLoopSet_waits hs n target y he]
    · rw [hgo, doVaneLoopSet_passes hs hc he (Or.inl h0), if_pos h0]
      rfl
  · intro s h hs
    have hgo : exec (.vaneBankSwap h) s = .next (doVaneBankSwap h (s.accept h)) := exec_of_servesNow hs rfl rfl
    refine ⟨fun he => ?_, fun he hv => ?_⟩
    · rw [hgo]
      refine congrArg Host.Outcome.next (serve_fails hs rfl ?_)
      rw [he]
      rfl
    · rw [hgo, doVaneBankSwap_passes hs he, if_neg hv, accept_vane]
  · exact fun s h a b hs ha hb hra hrb hx => sourceSpare_warms hs ha hb hra hrb hx

end Sys2Proof.Machine
end

section
/-!
PROOFS. Dispatch, DEP, ROUTE, COPY, GATE and END (O49).
-/
namespace Sys2Proof.Machine

/-! ### The step at work -/

theorem stepOf_lane {s : State} {l : Nat} {t : Step} (h : s.stepOf l = some t) : t.lane = l := by simpa using List.find?_some h

theorem works_iff {s : State} {t : Step} : s.works t = true ↔ s.reaper.holder = some t.lane ∧ t.failure = none ∧ t.teardown = false := by
  simp [State.works, and_assoc]

/-- A step at work fails with the abort that meets it (R219). -/
theorem abortStep_fails_of_works {s : State} {l : Nat} {t : Step} (ht : s.stepOf l = some t) (hw : s.works t = true) (f : Failure) (rec : Nat) :
    (s.abortStep l f rec).fails l f rec := by
  obtain ⟨-, hf, hd⟩ := works_iff.mp hw
  exact abortStep_fails ht hf hd f rec

theorem stepOf_modStep_self {s : State} {l : Nat} {t : Step} (h : s.stepOf l = some t) (g : Step → Step) (hg : ∀ x, (g x).lane = x.lane) :
    (s.modStep l g).stepOf l = some (g t) := by
  rw [stepOf_modStep s l l hg, if_pos rfl, h]
  rfl

/-! ### RECORD_DISPATCH (R311, R315) -/

theorem stepOf_atRecord {s : State} {l : Nat} {t : Step} (h : s.stepOf l = some t) : (s.atRecord l).stepOf l = some { t with cur := t.next } :=
  stepOf_modStep_self h (fun t => { t with cur := t.next }) fun _ => rfl

/-- The next record given to its engine, or passed. -/
def State.nextRecord (s : State) (l : Nat) (t : Step) (op : PRec) (c : Bool) : State :=
  if c then (s.atRecord l).dispatch t op else (s.atRecord l).modStep l fun x => { x.leaveGate s.clocks.tick with next := x.next + op.size }

theorem doRecordDispatch_next {s : State} {l : Nat} {t : Step} {op : PRec} {ds : List Desc} {c : Bool} (ht : s.stepOf l = some t) (hw : s.works t = true)
    (hr : t.restore = []) (hg : t.atGate = false) (hrec : s.readRec t t.next = .ok op ds) (hop : ∀ r, op ≠ .dep r) (hh : s.dispatchHeld t op = false)
    (hc : t.condHolds op.cond = some c) : doRecordDispatch l s = (s.nextRecord l t op c).settle := by
  unfold doRecordDispatch
  rw [ht]
  dsimp only
  rw [if_neg (by simp [hw, hr, hg]), hrec]
  dsimp only
  rw [if_neg (by simp [hh]), hc]
  cases op with
  | dep r => exact absurd rfl (hop r)
  | _ => cases c <;> rfl

theorem nextRecord_steps (s : State) (l : Nat) (t : Step) (op : PRec) (c : Bool) : s.nextRecord l t op c = { s with steps := (s.nextRecord l t op c).steps } := by
  unfold State.nextRecord
  cases c <;> rfl

/-- The record dispatched, as the step keeps it. -/
def PRec.begun (op : PRec) (t : Step) : Live :=
  let slots := match op with
    | .bayLoad r => maskBits 8 r.slotMask
    | _ => []
  { idx := t.next, op := op, todo := slots, left := slots }

/-- A step that dispatches a record, at a time and with what the record writes. -/
def Step.dispatched (op : PRec) (now : Nat) (w : List (Nat × Nat)) (t : Step) : Step := { t.leaveGate now with
  live := t.live ++ [op.begun t], next := t.next + op.size, touched := t.touched ++ w }

theorem dispatch_eq (s : State) (t : Step) (op : PRec) : s.dispatch t op = s.modStep t.lane (Step.dispatched op s.clocks.tick (s.writesOf t op)) := rfl

theorem stepOf_dispatch {s : State} {l : Nat} {t : Step} (ht : s.stepOf l = some t) (op : PRec) : ∃ w,
    ((s.atRecord l).dispatch t op).stepOf l = some (Step.dispatched op s.clocks.tick w { t with cur := t.next }) := by
  have e := dispatch_eq (s.atRecord l) t op
  rw [stepOf_lane ht] at e
  rw [e]
  exact ⟨_, stepOf_modStep_self (stepOf_atRecord ht) (Step.dispatched op s.clocks.tick ((s.atRecord l).writesOf t op)) fun _ => rfl⟩

theorem stepOf_pass {s : State} {l : Nat} {t : Step} (ht : s.stepOf l = some t) (now n : Nat) :
    ((s.atRecord l).modStep l fun x => { x.leaveGate now with next := x.next + n }).stepOf l
      = some { t with rest := false, since := if t.next = 0 then now else t.since, cur := t.next, next := t.next + n } :=
  stepOf_modStep_self (stepOf_atRecord ht) _ fun _ => rfl

theorem nextRecord_step {s : State} {l : Nat} {t : Step} (ht : s.stepOf l = some t) (op : PRec) (c : Bool) :
    ((s.nextRecord l t op c).stepOf l).map (fun x => (x.cur, x.next)) = some (t.next, t.next + op.size) ∧
      (c = true → ∃ v, ((s.nextRecord l t op c).stepOf l).map (fun x => x.live) = some (t.live ++ [v]) ∧ v.idx = t.next ∧ v.op = op) := by
  unfold State.nextRecord
  cases c with
  | true =>
    obtain ⟨w, e⟩ := stepOf_dispatch ht op
    rw [if_pos rfl, e]
    exact ⟨rfl, fun _ => ⟨op.begun t, rfl, rfl, rfl⟩⟩
  | false =>
    rw [if_neg Bool.false_ne_true, stepOf_pass ht]
    exact ⟨rfl, fun h => absurd h Bool.false_ne_true⟩

/-! ### DEP (R313) -/

theorem doDep_cases {s : State} {l : Nat} {t : Step} {r : DepR} {ds : List Desc} (ht : s.stepOf l = some t) (hw : s.works t = true) (hr : t.restore = [])
    (hg : t.atGate = false) (hrec : s.readRec t t.next = .ok (.dep r) ds) : doDep l t.next s =
      if (s.dispatchHeld t (.dep r) || !t.isDone r.after) = true then s.atRecord l
      else (((s.atRecord l).modStep l fun x => { x.leaveGate s.clocks.tick with next := x.next + 1 }).matchSpec l).settle := by
  unfold doDep
  rw [ht]
  dsimp only
  rw [if_neg (by simp [hw, hr, hg]), hrec]

theorem doDepTimeout_aborts {s : State} {l : Nat} {t : Step} {r : DepR} {ds : List Desc} {v : Live} (ht : s.stepOf l = some t) (hw : s.works t = true)
    (hrec : s.readRec t t.next = .ok (.dep r) ds) (hh : s.lantern.hold = none) (hc : t.cur = t.next) (hv : t.liveAt r.after = some v) :
    doDepTimeout l s = s.abortStep l (gateTimeoutFailure t.next (s.engineOf t v)) t.next := by
  unfold doDepTimeout
  rw [ht]
  dsimp only
  rw [if_neg (by simp [hw, hh, hc]), hrec]
  dsimp only
  rw [hv]

/-! ### GATE and END (R314) -/

theorem gateReady_works {s : State} {t : Step} {v : Live} (h : s.gateReady t = some v) : t.live = [v] ∧ s.works t = true ∧ s.lantern.hold = none := by
  unfold State.gateReady at h
  split at h
  · next w hw =>
    split at h
    · next hc =>
      simp only [Bool.and_eq_true, Option.isNone_iff_eq_none] at hc
      obtain ⟨⟨⟨-, hworks⟩, hhold⟩, -⟩ := hc
      exact ⟨Option.some.inj h ▸ hw, hworks, hhold⟩
    · cases h
  · cases h

theorem doGateOpen_cases {s : State} {l : Nat} {t : Step} {v : Live} {hold : Bool} (ht : s.stepOf l = some t) (hv : s.gateReady t = some v)
    (hop : v.op = .gate hold) : doGateOpen l s = if ((s.armGate t).gateOpens l) = true then
      (if hold = false ∧ ((s.armGate t).modStep l fun x => x.openGate v.idx (s.armGate t).clocks.tick).outranked t = true then
        ((s.armGate t).modStep l fun x => x.openGate v.idx (s.armGate t).clocks.tick).yieldEngines t
        else (s.armGate t).modStep l fun x => x.openGate v.idx (s.armGate t).clocks.tick).settle
      else s.armGate t := by
  obtain ⟨idx, op, a, b, c, d⟩ := v
  dsimp only at hop
  subst hop
  obtain ⟨a, ha⟩ : ∃ a, s.armGate t = a := ⟨_, rfl⟩
  unfold doGateOpen
  rw [ht]
  dsimp only
  rw [hv]
  dsimp only
  rw [ha]
  cases hg : a.gateOpens l
  · rfl
  · obtain ⟨g, hge⟩ : ∃ g, (a.modStep l fun x => x.openGate idx a.clocks.tick) = g := ⟨_, rfl⟩
    rw [hge, if_neg (by simp), if_pos rfl]
    refine congrArg State.settle ?_
    cases hold
    · simp
    · simp

theorem armGate_alone {s : State} {t : Step} (ha : t.gateAt = none) (he : s.exchanges = []) (hth : s.lantern.throttle = 0) :
    s.armGate t = s.modStep t.lane fun x => { x with gateAt := some s.clocks.tick } := by
  have hm : s.makeExchanges false = s := by
    unfold State.makeExchanges
    rw [he]
    rfl
  unfold State.armGate
  rw [if_neg (by simp [ha]), hm]
  dsimp only
  rw [hth]
  simp [holdEighths]

/-- A Gate that nothing holds opens at once (R187, R386). -/
theorem gateOpens_alone {s : State} {l : Nat} {t : Step} (ht : s.stepOf l = some t) (ha : t.gateAt = none) (he : s.exchanges = []) (hth : s.lantern.throttle = 0)
    (hs : s.reaper.switchAt ≤ t.since) : (s.armGate t).gateOpens l = true := by
  rw [armGate_alone ha he hth, stepOf_lane ht]
  unfold State.gateOpens
  rw [stepOf_modStep_self ht (fun x => { x with gateAt := some s.clocks.tick }) fun _ => rfl]
  dsimp only
  have hin : (s.modStep l fun x => { x with gateAt := some s.clocks.tick }).inserting { t with gateAt := some s.clocks.tick } = false := by
    unfold State.inserting
    rw [modStep_reaper, decide_eq_false (Nat.not_lt.mpr hs)]
    rfl
  rw [hin, modStep_clocks]
  simp

theorem doGateTimeout_aborts {s : State} {l : Nat} {t : Step} {v : Live} (ht : s.stepOf l = some t) (hw : s.works t = true)
    (hv : t.live.find? (fun w => w.op.kind = 6 || w.op.kind = 10) = some v) (hh : s.lantern.hold = none) {engines : List (Nat × Nat)}
    (he : (t.live.filter fun w => w.idx ≠ v.idx).map (s.engineOf t) ++ (if v.op.kind = 10 ∧ !t.fetches.isEmpty then [(0x02, 0)] else []) = engines)
    (hn : engines ≠ [] ∨ (t.gateAt ≠ none ∧ s.inserting t = true)) :
    doGateTimeout l s = s.abortStep l (gateTimeoutFailure v.idx (firstEngine engines)) v.idx := by
  have hne : ¬ (!s.works t || s.lantern.hold.isSome || (engines.isEmpty && !(t.gateAt.isSome && s.inserting t))) = true := by
    rw [hw, hh]
    obtain h | ⟨h1, h2⟩ := hn
    · simp [h]
    · obtain ⟨n, hn⟩ := Option.ne_none_iff_exists'.mp h1
      simp [hn, h2]
  unfold doGateTimeout
  rw [ht]
  dsimp only
  rw [hv]
  dsimp only
  rw [he, if_neg hne]

theorem doEndRecord_cases {s : State} {l : Nat} {t : Step} {v : Live} {tokens : Nat} (ht : s.stepOf l = some t) (hv : s.gateReady t = some v)
    (hop : v.op = .fin tokens) : doEndRecord l s = if (s.armGate t).gateOpens l = true then (s.armGate t).finishStep t v.idx tokens else s.armGate t := by
  obtain ⟨idx, op, a, b, c, d⟩ := v
  dsimp only at hop
  subst hop
  unfold doEndRecord
  rw [ht]
  dsimp only
  rw [hv]

/-! ### ROUTE and COPY (R198, R301) -/

/-- The cost of a change of the route: symbols counted on every active Furrow, and one bump of the Thresher's count (R185). -/
def State.routeCost (s : State) : State := (s.activeFurrows.foldl (fun s f => s.countSymbols f 0x60 64) s).bump (aThresher 0x3C)

theorem countSymbols_only (s : State) (f off n : Nat) : ∃ rg ct fu, s.countSymbols f off n = { s with regs := rg, ctrs := ct, furrows := fu } := by
  unfold State.countSymbols
  rw [bump48_only]
  exact ⟨_, _, _, rfl⟩

theorem routeCost_only (s : State) : ∃ rg ct fu, s.routeCost = { s with regs := rg, ctrs := ct, furrows := fu } := by
  have hfold : ∀ (fs : List Nat) (s : State), ∃ rg ct fu, fs.foldl (fun s f => s.countSymbols f 0x60 64) s = { s with regs := rg, ctrs := ct, furrows := fu } := by
    intro fs
    induction fs with
    | nil => exact fun s => ⟨s.regs, s.ctrs, s.furrows, rfl⟩
    | cons f fs ih =>
      intro s
      obtain ⟨_, _, _, h⟩ := countSymbols_only s f 0x60 64
      obtain ⟨rg, ct, fu, h'⟩ := ih (s.countSymbols f 0x60 64)
      refine ⟨rg, ct, fu, ?_⟩
      rw [List.foldl_cons, h', h]
  obtain ⟨_, _, _, h⟩ := hfold s.activeFurrows s
  unfold State.routeCost
  rw [bump_only, h]
  exact ⟨_, _, _, rfl⟩

theorem doRoute_changes {s : State} {l : Nat} {t : Step} {v : Live} {gs : List Nat} (ht : s.stepOf l = some t) (hw : s.works t = true) (hop : v.op = .route gs)
    (hv : t.liveAt v.idx = some v) (hlow : ∀ w ∈ t.live, v.idx ≤ w.idx) : doRoute l v.idx s =
      ((if t.route = s.newRoute t.route gs then s else s.routeCost).modStep l fun x => { x.complete v.idx with route := s.newRoute t.route gs }).settle := by
  have hnone : t.live.any (fun w => decide (w.idx < v.idx)) = false := by
    rw [List.any_eq_false]
    intro w hm
    rw [decide_eq_true_eq]
    exact Nat.not_lt.mpr (hlow w hm)
  unfold doRoute
  rw [ht]
  dsimp only
  rw [hv]
  dsimp only
  rw [hop]
  dsimp only
  rw [if_neg (by simp [hw, hnone])]
  rfl

theorem doCopy_takesUp {s : State} {l : Nat} {t : Step} {v : Live} (ht : s.stepOf l = some t) (hw : s.works t = true) (hk : v.op.kind = 8)
    (hv : t.liveAt v.idx = some v) (hs : v.started = false) (hb : t.reaperBehind v.idx = false) (hh : s.lantern.hold = none) :
    doCopy l v.idx s = ((s.ensureFetch t v.idx).modStep l fun x => x.modLive v.idx fun w => { w with started := true }).settle := by
  unfold doCopy
  rw [ht]
  dsimp only
  rw [hv]
  dsimp only
  rw [if_neg (by simp [hw, hk, hs, hb, hh])]

/-- Settles O49. -/
theorem dispatchAndGates : Obligations.DispatchAndGates := by
  refine ⟨?_, ?_, ?_⟩
  · intro s l t op ds c ht hw hr hg hrec hop hh hc b u
    have hu : u = s.nextRecord l t op c := rfl
    rw [hu]
    exact ⟨congrArg Host.Outcome.next (doRecordDispatch_next ht hw hr hg hrec hop hh hc), nextRecord_steps s l t op c, nextRecord_step ht op c⟩
  · intro s l t r ds ht hw hr hg hrec
    have hgo := doDep_cases ht hw hr hg hrec
    refine ⟨fun hh hd => ?_, fun hd => ?_, fun hh hc v hv => ?_⟩
    · rw [if_neg (by simp [hh, hd])] at hgo
      exact congrArg Host.Outcome.next hgo
    · rw [if_pos (by simp [hd])] at hgo
      exact congrArg Host.Outcome.next hgo
    · exact ⟨congrArg Host.Outcome.next (doDepTimeout_aborts ht hw hrec hh hc hv), abortStep_fails_of_works ht hw _ _⟩
  · intro s l t v ht hw
    refine ⟨?_, ?_, ?_, ?_, ?_⟩
    · intro hold hop hv a g
      have hgo := doGateOpen_cases ht hv hop
      refine ⟨fun ho => ?_, fun ho => ?_, fun he hth ha hs => gateOpens_alone ht ha he hth hs⟩
      · exact congrArg Host.Outcome.next (hgo.trans (if_neg fun h => Bool.false_ne_true (ho.symm.trans h)))
      · exact congrArg Host.Outcome.next (hgo.trans (if_pos ho))
    · intro hv hh engines hn f
      exact ⟨congrArg Host.Outcome.next (doGateTimeout_aborts ht hw hv hh rfl hn), abortStep_fails_of_works ht hw _ _⟩
    · intro tokens hop hv a
      exact congrArg Host.Outcome.next (doEndRecord_cases ht hv hop)
    · intro gs hop hv hlow
      refine ⟨if t.route = s.newRoute t.route gs then s else s.routeCost, congrArg Host.Outcome.next (doRoute_changes ht hw hop hv hlow), ?_, fun h => if_pos h⟩
      obtain ⟨rg, ct, fu, e⟩ := routeCost_only s
      split
      · rfl
      · rw [e]
    · intro hk hv hs hb hh
      exact congrArg Host.Outcome.next (doCopy_takesUp ht hw hk hv hs hb hh)

end Sys2Proof.Machine
end

section
/-!
PROOFS. An open END with COMMIT_MODE 1 (O50).
-/
namespace Sys2Proof.Machine

/-! ### With no step left nothing works on -/

theorem reap_of_no_steps {s : State} (h : s.steps = []) : s.reap = s := by
  have ho : stepOrder s.steps = [] := by
    rw [h]
    rfl
  unfold State.reap
  rw [ho]
  show (stepOrder s.steps).foldl (fun s l => State.reapSpec l 12288 s) s = s
  rw [ho]
  rfl

theorem settle_of_no_steps {s : State} (h : s.steps = []) : s.settle = s := by
  unfold State.settle
  dsimp only
  rw [reap_of_no_steps h, h]
  exact reap_of_no_steps h

theorem passEngines_of_no_steps {s : State} (h : s.steps = []) : s.passEngines = s := by
  unfold State.passEngines
  rw [h]
  split <;> rfl

/-- The last step has left, on the way out of RUN. -/
def State.stepless (s : State) : State := { s with steps := [], dev := .ready, reaper := { s.reaper with holder := none } }

theorem dropStep_last {s : State} {l : Nat} (hl : ∀ x ∈ s.steps, x.lane = l) (hh : s.reaper.holder = some l) (hd : s.dev = .run) (hz : s.lantern.dozeDue = false) :
    s.dropStep l = s.stepless := by
  have hrest : s.steps.filter (fun t => t.lane ≠ l) = [] := by
    rw [List.filter_eq_nil_iff]
    exact fun x hx => by simp [hl x hx]
  unfold State.dropStep
  dsimp only
  rw [hrest, hh, hd, if_pos rfl, if_pos (And.intro rfl rfl)]
  have hdoze : s.stepless.dozeIfDue = s.stepless := if_neg fun c => Bool.false_ne_true (hz.symm.trans c.2.1)
  show s.stepless.dozeIfDue.passEngines = _
  rw [hdoze, passEngines_of_no_steps rfl]

/-! ### The gate armed -/

theorem armGate_steps {s : State} {t : Step} (he : s.exchanges = []) : ∃ st, s.armGate t = { s with steps := st } ∧ st.map Step.ident = s.steps.map Step.ident := by
  unfold State.armGate
  split
  · exact ⟨s.steps, rfl, rfl⟩
  · have hm : s.makeExchanges false = s := by
      unfold State.makeExchanges
      rw [he]
      rfl
    rw [hm]
    exact ⟨_, rfl, (State.engineWork.modStep s t.lane
      (g := fun t => { t with gateAt := some (s.clocks.tick + holdEighths s.lantern.throttle * (s.clocks.tick - t.since) / 8) }) fun _ => rfl).idents⟩

/-! ### What the END holds and gives up -/

/-- The staged slots of one session held (R286). -/
def State.holdOne (t : Step) (s : State) (n : Nat) : State :=
  (s.session n).elim s fun x => s.setSession n { x with held := some ⟨t.stageOf n, t.width n⟩ }

theorem holdStep_eq (s : State) (t : Step) : s.holdStep t = t.sessions.foldl (State.holdOne t) s := by
  unfold State.holdStep
  refine congrArg (fun g => t.sessions.foldl g s) (funext fun s => funext fun n => ?_)
  unfold State.holdOne
  cases s.session n <;> rfl

theorem holdOne_only (t : Step) (s : State) (n : Nat) : ∃ se, s.holdOne t n = { s with sessions := se } := by
  unfold State.holdOne
  cases s.session n with
  | none => exact ⟨s.sessions, rfl⟩
  | some x => exact ⟨_, rfl⟩

theorem holdOne_session (t : Step) (s : State) (n m : Nat) : (s.holdOne t n).session m =
    if m = n then (s.session m).map fun x => { x with held := some ⟨t.stageOf n, t.width n⟩ } else s.session m := by
  unfold State.holdOne
  cases hn : s.session n with
  | none =>
    rw [Option.elim_none]
    split
    · next h => rw [h, hn]; rfl
    · rfl
  | some x =>
    rw [Option.elim_some, session_setSession]
    split
    · next h => rw [h, hn]; rfl
    · rfl

theorem foldl_holdOne (t : Step) : ∀ (ns : List Nat) (s : State), (∃ se, ns.foldl (State.holdOne t) s = { s with sessions := se }) ∧
    ∀ m, (ns.foldl (State.holdOne t) s).session m =
      if m ∈ ns then (s.session m).map fun x => { x with held := some ⟨t.stageOf m, t.width m⟩ } else s.session m
  | [], s => ⟨⟨s.sessions, rfl⟩, fun _ => rfl⟩
  | n :: ns, s => by
    obtain ⟨⟨se, e⟩, hm⟩ := foldl_holdOne t ns (s.holdOne t n)
    obtain ⟨se', e'⟩ := holdOne_only t s n
    refine ⟨⟨se, by rw [List.foldl_cons, e, e']⟩, fun m => ?_⟩
    rw [List.foldl_cons, hm, holdOne_session]
    by_cases h : m = n
    · subst h
      rw [if_pos rfl, if_pos List.mem_cons_self]
      split
      · cases s.session m <;> rfl
      · rfl
    · simp only [List.mem_cons, h, false_or, if_false]

/-- The run of aborts of one slot's Furrow ended (R174). -/
def State.clearAbort (s : State) (slot : Nat) : State := (s.furrowOf slot).elim s fun f => s.modFurrow f fun x => { x with badSteps := 0 }

theorem clearAborts_only (s : State) (t : Step) : ∃ fu, s.clearAborts t = { s with furrows := fu } := by
  have hone (s : State) (n : Nat) : ∃ fu, s.clearAbort n = { s with furrows := fu } := by
    unfold State.clearAbort
    cases s.furrowOf n with
    | none => exact ⟨s.furrows, rfl⟩
    | some f => exact ⟨_, rfl⟩
  have hall : ∀ (ns : List Nat) (s : State), ∃ fu, ns.foldl State.clearAbort s = { s with furrows := fu } := by
    intro ns
    induction ns with
    | nil => exact fun s => ⟨s.furrows, rfl⟩
    | cons n ns ih =>
      intro s
      obtain ⟨_, e⟩ := hone s n
      obtain ⟨fu, e'⟩ := ih (s.clearAbort n)
      exact ⟨fu, by rw [List.foldl_cons, e', e]⟩
  have heq : s.clearAborts t = (t.loads.map fun e => e.1).foldl State.clearAbort s := by
    unfold State.clearAborts
    refine congrArg (fun g => (t.loads.map fun e => e.1).foldl g s) (funext fun s => funext fun n => ?_)
    unfold State.clearAbort
    cases s.furrowOf n <;> rfl
  rw [heq]
  exact hall _ s

/-! ### The reply -/

/-- The counts of a step kept with its retained reply leave every other field of it (R101). -/
theorem noteCounts_lane (s : State) (l seq : Nat) (c : Nat × Nat × Nat) : ((s.noteCounts l seq c).lane l).job = (s.lane l).job ∧
    ∀ r ∈ (s.lane l).replies, ∃ x ∈ ((s.noteCounts l seq c).lane l).replies, x.hdr = r.hdr ∧ x.status = r.status ∧ x.payload = r.payload := by
  unfold State.noteCounts
  dsimp only
  rw [lane_setLane]
  split
  · refine ⟨rfl, fun r hr => ⟨_, List.mem_map_of_mem hr, ?_⟩⟩
    split
    · exact ⟨rfl, rfl, rfl⟩
    · exact ⟨rfl, rfl, rfl⟩
  · exact ⟨rfl, fun r hr => ⟨r, hr, rfl, rfl, rfl⟩⟩

theorem noteCounts_only (s : State) (l seq : Nat) (c : Nat × Nat × Nat) : ∃ ls, s.noteCounts l seq c = { s with lanes := ls } := ⟨_, rfl⟩

/-- A reply that the host has not acknowledged is retained (R61). -/
theorem reply_retained {s : State} {h : ReqHdr} (op st : Nat) (d : List Byte) (hl : h.lane < s.lanes.length)
    (ho : seqDiff h.seq (s.lane h.lane).b < seqDiff (s.lane h.lane).e (s.lane h.lane).b) :
    ({ hdr := h, opcode := op, status := st, payload := d } : Reply) ∈ ((s.reply h op st d).lane h.lane).replies := by
  unfold State.reply
  dsimp only
  rw [lane_setLane, if_pos ⟨rfl, by rw [sendReply_lanes]; exact hl⟩]
  simp only [lane_sendReply, decide_eq_true_eq, if_pos ho]
  exact List.mem_append_right _ (List.mem_singleton_self _)

/-- The reply of a step and the counts kept with it. -/
def State.stepAnswered (s : State) (t : Step) (j : Job) (st : Nat) (d : List Byte) : State :=
  (s.reply j.hdr j.opcode st d).noteCounts t.lane j.hdr.seq (t.cur, t.gates, t.replays)

theorem endStep_eq {s : State} {t : Step} {j : Job} (hj : (s.lane t.lane).job = some j) (st : Nat) (d : List Byte) :
    s.endStep t st d = (s.stepAnswered t j st d).dropStep t.lane := by
  unfold State.endStep
  rw [hj]
  rfl

theorem stepAnswered_spec {s : State} {t : Step} {j : Job} (hj : (s.lane t.lane).job = some j) (hjl : j.hdr.lane = t.lane) (hl : t.lane < s.lanes.length)
    (st : Nat) (d : List Byte) : (∃ ls sn, s.stepAnswered t j st d = { s with lanes := ls, net := { s.net with sent := sn } }) ∧
      ((s.stepAnswered t j st d).lane t.lane).job = none ∧
      (seqDiff j.hdr.seq (s.lane t.lane).b < seqDiff (s.lane t.lane).e (s.lane t.lane).b →
        ∃ r ∈ ((s.stepAnswered t j st d).lane t.lane).replies, r.hdr = j.hdr ∧ r.status = st ∧ r.payload = d) := by
  unfold State.stepAnswered
  rw [← hjl] at hj hl ⊢
  obtain ⟨hjob, hrep⟩ := noteCounts_lane (s.reply j.hdr j.opcode st d) j.hdr.lane j.hdr.seq (t.cur, t.gates, t.replays)
  obtain ⟨ls, e⟩ := noteCounts_only (s.reply j.hdr j.opcode st d) j.hdr.lane j.hdr.seq (t.cur, t.gates, t.replays)
  refine ⟨⟨ls, (s.reply j.hdr j.opcode st d).net.sent, ?_⟩, hjob.trans (reply_frees_of_lt j.opcode st d hl hj), fun ho => hrep _ (reply_retained j.opcode st d hl ho)⟩
  rw [e, reply_only]

/-! ### The END -/

/-- What the END of a step leaves before its reply: its sessions hold what was staged, its Furrows' runs of aborts are over. -/
def State.endsHolding (s : State) (t : Step) : State := (s.holdStep t).clearAborts t

theorem endsHolding_spec (s : State) (t : Step) : (∃ se fu, s.endsHolding t = { s with sessions := se, furrows := fu }) ∧
    ∀ n, (s.endsHolding t).session n =
      if n ∈ t.sessions then (s.session n).map fun x => { x with held := some ⟨t.stageOf n, t.width n⟩ } else s.session n := by
  obtain ⟨⟨se, e⟩, hm⟩ := foldl_holdOne t t.sessions s
  rw [← holdStep_eq] at e hm
  obtain ⟨fu, e'⟩ := clearAborts_only (s.holdStep t) t
  unfold State.endsHolding
  rw [e']
  exact ⟨⟨se, fu, by rw [e]⟩, fun n => hm n⟩

theorem flushOwner_of_no_merge {s : State} (h : s.memory.merge = []) (o : Owner) : s.flushOwner o = s := by
  unfold State.flushOwner
  rw [h]
  rfl

theorem finishStep_holds {s : State} (t : Step) (idx tokens : Nat) (hq : s.quiet) (hc : t.commitMode = 1) :
    s.finishStep t idx tokens = ((s.endsHolding t).endStep t stOk (s.stepReply t tokens)).settle := by
  obtain ⟨-, hbad, hmerge, -, -, hfails⟩ := hq
  have hg : s.granaryBad tokens (4 * t.batch) = none := by
    unfold State.granaryBad
    rw [hbad]
    rfl
  unfold State.finishStep
  rw [hg]
  dsimp only
  rw [flushOwner_of_no_merge hmerge, takeFails_of_no_fails hfails, if_neg (by omega)]
  rfl

/-- Settles O50. -/
theorem endCompletesTheStep : Obligations.EndCompletesTheStep := by
  intro s t v tokens j hi hh hq hs hl hd hj hz he hc hv ho hop
  have ht : s.stepOf t.lane = some t := by
    unfold State.stepOf
    rw [hs]
    simp
  obtain ⟨-, hw, -⟩ := gateReady_works hv
  obtain ⟨hholder, -, -⟩ := works_iff.mp hw
  have hgo := doEndRecord_cases ht hv hop
  rw [if_pos ho] at hgo
  obtain ⟨st, ha, hid⟩ := armGate_steps (t := t) he
  obtain ⟨a, hae⟩ : ∃ a, s.armGate t = a := ⟨_, rfl⟩
  rw [hae] at hgo ha
  have hst : ∀ x ∈ st, x.lane = t.lane := by
    intro x hx
    have hm : x.ident ∈ st.map Step.ident := List.mem_map_of_mem hx
    rw [hid, hs] at hm
    exact congrArg Prod.fst (List.mem_singleton.mp hm)
  have hpay : a.stepReply t tokens = s.stepReply t tokens := by
    rw [ha]
    rfl
  rw [finishStep_holds t v.idx tokens (by rw [ha]; exact hq) hc, hpay] at hgo
  obtain ⟨⟨se, fu, hb⟩, hses⟩ := endsHolding_spec a t
  obtain ⟨b, hbe⟩ : ∃ b, a.endsHolding t = b := ⟨_, rfl⟩
  rw [hbe] at hgo hb hses
  have hblane : b.lane t.lane = s.lane t.lane := by
    rw [hb, ha]
    rfl
  have hblen : b.lanes.length = 16 := by
    rw [hb, ha]
    exact hi.lanes
  obtain ⟨⟨ls, sn, hc⟩, hfree, hrep⟩ := stepAnswered_spec (s := b) (by rw [hblane]; exact hj) (hh _ _ hj) (by rw [hblen]; exact hl) stOk (s.stepReply t tokens)
  rw [endStep_eq (by rw [hblane]; exact hj)] at hgo
  obtain ⟨c, hce⟩ : ∃ c, b.stepAnswered t j stOk (s.stepReply t tokens) = c := ⟨_, rfl⟩
  rw [hce] at hgo hc hfree hrep
  rw [hblane] at hrep
  rw [dropStep_last (s := c) (by rw [hc, hb, ha]; exact hst) (by rw [hc, hb, ha]; exact hholder) (by rw [hc, hb, ha]; exact hd)
    (by rw [hc, hb, ha]; exact hz), settle_of_no_steps rfl] at hgo
  have hsession (n : Nat) : c.stepless.session n = if n ∈ t.sessions then (s.session n).map fun x => { x with held := some ⟨t.stageOf n, t.width n⟩ } else s.session n := by
    have e : c.stepless.session n = b.session n := by
      show look c.sessions n = look b.sessions n
      rw [hc]
    have e' : a.session n = s.session n := by
      rw [ha]
      rfl
    rw [e, hses, e']
  refine ⟨c.stepless, congrArg Host.Outcome.next hgo, rfl, rfl, hfree, hrep, rfl, ?_, fun n x hn hx => ?_, fun n hn => ?_⟩
  · show c.memory = s.memory
    rw [hc, hb, ha]
  · rw [hsession, if_pos hn, hx]
    rfl
  · rw [hsession, if_neg hn]

end Sys2Proof.Machine
end

section
/-!
PROOFS. Loads, passes, credit and stall timeouts (O51).
-/
namespace Sys2Proof.Machine

/-! ### Furrows and their passes -/

theorem furrow_setFurrow (s : State) (f g : Nat) (x : Furrow) : (s.setFurrow f x).furrow g = if g = f ∧ f < s.furrows.length then x else s.furrow g :=
  setAt_getD _ _ _ _ _

theorem furrow_setFurrow_self {s : State} {f : Nat} (hf : f < s.furrows.length) (x : Furrow) : (s.setFurrow f x).furrow f = x := by
  rw [furrow_setFurrow, if_pos ⟨rfl, hf⟩]

theorem furrow_setFurrow_other (s : State) {f g : Nat} (hg : g ≠ f) (x : Furrow) : (s.setFurrow f x).furrow g = s.furrow g := by
  rw [furrow_setFurrow, if_neg fun h => hg h.1]

theorem furrow_modFurrow_self {s : State} {f : Nat} (hf : f < s.furrows.length) (k : Furrow → Furrow) : (s.modFurrow f k).furrow f = k (s.furrow f) :=
  furrow_setFurrow_self hf _

theorem furrow_modFurrow_other (s : State) {f g : Nat} (hg : g ≠ f) (k : Furrow → Furrow) : (s.modFurrow f k).furrow g = s.furrow g :=
  furrow_setFurrow_other s hg _

theorem modFurrow_length (s : State) (f : Nat) (k : Furrow → Furrow) : (s.modFurrow f k).furrows.length = s.furrows.length := setAt_length _ _ _

/-- The pass of a record changed, among the passes of a Furrow. -/
theorem passOf_map (x : Furrow) (lane rec : Nat) {k : Pass → Pass} (hk : ∀ p, (k p).lane = p.lane ∧ (k p).record = p.record) :
    ({ x with passes := x.passes.map fun p => if p.lane = lane ∧ p.record = rec then k p else p } : Furrow).passOf lane rec = (x.passOf lane rec).map k := by
  unfold Furrow.passOf
  dsimp only
  induction x.passes with
  | nil => rfl
  | cons p ps ih =>
    rw [List.map_cons, List.find?_cons, List.find?_cons]
    by_cases h : p.lane = lane ∧ p.record = rec
    · rw [if_pos h, (hk p).1, (hk p).2]
      simp [h]
    · have hb : (decide (p.lane = lane) && decide (p.record = rec)) = false := by simpa using h
      rw [if_neg h, hb]
      exact ih

theorem passOf_modPass {s : State} {f : Nat} (hf : f < s.furrows.length) (lane rec : Nat) {k : Pass → Pass} (hk : ∀ p, (k p).lane = p.lane ∧ (k p).record = p.record) :
    ((s.modPass f lane rec k).furrow f).passOf lane rec = ((s.furrow f).passOf lane rec).map k := by
  unfold State.modPass
  rw [furrow_modFurrow_self hf]
  exact passOf_map _ _ _ hk

theorem modPass_furrow_other (s : State) {f g : Nat} (hg : g ≠ f) (lane rec : Nat) (k : Pass → Pass) : (s.modPass f lane rec k).furrow g = s.furrow g :=
  furrow_modFurrow_other s hg _

theorem modPass_length (s : State) (f lane rec : Nat) (k : Pass → Pass) : (s.modPass f lane rec k).furrows.length = s.furrows.length := modFurrow_length _ _ _

theorem mem_passesOf {s : State} {lane rec : Nat} {m : Nat × Pass} (h : m ∈ s.passesOf lane rec) : m.1 < 10 ∧ (s.furrow m.1).passOf lane rec = some m.2 := by
  obtain ⟨f, hf, e⟩ := List.mem_filterMap.mp h
  obtain ⟨p, hp, rfl⟩ := Option.map_eq_some_iff.mp e
  exact ⟨List.mem_range.mp hf, hp⟩

/-! ### BAY_LOAD_COMPLETE (R156) -/

/-- The Furrow once its load has ended. -/
def Furrow.filled (x : Furrow) (b : BayFill) : Furrow := { x with
  fill := none, bayA := if b.intoB then x.bayA else some b.tile, bayB := if b.intoB then some b.tile else x.bayB }

/-- The bay filled, the time of the load shown, the record told. -/
def State.bayFilled (s : State) (f : Nat) (b : BayFill) : State :=
  ((s.setFurrow f ((s.furrow f).filled b)).setReg (aFurrow f 0x20) b.ns).bayLoaded (s.furrow f).slot b.tile

theorem doBayLoadComplete_fills {s : State} {f : Nat} {b : BayFill} (h : (s.furrow f).fill = some b) : doBayLoadComplete f s = (s.bayFilled f b).settle := by
  unfold doBayLoadComplete State.bayFilled Furrow.filled
  dsimp only
  rw [h]
  cases hb : b.intoB
  · simp [hb]
  · simp [hb]

theorem bayFilled_only (s : State) (f : Nat) (b : BayFill) : s.bayFilled f b
    = { s with furrows := (s.bayFilled f b).furrows, regs := (s.bayFilled f b).regs, steps := (s.bayFilled f b).steps } := rfl

theorem rising_of_inv {s : State} (h : s.Inv) : risingFrom none s.regs = true := (Bool.and_eq_true_iff.mp h.regs).1

/-! ### PASS_START (R159, R162) -/

/-- A pass started with a decision set. -/
def Pass.begun (fits : List DetFit) (q : Pass) : Pass := { q with started := true, fits := fits }

/-- The next pass of a Furrow started with its current set. -/
def State.startPass (s : State) (f : Nat) (p : Pass) : State :=
  (s.modFurrow f fun x => { x with fresh := false }).modPass f p.lane p.record (Pass.begun (s.win f).current)

theorem doPassStart_cases {s : State} {f : Nat} {p : Pass} {t : Step} {b : Bool} (light : Bool) (hp : (s.furrow f).nextPass = some p)
    (ht : s.stepOf p.lane = some t) (hb : (s.furrow f).bayOf t.order p.tile = some b) (hw : s.works t = true) (hu : (s.furrow f).unlocked = false)
    (hr : (s.furrow f).replays = []) (hh : s.lantern.hold = none) {swap : Bool} (hs : ((s.furrow f).fresh || decide (b ≠ (s.furrow f).litB)) = swap) :
    doPassStart f light s = if (swap && !light) = true then s.darkSwap t f else (if swap = true then s.swapBay f b else s).startPass f p := by
  unfold doPassStart
  dsimp only
  rw [hp]
  dsimp only
  rw [ht]
  dsimp only
  rw [hb]
  dsimp only
  rw [if_neg (by simp [hw, hu, hr, hh]), hs]
  rfl

theorem startPass_only (s : State) (f : Nat) (p : Pass) : ∃ fu, s.startPass f p = { s with furrows := fu } := ⟨_, rfl⟩

theorem startPass_passOf {s : State} {f : Nat} (hf : f < s.furrows.length) (p : Pass) : ((s.startPass f p).furrow f).passOf p.lane p.record
    = ((s.furrow f).passOf p.lane p.record).map (Pass.begun (s.win f).current) := by
  unfold State.startPass
  rw [passOf_modPass (by rw [modFurrow_length]; exact hf) p.lane p.record (k := Pass.begun (s.win f).current) fun _ => ⟨rfl, rfl⟩, furrow_modFurrow_self hf]
  rfl

theorem startPass_self {s : State} {f : Nat} (hf : f < s.furrows.length) (p : Pass) : ((s.startPass f p).furrow f).litB = (s.furrow f).litB ∧
    ((s.startPass f p).furrow f).fresh = false := by
  unfold State.startPass State.modPass
  rw [furrow_modFurrow_self (by rw [modFurrow_length]; exact hf), furrow_modFurrow_self hf]
  exact ⟨rfl, rfl⟩

theorem startPass_other (s : State) {f g : Nat} (hg : g ≠ f) (p : Pass) : (s.startPass f p).furrow g = s.furrow g := by
  unfold State.startPass
  rw [modPass_furrow_other _ hg, furrow_modFurrow_other _ hg]

theorem swapSet_furrows (s : State) (f : Nat) : (s.swapSet f).furrows = s.furrows := by
  unfold State.swapSet
  split <;> rfl

theorem light_furrows (s : State) (f : Nat) (b : Bool) : (s.light f b).furrows = (s.modFurrow f fun x => { x with litB := b }).furrows := swapSet_furrows _ _

/-- The light of a Furrow turned to a bay, and no other Furrow. -/
theorem light_furrow {s : State} {f : Nat} (hf : f < s.furrows.length) (b : Bool) : ((s.light f b).furrow f) = { s.furrow f with litB := b } ∧
    ∀ g, g ≠ f → (s.light f b).furrow g = s.furrow g := by
  unfold State.furrow
  rw [light_furrows]
  exact ⟨furrow_modFurrow_self hf _, fun g hg => furrow_modFurrow_other s hg _⟩

theorem countSymbols_other (s : State) {f g : Nat} (hg : g ≠ f) (off n : Nat) : (s.countSymbols f off n).furrow g = s.furrow g := by
  unfold State.countSymbols
  rw [furrow_modFurrow_other _ hg, bump48_only]
  rfl

theorem countSymbols_length (s : State) (f off n : Nat) : (s.countSymbols f off n).furrows.length = s.furrows.length := by
  unfold State.countSymbols
  rw [modFurrow_length, bump48_only]

theorem swapBay_furrow {s : State} {f : Nat} (hf : f < s.furrows.length) (b : Bool) : ((s.swapBay f b).furrow f).litB = b ∧
    ∀ g, g ≠ f → (s.swapBay f b).furrow g = s.furrow g := by
  unfold State.swapBay
  obtain ⟨h, ho⟩ := light_furrow (s := s.countSymbols f 0x78 28) (by rw [countSymbols_length]; exact hf) b
  exact ⟨congrArg Furrow.litB h, fun g hg => (ho g hg).trans (countSymbols_other s hg 0x78 28)⟩

theorem swapBay_length (s : State) (f : Nat) (b : Bool) : (s.swapBay f b).furrows.length = s.furrows.length := by
  unfold State.swapBay
  rw [light_furrows, modFurrow_length, countSymbols_length]

/-! ### Stall timeouts (R173, R174) -/

theorem setReg_stepOf (s : State) (a v l : Nat) : (s.setReg a v).stepOf l = s.stepOf l := rfl

theorem setReg_works (s : State) (a v : Nat) (t : Step) : (s.setReg a v).works t = s.works t := rfl

theorem stallAbort_fails {s : State} {l : Nat} {t : Step} (ht : s.stepOf l = some t) (hw : s.works t = true) (f cause : Nat) :
    (s.stallAbort t f cause).fails l { status := stStallTimeout, block := 0x10, inst := f, cause := cause, detail := t.cur } t.cur := by
  unfold State.stallAbort State.noteCause
  rw [stepOf_lane ht]
  exact abortStep_fails_of_works (s := s.setReg (aFurrow f 0xA8) stStallTimeout) ht hw _ _

theorem darkSwap_spec {s : State} {l : Nat} {t : Step} (ht : s.stepOf l = some t) (hw : s.works t = true) (f : Nat) :
    (∃ rg st, s.darkSwap t f = { s with regs := rg, steps := st }) ∧
      (s.darkSwap t f).fails l { status := stStallTimeout, block := 0x10, inst := f, cause := 1, detail := t.cur } t.cur :=
  ⟨⟨_, _, rfl⟩, stallAbort_fails (s := s.setReg (aFurrow f 0xAC) 2) ht hw f 1⟩

theorem stallOut_spec {s : State} {l : Nat} {t : Step} (ht : s.stepOf l = some t) (hw : s.works t = true) (f : Nat) :
    (∃ rg st, s.stallOut t f = { s with regs := rg, steps := st }) ∧
      (s.stallOut t f).fails l { status := stStallTimeout, block := 0x10, inst := f, cause := (s.furrow f).cause, detail := t.cur } t.cur := by
  unfold State.stallOut
  dsimp only
  split
  · exact ⟨⟨_, _, rfl⟩, stallAbort_fails (s := s.setReg (aFurrow f 0xAC) 5) ht hw f _⟩
  · exact ⟨⟨_, _, rfl⟩, stallAbort_fails ht hw f _⟩

theorem doStallTimeout_cases {s : State} {l : Nat} {t : Step} (hh : s.reaper.holder = some l) (ht : s.stepOf l = some t) (hw : s.works t = true) (f cause : Nat) :
    doStallTimeout f cause s = if (!s.stallDue t f || decide ((s.furrow f).cause ≠ cause)) = true then s else s.stallOut t f := by
  unfold doStallTimeout
  rw [hh, Option.bind_some, ht]
  dsimp only
  rw [hw, Bool.not_true, Bool.false_or]

/-! ### Multicast credit (R192 to R195) -/

/-- A member withholds, or gives credit. -/
def State.withhold (gives : Nat → Bool) (s : State) (m : Nat × Pass) : State :=
  s.modFurrow m.1 fun x => { x with withheld := if gives m.1 then none else some (x.withheld.getD s.clocks.tick) }

/-- The row chunk that a stream has come to is there. -/
def ChunkNow.there : ChunkNow → Bool
  | .wait => false
  | _ => true

/-- The number of row chunks that a group's shared stream has moved into its buffers. -/
def State.groupFed (s : State) (lane rec : Nat) : Nat := (((s.passesOf lane rec).map fun m => m.2.fed).max?).getD 0

/-- The marks of the members that withhold. -/
def State.withheldBy (s : State) (t : Step) (lane rec : Nat) : State :=
  (s.passesOf lane rec).foldl (State.withhold (s.givesCredit t.order lane rec)) s

/-- A pass with k row chunks in its buffer. -/
def Pass.withFed (k : Nat) (p : Pass) : Pass := { p with fed := k }

theorem doMcastCredit_cases {s : State} {lane rec : Nat} {t : Step} {r : StreamR} {x : Fetch} (ht : s.stepOf lane = some t) (hw : s.works t = true)
    (hr : t.runningStream rec = some r) (hx : t.fetchOf rec = some x) (hm : 2 ≤ (s.passesOf lane rec).length) : doMcastCredit lane rec r.slot s =
      if ((s.passesOf lane rec).all (fun m => s.givesCredit t.order lane rec m.1) && (x.chunkAt (s.groupFed lane rec) 0 0).there
        && decide (s.groupFed lane rec < x.code.2.2)) = true then
        ((s.passesOf lane rec).foldl (fun u m => u.modPass m.1 lane rec (Pass.withFed (s.groupFed lane rec + 1))) (s.withheldBy t lane rec)).noteDelivered lane rec (s.groupFed lane rec + 1)
      else s.withheldBy t lane rec := by
  unfold doMcastCredit
  rw [ht]
  dsimp only
  rw [hr, hx]
  dsimp only
  have hm' : ¬ (s.passesOf lane rec).length < 2 := Nat.not_lt.mpr hm
  rw [if_neg (by simp [hw, hm'])]
  rfl

/-- Passes that the marks of a group leave alone. -/
theorem withheldBy_passOf (s : State) (t : Step) (lane rec : Nat) : (∃ fu, s.withheldBy t lane rec = { s with furrows := fu }) ∧
    (s.withheldBy t lane rec).furrows.length = s.furrows.length ∧
    ∀ f a b, ((s.withheldBy t lane rec).furrow f).passOf a b = ((s.furrow f).passOf a b) := by
  unfold State.withheldBy
  generalize s.givesCredit t.order lane rec = gives
  generalize s.passesOf lane rec = ms
  induction ms generalizing s with
  | nil => exact ⟨⟨s.furrows, rfl⟩, rfl, fun _ _ _ => rfl⟩
  | cons m ms ih =>
    obtain ⟨⟨fu, e⟩, hlen, hpass⟩ := ih (s.withhold gives m)
    rw [List.foldl_cons]
    refine ⟨⟨fu, e.trans rfl⟩, hlen.trans (modFurrow_length _ _ _), fun f a b => (hpass f a b).trans ?_⟩
    unfold State.withhold
    by_cases hf : f = m.1 ∧ m.1 < s.furrows.length
    · rw [hf.1, furrow_modFurrow_self hf.2]
      rfl
    · unfold State.modFurrow
      rw [furrow_setFurrow, if_neg hf]

/-- Row chunks moved into the buffers of some members. -/
theorem foldl_withFed (lane rec k : Nat) : ∀ (ms : List (Nat × Pass)) (s : State), (∀ m ∈ ms, m.1 < s.furrows.length) →
    (∃ fu, ms.foldl (fun s m => s.modPass m.1 lane rec (Pass.withFed k)) s = { s with furrows := fu }) ∧
    ∀ f, ((ms.foldl (fun s m => s.modPass m.1 lane rec (Pass.withFed k)) s).furrow f).passOf lane rec
      = if f ∈ ms.map (fun m => m.1) then ((s.furrow f).passOf lane rec).map (Pass.withFed k) else (s.furrow f).passOf lane rec
  | [], s, _ => ⟨⟨s.furrows, rfl⟩, fun _ => rfl⟩
  | m :: ms, s, h => by
    obtain ⟨⟨fu, e⟩, hp⟩ := foldl_withFed lane rec k ms (s.modPass m.1 lane rec (Pass.withFed k)) fun n hn => by
      rw [modPass_length]
      exact h n (List.mem_cons_of_mem _ hn)
    rw [List.foldl_cons]
    refine ⟨⟨fu, e.trans rfl⟩, fun f => (hp f).trans ?_⟩
    by_cases hf : f = m.1
    · subst hf
      rw [passOf_modPass (h m List.mem_cons_self) lane rec (k := Pass.withFed k) fun _ => ⟨rfl, rfl⟩, List.map_cons, if_pos List.mem_cons_self, Option.map_map]
      exact ite_self _
    · rw [modPass_furrow_other _ hf]
      simp only [List.map_cons, List.mem_cons, hf, false_or]

theorem mcastCredit_moves {s : State} {lane rec : Nat} {t : Step} {r : StreamR} (hf : s.furrows.length = 10) (ht : s.stepOf lane = some t) (hw : s.works t = true)
    (hr : t.runningStream rec = some r) (hm : 2 ≤ (s.passesOf lane rec).length) :
    ∃ u, exec (.mcastCredit lane rec r.slot) s = .next u ∧ u = { s with furrows := u.furrows, steps := u.steps } ∧
      ∀ f, t.fetchOf rec = some f → f.chunkAt (s.groupFed lane rec) 0 0 ≠ .wait → s.groupFed lane rec < f.code.2.2 →
        (s.passesOf lane rec).all (fun m => s.givesCredit t.order lane rec m.1) = true →
        ∀ m ∈ s.passesOf lane rec, ((u.furrow m.1).passOf lane rec).map (fun p => p.fed) = some (s.groupFed lane rec + 1) := by
  obtain ⟨k, hk⟩ : ∃ k, s.groupFed lane rec = k := ⟨_, rfl⟩
  rw [hk]
  cases hx : t.fetchOf rec with
  | none =>
    refine ⟨s, congrArg Host.Outcome.next ?_, rfl, fun f hf => nomatch hf⟩
    unfold doMcastCredit
    rw [ht]
    dsimp only
    rw [hr, hx]
  | some x =>
    have hgo := doMcastCredit_cases ht hw hr hx hm
    rw [hk] at hgo
    obtain ⟨⟨fu, e⟩, hlen, hpass⟩ := withheldBy_passOf s t lane rec
    obtain ⟨v, hv⟩ : ∃ v, s.withheldBy t lane rec = v := ⟨_, rfl⟩
    rw [hv] at hgo e hlen hpass
    obtain ⟨⟨fu', e'⟩, hfed⟩ := foldl_withFed lane rec (k + 1) (s.passesOf lane rec) v fun m hm => by
      rw [hlen, hf]
      exact (mem_passesOf hm).1
    obtain ⟨w, hwe⟩ : ∃ w, (s.passesOf lane rec).foldl (fun s m => s.modPass m.1 lane rec (Pass.withFed (k + 1))) v = w := ⟨_, rfl⟩
    rw [hwe] at hgo e' hfed
    refine ⟨_, congrArg Host.Outcome.next hgo, ?_, fun f hfx hc hlt hall m hmem => ?_⟩
    · split
      · unfold State.noteDelivered State.modStep
        rw [e', e]
      · rw [e]
    · obtain rfl := Option.some.inj hfx
      have hthere : (x.chunkAt k 0 0).there = true := by
        cases h : x.chunkAt k 0 0 with
        | wait => exact absurd h hc
        | _ => rfl
      rw [if_pos (by rw [hall, hthere, decide_eq_true hlt]; rfl)]
      show ((w.furrow m.1).passOf lane rec).map _ = _
      rw [hfed, if_pos (List.mem_map_of_mem hmem), hpass, (mem_passesOf hmem).2]
      rfl

/-- MCAST_TIMEOUT of a group (R194, R195). -/
def State.groupLate (s : State) (t : Step) (rec f : Nat) : State :=
  (s.activeFurrows.find? (s.stallDue t)).elim (((s.setReg (aThresher 0x28) f).bump (aThresher 0x40)).abortStep t.lane
    { status := stMcastTimeout, block := 0x10, inst := f } rec) (s.stallOut t)

theorem doMcastTimeout_cases {s : State} {lane rec : Nat} {t : Step} {r : StreamR} (ht : s.stepOf lane = some t) (hw : s.works t = true)
    (hr : t.runningStream rec = some r) (hm : 2 ≤ (s.passesOf lane rec).length) : doMcastTimeout lane rec r.slot s =
      if s.lantern.hold.isSome = true then s else (s.slowMember ((s.passesOf lane rec).map fun m => m.1)).elim s fun f =>
        if ((s.passesOf lane rec).map fun m => m.1).all (fun g => (s.furrow g).withheld.isNone || s.stallClass g = 4) = true then s else s.groupLate t rec f := by
  unfold doMcastTimeout
  rw [ht]
  dsimp only
  rw [hr]
  dsimp only
  cases hh : s.lantern.hold.isSome
  · rw [hw, List.length_map, decide_eq_false (Nat.not_lt.mpr hm), decide_eq_false (not_not_intro rfl)]
    simp only [Bool.not_true, Bool.or_false, Bool.false_eq_true, if_false]
    cases s.slowMember ((s.passesOf lane rec).map fun m => m.1) with
    | none => rfl
    | some f =>
      rw [Option.elim_some]
      unfold State.groupLate
      rw [stepOf_lane ht]
      cases s.activeFurrows.find? (s.stallDue t) <;> rfl
  · simp only [Bool.or_true, if_true]

theorem bump_stepOf (s : State) (a n l : Nat) : (s.bump a n).stepOf l = s.stepOf l := by
  rw [bump_only]
  rfl

theorem bump_works (s : State) (a n : Nat) (t : Step) : (s.bump a n).works t = s.works t := by
  rw [bump_only]
  rfl

theorem groupLate_spec {s : State} {lane : Nat} {t : Step} (ht : s.stepOf lane = some t) (hw : s.works t = true) (rec f : Nat) :
    (∃ rg st, s.groupLate t rec f = { s with regs := rg, steps := st }) ∧
      (s.activeFurrows.find? (s.stallDue t) = none → (s.groupLate t rec f).fails lane { status := stMcastTimeout, block := 0x10, inst := f } rec) ∧
      ∀ g, s.activeFurrows.find? (s.stallDue t) = some g → (s.groupLate t rec f).fails lane
        { status := stStallTimeout, block := 0x10, inst := g, cause := (s.furrow g).cause, detail := t.cur } t.cur := by
  unfold State.groupLate
  cases h : s.activeFurrows.find? (s.stallDue t) with
  | none =>
    rw [Option.elim_none, stepOf_lane ht]
    refine ⟨?_, fun _ => ?_, fun g hg => by cases hg⟩
    · unfold State.abortStep State.modStep
      rw [bump_only]
      exact ⟨_, _, rfl⟩
    · refine abortStep_fails_of_works (t := t) ?_ ?_ _ _
      · rw [bump_stepOf, setReg_stepOf, ht]
      · rw [bump_works, setReg_works, hw]
  | some g =>
    obtain ⟨ho, hf⟩ := stallOut_spec ht hw g
    refine ⟨ho, fun h => ?_, fun g' hg => ?_⟩
    · cases h
    · cases hg
      exact hf

theorem mcastTimeout_spares {s : State} {lane rec : Nat} {t : Step} {r : StreamR} (ht : s.stepOf lane = some t) (hw : s.works t = true)
    (hr : t.runningStream rec = some r) (hm : 2 ≤ (s.passesOf lane rec).length)
    (hall : ∀ m ∈ s.passesOf lane rec, (s.furrow m.1).withheld = none ∨ s.stallClass m.1 = 4) : doMcastTimeout lane rec r.slot s = s := by
  have hb : ((s.passesOf lane rec).map fun m => m.1).all (fun g => (s.furrow g).withheld.isNone || s.stallClass g = 4) = true := by
    rw [List.all_eq_true]
    intro g hg
    obtain ⟨m, hm, rfl⟩ := List.mem_map.mp hg
    simpa using hall m hm
  rw [doMcastTimeout_cases ht hw hr hm]
  by_cases hh : s.lantern.hold.isSome = true
  · exact if_pos hh
  · rw [if_neg hh]
    cases s.slowMember ((s.passesOf lane rec).map fun m => m.1) with
    | none => rfl
    | some f => exact if_pos hb

theorem mcastTimeout_aborts {s : State} {lane rec f : Nat} {t : Step} {r : StreamR} (ht : s.stepOf lane = some t) (hw : s.works t = true)
    (hr : t.runningStream rec = some r) (hm : 2 ≤ (s.passesOf lane rec).length) (hh : s.lantern.hold = none)
    (hf : s.slowMember ((s.passesOf lane rec).map fun m => m.1) = some f)
    (hex : ∃ m ∈ s.passesOf lane rec, (s.furrow m.1).withheld ≠ none ∧ s.stallClass m.1 ≠ 4) : doMcastTimeout lane rec r.slot s = s.groupLate t rec f := by
  have hb : ¬ ((s.passesOf lane rec).map fun m => m.1).all (fun g => (s.furrow g).withheld.isNone || s.stallClass g = 4) = true := by
    rw [List.all_eq_true]
    intro hall
    obtain ⟨m, hm, h1, h2⟩ := hex
    have := hall m.1 (List.mem_map_of_mem hm)
    simp [h1, h2] at this
  rw [doMcastTimeout_cases ht hw hr hm, if_neg (by simp [hh]), hf]
  exact if_neg hb

/-- Settles O51. -/
theorem loadsPassesAndTimeouts : Obligations.LoadsPassesAndTimeouts := by
  refine ⟨?_, ?_, ?_, ?_⟩
  · intro s f b hl hf hb
    have hfl : f < s.furrows.length := by omega
    refine ⟨s.bayFilled f b, congrArg Host.Outcome.next (doBayLoadComplete_fills hb), furrow_setFurrow_self hfl _, fun hi => ?_,
      fun g hg => furrow_setFurrow_other s hg _, bayFilled_only s f b⟩
    exact (reg_setReg (s := s.setFurrow f ((s.furrow f).filled b)) (rising_of_inv (s := s) hi) (aFurrow f 0x20) b.ns (aFurrow f 0x20)).trans (if_pos rfl)
  · intro s f p t b light hl hf hp ht hb hw hu hr hh swap
    have hfl : f < s.furrows.length := by omega
    have hgo := doPassStart_cases light hp ht hb hw hu hr hh (swap := swap) rfl
    generalize swap = swap at hgo ⊢
    refine ⟨fun hs => ?_, fun hs hli => ?_, fun hs hli => ?_⟩
    · subst hs
      obtain ⟨fu, e⟩ := startPass_only s f p
      refine ⟨s.startPass f p, congrArg Host.Outcome.next hgo, by rw [e], startPass_passOf hfl p⟩
    · subst hs hli
      obtain ⟨⟨rg, st, e⟩, hfail⟩ := darkSwap_spec ht hw f
      exact ⟨s.darkSwap t f, congrArg Host.Outcome.next hgo, by rw [e], hfail⟩
    · subst hs hli
      obtain ⟨hlit, hother⟩ := swapBay_furrow hfl b
      obtain ⟨h1, h2⟩ := startPass_self (s := s.swapBay f b) (by rw [swapBay_length]; exact hfl) p
      exact ⟨(s.swapBay f b).startPass f p, congrArg Host.Outcome.next hgo, h1.trans hlit, h2, fun g hg => (startPass_other _ hg p).trans (hother g hg)⟩
  · intro s lane rec t r hl ht hw hr hm
    refine ⟨mcastCredit_moves hl ht hw hr hm, fun hall => congrArg Host.Outcome.next (mcastTimeout_spares ht hw hr hm hall), fun f hh hf hex => ?_⟩
    obtain ⟨⟨rg, st, e⟩, h1, h2⟩ := groupLate_spec ht hw rec f
    exact ⟨_, congrArg Host.Outcome.next (mcastTimeout_aborts ht hw hr hm hh hf hex), by rw [e], h1, h2⟩
  · intro s lane f cause t hh ht hw
    have hgo := doStallTimeout_cases hh ht hw f cause
    refine ⟨fun hd hc => ?_, fun hd => ?_⟩
    · obtain ⟨⟨rg, st, e⟩, hfail⟩ := stallOut_spec ht hw f
      rw [if_neg (by simp [hd, hc])] at hgo
      rw [hc] at hfail
      exact ⟨_, congrArg Host.Outcome.next hgo, by rw [e], hfail⟩
    · rw [if_pos (by simp [hd])] at hgo
      exact congrArg Host.Outcome.next hgo

end Sys2Proof.Machine
end

section
/-!
PROOFS. Aborts and their teardown (O54).
-/
namespace Sys2Proof.Machine

/-! ### What spares and exchanges leave alone (R356 to R361) -/

/-- The steps and Furrows are as before, no lane's hold has changed, and no command has started. -/
structure State.onlyEnds (s t : State) : Prop where
  steps : t.steps = s.steps
  furrows : t.furrows = s.furrows
  held : ∀ k, (t.lane k).held = (s.lane k).held
  jobs : s.jobsLeft t

namespace State.onlyEnds
variable {s t u : State}

theorem refl (s : State) : s.onlyEnds s := ⟨rfl, rfl, fun _ => rfl, fun _ _ h => h⟩

theorem trans (h : s.onlyEnds t) (k : t.onlyEnds u) : s.onlyEnds u :=
  ⟨k.steps.trans h.steps, k.furrows.trans h.furrows, fun i => (k.held i).trans (h.held i), fun i j hj => h.jobs i j (k.jobs i j hj)⟩

theorem of_lanes (hs : t.steps = s.steps) (hf : t.furrows = s.furrows) (hl : t.lanes = s.lanes) : s.onlyEnds t := by
  have e (k : Nat) : t.lane k = s.lane k := by
    unfold State.lane
    rw [hl]
  exact ⟨hs, hf, fun k => by rw [e], fun k j h => by rwa [e] at h⟩

theorem foldl {β : Type} {f : State → β → State} (hf : ∀ (s : State) (x : β), s.onlyEnds (f s x)) : ∀ (l : List β) (s : State), s.onlyEnds (l.foldl f s)
  | [], s => refl s
  | x :: l, s => (hf s x).trans (foldl hf l (f s x))

theorem reply (s : State) (h : ReqHdr) (op st : Nat) (d : List Byte) : s.onlyEnds (s.reply h op st d) := by
  refine ⟨?_, ?_, reply_held s h op st d, jobsLeft_reply s h op st d⟩
  · rw [reply_only]
  · rw [reply_only]

theorem setReg (s : State) (a v : Nat) : s.onlyEnds (s.setReg a v) := of_lanes rfl rfl rfl

theorem bump (s : State) (a n : Nat) : s.onlyEnds (s.bump a n) := by
  rw [bump_only]
  exact of_lanes rfl rfl rfl

theorem raiseAt (s : State) (r : Record) (k : Nat × Nat) : s.onlyEnds (s.raiseAt r k) := by
  obtain ⟨_, _, _, _, e⟩ := raiseAt_only s r k
  rw [e]
  exact of_lanes rfl rfl rfl

theorem memOnly (h : s.memOnly t) : s.onlyEnds t := by
  obtain ⟨_, _, _, _, _, _, rfl⟩ := h
  exact of_lanes rfl rfl rfl

end State.onlyEnds

theorem ends_exchange (s : State) (e : Exchange) (into reason : Nat) : s.onlyEnds (s.exchange e into reason) := by
  unfold State.exchange
  extract_lets f a b c d
  have hc : s.onlyEnds c := .of_lanes rfl rfl rfl
  have hd : s.onlyEnds d := (hc.trans (.bump c _ _)).trans (.setReg _ _ _)
  clear_value d
  refine State.onlyEnds.trans ?_ (.of_lanes (s := if e.forced = true then d.bump (aSources 0x24) else d) rfl rfl rfl)
  split
  · exact hd.trans (.bump d _ _)
  · exact hd

/-- One ready spare exchanged, where its exchange is to be made now. -/
def State.makeOne (onlyForced : Bool) (s : State) (e : Exchange) : State :=
  e.into.elim s fun n => if ((s.source n).ready && (!onlyForced || e.forced)) = true then s.exchange e n (s.exchangeReason e) else s

theorem makeExchanges_eq (s : State) (onlyForced : Bool) : s.makeExchanges onlyForced = s.exchanges.foldl (State.makeOne onlyForced) s := by
  unfold State.makeExchanges
  refine congrArg (fun g => s.exchanges.foldl g s) (funext fun s => funext fun e => ?_)
  unfold State.makeOne
  cases e.into <;> rfl

theorem ends_makeExchanges (s : State) (onlyForced : Bool) : s.onlyEnds (s.makeExchanges onlyForced) := by
  rw [makeExchanges_eq]
  refine .foldl (fun s e => ?_) _ s
  unfold State.makeOne
  cases e.into with
  | none => exact .refl s
  | some n =>
    rw [Option.elim_some]
    split
    · exact ends_exchange s e n _
    · exact .refl s

theorem ends_assignSpares : ∀ (n : Nat) (s : State), s.onlyEnds (State.assignSpares n s)
  | 0, s => .refl s
  | n + 1, s => by
    unfold State.assignSpares
    split
    · exact .refl s
    · next e _ =>
      split
      · refine State.onlyEnds.trans ?_ (ends_assignSpares n _)
        exact .of_lanes rfl rfl rfl
      · refine State.onlyEnds.trans ?_ (ends_assignSpares n _)
        refine State.onlyEnds.trans (t := { s with exchanges := s.exchanges.filter fun x => x.out ≠ e.out }) (.of_lanes rfl rfl rfl) ?_
        split
        · split
          · exact .reply _ _ _ _ _
          · exact .refl _
        · exact .refl _

theorem ends_forceExchange (s : State) (n : Nat) : s.onlyEnds (s.forceExchange n) := by
  unfold State.forceExchange
  extract_lets a b
  have hq : s.onlyEnds (s.queueExchange ⟨n, none, 3, true, none⟩) := by
    unfold State.queueExchange
    split
    · exact .refl s
    · exact .of_lanes rfl rfl rfl
  have hb : s.onlyEnds b := (hq.trans (ends_assignSpares 20 _)).trans (.of_lanes rfl rfl rfl)
  clear_value b
  split
  · exact hb.trans (ends_makeExchanges b true)
  · exact hb

theorem ends_answerSpare (s : State) (l : Nat) : s.onlyEnds (s.answerSpare l) := by
  unfold State.answerSpare
  split
  · split
    · exact .reply _ _ _ _ _
    · exact .refl s
  · exact .refl s

theorem ends_handSources (s : State) (f g : Nat) : s.onlyEnds (s.handSources f g).2 := by
  have hall : ∀ (l : List Nat) (k : Bool × State → Nat → Bool × State), (∀ (r : Bool × State) (n : Nat), r.2.onlyEnds (k r n).2) → ∀ r : Bool × State, r.2.onlyEnds (l.foldl k r).2 := by
    intro l k hk
    induction l with
    | nil => exact fun r => .refl r.2
    | cons n l ih => exact fun r => (hk r n).trans (ih (k r n))
  unfold State.handSources
  refine hall _ _ (fun r n => ?_) (true, s)
  have hm : r.2.onlyEnds (r.2.modSource n fun x => { x with furrow := g }) := .of_lanes rfl rfl rfl
  dsimp only
  split
  · split
    · refine hm.trans (State.onlyEnds.trans ?_ (ends_exchange _ _ _ _))
      split
      · exact ends_answerSpare _ _
      · exact .refl _
    · exact hm
  · exact hm

theorem ends_modWin (s : State) (f : Nat) (g : WinnowF → WinnowF) : s.onlyEnds (s.modWin f g) := .of_lanes rfl rfl rfl

theorem ends_raise (s : State) (r : Record) (k : Option Blk) : s.onlyEnds (s.raise r k) := .raiseAt s r _

theorem ends_abandonRun (s : State) (f : Nat) (keep : Bool) : s.onlyEnds (s.abandonRun f keep) := by
  obtain ⟨_, _, e⟩ := abandonRun_only s f keep
  rw [e]
  exact .of_lanes rfl rfl rfl

theorem ends_moveSwitch (s : State) : s.onlyEnds s.moveSwitch := .of_lanes rfl rfl rfl

/-! ### A step that has been torn down (R169, R219, R220) -/

/-- A Furrow without tiles, passes and counts. -/
def Furrow.bare (x : Furrow) : Prop := x.bayA = none ∧ x.bayB = none ∧ x.passes = [] ∧ x.sent = []

/-- A lane is held by a step that is torn down, and with `b` every Furrow is bare. -/
structure State.downed (s : State) (lane seq : Nat) (x : Step) (b : Prop) : Prop where
  held : (s.lane lane).held = some seq
  seqs : ∀ k i, (s.lane k).job = some i → i.hdr.lane = lane → i.hdr.seq = seq
  step : s.stepOf lane = some x
  furrows : b → ∀ y ∈ s.furrows, y.bare

section
variable {s t : State} {lane seq : Nat} {x : Step} {b : Prop}

theorem State.onlyEnds.downed (h : s.onlyEnds t) (d : s.downed lane seq x b) : t.downed lane seq x b := by
  refine ⟨(h.held lane).trans d.held, fun k i hi => d.seqs k i (h.jobs k i hi), ?_, fun hb => ?_⟩
  · unfold State.stepOf
    rw [h.steps]
    exact d.step
  · rw [h.furrows]
    exact d.furrows hb

/-- A failure of any command of another lane, or of the step itself, leaves the lane held as it is. -/
theorem failReply_downed (d : s.downed lane seq x b) {j : Job} (hj : j.hdr.lane = lane → j.hdr.seq = seq) (op : Nat) (f : Failure) :
    (s.failReply j.hdr op f).downed lane seq x b := by
  obtain ⟨_, _, _, _, _, _, e⟩ := tellsOnly_failReply s j.hdr op f 0xFFFFFFFF
  have hsteps : (s.failReply j.hdr op f).steps = s.steps := by rw [e]
  have hfurrows : (s.failReply j.hdr op f).furrows = s.furrows := by rw [e]
  refine ⟨?_, fun k i hi => d.seqs k i (jobsLeft_failReply s j.hdr op f _ k i hi), ?_, fun hb => by rw [hfurrows]; exact d.furrows hb⟩
  · by_cases hl : j.hdr.lane = lane
    · have h := hj hl
      have hset : ∀ u : State, (u.lane lane).held = some seq → ((u.setLane j.hdr.lane { u.lane j.hdr.lane with held := some j.hdr.seq }).lane lane).held = some seq := by
        intro u hu
        rw [lane_setLane]
        split
        · rw [h]
        · exact hu
      have hraise (u : State) (r : Record) (k : Nat × Nat) : ((u.raiseAt r k).lane lane).held = (u.lane lane).held := (State.onlyEnds.raiseAt u r k).held lane
      unfold State.failReply
      generalize (if f.status = stWrongState then { f with detail := s.dev.code } else f) = g
      dsimp only
      rw [reply_held]
      split
      · rw [hraise]
        exact hset s d.held
      · split
        · exact hset s d.held
        · exact d.held
    · rw [failReply_other s op f _ fun c => hl c.symm]
      exact d.held
  · unfold State.stepOf
    rw [hsteps]
    exact d.step

theorem failWaking_downed (d : s.downed lane seq x b) (f : Failure) : (s.failWaking f).downed lane seq x b := by
  have hall : ∀ (ls : List Lane) (u : State), (∀ y ∈ ls, ∀ j, y.job = some j → j.hdr.lane = lane → j.hdr.seq = seq) → u.downed lane seq x b →
      (State.eachJob (fun u j => if j.opcode = 0x0403 ∧ j.kind = .waitWake then u.failReply j.hdr j.opcode f else u) ls u).downed lane seq x b := by
    intro ls
    induction ls with
    | nil => exact fun _ _ d => d
    | cons y ls ih =>
      intro u hy d
      refine ih (y.job.elim u _) (fun z hz => hy z (List.mem_cons_of_mem _ hz)) ?_
      cases hj : y.job with
      | none => exact d
      | some j =>
        rw [Option.elim_some]
        dsimp only
        split
        · exact failReply_downed d (hy y List.mem_cons_self j hj) _ f
        · exact d
  rw [failWaking_eq]
  refine hall s.lanes s (fun y hy j hj => ?_) d
  obtain ⟨k, hk, rfl⟩ := List.getElem_of_mem hy
  exact d.seqs k j (by rw [State.lane, getD_of_lt _ _ hk]; exact hj)

theorem abortStep_downed (d : s.downed lane seq x b) (hx : x.teardown = true) (l : Nat) (f : Failure) (rec : Nat) :
    (s.abortStep l f rec).downed lane seq x b := by
  refine ⟨d.held, d.seqs, ?_, d.furrows⟩
  by_cases hl : lane = l
  · subst hl
    rw [abortStep_eq, stepOf_modStep_self d.step _ (aborted_lane f rec _), Step.aborted, if_neg (by simp [hx])]
  · rw [stepOf_abortStep_other s hl]
    exact d.step

theorem endAllSteps_downed (d : s.downed lane seq x b) (hx : x.teardown = true) (f : Failure) : (s.endAllSteps f).downed lane seq x b := by
  have hall : ∀ (ts : List Step) (u : State), u.downed lane seq x b → (ts.foldl (fun s t => s.abortStep t.lane f t.cur) u).downed lane seq x b := by
    intro ts
    induction ts with
    | nil => exact fun _ d => d
    | cons t ts ih => exact fun u d => ih _ (abortStep_downed d hx t.lane f t.cur)
  have h := hall s.steps _ (failWaking_downed d f)
  unfold State.endAllSteps
  refine ⟨?_, fun k i hi => h.seqs k i (by rwa [failQueued_job] at hi), h.step, h.furrows⟩
  obtain ⟨q, e⟩ := failQueued_lane (s.steps.foldl (fun s t => s.abortStep t.lane f t.cur) (s.failWaking f)) f lane
  rw [e]
  exact h.held

theorem enterFault_downed (d : s.downed lane seq x b) (hx : x.teardown = true) (f : Failure) (k : Option Blk) : (s.enterFault f k).downed lane seq x b := by
  unfold State.enterFault
  obtain ⟨h1, h2, h3, h4⟩ := endAllSteps_downed (s := s.raise { kind := 0x0012, status := f.status, block := f.block, inst := f.inst, detail := f.detail } k)
    ((ends_raise s _ k).downed d) hx f
  exact ⟨h1, h2, h3, h4⟩

theorem modFurrow_downed (d : s.downed lane seq x b) (f : Nat) {g : Furrow → Furrow} (hg : ∀ y, y.bare → (g y).bare) : (s.modFurrow f g).downed lane seq x b := by
  refine ⟨d.held, d.seqs, d.step, fun hb y hy => ?_⟩
  obtain ⟨k, hk, rfl⟩ := List.getElem_of_mem hy
  have hlen : k < s.furrows.length := by rwa [modFurrow_length] at hk
  have hbare (i : Nat) : (s.furrow i).bare := by
    by_cases hi : i < s.furrows.length
    · rw [State.furrow, getD_of_lt _ _ hi]
      exact d.furrows hb _ (List.getElem_mem hi)
    · rw [State.furrow, getD_of_length_le _ _ (Nat.not_lt.mp hi)]
      exact ⟨rfl, rfl, rfl, rfl⟩
  have e : (s.modFurrow f g).furrows[k] = (s.modFurrow f g).furrow k := (getD_of_lt _ _ hk).symm
  rw [e, State.modFurrow, furrow_setFurrow]
  split
  · exact hg _ (hbare f)
  · exact hbare k

theorem retireFurrow_downed (d : s.downed lane seq x b) (hx : x.teardown = true) (f cause : Nat) : (s.retireFurrow f cause).downed lane seq x b := by
  unfold State.retireFurrow
  extract_lets slot u v w
  have hu : u.downed lane seq x b := ((ends_raise s _ _).trans (.setReg _ _ _)).downed d
  clear_value u
  have hv : v.downed lane seq x b := modFurrow_downed hu f fun y _ => ⟨rfl, rfl, rfl, rfl⟩
  clear_value v
  have hw : w.downed lane seq x b := ((ends_abandonRun v f false).trans (ends_modWin _ f _)).downed hv
  clear_value w
  split
  · exact enterFault_downed hw hx _ _
  · next g _ =>
    extract_lets y z r v
    have hy : y.downed lane seq x b := modFurrow_downed hw g fun y h => h
    clear_value y
    have hz : z.downed lane seq x b := ((ends_modWin y g _).trans (ends_modWin _ g _)).downed hy
    clear_value z
    have hr : r.2.downed lane seq x b := (ends_handSources z f g).downed hz
    clear_value r
    have hv : v.downed lane seq x b := (ends_moveSwitch r.2).downed hr
    clear_value v
    split
    · exact hv
    · exact enterFault_downed hv hx _ _

theorem retireFailing_downed (d : s.downed lane seq x b) (hx : x.teardown = true) : s.retireFailing.downed lane seq x b := by
  have hall : ∀ (l : List Nat) (k : State → Nat → State), (∀ (u : State) (f : Nat), u.downed lane seq x b → (k u f).downed lane seq x b) →
      ∀ u : State, u.downed lane seq x b → (l.foldl k u).downed lane seq x b := by
    intro l k hk
    induction l with
    | nil => exact fun _ d => d
    | cons f l ih => exact fun u d => ih _ (hk u f d)
  unfold State.retireFailing
  refine hall _ _ (fun u f d => ?_) s d
  dsimp only
  split
  · exact d
  · split
    · exact retireFurrow_downed d hx _ _
    · split
      · exact retireFurrow_downed d hx _ _
      · exact d

end

/-! ### TASK_ABORT -/

/-- The work of a step that is torn down is dropped, its bytes undefined (R220, R319). -/
def State.dropWork (s : State) (t : Step) : State :=
  ((t.touched.foldl State.scramble ((s.flushOwner (.lane t.lane)).takeFails (.lane t.lane)).2).bump (aReaper 0x6C)
    ((t.fetches.map fun x => x.pieces.countP fun p => p.spec && p.tag.isNone).sum)).discardStaged t

theorem memOnly_scramble (s : State) (g : Nat × Nat) : s.memOnly (s.scramble g) := (State.memOnly.takeFree s).trans (.memory _ _)

theorem memOnly_discardStaged (s : State) (t : Step) : s.memOnly (s.discardStaged t) := by
  unfold State.discardStaged
  refine .foldl (fun s e => ?_) _ s
  split
  · unfold State.discardSlots
    split
    · exact .refl s
    · exact .foldl (fun s g => memOnly_bump s _ _) _ s
  · exact .refl s

theorem memOnly_dropWork (s : State) (t : Step) : s.memOnly (s.dropWork t) :=
  ((((memOnly_flushOwner s _).trans (memOnly_takeFails _ _)).trans (.foldl memOnly_scramble _ _)).trans (memOnly_bump _ _ _)).trans (memOnly_discardStaged _ t)

/-- A step once it is torn down (R220). -/
def Step.down (t : Step) : Step := { t with
  teardown := true, live := [], waits := [], joins := [], staged := []
  fetches := (t.fetches.map Fetch.tornDown).filter fun x => x.pieces ≠ [] }

/-- The work of an aborted step dropped, its lane held, itself torn down. -/
def State.tornStep (s : State) (t : Step) (f : Failure) (idx : Nat) : State :=
  (((if s.reaper.holder = some t.lane then s.clearFurrows else s).dropWork t).recordAbort t f idx).modStep t.lane Step.down

theorem doTaskAbort_tears {s : State} {lane rec : Nat} {t : Step} {f : Failure} (ht : s.stepOf lane = some t) (hf : t.failure = some (f, rec)) (hd : t.teardown = false) :
    doTaskAbort lane s = (if f.status = stSourceFade then (s.tornStep t f rec).forceExchange f.detail else s.tornStep t f rec).retireFailing := by
  have hl := stepOf_lane ht
  subst hl
  unfold doTaskAbort
  rw [ht]
  dsimp only
  rw [hf]
  dsimp only
  rw [if_neg (by simp [hd])]
  rfl

theorem recordAbort_downed {s : State} {t : Step} {j : Job} {b : Prop} (f : Failure) (idx : Nat) (hl : t.lane < s.lanes.length) (hj : (s.lane t.lane).job = some j)
    (hh : s.jobsHome) (ht : s.stepOf t.lane = some t) (hb : b → ∀ y ∈ s.furrows, y.bare) : (s.recordAbort t f idx).downed t.lane j.hdr.seq t b := by
  have hset : (s.setLane t.lane { s.lane t.lane with held := some j.hdr.seq }).downed t.lane j.hdr.seq t b := by
    refine ⟨?_, fun k i hi hil => ?_, ht, hb⟩
    · rw [lane_setLane, if_pos ⟨rfl, hl⟩]
    · have hik : (s.lane k).job = some i := by
        rw [lane_setLane] at hi
        split at hi
        · next hk =>
          rw [hk.1]
          exact hi
        · exact hi
      have hk : k = t.lane := (hh k i hik).symm.trans hil
      subst hk
      rw [hj] at hik
      rw [Option.some.inj hik]
  unfold State.recordAbort
  rw [hj]
  dsimp only
  split
  · exact (State.onlyEnds.raiseAt _ _ _).downed hset
  · exact hset

theorem modStep_downed {s : State} {lane seq : Nat} {x : Step} {b : Prop} (d : s.downed lane seq x b) {g : Step → Step} (hg : ∀ y, (g y).lane = y.lane) :
    (s.modStep lane g).downed lane seq (g x) b := ⟨d.held, d.seqs, stepOf_modStep_self d.step g hg, d.furrows⟩

theorem tornStep_downed {s : State} {t : Step} {j : Job} (f : Failure) (idx : Nat) (hl : t.lane < s.lanes.length) (hj : (s.lane t.lane).job = some j)
    (hh : s.jobsHome) (ht : s.stepOf t.lane = some t) : (s.tornStep t f idx).downed t.lane j.hdr.seq t.down (s.reaper.holder = some t.lane) := by
  unfold State.tornStep
  obtain ⟨u, hu⟩ : ∃ u, (if s.reaper.holder = some t.lane then s.clearFurrows else s) = u := ⟨_, rfl⟩
  have hue : u.lanes = s.lanes ∧ u.steps = s.steps ∧ (s.reaper.holder = some t.lane → ∀ y ∈ u.furrows, y.bare) := by
    rw [← hu]
    split
    · refine ⟨rfl, rfl, fun _ y hy => ?_⟩
      obtain ⟨z, -, rfl⟩ := List.mem_map.mp hy
      exact ⟨rfl, rfl, rfl, rfl⟩
    · next h => exact ⟨rfl, rfl, fun c => absurd c h⟩
  rw [hu]
  obtain ⟨hlanes, hsteps, hbare⟩ := hue
  obtain ⟨_, _, _, _, _, _, e⟩ := memOnly_dropWork u t
  have hlane (k : Nat) : (u.dropWork t).lane k = s.lane k := by
    unfold State.lane
    rw [e, hlanes]
  refine modStep_downed (recordAbort_downed f idx ?_ ?_ (fun k i hi => hh k i (by rwa [hlane] at hi)) ?_ ?_) fun _ => rfl
  · rw [e, hlanes]
    exact hl
  · rw [hlane]
    exact hj
  · unfold State.stepOf
    rw [e, hsteps]
    exact ht
  · rw [e]
    exact hbare

theorem taskAbort_tears {s : State} {lane rec : Nat} {t : Step} {f : Failure} {j : Job} (hn : s.lanes.length = 16) (hl : lane < 16) (ht : s.stepOf lane = some t)
    (hf : t.failure = some (f, rec)) (hd : t.teardown = false) (hj : (s.lane lane).job = some j) (hh : s.jobsHome) :
    ∃ u, exec (.taskAbort lane) s = .next u ∧ (u.lane lane).held = some j.hdr.seq ∧
      (∃ x, u.stepOf lane = some x ∧ x.teardown = true ∧ x.live = [] ∧ x.waits = [] ∧ x.joins = [] ∧ x.failure = t.failure) ∧
      (s.reaper.holder = some lane → ∀ x ∈ u.furrows, x.bayA = none ∧ x.bayB = none ∧ x.passes = [] ∧ x.sent = []) := by
  have hgo := doTaskAbort_tears ht hf hd
  have hlt := stepOf_lane ht
  subst hlt
  have h1 := tornStep_downed f rec (by rw [hn]; exact hl) hj hh ht
  obtain ⟨u, hu⟩ : ∃ u, s.tornStep t f rec = u := ⟨_, rfl⟩
  rw [hu] at h1 hgo
  have h2 : (if f.status = stSourceFade then u.forceExchange f.detail else u).downed t.lane j.hdr.seq t.down (s.reaper.holder = some t.lane) := by
    split
    · exact (ends_forceExchange u _).downed h1
    · exact h1
  obtain ⟨hheld, -, hstep, hbare⟩ := retireFailing_downed h2 rfl
  exact ⟨_, congrArg Host.Outcome.next hgo, hheld, ⟨t.down, hstep, rfl, rfl, rfl, rfl, rfl⟩, hbare⟩

/-! ### TEARDOWN_COMPLETE (R221) -/

/-- No step is left; a device in RUN is in READY (R107). -/
def State.emptied (s : State) (l : Nat) : State := { s with
  steps := [], dev := .ready, reaper := { s.reaper with holder := if s.reaper.holder = some l then none else s.reaper.holder } }

theorem dropStep_only {s : State} {l : Nat} (hl : ∀ x ∈ s.steps, x.lane = l) (hd : s.dev = .run) : s.dropStep l = (s.emptied l).dozeIfDue.passEngines := by
  have hrest : s.steps.filter (fun t => t.lane ≠ l) = [] := by
    rw [List.filter_eq_nil_iff]
    exact fun x hx => by simp [hl x hx]
  unfold State.dropStep
  dsimp only
  rw [hrest, hd, if_pos (And.intro rfl rfl)]
  rfl

/-- The DOZE that was due begins without a step and without exchanges, and starts no command. -/
theorem fallDue_ends {s : State} (hh : s.jobsHome) : s.fallDue.steps = s.steps ∧ s.fallDue.exchanges = [] ∧ s.jobsLeft s.fallDue := by
  obtain ⟨u, hu⟩ : ∃ u, ({ s with lantern := { s.lantern with dozeDue := false } } : State) = u := ⟨_, rfl⟩
  have hsteps : u.steps = s.steps := by rw [← hu]
  have hlane (k : Nat) : u.lane k = s.lane k := by rw [← hu]; rfl
  have hf : s.fallDue = u.beginEntry .doze := by rw [← hu]; rfl
  obtain ⟨⟨_, _, _, _, _, _, _, _, _, _, _, _, _, ho⟩, hex, -, -, hjob⟩ := beginEntry_sleep u (d := .doze) (by decide)
  rw [hf]
  refine ⟨?_, hex, fun k j hj => ?_⟩
  · rw [← hsteps]
    exact (congrArg State.steps ho :)
  · rw [hjob (fun k j hj => hh k j (by rwa [hlane] at hj)), Option.filter_eq_some_iff, hlane] at hj
    exact hj.1

theorem testing_of_jobsLeft {s t : State} (h : s.jobsLeft t) (hs : s.testing = false) : t.testing = false :=
  anyJob_eq_false.mpr fun k j hj => anyJob_eq_false.mp hs k j (h k j hj)

theorem noteCounts_job (s : State) (l seq : Nat) (c : Nat × Nat × Nat) (k : Nat) : ((s.noteCounts l seq c).lane k).job = (s.lane k).job := by
  unfold State.noteCounts
  dsimp only
  rw [lane_setLane]
  split
  · next h => rw [h.1]
  · rfl

/-- TASK_CANCELs that waited for a step are answered (R96). -/
def State.answerOne (lane seq : Nat) (s : State) (l : Lane) : State := l.job.elim s fun j =>
  match j.kind with
  | .cancelWait a b => if a = lane ∧ b = seq then s.reply j.hdr j.opcode stOk else s
  | _ => s

theorem answerCancels_eq (s : State) (lane seq : Nat) : s.answerCancels lane seq = s.lanes.foldl (State.answerOne lane seq) s := by
  unfold State.answerCancels
  refine congrArg (fun g => s.lanes.foldl g s) (funext fun s => funext fun l => ?_)
  unfold State.answerOne
  cases l.job <;> rfl

theorem answerCancels_only (s : State) (lane seq : Nat) : s.jobsLeft (s.answerCancels lane seq) ∧
    ∃ ls sn, s.answerCancels lane seq = { s with lanes := ls, net := { s.net with sent := sn } } := by
  have hone (s : State) (l : Lane) : s.jobsLeft (s.answerOne lane seq l) ∧ ∃ ls sn, s.answerOne lane seq l = { s with lanes := ls, net := { s.net with sent := sn } } := by
    have hidle : s.jobsLeft s ∧ ∃ ls sn, s = { s with lanes := ls, net := { s.net with sent := sn } } := ⟨fun _ _ h => h, s.lanes, s.net.sent, rfl⟩
    unfold State.answerOne
    cases l.job with
    | none => exact hidle
    | some j =>
      rw [Option.elim_some]
      split
      · split
        · exact ⟨jobsLeft_reply s _ _ _ _, _, _, reply_only s _ _ _ _⟩
        · exact hidle
      · exact hidle
  rw [answerCancels_eq]
  generalize s.lanes = ls
  induction ls generalizing s with
  | nil => exact ⟨fun _ _ h => h, s.lanes, s.net.sent, rfl⟩
  | cons l ls ih =>
    obtain ⟨h1, _, _, e⟩ := hone s l
    obtain ⟨h2, ls', sn', e'⟩ := ih (s.answerOne lane seq l)
    refine ⟨fun k j hj => h1 k j (h2 k j hj), ls', sn', ?_⟩
    rw [List.foldl_cons, e', e]

theorem settleExchanges_of_none {s : State} (h : s.exchanges = []) : s.settleExchanges = s := by
  unfold State.settleExchanges State.makeExchanges
  rw [h]
  split <;> rfl

theorem doTeardownComplete_ends {s : State} {lane rec : Nat} {t : Step} {f : Failure} (ht : s.stepOf lane = some t) (hf : t.failure = some (f, rec)) (hd : t.teardown = true)
    (hi : s.inFlight t = false) : doTeardownComplete lane s = (((s.endStep t f.status f.bytes).answerCancels lane (s.stepSeq lane)).settleExchanges).settle := by
  unfold doTeardownComplete
  rw [ht]
  dsimp only
  rw [hf]
  dsimp only
  rw [if_neg (by simp [hd, hi])]

theorem teardown_ends {s : State} {lane rec : Nat} {t : Step} {f : Failure} {j : Job} (hn : s.lanes.length = 16) (hh : s.jobsHome) (hl : lane < 16) (hs : s.steps = [t])
    (hlt : t.lane = lane) (hf : t.failure = some (f, rec)) (hd : t.teardown = true) (hi : s.inFlight t = false) (hj : (s.lane lane).job = some j) (hr : s.dev = .run)
    (he : s.exchanges = []) :
    ∃ u, exec (.teardownComplete lane) s = .next u ∧ u.steps = [] ∧ (u.lane lane).job = none ∧
      (s.lantern.dozeDue = false → u.dev = .ready) ∧ (s.lantern.dozeDue = true → s.testing = false → u.dev = .doze) := by
  subst hlt
  have ht : s.stepOf t.lane = some t := by
    unfold State.stepOf
    rw [hs]
    simp
  have hgo := doTeardownComplete_ends ht hf hd hi
  rw [endStep_eq hj] at hgo
  obtain ⟨⟨ls, sn, ha⟩, hfree, -⟩ := stepAnswered_spec hj (hh _ _ hj) (by rw [hn]; exact hl) f.status f.bytes
  have hleft : s.jobsLeft (s.stepAnswered t j f.status f.bytes) := fun k i hi =>
    jobsLeft_reply s j.hdr j.opcode f.status f.bytes k i ((noteCounts_job _ _ _ _ k).symm.trans hi)
  obtain ⟨a, hae⟩ : ∃ a, s.stepAnswered t j f.status f.bytes = a := ⟨_, rfl⟩
  rw [hae] at hgo ha hfree hleft
  rw [dropStep_only (s := a) (by rw [ha, hs]; simp) (by rw [ha]; exact hr)] at hgo
  obtain ⟨b, hb⟩ : ∃ b, a.emptied t.lane = b := ⟨_, rfl⟩
  have hdue : b.lantern.dozeDue = s.lantern.dozeDue := by rw [← hb, ha]; rfl
  have hbs : b.steps = [] := by rw [← hb]; rfl
  have hbd : b.dev = .ready := by rw [← hb]; rfl
  have hbx : b.exchanges = [] := by rw [← hb, ha]; exact he
  have hbl : a.jobsLeft b := by
    rw [← hb]
    exact fun _ _ h => h
  rw [hb] at hgo
  have hbleft : s.jobsLeft b := fun k i hi => hleft k i (hbl k i hi)
  have hdoze : b.dozeIfDue.steps = [] ∧ b.dozeIfDue.exchanges = [] ∧ b.jobsLeft b.dozeIfDue ∧ (s.lantern.dozeDue = false → b.dozeIfDue.dev = .ready) ∧
      (s.lantern.dozeDue = true → s.testing = false → b.dozeIfDue.dev = .doze) := by
    by_cases hz : s.lantern.dozeDue = true ∧ s.testing = false
    · rw [dozeIfDue_begins hbs (hdue.trans hz.1) (testing_of_jobsLeft hbleft hz.2) (Or.inl hbd)]
      obtain ⟨h1, h2, h3⟩ := fallDue_ends (s := b) fun k i hi => hh k i (hbleft k i hi)
      exact ⟨h1.trans hbs, h2, h3, fun h => absurd (h.symm.trans hz.1) Bool.false_ne_true, fun _ _ => (fallDue_spec b).1⟩
    · obtain hstay | hfall := dozeIfDue_cases b
      · rw [hstay]
        exact ⟨hbs, hbx, fun _ _ h => h, fun _ => hbd, fun h1 h2 => absurd ⟨h1, h2⟩ hz⟩
      · obtain ⟨h1, h2, h3⟩ := fallDue_ends (s := b) fun k i hi => hh k i (hbleft k i hi)
        rw [hfall]
        refine ⟨h1.trans hbs, h2, h3, fun h => ?_, fun h1 h2 => absurd ⟨h1, h2⟩ hz⟩
        rw [← hfall, State.dozeIfDue, if_neg fun c => Bool.false_ne_true (h.symm.trans (hdue.symm.trans c.2.1))]
        exact hbd
  obtain ⟨c, hc⟩ : ∃ c, b.dozeIfDue = c := ⟨_, rfl⟩
  rw [hc] at hgo hdoze
  obtain ⟨hcs, hcx, hcl, hready, hasleep⟩ := hdoze
  rw [passEngines_of_no_steps hcs] at hgo
  obtain ⟨hl', ls', sn', hu⟩ := answerCancels_only c t.lane (s.stepSeq t.lane)
  obtain ⟨u, hue⟩ : ∃ u, c.answerCancels t.lane (s.stepSeq t.lane) = u := ⟨_, rfl⟩
  rw [hue] at hgo hl' hu
  have hus : u.steps = [] := by rw [hu]; exact hcs
  rw [settleExchanges_of_none (by rw [hu]; exact hcx), settle_of_no_steps hus] at hgo
  have hud : u.dev = c.dev := by rw [hu]
  refine ⟨u, congrArg Host.Outcome.next hgo, hus, ?_, fun h => hud.trans (hready h), fun h h' => hud.trans (hasleep h h')⟩
  cases hj' : (u.lane t.lane).job with
  | none => rfl
  | some i =>
    have := hbl _ i (hcl _ i (hl' _ i hj'))
    rw [hfree] at this
    cases this

/-- Settles O54. -/
theorem abortsTearDown : Obligations.AbortsTearDown :=
  ⟨fun _ _ _ _ _ _ hn hl ht hf hd hj hh => taskAbort_tears hn hl ht hf hd hj hh,
    fun _ _ _ _ _ _ hn hh hl hs hlt hf hd hi hj hr he => teardown_ends hn hh hl hs hlt hf hd hi hj hr he⟩

end Sys2Proof.Machine
end

section
/-!
PROOFS. Decisions and replays of row chunks (O53).
-/
namespace Sys2Proof.Machine

/-! ### What the samples give (R160, R161) -/

/-- A sample that the event does not list returns its true count (R161). -/
theorem sample_of_no_devs {a : Attempt} (h : a.devs = []) (p : Nat) (col : Nat × List Nat) (q seg : Nat) :
    a.sample p col q seg = some (detCount a.sent col.2 p q seg) := by
  unfold Attempt.sample decideSample sampleAt
  rw [h]
  rfl

theorem ambiguous_of_no_devs {a : Attempt} (h : a.devs = []) : a.ambiguous = false := by
  unfold Attempt.ambiguous
  simp only [sample_of_no_devs h, Option.isNone_some, List.any_eq_false]
  exact fun _ _ => by simp

theorem mismatch_of_no_devs {a : Attempt} (h : a.devs = []) : a.mismatch = none := by
  unfold Attempt.mismatch
  simp only [sample_of_no_devs h, Attempt.checkCol, List.findSome?_eq_none_iff, List.find?_eq_none]
  exact fun _ _ _ _ => by simp

theorem wrong_of_no_devs {a : Attempt} (h : a.devs = []) : a.wrong = none := by
  unfold Attempt.wrong
  simp only [sample_of_no_devs h, List.findSome?_eq_none_iff, List.find?_eq_none]
  exact fun _ _ _ _ _ _ => by simp

/-! ### ROW_CHUNK_DECISION (R163 to R165) -/

/-- A mismatch of an attempt, or the wrong count that stands as one (log entry 128). -/
def Attempt.refusal (a : Attempt) : Option (Nat × Nat) := a.mismatch.orElse fun _ => if a.ambiguous then none else a.wrong

theorem doRowChunkDecision_cases {s : State} {f : Nat} (devs : List SampleDev) {c : Chunk} {rest : List Chunk} {t : Step} {p : Pass} {tile : Tile} {r : StreamR}
    (hs : (s.furrow f).sent = c :: rest) (ht : s.stepOf c.lane = some t) (hp : (s.furrow f).passOf c.lane c.record = some p)
    (htile : ((s.furrow f).bayOf t.order p.tile).bind (s.furrow f).tileIn = some tile) (hr : t.streamAt c.record = some r) (hw : s.works t = true) :
    doRowChunkDecision f devs s = if ((s.attempt f p tile c devs).ambiguous || (s.attempt f p tile c devs).refusal.isSome) = true then
        s.refuse f tile c (s.attempt f p tile c devs).ambiguous (s.attempt f p tile c devs).refusal
      else (s.confirm f p c r.part (s.attempt f p tile c devs)).settle := by
  unfold doRowChunkDecision
  dsimp only
  rw [hs]
  dsimp only
  rw [ht, hp]
  dsimp only
  rw [htile, hr]
  dsimp only
  rw [if_neg (by simp [hw])]
  rfl

/-- An ambiguous row chunk below its limit is counted and sent again (R165). -/
theorem refuse_ambiguous (s : State) (f : Nat) (tile : Tile) {c : Chunk} (h : c.tries < 4) : s.refuse f tile c true none = (s.bump (aFurrow f 0x90)).queueReplay f c := by
  have hc : ({ c with mismatched := c.mismatched || false } : Chunk) = c := by
    rw [Bool.or_false]
  unfold State.refuse
  dsimp only
  rw [if_pos rfl, if_neg (by simp), if_neg (by omega)]
  exact congrArg ((s.bump (aFurrow f 0x90)).queueReplay f) hc

theorem furrowAbort_fails {s : State} {l : Nat} {t : Step} (ht : s.stepOf l = some t) (hw : s.works t = true) (f rec : Nat) (x : Failure) :
    (s.furrowAbort l f rec x).fails l { x with block := 0x10, inst := f } rec := by
  obtain ⟨-, hf, -⟩ := works_iff.mp hw
  unfold State.furrowAbort
  rw [ht]
  dsimp only
  rw [hf, if_pos Option.isNone_none]
  exact abortStep_fails_of_works (s := s.noteAbort f x.status) ht hw _ _

/-- A second check mismatch aborts the step (R164). -/
theorem refuse_mismatch {s : State} {t : Step} {c : Chunk} (ht : s.stepOf c.lane = some t) (hw : s.works t = true) (f : Nat) (tile : Tile) (x : Nat × Nat)
    (hm : c.mismatched = true) : (s.refuse f tile c false (some x)).fails c.lane { status := stCheckMismatch, block := 0x10, inst := f, detail := c.record } c.record := by
  unfold State.refuse
  dsimp only
  rw [if_neg Bool.false_ne_true, if_pos (by simp [hm])]
  refine furrowAbort_fails (t := t) ?_ ?_ _ _ _
  · rw [setReg_stepOf, bump_stepOf, ht]
  · rw [setReg_works, bump_works, hw]

/-! ### ROW_CHUNK_REPLAY (R166, R174, R191) -/

theorem skew_spec {s : State} {l : Nat} {t : Step} (ht : s.stepOf l = some t) (hw : s.works t = true) (rec leader : Nat) (zp : Bool) (want got : Nat) :
    (∃ rg st, s.skew l rec leader zp want got = { s with regs := rg, steps := st }) ∧ (s.skew l rec leader zp want got).fails l
      { status := stStreamSkew, block := 3, inst := leader, detail := want % 65536 * 65536 + got % 65536 } rec := by
  unfold State.skew
  dsimp only
  refine ⟨?_, abortStep_fails_of_works (t := t) ?_ ?_ _ _⟩
  · unfold State.abortStep State.modStep
    rw [bump_only]
    exact ⟨_, _, rfl⟩
  · rw [bump_stepOf, setReg_stepOf, setReg_stepOf, ht]
  · rw [bump_works, setReg_works, setReg_works, hw]

theorem doRowChunkReplay_cases {s : State} {f : Nat} {dark : List Nat} {c : Chunk} {rest : List Chunk} {t : Step} {p : Pass} (hr : (s.furrow f).replays = c :: rest)
    (ht : s.stepOf c.lane = some t) (hw : s.works t = true) (hp : s.passesOf c.lane c.record = [(f, p)]) (hu : (s.furrow f).unlocked = false) :
    doRowChunkReplay ⟨f, dark⟩ s = (s.skewNow t f).elim
      (if ((s.farReplay t f p).isSome && dark.contains f) = true then s.darkSwap t f
        else (s.replayAt t c f p).modStep c.lane fun t => { t with replays := t.replays + 1 })
      fun x => s.skew c.lane x.1 (((t.streamAt x.1).map fun r => r.slot).getD 0) x.2.1 x.2.2.1 x.2.2.2 := by
  unfold doRowChunkReplay
  dsimp only
  rw [hr]
  dsimp only
  rw [ht]
  dsimp only
  rw [hp, if_neg (by simp [hw, hu, State.replayCredit])]
  cases s.skewNow t f with
  | some x => rfl
  | none =>
    rw [Option.elim_none]
    dsimp only
    cases hd : (s.farReplay t f p).isSome && dark.contains f
    · rw [List.find?_cons_of_neg (by simp only [hd]; exact Bool.false_ne_true), if_neg Bool.false_ne_true]
      rfl
    · rw [List.find?_cons_of_pos (by simp only [hd]), if_pos rfl]

/-- What a replay at a Furrow leaves alone, and what it puts among the row chunks sent. -/
structure State.resent (s t : State) (f n : Nat) : Prop where
  steps : t.steps = s.steps
  memory : t.memory = s.memory
  length : t.furrows.length = s.furrows.length
  sent : (t.furrow f).sent.length = (s.furrow f).sent.length + n
  other : ∀ g, g ≠ f → t.furrow g = s.furrow g

theorem State.resent.trans {s t u : State} {f m n : Nat} (h : s.resent t f m) (k : t.resent u f n) : s.resent u f (m + n) :=
  ⟨k.steps.trans h.steps, k.memory.trans h.memory, k.length.trans h.length, by rw [k.sent, h.sent, Nat.add_assoc], fun g hg => (k.other g hg).trans (h.other g hg)⟩

theorem resent_light {s : State} {f : Nat} (hf : f < s.furrows.length) (b : Bool) : s.resent (s.light f b) f 0 ∧ ((s.light f b).furrow f).replays = (s.furrow f).replays := by
  obtain ⟨h, ho⟩ := light_furrow hf b
  have hsw (u : State) : (u.swapSet f).steps = u.steps ∧ (u.swapSet f).memory = u.memory := by
    unfold State.swapSet
    split
    · exact ⟨rfl, rfl⟩
    · exact ⟨rfl, rfl⟩
  refine ⟨⟨(hsw _).1, (hsw _).2, ?_, by rw [h]; rfl, ho⟩, by rw [h]⟩
  rw [light_furrows, modFurrow_length]

theorem resent_count {s : State} {f : Nat} (hf : f < s.furrows.length) (n : Nat) : s.resent ((s.countSymbols f 0x48 n).bump (aFurrow f 0x94)) f 0 ∧
    (((s.countSymbols f 0x48 n).bump (aFurrow f 0x94)).furrow f).replays = (s.furrow f).replays := by
  have hb (g : Nat) : ((s.countSymbols f 0x48 n).bump (aFurrow f 0x94)).furrow g = (s.countSymbols f 0x48 n).furrow g := by
    rw [bump_only]
    rfl
  have hself : (s.countSymbols f 0x48 n).furrow f = { s.furrow f with
      symbols := (s.furrow f).symbols + n, work := (s.furrow f).work + n, sending := sentClass 0x48, stall := 0 } := by
    unfold State.countSymbols
    rw [furrow_modFurrow_self (by rw [bump48_only]; exact hf), bump48_only]
    rfl
  obtain ⟨_, _, _, e⟩ := countSymbols_only s f 0x48 n
  refine ⟨⟨?_, ?_, ?_, by rw [hb, hself]; rfl, fun g hg => (hb g).trans (countSymbols_other s hg _ _)⟩, by rw [hb, hself]⟩
  · rw [bump_only, e]
  · rw [bump_only, e]
  · have hl := countSymbols_length s f 0x48 n
    rw [bump_only]
    exact hl

/-- A swap to the far bay and back, where a replay needs one (R166). -/
def State.swapForReplay (s : State) (t : Step) (f : Nat) (p : Pass) : State :=
  (s.farReplay t f p).elim s fun b => (s.light f b).light f (s.furrow f).litB

theorem resent_swap {s : State} {f : Nat} (hf : f < s.furrows.length) (t : Step) (p : Pass) : s.resent (s.swapForReplay t f p) f 0 ∧
    ((s.swapForReplay t f p).furrow f).replays = (s.furrow f).replays := by
  unfold State.swapForReplay
  cases s.farReplay t f p with
  | none => exact ⟨⟨rfl, rfl, rfl, rfl, fun _ _ => rfl⟩, rfl⟩
  | some b =>
    obtain ⟨h1, r1⟩ := resent_light hf b
    obtain ⟨h2, r2⟩ := resent_light (s := s.light f b) (by rw [h1.length]; exact hf) (s.furrow f).litB
    exact ⟨h1.trans h2, r2.trans r1⟩

/-- The symbols of a replay counted, after its swap. -/
def State.countReplay (s : State) (t : Step) (c : Chunk) (f : Nat) (p : Pass) : State :=
  ((s.swapForReplay t f p).countSymbols f 0x48 (planesOf c.fmt + (if (s.farReplay t f p).isSome then 56 else 0))).bump (aFurrow f 0x94)

/-- A row chunk leaves those to replay, and is sent again. -/
def State.sendAgain (s : State) (c : Chunk) (f : Nat) (y : Chunk) : State :=
  (if y.lockRedo then s.bump (aFurrow f 0x9C) else s).setFurrow f { (if y.lockRedo then s.bump (aFurrow f 0x9C) else s).furrow f with
    replays := (s.furrow f).replays.filter fun z => !(z.isRow c.lane c.record c.row)
    sent := (s.furrow f).sent ++ [{ y with tries := y.tries + (if y.lockRedo then 0 else 1), lockRedo := false }] }

theorem replayAt_eq (s : State) (t : Step) (c : Chunk) (f : Nat) (p : Pass) : s.replayAt t c f p =
    (((s.countReplay t c f p).furrow f).replays.find? fun y => y.isRow c.lane c.record c.row).elim (s.countReplay t c f p) ((s.countReplay t c f p).sendAgain c f) := by
  unfold State.replayAt State.countReplay State.swapForReplay
  cases s.farReplay t f p
  · dsimp only
    rw [Option.elim_none]
    generalize State.bump _ _ _ = u
    cases (u.furrow f).replays.find? fun y => y.isRow c.lane c.record c.row <;> rfl
  · dsimp only
    rw [Option.elim_some]
    generalize State.bump _ _ _ = u
    cases (u.furrow f).replays.find? fun y => y.isRow c.lane c.record c.row <;> rfl

theorem resent_sendAgain {s : State} {f : Nat} (hf : f < s.furrows.length) (c y : Chunk) : s.resent (s.sendAgain c f y) f 1 := by
  unfold State.sendAgain
  obtain ⟨u, hu⟩ : ∃ u, (if y.lockRedo then s.bump (aFurrow f 0x9C) else s) = u := ⟨_, rfl⟩
  have hue : ∃ rg, u = { s with regs := rg } := by
    rw [← hu]
    split
    · rw [bump_only]
      exact ⟨_, rfl⟩
    · exact ⟨s.regs, rfl⟩
  rw [hu]
  obtain ⟨rg, rfl⟩ := hue
  refine ⟨rfl, rfl, setAt_length _ _ _, ?_, fun g hg => furrow_setFurrow_other _ hg _⟩
  rw [furrow_setFurrow_self (s := { s with regs := rg }) hf]
  exact List.length_append

theorem replayAt_resent {s : State} {f : Nat} (hf : f < s.furrows.length) {c : Chunk} {rest : List Chunk} (hr : (s.furrow f).replays = c :: rest) (t : Step) (p : Pass) :
    s.resent (s.replayAt t c f p) f 1 := by
  obtain ⟨h1, r1⟩ := resent_swap hf t p
  obtain ⟨h2, r2⟩ := resent_count (s := s.swapForReplay t f p) (by rw [h1.length]; exact hf) (planesOf c.fmt + (if (s.farReplay t f p).isSome then 56 else 0))
  have h12 : s.resent (s.countReplay t c f p) f 0 := h1.trans h2
  have hrep : ((s.countReplay t c f p).furrow f).replays = c :: rest := r2.trans (r1.trans hr)
  rw [replayAt_eq, hrep, List.find?_cons_of_pos (by simp [Chunk.isRow])]
  rw [Option.elim_some]
  have h := h12.trans (resent_sendAgain (s := s.countReplay t c f p) (by rw [h12.length]; exact hf) c c)
  rwa [Nat.zero_add] at h

/-- Settles O53. -/
theorem decisionsAndReplays : Obligations.DecisionsAndReplays := by
  refine ⟨?_, fun s f p tile c devs hd => ?_, ?_⟩
  · intro s f devs c rest t p tile r hs ht hp htile hr hw a
    have hgo := doRowChunkDecision_cases devs hs ht hp htile hr hw
    have ha : s.attempt f p tile c devs = a := rfl
    rw [ha] at hgo
    clear_value a
    refine ⟨fun h1 h2 h3 => ?_, fun x h1 h2 h3 => ?_, fun h1 h2 h3 => ?_, fun x h1 h2 h3 => ?_⟩
    · have hm : a.refusal = none := by
        unfold Attempt.refusal
        rw [h2, h1, h3]
        rfl
      rw [h1, hm] at hgo
      exact congrArg Host.Outcome.next hgo
    · have hm : a.refusal = some x := by
        unfold Attempt.refusal
        rw [h2, h1, h3]
        rfl
      rw [h1, hm] at hgo
      exact congrArg Host.Outcome.next hgo
    · have hm : a.refusal = none := by
        unfold Attempt.refusal
        rw [h2, h1]
        rfl
      rw [h1, hm] at hgo
      exact congrArg Host.Outcome.next (hgo.trans (refuse_ambiguous s f tile h3))
    · have hm : a.refusal = some x := by
        unfold Attempt.refusal
        rw [h2]
        rfl
      rw [h1, hm] at hgo
      exact ⟨_, congrArg Host.Outcome.next hgo, refuse_mismatch ht hw f tile x h3⟩
  · have hno : (s.attempt f p tile c devs).devs = [] := hd
    exact ⟨ambiguous_of_no_devs hno, mismatch_of_no_devs hno, wrong_of_no_devs hno⟩
  · intro s f dark c rest t p hl hf hr ht hw hp hu
    have hgo := doRowChunkReplay_cases (dark := dark) hr ht hw hp hu
    refine ⟨fun rec zp want got hsk => ?_, fun hsk hfar hdark => ?_, fun hsk hno => ?_⟩
    · rw [hsk, Option.elim_some] at hgo
      dsimp only at hgo
      obtain ⟨⟨_, _, e⟩, hfail⟩ := skew_spec ht hw rec (((t.streamAt rec).map fun r => r.slot).getD 0) zp want got
      exact ⟨_, congrArg Host.Outcome.next hgo, by rw [e], hfail⟩
    · rw [hsk, Option.elim_none, hfar, hdark, Bool.and_self, if_pos rfl] at hgo
      obtain ⟨⟨_, _, e⟩, hfail⟩ := darkSwap_spec ht hw f
      exact ⟨_, congrArg Host.Outcome.next hgo, by rw [e], hfail⟩
    · rw [hsk, Option.elim_none, hno] at hgo
      have h := replayAt_resent (by rw [hl]; exact hf) hr t p
      refine ⟨_, congrArg Host.Outcome.next hgo, ?_, h.sent, h.other, h.memory⟩
      have hstep : (s.replayAt t c f p).stepOf c.lane = some t := by
        unfold State.stepOf
        rw [h.steps]
        exact ht
      show (((s.replayAt t c f p).modStep c.lane fun t => { t with replays := t.replays + 1 }).stepOf c.lane).map _ = _
      rw [stepOf_modStep_self hstep (fun t => { t with replays := t.replays + 1 }) fun _ => rfl]
      rfl

end Sys2Proof.Machine
end

section
/-!
PROOFS. Bay loads that begin, streams taken up, row chunks sent (O52).
-/
namespace Sys2Proof.Machine

/-! ### BAY_LOAD (R155 to R158) -/

/-- A record of a BAY_LOAD whose load on a slot has begun. -/
def Step.loadBegun (rec slot : Nat) (t : Step) : Step :=
  { t.modLive rec fun v => { v with started := true, todo := v.todo.filter fun n => n ≠ slot } with loads := keepLoads slot rec t.loads }

/-- A load begun on a slot of a BAY_LOAD, and noted in its record. -/
def State.loadOne (t : Step) (lane rec : Nat) (r : BayLoadR) (s : State) (e : Nat × Nat) : State :=
  (s.beginLoad t rec r e.1 e.2).modStep lane (Step.loadBegun rec e.1)

theorem doBayLoad_begins {s : State} {lane rec : Nat} {t : Step} {v : Live} {r : BayLoadR} (ht : s.stepOf lane = some t) (hw : s.works t = true)
    (hr : t.restore = []) (hv : t.liveAt rec = some v) (hop : v.op = .bayLoad r) (hh : s.lantern.hold = none) :
    doBayLoad lane rec s = (s.loadSlots t rec v.todo).foldl (State.loadOne t lane rec r) s := by
  unfold doBayLoad
  rw [ht]
  dsimp only
  rw [if_neg (by simp [hw]), if_neg (not_not_intro hr), hv]
  dsimp only
  rw [hop]
  dsimp only
  rw [if_neg (by simp [hh])]
  rfl

/-- The tile that a load brings: the one of the record and part it names, at the age of the Furrow's load. -/
def State.newTile (s : State) (t : Step) (idx : Nat) (r : BayLoadR) (slot f : Nat) : Tile :=
  let i := ((maskBits 8 r.slotMask).filter fun n => n < slot).length
  let cols := (List.range r.u).map (s.packColumn t.batch r i)
  let x := s.furrow f
  ⟨t.order, idx, r.part, cols.map fun c => c.1, (if bitOf (s.reg (aFurrow f 4)) 1 then bitsOf (s.reg (aFurrow f 4)) 8 6 else x.rot) % max 1 r.u, x.loads⟩

/-- A Furrow whose older bay is being loaded. -/
def Furrow.filling (tile : Tile) (ns : Nat) (x : Furrow) : Furrow :=
  { x with fill := some ⟨x.olderB, tile, ns⟩, rot := (x.rot + 1) % 2 ^ 24, loads := x.loads + 1 }

/-- The first column of a BAY_LOAD's slot whose bytes fail their parity, by its word. -/
def State.loadFault (s : State) (t : Step) (r : BayLoadR) (slot : Nat) : Option Nat :=
  ((List.range r.u).map (s.packColumn t.batch r ((maskBits 8 r.slotMask).filter fun n => n < slot).length)).findSome? fun c => c.2

theorem beginLoad_cases (s : State) (t : Step) (idx : Nat) (r : BayLoadR) (slot f : Nat) : s.beginLoad t idx r slot f =
    (s.loadFault t r slot).elim ((s.modFurrow f (Furrow.filling (s.newTile t idx r slot f) (s.loadNs f))).bump (aMill (8 * slot) 0x48))
      fun w => s.abortStep t.lane { status := stMemUncorrectable, block := 0x30, inst := 8 * slot, detail := w } idx := by
  unfold State.beginLoad State.loadFault
  dsimp only
  split
  · next w hw =>
    rw [hw]
    rfl
  · next hn =>
    rw [hn]
    rfl

theorem loadOne_only (t : Step) (lane rec : Nat) (r : BayLoadR) (s : State) (e : Nat × Nat) :
    ∃ rg fu st, State.loadOne t lane rec r s e = { s with regs := rg, furrows := fu, steps := st } := by
  unfold State.loadOne
  rw [beginLoad_cases]
  cases s.loadFault t r e.1 with
  | none =>
    rw [Option.elim_none, bump_only]
    exact ⟨_, _, _, rfl⟩
  | some w => exact ⟨_, _, _, rfl⟩

theorem loads_only (t : Step) (lane rec : Nat) (r : BayLoadR) : ∀ (l : List (Nat × Nat)) (s : State),
    ∃ rg fu st, l.foldl (State.loadOne t lane rec r) s = { s with regs := rg, furrows := fu, steps := st }
  | [], s => ⟨s.regs, s.furrows, s.steps, rfl⟩
  | e :: l, s => by
    obtain ⟨_, _, _, h⟩ := loadOne_only t lane rec r s e
    obtain ⟨rg, fu, st, h'⟩ := loads_only t lane rec r l (State.loadOne t lane rec r s e)
    refine ⟨rg, fu, st, ?_⟩
    rw [List.foldl_cons, h', h]

theorem granaryBad_of_good_parity {s : State} (h : s.memory.badParity = []) (a n : Nat) : s.granaryBad a n = none := by
  unfold State.granaryBad
  rw [h]
  rfl

theorem loadFault_of_good_parity {s : State} (h : s.memory.badParity = []) (t : Step) (r : BayLoadR) (slot : Nat) : s.loadFault t r slot = none := by
  unfold State.loadFault
  rw [List.findSome?_eq_none_iff]
  intro c hc
  obtain ⟨k, -, rfl⟩ := List.mem_map.mp hc
  unfold State.packColumn
  dsimp only
  split
  · rfl
  · rw [granaryBad_of_good_parity h, granaryBad_of_good_parity h, ite_self]

theorem loadOne_furrow {s : State} {f : Nat} (hf : f < s.furrows.length) (hp : s.memory.badParity = []) (t : Step) (lane rec : Nat) (r : BayLoadR) (slot : Nat) :
    (State.loadOne t lane rec r s (slot, f)).furrow f = (s.furrow f).filling (s.newTile t rec r slot f) (s.loadNs f) := by
  unfold State.loadOne
  rw [beginLoad_cases, loadFault_of_good_parity hp, Option.elim_none, bump_only]
  exact furrow_modFurrow_self hf _

/-! ### STREAM (R184, R297) -/

theorem doStream_cases {s : State} {lane rec : Nat} {t : Step} {v : Live} {r : StreamR} {f : Fetch} (ht : s.stepOf lane = some t) (hw : s.works t = true)
    (hr : t.restore = []) (hv : t.liveAt rec = some v) (hop : v.op = .stream r) (hs : v.started = false) (hh : s.lantern.hold = none)
    (hb : ∀ w ∈ t.live, w.idx < rec → w.op.kind ≠ 9 ∧ ((w.op.kind = 2 ∨ w.op.kind = 8) → w.started = true))
    {b : State} (hbe : (s.ensureFetch t rec).settle = b) (hf : (b.stepOf lane).bind (fun x => x.fetchOf rec) = some f) :
    doStream lane rec s = if f.ready = true then f.fault.elim (b.startStream t v r f).settle (fun x => b.abortStep lane x rec) else b := by
  have hno : (t.live.any fun w => decide (w.idx < rec) && (((w.op.kind = 2 || w.op.kind = 8) && !w.started) || w.op.kind = 9)) = false := by
    rw [List.any_eq_false]
    intro w hm h
    simp only [Bool.and_eq_true, Bool.or_eq_true, decide_eq_true_eq, Bool.not_eq_true'] at h
    obtain ⟨hlt, h⟩ := h
    obtain ⟨h9, h28⟩ := hb w hm hlt
    obtain ⟨hk, hst⟩ | h := h
    · exact Bool.false_ne_true (hst.symm.trans (h28 hk))
    · exact h9 h
  unfold doStream
  rw [ht]
  dsimp only
  rw [hv]
  dsimp only
  rw [hop]
  dsimp only
  rw [hno, if_neg (by simp [hw, hr, hs, hh]), hbe, hf]
  dsimp only
  cases f.ready with
  | false => rw [if_pos (by simp), if_neg Bool.false_ne_true]
  | true =>
    rw [if_neg (by simp), if_pos rfl]
    cases f.fault with
    | none => rw [Option.elim_none]
    | some x => rw [Option.elim_some]

/-! ### ROW_CHUNK_ARRIVAL (R179, R188 to R191) -/

theorem doRowChunkArrival_cases {s : State} {lane rec : Nat} {t : Step} {r : StreamR} {f : Fetch} {ev : ArrivalEv} (ht : s.stepOf lane = some t)
    (hw : s.works t = true) (hr : t.runningStream rec = some r) (hf : t.fetchOf rec = some f) (hp : s.passesOf lane rec ≠ []) (hs : r.slot = ev.leader) :
    doRowChunkArrival lane rec ev s = (((s.passesOf lane rec).foldl (fun s m => s.arriveOn lane rec ev m.1) s).checkEnd lane rec r.slot).settle := by
  unfold doRowChunkArrival
  rw [ht]
  dsimp only
  rw [hr, hf]
  dsimp only
  rw [if_neg (by simp [hw, hs, hp])]

/-- Nothing is found at the end of a stream while every member has row chunks to come. -/
theorem checkEnd_of_unsent {s : State} {lane rec : Nat} (h : ∀ m ∈ s.passesOf lane rec, m.2.sent < m.2.total) (leader : Nat) : s.checkEnd lane rec leader = s := by
  have hno : ((s.passesOf lane rec).any fun m => decide (m.2.total ≤ m.2.sent)) = false := by
    rw [List.any_eq_false]
    intro m hm
    rw [decide_eq_true_eq]
    exact Nat.not_le.mpr (h m hm)
  unfold State.checkEnd
  split
  · rfl
  · rw [hno, if_neg Bool.false_ne_true]

theorem arriveOn_skew {s : State} {lane rec : Nat} {f : Fetch} {p : Pass} {ev : ArrivalEv} {g : Nat}
    (hf : (s.stepOf lane).bind (fun t => t.fetchOf rec) = some f) (hp : (s.furrow g).passOf lane rec = some p) (hst : p.started = true) (hlt : p.sent < p.total)
    {zp : Bool} {want got : Nat} (hc : f.chunkAt p.sent ev.expOff ev.zpOff = .skew zp want got) :
    s.arriveOn lane rec ev g = s.skew lane rec ev.leader zp want got := by
  unfold State.arriveOn
  rw [hf, hp]
  dsimp only
  rw [if_neg (by simp [hst, hlt]), hc]

theorem canTake_pass {s : State} {lane rec g : Nat} {p : Pass} (hp : (s.furrow g).passOf lane rec = some p) (h : s.canTake lane rec g = true) :
    p.started = true ∧ p.sent < p.total := by
  unfold State.canTake at h
  dsimp only at h
  rw [hp] at h
  simp only [Bool.and_eq_true, decide_eq_true_eq] at h
  obtain ⟨⟨⟨⟨⟨h1, h2⟩, -⟩, -⟩, -⟩, -⟩ := h
  exact ⟨h1, h2⟩

theorem arriveOn_sends {s : State} {lane rec : Nat} {f : Fetch} {p : Pass} {ev : ArrivalEv} {g : Nat}
    (hf : (s.stepOf lane).bind (fun t => t.fetchOf rec) = some f) (hp : s.passesOf lane rec = [(g, p)]) (ht : s.canTake lane rec g = true)
    {bytes : List Byte} {e z : Nat} (hc : f.chunkAt p.sent ev.expOff ev.zpOff = .chunk bytes e z) :
    s.arriveOn lane rec ev g = ((s.encode f.code.2.1 bytes).sendOn lane rec g p.sent f.code.2.1 bytes e z).noteDelivered lane rec (p.sent + 1) := by
  have hpo : (s.furrow g).passOf lane rec = some p := (mem_passesOf (m := (g, p)) (hp ▸ List.mem_singleton.mpr rfl)).2
  obtain ⟨hst, hlt⟩ := canTake_pass hpo ht
  unfold State.arriveOn
  rw [hf, hpo]
  dsimp only
  rw [if_neg (by simp [hst, hlt]), hc]
  dsimp only
  rw [if_pos ht, hp, if_pos (by simp)]

/-- A pass whose next row chunk has been sent. -/
def Pass.sentRow (row : Nat) (p : Pass) : Pass := { p with sent := row + 1, fed := max p.fed (row + 1) }

theorem lt_length_of_passOf {s : State} {g lane rec : Nat} {p : Pass} (hp : (s.furrow g).passOf lane rec = some p) : g < s.furrows.length := by
  refine Nat.lt_of_not_le fun hn => ?_
  have hd : s.furrow g = {} := getD_of_length_le _ _ hn
  rw [hd] at hp
  exact nomatch hp

theorem encode_furrows (s : State) (fmt : Nat) (bytes : List Byte) : (s.encode fmt bytes).furrows = s.furrows := by
  unfold State.encode
  rw [bump48_only, bump_only, bump_only]

/-- What a row chunk sent on a member leaves of the passes of its record. -/
theorem sendOn_passOf {s : State} {g lane rec : Nat} {p : Pass} (hp : (s.furrow g).passOf lane rec = some p) (row fmt : Nat) (bytes : List Byte) (e z : Nat) :
    ((s.sendOn lane rec g row fmt bytes e z).furrow g).passOf lane rec = some (p.sentRow row) ∧
      ∀ h, h ≠ g → (s.sendOn lane rec g row fmt bytes e z).furrow h = s.furrow h := by
  have hlen := lt_length_of_passOf hp
  have hnp (u : State) (f k : Nat) : (u.notePeak f).furrow k = u.furrow k := rfl
  have hcs (u : State) (hu : g < u.furrows.length) (n : Nat) : ((u.countSymbols g 0x70 n).furrow g).passOf lane rec = (u.furrow g).passOf lane rec := by
    unfold State.countSymbols
    rw [furrow_modFurrow_self (by rw [bump48_only]; exact hu), bump48_only]
    rfl
  unfold State.sendOn
  dsimp only
  generalize hc : ({ lane := lane, record := rec, row := row, fmt := fmt, sent := _, exps := e } : Chunk) = c
  refine ⟨?_, fun h hne => ?_⟩
  · rw [hnp, hcs _ (by rw [modPass_length, modFurrow_length]; exact hlen)]
    refine (passOf_modPass (by rw [modFurrow_length]; exact hlen) lane rec (k := Pass.sentRow row) fun _ => ⟨rfl, rfl⟩).trans ?_
    rw [furrow_modFurrow_self hlen]
    exact congrArg (Option.map (Pass.sentRow row)) hp
  · rw [hnp, countSymbols_other _ hne, modPass_furrow_other _ hne, furrow_modFurrow_other _ hne]

theorem mem_passesOf_iff {s : State} {lane rec : Nat} {m : Nat × Pass} : m ∈ s.passesOf lane rec ↔ m.1 < 10 ∧ (s.furrow m.1).passOf lane rec = some m.2 :=
  ⟨mem_passesOf, fun h => List.mem_filterMap.mpr ⟨m.1, List.mem_range.mpr h.1, by rw [h.2]; rfl⟩⟩

/-- A row chunk sent on the one member of a STREAM leaves its pass as the only one. -/
theorem sendOn_unsent {s : State} {g lane rec : Nat} {p : Pass} (hp : s.passesOf lane rec = [(g, p)]) (hlt : p.sent + 1 < p.total) (fmt : Nat) (bytes : List Byte)
    (e z k : Nat) : ∀ m ∈ (((s.encode fmt bytes).sendOn lane rec g p.sent fmt bytes e z).noteDelivered lane rec k).passesOf lane rec, m.2.sent < m.2.total := by
  have hpo : ((s.encode fmt bytes).furrow g).passOf lane rec = some p := by
    unfold State.furrow
    rw [encode_furrows]
    exact (mem_passesOf (m := (g, p)) (hp ▸ List.mem_singleton.mpr rfl)).2
  obtain ⟨hself, hother⟩ := sendOn_passOf hpo p.sent fmt bytes e z
  intro m hm
  obtain ⟨hlt10, hm⟩ := mem_passesOf hm
  obtain ⟨w, hw⟩ : ∃ w, (s.encode fmt bytes).sendOn lane rec g p.sent fmt bytes e z = w := ⟨_, rfl⟩
  rw [hw] at hself hother hm
  have hm' : (w.furrow m.1).passOf lane rec = some m.2 := hm
  by_cases hg : m.1 = g
  · rw [hg, hself] at hm'
    rw [← Option.some.inj hm']
    exact hlt
  · rw [hother _ hg] at hm'
    unfold State.furrow at hm'
    rw [encode_furrows] at hm'
    have hin : m ∈ s.passesOf lane rec := mem_passesOf_iff.mpr ⟨hlt10, hm'⟩
    rw [hp, List.mem_singleton] at hin
    exact absurd (congrArg Prod.fst hin) hg

/-- Settles O52. -/
theorem streamsAndRowChunks : Obligations.StreamsAndRowChunks := by
  refine ⟨?_, ?_, ?_⟩
  · intro s lane rec t v r ht hw hr hv hop hh
    have hgo := doBayLoad_begins ht hw hr hv hop hh
    obtain ⟨rg, fu, st, e⟩ := loads_only t lane rec r (s.loadSlots t rec v.todo) s
    refine ⟨_, congrArg Host.Outcome.next hgo, ?_, fun hn => by rw [hn]; rfl, by rw [e], fun slot f hl hp hf hlen => ?_⟩
    · unfold State.onlyEngines
      rw [e]
    · rw [hl]
      exact ⟨s.newTile t rec r slot f, loadOne_furrow (by rw [hlen]; exact hf) hp t lane rec r slot, rfl, rfl⟩
  · intro s lane rec t v r f ht hw hr hv hop hs hh hb b hf
    have hbe : (s.ensureFetch t rec).settle = b := rfl
    clear_value b
    have hgo := doStream_cases ht hw hr hv hop hs hh hb hbe hf
    refine ⟨fun h1 => ?_, fun x h1 h2 => ?_, fun h1 h2 => ?_⟩
    · rw [h1, if_neg Bool.false_ne_true] at hgo
      exact congrArg Host.Outcome.next hgo
    · rw [h1, if_pos rfl, h2, Option.elim_some] at hgo
      exact congrArg Host.Outcome.next hgo
    · rw [h1, if_pos rfl, h2, Option.elim_none] at hgo
      exact congrArg Host.Outcome.next hgo
  · intro s lane rec t r f ev ht hw hr hf hp hs
    have hgo := doRowChunkArrival_cases ht hw hr hf hp hs
    refine ⟨congrArg Host.Outcome.next hgo, fun g p hone => ?_⟩
    have hpo : (s.furrow g).passOf lane rec = some p := (mem_passesOf (m := (g, p)) (hone ▸ List.mem_singleton.mpr rfl)).2
    have hfo : (s.stepOf lane).bind (fun t => t.fetchOf rec) = some f := by
      rw [ht]
      exact hf
    rw [hone, List.foldl_cons, List.foldl_nil] at hgo
    refine ⟨fun bytes e z hct hc hlt => ?_, fun zp want got hst hlt hc => ?_⟩
    · dsimp only at hgo
      rw [arriveOn_sends hfo hone hct hc, checkEnd_of_unsent fun m hm => ?_] at hgo
      · exact congrArg Host.Outcome.next hgo
      · exact sendOn_unsent hone hlt _ _ _ _ _ m hm
    · dsimp only at hgo
      rw [arriveOn_skew hfo hpo hst hlt hc, checkEnd_of_unsent fun m hm => ?_] at hgo
      · exact ⟨congrArg Host.Outcome.next hgo, (skew_spec ht hw rec ev.leader zp want got).2⟩
      · have hpass : (s.skew lane rec ev.leader zp want got).passesOf lane rec = s.passesOf lane rec := by
          obtain ⟨⟨_, _, e⟩, -⟩ := skew_spec ht hw rec ev.leader zp want got
          rw [e]
          rfl
        rw [hpass, hone, List.mem_singleton] at hm
        rw [hm]
        exact hlt

end Sys2Proof.Machine
end

section
/-!
PROOFS. Records that compute, and the returns of reads (O56).
-/
namespace Sys2Proof.Machine

/-! ### EPILOGUE (R236 to R244) -/

theorem writeColumns_steps (s : State) (lane a stride : Nat) (cols : List (List Byte)) : (s.writeColumns lane a stride cols).steps = s.steps :=
  (State.memOnly.foldl (fun s (c : List Byte × Nat) => memOnly_writeMem s (.lane lane) (a + c.2 * stride) c.1) cols.zipIdx s).steps

theorem writeCodes_steps (s : State) (lane : Nat) (r : EpilogueR) (bytes a stride : Nat) (cs : List (List Code)) :
    (s.writeCodes lane r bytes a stride cs).steps = s.steps :=
  (memOnly_writeMem _ _ _ _).steps.trans (writeColumns_steps _ _ _ _ _)

theorem epiWrite_steps (s : State) (lane : Nat) (r : EpilogueR) (ys : List (List Nat)) : (s.epiWrite lane r ys).2.steps = s.steps := by
  unfold State.epiWrite
  split
  · exact writeCodes_steps _ _ _ _ _ _ _
  · exact writeCodes_steps _ _ _ _ _ _ _
  · exact writeColumns_steps _ _ _ _ _
  · exact writeColumns_steps _ _ _ _ _

theorem bump_steps (s : State) (a n : Nat) : (s.bump a n).steps = s.steps := by rw [bump_only]

theorem countSlots_steps (s : State) (r : EpilogueR) (cs : List (List Code)) (rerun : Bool) : (s.countSlots r cs rerun).steps = s.steps := by
  have hone (s : State) (f n : Nat) (c : Nat) : ((s.bump48 (aTally f 0x30) n).bump (aTally f 0x38) c).steps = s.steps := by
    rw [bump_steps, bump48_only]
  unfold State.countSlots
  generalize r.slots.zipIdx = l
  induction l generalizing s with
  | nil => rfl
  | cons n l ih =>
    rw [List.foldl_cons, ih]
    cases s.furrowOf n.1 with
    | none => rfl
    | some f =>
      dsimp only
      split
      · rfl
      · split
        · exact (bump_steps _ _ _).trans (hone _ _ _ _)
        · exact hone _ _ _ _

theorem epiStats_steps (s : State) (lane : Nat) (r : EpilogueR) (ys : List (List Nat)) : (s.epiStats lane r ys).steps = s.steps := by
  have hw (b : List Byte) : (s.writeMem (.lane lane) r.stats b).steps = s.steps := (memOnly_writeMem _ _ _ _).steps
  unfold State.epiStats
  dsimp only
  split
  · rfl
  · split
    · exact hw _
    · split
      · exact (bump_steps _ _ _).trans ((bump_steps _ _ _).trans (hw _))
      · exact (bump_steps _ _ _).trans (hw _)

/-- An EPILOGUE whose first conversion has been made, with the elements it clipped and the limit of their share. -/
def Live.converted (c limit : Nat) (v : Live) : Live := { v with started := true, clipped := some (c, limit) }

/-- The step of an EPILOGUE whose first conversion has been made. -/
def Step.converted (rec : Nat) (r : EpilogueR) (c limit : Nat) (t : Step) : Step :=
  { t.modLive rec (Live.converted c limit) with touched := t.touched ++ if r.wideRun c limit then r.wideRanges else [] }

/-- What an EPILOGUE writes and counts at its first conversion. -/
def State.epiDone (s : State) (lane : Nat) (r : EpilogueR) : State :=
  ((s.epiWrite lane r (s.epiOut r)).2.countSlots r (s.epiWrite lane r (s.epiOut r)).1 false).epiStats lane r (s.epiOut r)

/-- The limit of an EPILOGUE's clipped share (R240). -/
def State.clipLimitOf (s : State) (r : EpilogueR) : Nat := if r.flag 5 then r.clipLimit else s.fld (aWindrow 0x10) 0 16

theorem doEpilogue_converts {s : State} {lane rec : Nat} {t : Step} {v : Live} {r : EpilogueR} (ht : s.stepOf lane = some t) (hv : t.liveAt rec = some v)
    (hop : v.op = .epilogue r) (hw : s.works t = true) (hs : v.started = false) (hb : ∀ w ∈ t.live, w.idx < rec → r.waitsFor t w = false)
    (hg : s.epiBad r = none) : doEpilogue lane rec s =
      (s.epiDone lane r).modStep lane (Step.converted rec r (((s.epiWrite lane r (s.epiOut r)).1.map clippedCount).sum) ((s.epiDone lane r).clipLimitOf r)) := by
  have hno : (t.live.any fun v => decide (v.idx < rec) && r.waitsFor t v) = false := by
    rw [List.any_eq_false]
    intro w hm h
    obtain ⟨h1, h2⟩ := Bool.and_eq_true_iff.mp h
    exact Bool.false_ne_true ((hb w hm (of_decide_eq_true h1)).symm.trans h2)
  obtain ⟨idx, op, started, a, b, c⟩ := v
  dsimp only at hop hs
  subst hop hs
  unfold doEpilogue
  rw [ht]
  dsimp only
  rw [hv]
  dsimp only
  rw [if_neg (by simp [hw, hno]), hg]
  rfl

theorem liveAt_modLive {t : Step} {rec : Nat} {v : Live} (hv : t.liveAt rec = some v) (g : Live → Live) (hg : ∀ x, (g x).idx = x.idx) :
    (t.modLive rec g).liveAt rec = some (g v) := by
  unfold Step.liveAt Step.modLive at *
  dsimp only
  generalize t.live = l at hv ⊢
  induction l with
  | nil => exact nomatch hv
  | cons w l ih =>
    rw [List.find?_cons] at hv
    rw [List.map_cons, List.find?_cons]
    by_cases h : w.idx = rec
    · rw [decide_eq_true h] at hv
      rw [if_pos h, decide_eq_true ((hg w).trans h), Option.some.inj hv]
    · rw [decide_eq_false h] at hv
      rw [if_neg h, decide_eq_false h]
      exact ih hv

theorem epilogue_converts {s : State} {lane rec : Nat} {t : Step} {v : Live} {r : EpilogueR} (ht : s.stepOf lane = some t) (hv : t.liveAt rec = some v)
    (hop : v.op = .epilogue r) (hw : s.works t = true) (hs : v.started = false) (hb : ∀ w ∈ t.live, w.idx < rec → r.waitsFor t w = false)
    (hg : s.epiBad r = none) : ∃ u limit, doEpilogue lane rec s = u ∧
      (u.stepOf lane).bind (fun y => y.liveAt rec) = some (v.converted (((s.epiWrite lane r (s.epiOut r)).1.map clippedCount).sum) limit) ∧
      (r.flag 5 = true → limit = r.clipLimit) := by
  have hgo := doEpilogue_converts ht hv hop hw hs hb hg
  have hsteps : (s.epiDone lane r).steps = s.steps :=
    (epiStats_steps _ _ _ _).trans ((countSlots_steps _ _ _ _).trans (epiWrite_steps _ _ _ _))
  generalize s.epiDone lane r = w at hgo hsteps
  generalize ((s.epiWrite lane r (s.epiOut r)).1.map clippedCount).sum = c at hgo ⊢
  refine ⟨_, w.clipLimitOf r, hgo, ?_, fun h => if_pos h⟩
  have hst : w.stepOf lane = some t := by
    unfold State.stepOf
    rw [hsteps]
    exact ht
  rw [stepOf_modStep_self hst (Step.converted rec r c (w.clipLimitOf r)) fun _ => rfl]
  exact liveAt_modLive hv (Live.converted c (w.clipLimitOf r)) fun _ => rfl

/-! ### CLIP_DECISION (R240, R241) -/

/-- An EPILOGUE complete, with its outcome word and what its decision was. -/
def State.clipDone (w : State) (lane rec : Nat) (r : EpilogueR) (word : Nat) (wide : Bool) : State :=
  ((w.writeMem (.lane lane) r.outcome (le 4 word)).modStep lane fun y => { y.complete rec with clips := (rec, wide) :: y.clips }).settle

/-- What a CLIP_DECISION runs before it writes the outcome word: the re-run, or nothing. -/
def State.clipRun (s : State) (lane rec : Nat) (r : EpilogueR) (c limit : Nat) : Nat × State :=
  if r.wideRun c limit then s.epiRerun lane rec r else (0, s)

theorem doClipDecision_cases {s : State} {lane rec : Nat} {t : Step} {v : Live} {r : EpilogueR} {c limit : Nat} (ht : s.stepOf lane = some t)
    (hv : t.liveAt rec = some v) (hop : v.op = .epilogue r) (hw : s.works t = true) (hc : v.clipped = some (c, limit)) :
    doClipDecision lane rec s = (s.clipRun lane rec r c limit).2.clipDone lane rec r
      (b2n (r.wideRun c limit) + 2 * b2n (r.exceeds c limit) + 4 * b2n (decide ((s.clipRun lane rec r c limit).1 ≠ 0)) + 256 * min c (2 ^ 24 - 1)) (r.wideRun c limit) := by
  obtain ⟨idx, op, started, a, b, cl⟩ := v
  dsimp only at hop hc
  subst hop hc
  unfold doClipDecision
  rw [ht]
  dsimp only
  rw [hv]
  dsimp only
  rw [if_neg (by simp [hw])]
  rfl

/-- A CLIP_DECISION that makes no re-run. -/
theorem doClipDecision_narrow {s : State} {lane rec : Nat} {t : Step} {v : Live} {r : EpilogueR} {c limit : Nat} (ht : s.stepOf lane = some t)
    (hv : t.liveAt rec = some v) (hop : v.op = .epilogue r) (hw : s.works t = true) (hc : v.clipped = some (c, limit)) (hn : r.wideRun c limit = false) :
    doClipDecision lane rec s = s.clipDone lane rec r (2 * b2n (r.exceeds c limit) + 256 * min c (2 ^ 24 - 1)) false := by
  have hrun : s.clipRun lane rec r c limit = (0, s) := by
    unfold State.clipRun
    rw [hn, if_neg Bool.false_ne_true]
  rw [doClipDecision_cases ht hv hop hw hc, hrun, hn]
  dsimp only
  rw [decide_eq_false (not_not_intro rfl)]
  exact congrArg (fun n => s.clipDone lane rec r n false) (by simp [b2n])

theorem doClipDecision_wide {s : State} {lane rec : Nat} {t : Step} {v : Live} {r : EpilogueR} {c limit : Nat} (ht : s.stepOf lane = some t)
    (hv : t.liveAt rec = some v) (hop : v.op = .epilogue r) (hw : s.works t = true) (hc : v.clipped = some (c, limit)) (hn : r.wideRun c limit = true)
    (he : r.exceeds c limit = true) : doClipDecision lane rec s = (s.epiRerun lane rec r).2.clipDone lane rec r
      (3 + 4 * b2n (decide ((s.epiRerun lane rec r).1 ≠ 0)) + 256 * min c (2 ^ 24 - 1)) true := by
  have hrun : s.clipRun lane rec r c limit = s.epiRerun lane rec r := by
    unfold State.clipRun
    rw [hn, if_pos rfl]
  rw [doClipDecision_cases ht hv hop hw hc, hrun, hn, he]
  exact congrArg (fun n => (s.epiRerun lane rec r).2.clipDone lane rec r n true) (by simp [b2n])

/-! ### MILL_OP, GLEAN and WINDROW_HOP (R231, R248, R280) -/

/-- The record named in the status of the Mills that begin it. -/
def State.millsNamed (s : State) (mills : List Nat) (n rec : Nat) : State :=
  ((List.range (min n mills.length)).map (millOf mills)).foldl (fun s m => s.setReg (aMill m 0x10) rec) s

theorem doMillOp_cases {s : State} {lane rec : Nat} {t : Step} {v : Live} {r : MillOpR} (ht : s.stepOf lane = some t) (hv : t.liveAt rec = some v)
    (hw : s.works t = true) (hop : v.op = .millOp r) (hb : s.millBusy t rec (s.effective r) = false) {b : State}
    (hbe : State.runItems t rec r (s.effective r) (List.range (r.itemCount t)) (s.millsNamed (s.effective r) (r.itemCount t) rec) = b) {u : Step}
    (hu : b.stepOf lane = some u) : doMillOp lane rec s = if u.failure.isSome = true then b
      else ((if r.op = 0x0A then b.runRouter t r (s.effective r) else b).modStep lane fun y => y.complete rec).settle := by
  unfold State.millsNamed at hbe
  unfold doMillOp
  rw [ht]
  dsimp only
  rw [hv]
  dsimp only
  rw [hop]
  dsimp only
  rw [if_neg (by simp [hw, hb]), hbe, hu]

theorem doGlean_cases {s : State} {lane rec : Nat} {t : Step} {v : Live} {r : GleanR} (ht : s.stepOf lane = some t) (hv : t.liveAt rec = some v)
    (hw : s.works t = true) (hop : v.op = .glean r) (hb : ∀ w ∈ t.live, w.idx < rec → w.op.kind ≠ 5) {b : Option Unit × State}
    (hbe : ((List.range 8).foldl (fun s g => s.setReg (aGleaner g 0x10) rec) s).gleanWork t rec r = b) :
    doGlean lane rec s = b.1.elim b.2 fun _ => (b.2.modStep lane fun y => y.complete rec).settle := by
  have hno : (t.live.any fun w => decide (w.idx < rec) && w.op.kind = 5) = false := by
    rw [List.any_eq_false]
    intro w hm h
    simp only [Bool.and_eq_true, decide_eq_true_eq] at h
    exact hb w hm h.1 h.2
  unfold doGlean
  rw [ht]
  dsimp only
  rw [hv]
  dsimp only
  rw [hop]
  dsimp only
  rw [if_neg (by simp [hw, hno]), hbe]
  obtain ⟨x, w⟩ := b
  cases x with
  | none => rw [Option.elim_none]
  | some y => rw [Option.elim_some]

theorem doWindrowHop_cases {s : State} {lane rec : Nat} {t : Step} {r : StreamR} (ht : s.stepOf lane = some t) (hw : s.works t = true)
    (hr : t.runningStream rec = some r) (hj : r.join ≠ 0) {b : State}
    (hb : (if r.join = 1 then s.chainHop lane rec r.chainMask r.slot else s.treeHop lane r.chainMask) = b) :
    doWindrowHop lane rec s = (((b.checkJoin lane rec r.chainMask).freeWaits lane).finishStreams lane).settle := by
  unfold doWindrowHop
  rw [ht]
  dsimp only
  rw [hr]
  dsimp only
  rw [if_neg (by simp [hw, hj]), hb]

/-! ### Returns and timeouts of reads (R204, R205, R216) -/

/-- Data that comes back for a tag which was reclaimed is dropped (R205). -/
theorem tagReturn_late {s : State} {tag : Nat} (h : tag ∈ s.reaper.reclaimed) : s.tagReturn ⟨tag, true⟩ =
    ({ s with reaper := { s.reaper with reclaimed := dropFirst tag s.reaper.reclaimed } } : State).bump (aReaper 0x7C) := by
  unfold State.tagReturn
  dsimp only
  rw [if_pos rfl, if_pos (List.contains_iff_mem.mpr h)]

/-- An ordinary read that returns keeps its data. -/
def State.keepData (s : State) (lane tag : Nat) (d : List Byte) : State := s.modPiece lane tag fun q => some { q with tag := none, data := d }

/-- An ordinary read that returns with an error marks its line. -/
def State.markLine (s : State) (lane tag a w : Nat) : State :=
  (s.noteFault a 1 false false).modPiece lane tag fun q => some { q with tag := none, fault := some (reaperMark w) }

theorem tagReturn_good {s : State} {tag : Nat} {t : Step} {f : Fetch} {p : Piece} (h : s.holderOfTag tag = some (t, f, p)) (ht : t.teardown = false)
    (hl : p.isList = false) {d : List Byte} {u : State} (hr : s.readMem 2 p.addr 256 = ((d, none), u)) : s.tagReturn ⟨tag, false⟩ = u.keepData t.lane tag d := by
  unfold State.tagReturn
  dsimp only
  rw [h]
  dsimp only
  rw [hr]
  dsimp only
  rw [if_neg Bool.false_ne_true, ht, if_neg Bool.false_ne_true, hl, if_neg Bool.false_ne_true]
  rfl

theorem tagReturn_bad {s : State} {tag : Nat} {t : Step} {f : Fetch} {p : Piece} (h : s.holderOfTag tag = some (t, f, p)) (ht : t.teardown = false)
    (hl : p.isList = false) (hs : p.spec = false) {d : List Byte} {w : Nat} {u : State} (hr : s.readMem 2 p.addr 256 = ((d, some w), u)) :
    s.tagReturn ⟨tag, false⟩ = u.markLine t.lane tag p.addr w := by
  unfold State.tagReturn
  dsimp only
  rw [h]
  dsimp only
  rw [hr]
  dsimp only
  rw [if_neg Bool.false_ne_true, ht, if_neg Bool.false_ne_true, hl, if_neg Bool.false_ne_true, hs, if_neg Bool.false_ne_true]
  rfl

/-- The tag of a read that has not returned in time is reclaimed (R205). -/
def State.reclaim (s : State) (tag : Nat) : State :=
  ({ s with reaper := { s.reaper with reclaimed := s.reaper.reclaimed ++ [tag] } } : State).bump (aReaper 0x78)

theorem reclaim_only (s : State) (tag : Nat) : ∃ rg, s.reclaim tag = { s with regs := rg, reaper := { s.reaper with reclaimed := s.reaper.reclaimed ++ [tag] } } := by
  unfold State.reclaim
  rw [bump_only]
  exact ⟨_, rfl⟩

/-- A speculative read that has not returned in time is given up (R217). -/
def State.dropRead (s : State) (lane tag : Nat) : State := (s.modPiece lane tag fun _ => none).bump (aReaper 0x6C)

/-- The line of an ordinary read that has not returned in time is marked (R218). -/
def State.timeoutLine (s : State) (lane tag a : Nat) : State :=
  s.modPiece lane tag fun q => some { q with tag := none, fault := some { status := stTagTimeout, block := 2, inst := 0, detail := a } }

theorem tagTimeout_eq {s : State} {tag : Nat} {t : Step} {f : Fetch} {p : Piece} (h : s.holderOfTag tag = some (t, f, p)) (ht : t.teardown = false)
    (hl : p.isList = false) : s.tagTimeout tag = if p.spec = true then ((s.reclaim tag).noteFault p.addr 2 p.spec false).dropRead t.lane tag
      else ((s.reclaim tag).noteFault p.addr 2 p.spec false).timeoutLine t.lane tag p.addr := by
  unfold State.tagTimeout
  dsimp only
  rw [h]
  dsimp only
  rw [ht, if_neg Bool.false_ne_true, hl, if_neg Bool.false_ne_true]
  rfl

theorem noteFault_only (s : State) (a kind : Nat) (spec tear : Bool) : ∃ rg, s.noteFault a kind spec tear = { s with regs := rg } := ⟨_, rfl⟩

theorem dropRead_only (s : State) (lane tag : Nat) : ∃ rg st, s.dropRead lane tag = { s with regs := rg, steps := st } := by
  unfold State.dropRead
  rw [bump_only]
  exact ⟨_, _, rfl⟩

theorem timeoutLine_only (s : State) (lane tag a : Nat) : ∃ st, s.timeoutLine lane tag a = { s with steps := st } := ⟨_, rfl⟩

theorem tagTimeout_spec {s : State} {tag : Nat} {t : Step} {f : Fetch} {p : Piece} (h : s.holderOfTag tag = some (t, f, p)) (ht : t.teardown = false)
    (hl : p.isList = false) : ∃ rg st, s.tagTimeout tag
      = { s with regs := rg, reaper := { s.reaper with reclaimed := s.reaper.reclaimed ++ [tag] }, steps := st } := by
  obtain ⟨_, h1⟩ := reclaim_only s tag
  obtain ⟨_, h2⟩ := noteFault_only (s.reclaim tag) p.addr 2 p.spec false
  rw [tagTimeout_eq h ht hl]
  split
  · obtain ⟨rg, st, h3⟩ := dropRead_only ((s.reclaim tag).noteFault p.addr 2 p.spec false) t.lane tag
    exact ⟨rg, st, by rw [h3, h2, h1]⟩
  · obtain ⟨st, h3⟩ := timeoutLine_only ((s.reclaim tag).noteFault p.addr 2 p.spec false) t.lane tag p.addr
    exact ⟨_, st, by rw [h3, h2, h1]⟩

/-- Settles O56. -/
theorem computingRecordsComplete : Obligations.ComputingRecordsComplete := by
  refine ⟨?_, ?_, ?_, ?_⟩
  · intro s lane rec t v r ht hv hop hw exceeds done
    have hex (c limit : Nat) : r.exceeds c limit = true ↔ exceeds c limit := decide_eq_true_iff
    have hdone (w : State) (word : Nat) (wide : Bool) : w.clipDone lane rec r word wide = done w word wide := rfl
    clear_value exceeds done
    refine ⟨fun hs hb hg => ?_, fun c limit hc => ⟨fun hn => ?_, fun he hf => ?_, fun he hf h4 => ?_⟩⟩
    · obtain ⟨u, limit, hgo, hx, hl⟩ := epilogue_converts ht hv hop hw hs hb hg
      exact ⟨u, _, limit, congrArg Host.Outcome.next hgo, hx, rfl, rfl, hl⟩
    · have he : r.exceeds c limit = false := by
        rw [Bool.eq_false_iff]
        exact fun h => hn ((hex c limit).mp h)
      have hgo := doClipDecision_narrow ht hv hop hw hc (by unfold EpilogueR.wideRun; rw [he]; rfl)
      rw [he, hdone] at hgo
      exact congrArg Host.Outcome.next (hgo.trans (congrArg (fun n => done s n false) (by simp [b2n])))
    · have he' : r.exceeds c limit = true := (hex c limit).mpr he
      have hn : r.wideRun c limit = false := by
        unfold EpilogueR.wideRun
        obtain h | h := hf
        · simp [h]
        · simp [h]
      have hgo := doClipDecision_narrow ht hv hop hw hc hn
      rw [he', hdone] at hgo
      exact congrArg Host.Outcome.next hgo
    · have he' : r.exceeds c limit = true := (hex c limit).mpr he
      have hgo := doClipDecision_wide ht hv hop hw hc (by unfold EpilogueR.wideRun; simp [he', hf, h4]) he'
      rw [hdone] at hgo
      exact congrArg Host.Outcome.next hgo
  · intro s lane rec t v ht hv hw
    refine ⟨fun r hop hb => ?_, fun r hop hb => ?_, fun r hr hj => ?_⟩
    · intro mills n b u hu
      have hbe : State.runItems t rec r (s.effective r) (List.range (r.itemCount t)) (s.millsNamed (s.effective r) (r.itemCount t) rec) = b := rfl
      clear_value b
      have hgo := doMillOp_cases ht hv hw hop hb hbe hu
      refine ⟨fun hf => ?_, fun hf => ?_⟩
      · rw [if_pos (Option.isSome_iff_ne_none.mpr hf)] at hgo
        exact congrArg Host.Outcome.next hgo
      · rw [hf, Option.isSome_none, if_neg Bool.false_ne_true] at hgo
        exact congrArg Host.Outcome.next hgo
    · intro b
      have hbe : ((List.range 8).foldl (fun s g => s.setReg (aGleaner g 0x10) rec) s).gleanWork t rec r = b := rfl
      clear_value b
      have hgo := doGlean_cases ht hv hw hop hb hbe
      refine ⟨fun hn => ?_, fun hn => ?_⟩
      · rw [hn, Option.elim_none] at hgo
        exact congrArg Host.Outcome.next hgo
      · obtain ⟨x, hx⟩ := Option.ne_none_iff_exists'.mp hn
        rw [hx, Option.elim_some] at hgo
        exact congrArg Host.Outcome.next hgo
    · intro b
      have hb : (if r.join = 1 then s.chainHop lane rec r.chainMask r.slot else s.treeHop lane r.chainMask) = b := rfl
      clear_value b
      exact congrArg Host.Outcome.next (doWindrowHop_cases ht hw hr hj hb)
  · intro s tag h
    exact congrArg (fun u : State => Host.Outcome.next u.settle) (tagReturn_late h)
  · intro s tag t f p h ht hl r
    have hre : s.readMem 2 p.addr 256 = r := rfl
    clear_value r
    obtain ⟨⟨d', x⟩, u⟩ := r
    refine ⟨fun d hd => ?_, fun d w hd hs => ?_, ?_⟩
    · dsimp only at hd
      rw [hd] at hre
      exact congrArg (fun u : State => Host.Outcome.next u.settle) (tagReturn_good h ht hl hre)
    · dsimp only at hd
      rw [hd] at hre
      exact congrArg (fun u : State => Host.Outcome.next u.settle) (tagReturn_bad h ht hl hs hre)
    · obtain ⟨rg, st, e⟩ := tagTimeout_spec h ht hl
      exact ⟨_, rfl, congrArg (fun u : State => u.reaper.reclaimed) e, by rw [e]⟩

end Sys2Proof.Machine
end

section
/-!
SUPPORT. What a sample of the Vane keeps (R342 to R351), and the comb sources: fades judged, spares taken, exchanges made
(R355 to R358).
-/
namespace Sys2Proof.Machine

/-! ### One sample of the Vane -/

/-- A sample of the Vane goes on: clocks, memory, device state, the supply it read and the banks stay. -/
structure State.samples (s t : State) : Prop where
  clocks : t.clocks = s.clocks
  memory : t.memory = s.memory
  dev : t.dev = s.dev
  supply : t.vane.supply = s.vane.supply
  pending : t.vane.swapPending = s.vane.swapPending
  bank : t.vane.bankBActive = s.vane.bankBActive

namespace State.samples
variable {s t u : State}

theorem refl (s : State) : s.samples s := ⟨rfl, rfl, rfl, rfl, rfl, rfl⟩

theorem trans (h : s.samples t) (k : t.samples u) : s.samples u :=
  ⟨k.clocks.trans h.clocks, k.memory.trans h.memory, k.dev.trans h.dev, k.supply.trans h.supply, k.pending.trans h.pending, k.bank.trans h.bank⟩

theorem foldl {β : Type} {f : State → β → State} (hf : ∀ (s : State) (x : β), s.samples (f s x)) : ∀ (l : List β) (s : State), s.samples (l.foldl f s)
  | [], s => refl s
  | x :: l, s => (hf s x).trans (foldl hf l (f s x))

theorem regs (s : State) (rg : List (Nat × Word)) : s.samples { s with regs := rg } := ⟨rfl, rfl, rfl, rfl, rfl, rfl⟩

theorem bump (s : State) (a n : Nat) : s.samples (s.bump a n) := by
  rw [bump_only]
  exact regs s _

theorem loops (s : State) (fu : List Furrow) (sl : List (Nat × LoopState)) (dr : List (Nat × Int)) (wm : Bool) (zn : List (Nat × Int)) :
    s.samples { s with furrows := fu, vane := { s.vane with slots := sl, drives := dr, warm := wm, zones := zn } } := ⟨rfl, rfl, rfl, rfl, rfl, rfl⟩

theorem throttle (s : State) (d c : Nat) (b : Bool) : s.samples { s with vane := { s.vane with duty := d, throttled := b, calmSamples := c } } :=
  ⟨rfl, rfl, rfl, rfl, rfl, rfl⟩

theorem reply (s : State) (h : ReqHdr) (op st : Nat) (d : List Byte) : s.samples (s.reply h op st d) := by
  rw [reply_only]
  exact ⟨rfl, rfl, rfl, rfl, rfl, rfl⟩

end State.samples

theorem samples_furrowLocks (s : State) : s.samples s.furrowLocks := by
  unfold State.furrowLocks
  refine .foldl (fun u f => ?_) _ s
  exact ⟨rfl, rfl, rfl, rfl, rfl, rfl⟩

theorem samples_heatThrottle (s : State) : s.samples s.heatThrottle := by
  have hcalm (c : Nat) : s.samples { s with vane := { s.vane with calmSamples := c } } := .throttle s s.vane.duty c s.vane.throttled
  unfold State.heatThrottle
  dsimp only
  split
  · split
    · exact .throttle s _ _ _
    · exact (State.samples.throttle s _ _ _).trans (.bump _ _ _)
  · split
    · exact .refl s
    · split
      · exact hcalm 0
      · split
        · exact hcalm _
        · exact .throttle s _ _ _

theorem samples_answerSwaps (s : State) : s.samples s.answerSwaps := by
  unfold State.answerSwaps
  refine .foldl (fun u l => ?_) _ s
  split
  · split
    · exact .reply u _ _ _ _
    · exact .refl u
  · exact .refl u

theorem samples_combLocks (s : State) : s.samples s.combLocks := ⟨rfl, rfl, rfl, rfl, rfl, rfl⟩

/-- A state as a sample of the Vane finds it: the banks swapped where a swap waits, entries written, the sample counted. -/
def State.sampleBegun (s : State) (inp : VaneInput) : State :=
  let w := (if s.vane.swapPending then s.swapBanks else s).applyWrites
  { w with clocks := { w.clocks with samples := w.clocks.samples + 1 }, vane := { w.vane with supply := inp.supply } }

theorem doVaneSample_samples {s : State} (h : s.vaneLevel ≠ 0) (inp : VaneInput) : (s.sampleBegun inp).samples (doVaneSample inp s) := by
  unfold doVaneSample
  rw [if_neg h]
  extract_lets a b cl va w run outs acts wins isWin done off drives misses losses relocks rest vb x y z
  have hw : s.sampleBegun inp = w := rfl
  rw [hw]
  have hx : w.samples x := .loops w _ _ _ _ _
  clear_value w x
  have hy : w.samples y := ((hx.trans (.bump _ _ _)).trans (.bump _ _ _)).trans (.bump _ _ _)
  have hz : w.samples z := by
    clear_value y
    unfold z
    split
    · exact hy.trans (.regs _ _)
    · exact hy
  exact hz.trans (((samples_combLocks _).trans (samples_furrowLocks _)).trans ((samples_heatThrottle _).trans (samples_answerSwaps _)))

/-- Entries written into both banks change the loops only, and not which bank is active (R350). -/
theorem applyWrites_only (s : State) : ∃ va, s.applyWrites = { s with vane := va } ∧ va.bankBActive = s.vane.bankBActive ∧ va.swapPending = s.vane.swapPending := by
  unfold State.applyWrites
  generalize s.vane.pendingWrites = l
  have hfold : ∀ (l : List (Nat × LoopEntry)) (u : State), ∃ va, (l.foldl (fun s w =>
      let v := s.vane.write true true w.1 w.2
      { s with vane := { v with slots := if w.2.enable then put v.slots w.1 {} else del v.slots w.1 } }) u) = { u with vane := va } ∧
        va.bankBActive = u.vane.bankBActive ∧ va.swapPending = u.vane.swapPending := by
    intro l
    induction l with
    | nil => exact fun u => ⟨u.vane, rfl, rfl, rfl⟩
    | cons w l ih =>
      intro u
      obtain ⟨va, e, h1, h2⟩ := ih { u with vane := { u.vane.write true true w.1 w.2 with
        slots := if w.2.enable then put (u.vane.write true true w.1 w.2).slots w.1 {} else del (u.vane.write true true w.1 w.2).slots w.1 } }
      exact ⟨va, e, h1, h2⟩
  obtain ⟨va, e, h1, h2⟩ := hfold l { s with vane := { s.vane with pendingWrites := [] } }
  exact ⟨va, e, h1, h2⟩

theorem swapIf_only (s : State) : ∃ rg va, (if s.vane.swapPending then s.swapBanks else s) = { s with regs := rg, vane := va } ∧
    va.bankBActive = (s.vane.bankBActive != s.vane.swapPending) ∧ va.swapPending = false := by
  cases hp : s.vane.swapPending
  · exact ⟨s.regs, s.vane, rfl, (Bool.bne_false _).symm, hp⟩
  · rw [if_pos rfl]
    unfold State.swapBanks
    dsimp only
    rw [bump_only]
    exact ⟨_, _, rfl, (Bool.bne_true _).symm, rfl⟩

theorem sampleBegun_spec (s : State) (inp : VaneInput) : (s.sampleBegun inp).clocks = { s.clocks with samples := s.clocks.samples + 1 } ∧
    (s.sampleBegun inp).vane.supply = inp.supply ∧ (s.sampleBegun inp).vane.swapPending = false ∧
    (s.sampleBegun inp).vane.bankBActive = (s.vane.bankBActive != s.vane.swapPending) ∧ (s.sampleBegun inp).memory = s.memory ∧
    (s.sampleBegun inp).dev = s.dev := by
  obtain ⟨_, _, e, hb, hp⟩ := swapIf_only s
  unfold State.sampleBegun
  generalize (if s.vane.swapPending then s.swapBanks else s) = w at e ⊢
  subst e
  obtain ⟨_, e', hb', hp'⟩ := applyWrites_only { s with regs := _, vane := _ }
  rw [e']
  exact ⟨rfl, rfl, hp'.trans hp, hb'.trans hb, rfl, rfl⟩

/-! ### Comb sources -/

theorem source_modSource_self {s : State} {n : Nat} (hn : n < s.sources.length) (g : Source → Source) : (s.modSource n g).source n = g (s.source n) := by
  show (setAt s.sources n _).getD n {} = _
  rw [setAt_getD, if_pos ⟨rfl, hn⟩]

theorem source_modSource_other (s : State) {n k : Nat} (hk : k ≠ n) (g : Source → Source) : (s.modSource n g).source k = s.source k := by
  show (setAt s.sources n _).getD k {} = _
  rw [setAt_getD, if_neg fun h : k = n ∧ n < s.sources.length => hk h.1]
  rfl

theorem modSource_length (s : State) (n : Nat) (g : Source → Source) : (s.modSource n g).sources.length = s.sources.length := setAt_length _ _ _

/-- A source's power, and the fade judged by it. -/
def Source.judged (x : Source) : Int × Int × Nat := (x.power, x.fadeDb, x.fade)

theorem judged_modSource (s : State) (n k : Nat) {g : Source → Source} (hg : ∀ x, (g x).judged = x.judged) :
    ((s.modSource n g).source k).judged = (s.source k).judged := by
  by_cases hk : k = n ∧ n < s.sources.length
  · rw [hk.1, source_modSource_self hk.2, hg]
  · show ((setAt s.sources n _).getD k {}).judged = _
    rw [setAt_getD, if_neg hk]
    rfl

theorem judged_startWarm (s : State) (sp out k : Nat) : ((s.startWarm sp out).source k).judged = (s.source k).judged :=
  judged_modSource ((s.restartSlots (sourceSlots sp)).moveTarget (3232 + 3 * sp) (Config.spareTarget sp out)) sp k
    (g := fun x => { x with warming := true, ready := false }) fun _ => rfl

/-- Spares taken leave the powers and fades as they were judged (R356). -/
theorem judged_assignSpares (k : Nat) : ∀ (n : Nat) (s : State), ((State.assignSpares n s).source k).judged = (s.source k).judged
  | 0, _ => rfl
  | n + 1, s => by
    unfold State.assignSpares
    split
    · rfl
    · next e _ =>
      split
      · exact (judged_assignSpares k n _).trans (judged_startWarm _ _ _ k)
      · refine (judged_assignSpares k n _).trans ?_
        split
        · split
          · rw [reply_only]
            rfl
          · rfl
        · rfl

theorem assignSpares_of_none {s : State} (h : s.exchanges = []) (n : Nat) : State.assignSpares n s = s := by
  cases n with
  | zero => rfl
  | succ n =>
    have hd : s.deepestWaiting = none := by
      unfold State.deepestWaiting
      rw [h]
      rfl
    unfold State.assignSpares
    rw [hd]

/-! ### A fade judged (R355) -/

theorem sources_noteFade (s : State) (c : Prop) [Decidable c] (a : Nat) (r : Record) (b : Option Blk) :
    (if c then (s.bump a).raise r b else s).sources = s.sources := by
  split
  · obtain ⟨_, _, _, _, e⟩ := raise_only (s.bump a) r b
    rw [e, bump_only]
  · rfl

theorem sources_queueIf (s : State) (c : Prop) [Decidable c] (e : Exchange) : (if c then s.queueExchange e else s).sources = s.sources := by
  unfold State.queueExchange
  split
  · split <;> rfl
  · rfl

/-- A source with its powers of the last milliseconds and what they say of its fade. -/
def Source.withFade (l : List Int) (p db : Int) (new : Nat) (x : Source) : Source := { x with powers := l, power := p, fadeDb := db, fade := new }

theorem judgeFade_source {s : State} {n : Nat} (hn : n < s.sources.length) (hr : (s.source n).role = 0) (now : Int) {l : List Int}
    (hl : (now :: (s.source n).powers).take (max 1 (s.fld (aSources 0x18) 0 10)) = l) : (s.judgeFade n now).source n =
      (s.source n).withFade l (meanPower l) (meanPower l - (s.source n).cal) (fadeState (asSigned 16 (s.fld (aSources 0x14) 0 16))
        (asSigned 16 (s.fld (aSources 0x14) 16 16)) (meanPower l - (s.source n).cal) (s.source n).fade) := by
  have hsrc (a b : Source → Source) : ((s.modSource n a).modSource n b).source n = b (a (s.source n)) := by
    rw [source_modSource_self (by rw [modSource_length]; exact hn), source_modSource_self hn]
  unfold State.source at hr
  unfold State.judgeFade State.source
  unfold State.source at hl
  dsimp only
  rw [hl, if_neg (not_not_intro hr), sources_queueIf, sources_noteFade, sources_noteFade]
  exact hsrc (fun x => { x with powers := l }) _

/-! ### Spares and exchanges (R356, R357) -/

theorem betweenGates_of_no_steps {s : State} (h : s.steps = []) : s.betweenGates = true := by
  have hn (l : Nat) : s.stepOf l = none := by
    unfold State.stepOf
    rw [h]
    rfl
  unfold State.betweenGates
  cases s.reaper.holder with
  | none => rfl
  | some l => rw [Option.bind_some, hn]

/-- What a switch that moves, and what counts of an exchange, leave alone. -/
theorem moveSwitch_sources (s : State) : s.moveSwitch.sources = s.sources ∧ s.moveSwitch.exchanges = s.exchanges := ⟨rfl, rfl⟩

/-- A source as an exchange takes it out of service. -/
def Source.takenOut (x : Source) : Source := { x with role := 2, furrow := 0xF, fade := 0, locked := false, powers := [] }

/-- A spare as an exchange puts it into service on a Furrow. -/
def Source.putIn (f : Nat) (x : Source) : Source := { x with role := 0, furrow := f, ready := false, warming := false, fade := 0, fadeDb := 0, powers := [] }

/-- What an exchange changes among the sources, and that it is no longer pending. -/
theorem exchange_sources (s : State) (e : Exchange) (into reason : Nat) :
    (s.exchange e into reason).sources = (((s.modSource e.out Source.takenOut).offSource e.out).modSource into (Source.putIn (s.source e.out).furrow)).sources ∧
      (s.exchange e into reason).exchanges = s.exchanges.filter fun x => x.out ≠ e.out := by
  unfold State.exchange
  dsimp only
  rw [(moveSwitch_sources _).1, (moveSwitch_sources _).2]
  split
  · rw [bump_only, bump_only]
    exact ⟨rfl, rfl⟩
  · rw [bump_only]
    exact ⟨rfl, rfl⟩

theorem exchange_spec {s : State} (e : Exchange) {into : Nat} (hi : into < s.sources.length) (ho : e.out < s.sources.length) (hne : e.out ≠ into) (reason : Nat) :
    (s.exchange e into reason).source into = (s.source into).putIn (s.source e.out).furrow ∧
      (s.exchange e into reason).source e.out = (s.source e.out).takenOut ∧
      ∀ k, k ≠ into → k ≠ e.out → (s.exchange e into reason).source k = s.source k := by
  have hso (k : Nat) : (s.exchange e into reason).source k =
      (((s.modSource e.out Source.takenOut).offSource e.out).modSource into (Source.putIn (s.source e.out).furrow)).source k := by
    unfold State.source
    rw [(exchange_sources s e into reason).1]
    rfl
  have hoff (u : State) (k j : Nat) : (u.offSource k).source j = u.source j := rfl
  refine ⟨?_, ?_, fun k hk hk' => ?_⟩
  · rw [hso, source_modSource_self (s := (s.modSource e.out Source.takenOut).offSource e.out) ((modSource_length s e.out _).symm ▸ hi), hoff,
      source_modSource_other _ hne.symm]
  · rw [hso, source_modSource_other _ hne, hoff, source_modSource_self ho]
  · rw [hso, source_modSource_other _ hk, hoff, source_modSource_other _ hk']

end Sys2Proof.Machine
end

section
/-!
PROOFS. Vane samples, sources, and runs of the Winnow (O57).
-/
namespace Sys2Proof.Machine

/-! ### The Vane and the sources -/

theorem control_within {e : LoopEntry} (x moved : LoopState) (y vs now : Int) (h : e.outMin ≤ e.outMax) :
    e.outMin ≤ (Sys2Proof.Machine.control e x moved y vs now).st.u ∧ (Sys2Proof.Machine.control e x moved y vs now).st.u ≤ e.outMax := by
  unfold Sys2Proof.Machine.control
  dsimp only
  generalize (if e.kind = 2 then _ else _ : Int) = raw
  omega

theorem vaneSample_keeps {s : State} (h : s.vaneLevel ≠ 0) (inp : VaneInput) : ∃ t, exec (.vaneSample inp) s = .next t ∧
    t.clocks = { s.clocks with samples := s.clocks.samples + 1 } ∧ t.vane.supply = inp.supply ∧ t.vane.swapPending = false ∧
    t.vane.bankBActive = (s.vane.bankBActive != s.vane.swapPending) ∧ t.memory = s.memory ∧ t.dev = s.dev := by
  obtain ⟨hc, hs, hp, hb, hm, hd⟩ := sampleBegun_spec s inp
  have k := doVaneSample_samples h inp
  exact ⟨_, rfl, k.clocks.trans hc, k.supply.trans hs, k.pending.trans hp, k.bank.trans hb, k.memory.trans hm, k.dev.trans hd⟩

theorem sourceFadeCheck_judges {s : State} {n : Nat} (p : Int) (hl : s.sources.length = 20) (hn : n < 20) (hv : s.vaneLevel = 2) (hr : (s.source n).role = 0)
    {l : List Int} (hp : (p :: (s.source n).powers).take (max 1 (s.fld (aSources 0x18) 0 10)) = l) :
    ∃ t, exec (.sourceFadeCheck [(n, p)]) s = .next t ∧ (t.source n).power = meanPower l ∧ (t.source n).fadeDb = meanPower l - (s.source n).cal ∧
      (t.source n).fade = fadeState (asSigned 16 (s.fld (aSources 0x14) 0 16)) (asSigned 16 (s.fld (aSources 0x14) 16 16))
        (meanPower l - (s.source n).cal) (s.source n).fade := by
  have hgo : doSourceFadeCheck [(n, p)] s = State.assignSpares 20 (s.judgeFade n p) := by
    unfold doSourceFadeCheck
    rw [if_neg (not_not_intro hv)]
    rfl
  have hj := judged_assignSpares n 20 (s.judgeFade n p)
  rw [judgeFade_source (by rw [hl]; exact hn) hr p hp] at hj
  obtain ⟨u, hu⟩ : ∃ u, State.assignSpares 20 (s.judgeFade n p) = u := ⟨_, rfl⟩
  rw [hu] at hgo hj
  exact ⟨u, congrArg Host.Outcome.next hgo, congrArg (fun x => x.1) hj, congrArg (fun x => x.2.1) hj, congrArg (fun x => x.2.2) hj⟩

/-- A spare as its pre-warm leaves it. -/
def Source.warmed (x : Source) : Source := { x with warming := false, ready := true, locked := true }

theorem doSpareReady_alone {s : State} {n : Nat} (hw : (s.source n).warming = true) (hx : s.exchanges = []) : doSpareReady n s = s.modSource n Source.warmed := by
  unfold doSpareReady
  dsimp only
  rw [if_neg (by simp [hw])]
  show State.settleExchanges (match s.exchanges.find? _ with | some e => _ | none => s.modSource n Source.warmed) = _
  rw [hx]
  exact settleExchanges_of_none (s := s.modSource n Source.warmed) hx

theorem makeExchanges_one {s : State} {e : Exchange} {n : Nat} (hx : s.exchanges = [e]) (hi : e.into = some n) (hr : (s.source n).ready = true) :
    s.makeExchanges false = s.exchange e n (s.exchangeReason e) := by
  unfold State.makeExchanges
  rw [hx, List.foldl_cons, List.foldl_nil, hi]
  dsimp only
  rw [hr]
  rfl

theorem doSpareReady_exchanges {s : State} {n : Nat} {e : Exchange} (hw : (s.source n).warming = true) (hn : n < s.sources.length) (hx : s.exchanges = [e])
    (hi : e.into = some n) (hlane : e.lane = none) (hst : s.steps = []) :
    ∃ reason, doSpareReady n s = (s.modSource n Source.warmed).exchange e n reason := by
  refine ⟨(s.modSource n Source.warmed).exchangeReason e, ?_⟩
  have hx' : (s.modSource n Source.warmed).exchanges = [e] := hx
  have hst' : (s.modSource n Source.warmed).steps = [] := hst
  have hready : ((s.modSource n Source.warmed).source n).ready = true := by rw [source_modSource_self hn]; rfl
  have hgo : doSpareReady n s = (s.modSource n Source.warmed).settleExchanges := by
    unfold doSpareReady
    dsimp only
    rw [if_neg (by simp [hw])]
    show State.settleExchanges (match s.exchanges.find? _ with | some e => _ | none => s.modSource n Source.warmed) = _
    rw [hx, List.find?_cons_of_pos (by simp [hi])]
    dsimp only
    rw [hlane]
    rfl
  rw [hgo]
  generalize s.modSource n Source.warmed = u at hx' hst' hready ⊢
  unfold State.settleExchanges
  rw [betweenGates_of_no_steps hst', if_pos rfl, hst']
  exact makeExchanges_one hx' hi hready

/-- A spare that was not ready in time. -/
def Source.late (x : Source) : Source := { x with role := 2, warming := false }

theorem doPrewarmTimeout_alone {s : State} {n : Nat} (hw : (s.source n).warming = true) (hx : s.exchanges = []) :
    (doPrewarmTimeout n s).sources = (s.modSource n Source.late).sources := by
  have hgo : doPrewarmTimeout n s = State.assignSpares 20 { (s.modSource n Source.late).bump (aSources 0x30) with
      exchanges := ((s.modSource n Source.late).bump (aSources 0x30)).exchanges.map fun e => if e.into = some n then { e with into := none } else e } := by
    unfold doPrewarmTimeout
    dsimp only
    rw [if_neg (by simp [hw])]
    rfl
  rw [hgo, bump_only, assignSpares_of_none]
  show s.exchanges.map _ = []
  rw [hx]
  rfl

/-! ### Runs of the Winnow (R369 to R375) -/

theorem win_modWin_self {s : State} {f : Nat} (hf : f < s.winnow.length) (g : WinnowF → WinnowF) : (s.modWin f g).win f = g (s.win f) := by
  show (setAt s.winnow f _).getD f {} = _
  rw [setAt_getD, if_pos ⟨rfl, hf⟩]

theorem win_modWin_other (s : State) {f k : Nat} (hk : k ≠ f) (g : WinnowF → WinnowF) : (s.modWin f g).win k = s.win k := by
  show (setAt s.winnow f _).getD k {} = _
  rw [setAt_getD, if_neg fun h : k = f ∧ f < s.winnow.length => hk h.1]
  rfl

theorem modWin_length (s : State) (f : Nat) (g : WinnowF → WinnowF) : (s.modWin f g).winnow.length = s.winnow.length := setAt_length _ _ _

theorem doWinnowRunDue_starts {s : State} {f : Nat} {live : Bool} (ht : s.winnowTrigger f = false) (hm : s.runMode = some live) (hd : (s.win f).due = true)
    (hn : (s.win f).run = none) (hr : (s.furrow f).role = 0) : doWinnowRunDue f s = s.modWin f fun w =>
      { w with due := false, run := some ⟨s.furrowTemp f, none, live, [], 0, [], [], w.dueAt, []⟩ } := by
  unfold doWinnowRunDue
  rw [ht]
  dsimp only
  rw [if_neg (by simp), hm]
  dsimp only
  rw [if_pos (by simp [hd, hn, hr])]

theorem doWinnowCollectionEnd_run {s : State} {f : Nat} (hf : f < s.winnow.length) {r : WinnowRun} (pat : List (Nat × List LevelStat))
    (hr : (s.win f).run = some r) (hn : r.fitTemp = none) : ((doWinnowCollectionEnd f pat s).win f).run = some { r with
      fitTemp := some ((r.startTemp + s.furrowTemp f) / 2), stats := if r.live then r.stats else pat, now := (s.win f).current } := by
  unfold doWinnowCollectionEnd
  dsimp only
  rw [win_modWin_self hf, hr]
  dsimp only
  rw [hn, if_neg (by simp)]

theorem fitSlice_run {s : State} {f : Nat} (hf : f < s.winnow.length) {r : WinnowRun} (hr : (s.win f).run = some r) :
    ∃ x, ((s.fitSlice f).win f).run = some x ∧ x.slice = r.slice + 1 ∧ x.stats = r.stats := by
  unfold State.fitSlice
  rw [win_modWin_self hf, hr]
  exact ⟨_, rfl, rfl, rfl⟩

/-- A run that ends, with its outcome. -/
def WinnowF.ended (n : Nat) (w : WinnowF) : WinnowF := { w with run := none, outcome := n }

/-- How a run that completes leaves the Winnow: discarded, or its fit stored (R374). -/
theorem doWinnowRunComplete_winnow {s : State} {f : Nat} (hi : s.Inv) {r : WinnowRun} {q : Int} (hr : (s.win f).run = some r) (hq : r.fitTemp = some q)
    (h17 : 17 ≤ r.slice) : ∃ rg, (doWinnowRunComplete f s).winnow = if s.fld (aWinnow 0x24) 0 11 < r.rejected.length
      then (s.modWin f (WinnowF.ended 2)).winnow else ((({ s with regs := rg } : State).storeFit f q r.fits).modWin f (WinnowF.ended 1)).winnow := by
  have hrise : risingFrom none (s.setFld (aWinnow (0x10C + 16 * f)) 16 11 r.rejected.length).regs = true := rising_of_inv (inv_setFld hi _ _ _ _)
  have hfld : ((s.setFld (aWinnow (0x10C + 16 * f)) 16 11 r.rejected.length).bump (aWinnow 0x78) r.rejected.length).fld (aWinnow 0x24) 0 11
      = s.fld (aWinnow 0x24) 0 11 := by
    unfold State.fld
    rw [reg_bump hrise, if_neg (by simp [aWinnow]), reg_setFld_of_ne (rising_of_inv hi) (by unfold aWinnow; omega)]
  have he : ∃ rg, (s.setFld (aWinnow (0x10C + 16 * f)) 16 11 r.rejected.length).bump (aWinnow 0x78) r.rejected.length = { s with regs := rg } := by
    rw [bump_only]
    exact ⟨_, rfl⟩
  unfold doWinnowRunComplete
  rw [hr]
  dsimp only
  rw [hq]
  dsimp only
  rw [if_neg (Nat.not_lt.mpr h17)]
  generalize (s.setFld (aWinnow (0x10C + 16 * f)) 16 11 r.rejected.length).bump (aWinnow 0x78) r.rejected.length = u at he hfld ⊢
  rw [hfld]
  obtain ⟨rg, rfl⟩ := he
  refine ⟨rg, ?_⟩
  split
  · obtain ⟨_, _, _, _, e⟩ := raise_only ((({ s with regs := rg } : State).modWin f fun w => { w with run := none, outcome := 2 }).bump (aWinnow 0x74))
      { kind := 0x0024, block := 0x0070, inst := 0, detail := r.rejected.length } none
    rw [e, bump_only]
    rfl
  · have hb (v : State) (a b : Nat) : ((v.bump a).bump b).winnow = v.winnow := by rw [bump_only, bump_only]
    exact hb _ _ _

theorem storeFit_win {s : State} {f : Nat} (hf : f < s.winnow.length) (q : Int) (fits : List DetFit) : ((s.storeFit f q fits).win f).tLast = some q := by
  unfold State.storeFit
  rw [win_modWin_self hf]

theorem storeFit_other (s : State) {f g : Nat} (hg : g ≠ f) (q : Int) (fits : List DetFit) : (s.storeFit f q fits).win g = s.win g := win_modWin_other s hg _

theorem storeFit_length (s : State) (f : Nat) (q : Int) (fits : List DetFit) : (s.storeFit f q fits).winnow.length = s.winnow.length := modWin_length s f _

theorem winnowRunComplete_ends {s : State} {f : Nat} (hf : f < s.winnow.length) (hi : s.Inv) {r : WinnowRun} {q : Int} (hr : (s.win f).run = some r)
    (hq : r.fitTemp = some q) (h17 : 17 ≤ r.slice) : ∃ t, exec (.winnowRunComplete f) s = .next t ∧ (t.win f).run = none ∧ (∀ g, g ≠ f → t.win g = s.win g) ∧
      (s.fld (aWinnow 0x24) 0 11 < r.rejected.length → (t.win f).outcome = 2 ∧ (t.win f).points = (s.win f).points) ∧
      (r.rejected.length ≤ s.fld (aWinnow 0x24) 0 11 → (t.win f).outcome = 1 ∧ (t.win f).tLast = some q) := by
  obtain ⟨rg, hw⟩ := doWinnowRunComplete_winnow hi hr hq h17
  obtain ⟨t, ht⟩ : ∃ t, doWinnowRunComplete f s = t := ⟨_, rfl⟩
  rw [ht] at hw
  refine ⟨t, congrArg Host.Outcome.next ht, ?_⟩
  have hwin {u : State} (h : t.winnow = u.winnow) (g : Nat) : t.win g = u.win g := by
    unfold State.win
    rw [h]
  by_cases hlt : s.fld (aWinnow 0x24) 0 11 < r.rejected.length
  · rw [if_pos hlt] at hw
    have hself := (hwin hw f).trans (win_modWin_self hf (WinnowF.ended 2))
    refine ⟨by rw [hself]; rfl, fun g hg => (hwin hw g).trans (win_modWin_other s hg _), fun _ => ?_, fun h => absurd hlt (Nat.not_lt.mpr h)⟩
    rw [hself]
    exact ⟨rfl, rfl⟩
  · rw [if_neg hlt] at hw
    obtain ⟨v, hv⟩ : ∃ v, ({ s with regs := rg } : State) = v := ⟨_, rfl⟩
    have hvw : v.winnow = s.winnow := by rw [← hv]
    have hvg (g : Nat) : v.win g = s.win g := by
      unfold State.win
      rw [hvw]
    rw [hv] at hw
    have hlen : f < v.winnow.length := by rw [hvw]; exact hf
    have hself := (hwin hw f).trans (win_modWin_self (by rw [storeFit_length]; exact hlen) (WinnowF.ended 1))
    refine ⟨by rw [hself]; rfl, fun g hg => ?_, fun h => absurd h hlt, fun _ => ?_⟩
    · exact (hwin hw g).trans ((win_modWin_other _ hg _).trans ((storeFit_other v hg _ _).trans (hvg g)))
    · rw [hself]
      exact ⟨rfl, storeFit_win hlen q r.fits⟩

theorem interpSetWrite_pends {s : State} {f : Nat} (hf : f < s.winnow.length) (hn : (s.win f).tInterp = none) (hp : (s.win f).points ≠ []) :
    ∃ t, exec (.interpSetWrite f) s = .next t ∧ (∀ g, g ≠ f → t.win g = s.win g) ∧
      (t.win f).pending = some (setAtTemp (s.furrowTemp f) (s.win f).entries) ∧ (t.win f).tInterp = some (s.furrowTemp f) := by
  have hgo : doInterpSetWrite f s = (s.modWin f fun w =>
      { w with pending := some (setAtTemp (s.furrowTemp f) (s.win f).entries), tInterp := some (s.furrowTemp f) }).bump (aWinnow 0x7C) := by
    unfold doInterpSetWrite
    rw [hn]
    dsimp only
    unfold State.writeSet
    rw [if_neg hp]
    rfl
  have hwin (u : State) (a g : Nat) : (u.bump a).win g = u.win g := by
    rw [bump_only]
    rfl
  refine ⟨_, congrArg Host.Outcome.next hgo, fun g hg => (hwin _ _ g).trans (win_modWin_other s hg _), ?_⟩
  rw [hwin, win_modWin_self hf]
  exact ⟨rfl, rfl⟩

/-- Settles O57. -/
theorem loopEvents : Obligations.LoopEvents := by
  refine ⟨fun s inp h => vaneSample_keeps h inp, fun e x moved y vs now h => control_within x moved y vs now h, ?_, ?_, ?_⟩
  · intro s n p hl hn hv hr
    exact sourceFadeCheck_judges p hl hn hv hr rfl
  · intro s n hl hn hw
    have hlt : n < s.sources.length := by rw [hl]; exact hn
    refine ⟨fun hx => congrArg Host.Outcome.next (doSpareReady_alone hw hx), fun e hx hi hlane ho hne hst => ?_, fun hx => ?_⟩
    · obtain ⟨reason, hgo⟩ := doSpareReady_exchanges hw hlt hx hi hlane hst
      have hlen := modSource_length s n Source.warmed
      obtain ⟨h1, h2, h3⟩ := exchange_spec (s := s.modSource n Source.warmed) e (by rw [hlen]; exact hlt) (by rw [hlen, hl]; exact ho) hne reason
      have h4 := (exchange_sources (s.modSource n Source.warmed) e n reason).2
      rw [source_modSource_other s hne] at h1
      refine ⟨_, congrArg Host.Outcome.next hgo, ?_, by rw [h1]; rfl, by rw [h1]; rfl, by rw [h2]; rfl, fun k hk hk' => ?_⟩
      · rw [h4]
        show s.exchanges.filter _ = []
        rw [hx]
        simp
      · rw [h3 k hk hk', source_modSource_other s hk]
    · have hs := doPrewarmTimeout_alone hw hx
      obtain ⟨t, ht⟩ : ∃ t, doPrewarmTimeout n s = t := ⟨_, rfl⟩
      rw [ht] at hs
      have hsrc (k : Nat) : t.source k = (s.modSource n Source.late).source k := by
        unfold State.source
        rw [hs]
      refine ⟨t, congrArg Host.Outcome.next ht, ?_, ?_, fun k hk => (hsrc k).trans (source_modSource_other s hk _)⟩
      · rw [hsrc, source_modSource_self hlt]
        rfl
      · rw [hsrc, source_modSource_self hlt]
        rfl
  · intro s f hl hf others
    have hlt : f < s.winnow.length := by rw [hl]; exact hf
    refine ⟨fun live ht hm hd hn hr => congrArg Host.Outcome.next (doWinnowRunDue_starts ht hm hd hn hr), fun r pat hr hn => ?_, fun hfit hgap => ?_,
      fun r hfit hgap hr => ?_, fun r q hr hq h17 hi => winnowRunComplete_ends hlt hi hr hq h17, fun hn hp => interpSetWrite_pends hlt hn hp⟩
    · exact ⟨_, rfl, doWinnowCollectionEnd_run hlt pat hr hn, fun g hg => win_modWin_other s hg _⟩
    · refine congrArg Host.Outcome.next (?_ : doWinnowFitSlice s = s)
      unfold doWinnowFitSlice
      rw [hfit]
      dsimp only
      rw [hgap, if_neg Bool.false_ne_true]
    · have hgo : doWinnowFitSlice s = s.fitSlice f := by
        unfold doWinnowFitSlice
        rw [hfit]
        dsimp only
        rw [hgap, if_pos rfl]
      obtain ⟨x, hx, h1, h2⟩ := fitSlice_run hlt hr
      exact ⟨_, x, congrArg Host.Outcome.next hgo, hx, h1, h2, fun g hg => win_modWin_other s hg _⟩

end Sys2Proof.Machine
end
